-- ==== Sys2Proof/Word.lean ====
section
/-! DEFINITION. Word.lean: the word types of the SX12 and their plainest names (00_scope.md R7: every register is
32 bits wide; R2: channels CH00 to CH11). -/

namespace Sys2Proof

/-- A register word (R7). -/
abbrev Word := BitVec 32

/-- A byte of a serial port, a record or a frame. -/
abbrev Byte := BitVec 8

/-- A channel number, CH00 to CH11 (R2). -/
abbrev ChId := Fin 12

/-- A modulator input number, SDI00 to SDI15 (R17). -/
abbrev InId := Fin 16

/-- A host context number (R5, R6). -/
abbrev Ctx := Fin 4

/-- A value register number of an engine (R110). -/
abbrev VReg := Fin 32

end Sys2Proof
end

