-- ==== Sys2Proof/Syntax.lean ====
section
/-! DEFINITION. Syntax.lean: the commands of the SX12, one constructor per row of spec/opcode_table.json, and the operands
they carry: what an outside observer of the event would note (an input, a measured value, a packet, a host access). -/

namespace Sys2Proof

/-! ## Operands of the engines and the sample chain -/

/-- The fast engine or the model engine of a channel (R22). -/
inductive Eng where
  | fe
  | me
  deriving DecidableEq, Repr

/-- The engine that executes an instruction. -/
structure Site where
  ch : ChId
  eng : Eng
  deriving DecidableEq, Repr

/-- What a tick boundary takes from outside the digital state: the duration of the tick that ends, in 2^-16 reference
cycles (R56); and the differences that a RESYNC measures: frequency in mHz, voltage in 2^-16 pu, angle in 0.01
degree (R186). -/
structure TickEnv where
  meas : Nat
  deriving DecidableEq, Repr

/-- Why a tick overran (R47). -/
inductive OvrCause where
  | fe
  | me
  | both
  | duty
  deriving DecidableEq, Repr

/-- An engine memory with ECC (R128). -/
inductive EngMem where
  | program
  | data
  | coef
  deriving DecidableEq, Repr

/-! ## Operands of PACK, PWM, clocks, pair and safety -/

/-- A reference input (R277). -/
inductive RefId where
  | a
  | b
  deriving DecidableEq, Repr

/-- What the ceiling guard saw: a count of channel-clock cycles, or a period in ps (R292). -/
inductive CeilObs where
  | count (n : Nat)
  | period (ps : Nat)
  deriving DecidableEq, Repr

/-- What link training measured and the partner reported: the delay in ns, its PRIO and its MLIDs (R307, R312, R325). -/
structure TrainObs where
  delay : Nat
  prio : Bool
  mlids : List (BitVec 16)
  deriving DecidableEq, Repr

/-- A verdict on a driven LEASH (R319). -/
inductive ReadbackObs where
  | releasedLow
  | pulledHigh
  | bothHigh
  deriving DecidableEq, Repr

/-- HOUND's background tests (R328). -/
inductive HoundTest where
  | bist
  | march
  | loop
  | fcrc
  deriving DecidableEq, Repr

/-- What a safety engine samples of a channel: the two inputs and whether each contactor's feedback reads closed (R346,
R351). -/
structure SafSample where
  sga : Bool
  sgb : Bool
  k1Closed : Bool
  k2Closed : Bool
  deriving DecidableEq, Repr

/-- A strobe: both engines' samples by channel, a corrupted exchange, an engine that gave no result, an oscillator found
off (R343). -/
structure StrobeEnv where
  a : List SafSample
  b : List SafSample
  corrupt : Bool
  aDeaf : Bool
  bDeaf : Bool
  aOsc : Bool
  bOsc : Bool
  deriving DecidableEq, Repr

/-- The parameters of the safety set (R360). -/
inductive SafParam where
  | connid
  | bcCfg
  | chCfg
  | kCfg
  deriving DecidableEq, Repr

/-- Who accesses the KENNEL: a host context or the kennel port (R378, R389). -/
inductive Accessor where
  | host (k : Ctx)
  | port
  deriving DecidableEq, Repr

/-! ## Operands of capture, recorder, host interface and images -/

/-- How a capture copy ends (R411). -/
inductive DmaEnd where
  | ok
  | ecc
  | abort
  deriving DecidableEq, Repr

/-- A block's request for a record (R418): block, channel or 0xF, code, severity, data. -/
structure RecReq where
  block : Byte
  chan : BitVec 4
  code : BitVec 16
  sev : Byte
  data : BitVec 256
  deriving DecidableEq, Repr

/-- A quad-SPI frame: the host's bytes received while HQ_CS_N was low, and whether the answer was lost (R467, R468). -/
structure QspiFrame where
  bytes : List Byte
  answerLost : Bool
  deriving DecidableEq, Repr

/-- The host resets (R459). -/
inductive HostResetKind where
  | perst
  | hotReset
  | linkDown
  | flr
  deriving DecidableEq, Repr

/-- A memory request: its BAR0 address, its length in words and its byte enables (R479). -/
structure HostAccess where
  addr : BitVec 18
  len : BitVec 10
  be : BitVec 4
  deriving DecidableEq, Repr

/-- What an ENG_CDAT packet carries beside the mantissa (R475). -/
structure CoefRef where
  eng : Eng
  idx : BitVec 10
  shift : BitVec 6
  deriving DecidableEq, Repr

/-- A write-mirror packet (R475): its number in the sender's order, channel, window offset, value, and for ENG_CDAT the
coefficient. -/
structure MirWrite where
  seq : Nat
  ch : ChId
  off : BitVec 14
  v : Word
  coef : Option CoefRef
  deriving DecidableEq, Repr

/-- A coefficient as an image section gives it (R110, R130). -/
structure CoefView where
  idx : BitVec 10
  mant : Word
  shift : BitVec 6
  sat : BitVec 2
  owner : BitVec 6
  deriving DecidableEq, Repr

/-- What a section loads into an engine (R110, R111): program from address 0, data words, coefficients, and the quantity
that feeds each slot. -/
structure EngSection where
  prog : List (BitVec 64)
  data : List (Nat × Word)
  coefs : List CoefView
  slots : List (BitVec 6 × BitVec 8)
  deriving DecidableEq, Repr

/-- A FIR bank as a section gives it (R76, R502): input, bank, taps from 0 (coefficient, shift). -/
structure FirView where
  input : InId
  bank : Bool
  taps : List (Word × BitVec 5)
  deriving DecidableEq, Repr

/-- A channel section as the loader reads it (R485, R486, R489): its first digest bytes, its mirror layout identity, the
registers it sets (structure and defaults), the minimum channel clock in Hz, the engines, the FIR banks, the fraction bits
of each input's output format, whether the programs are the block library's, for other programs the data words that the mirror list names, in its order
(R309), and the capture layout: for each set the pages where its records and its histograms begin (R398), and the base rate in
Hz. -/
structure Section where
  ident : BitVec 64
  mlid : BitVec 16
  regs : List (BitVec 14 × Word)
  minClock : Nat
  fe : EngSection
  me : EngSection
  firs : List FirView
  fracs : List Nat
  lawLib : Bool
  mirror : List (Eng × BitVec 11)
  capBase : List (Nat × Nat)
  baseRate : Nat
  deriving DecidableEq, Repr

/-- What the loader finds in an image beside its layout: the words that it has read itself, by DMA or from the flash, the
global registers that the image sets (REF_CFG and the capture allotments), and what the section of each channel holds (the
spec leaves the sections' inner format to the Builder; log 17). -/
structure ImageObs where
  words : List Word
  gregs : List (BitVec 18 × Word)
  contents : List (ChId × Section)
  deriving DecidableEq, Repr

/-- How a REPAIR load ends: the bank matches its digest, it does not, or an uncorrectable ECC error (R497). -/
inductive LoadObs where
  | ok
  | digest
  | ecc
  deriving DecidableEq, Repr

/-- How a parameter save ends, after its retries (R505). -/
inductive SaveObs where
  | ok
  | noResponse
  | mismatch
  deriving DecidableEq, Repr

/-! ## Commands -/


/-- The commands of the SX12, in the order of the command table; SUPPLY_RETURN and KENNEL_POWER_OFF, which have no operands,
stand last, since Lean compiles no constructor with operands beyond the 244th. -/
inductive Instr where
  /-- TICK_BOUNDARY (R174). -/
  | tickBoundary (ch : ChId) (env : TickEnv)
  /-- CARRIER_UPDATE_POINT (R42). -/
  | carrierUpdatePoint (ch : ChId)
  /-- REFRESH_INSERT (R248). -/
  | refreshInsert (ch : ChId) (sw : Fin 12)
  /-- TICK_OVERRUN (R48). -/
  | tickOverrun (ch : ChId) (cause : OvrCause)
  /-- LOCKSTEP_MISMATCH (R127). -/
  | lockstepMismatch (ch : ChId) (eng : Eng) (pc : BitVec 12) (cls : BitVec 8)
  /-- UNCORRECTABLE_ECC (R128). -/
  | uncorrectableEcc (ch : ChId) (eng : Eng) (mem : EngMem) (addr : BitVec 16) (byScrubber : Bool)
  /-- FABRIC_PARITY_ERROR (R27). -/
  | fabricParityError (ch : ChId) (word : BitVec 64)
  /-- MIRROR_FRAME_SEND (R35). -/
  | mirrorFrameSend (ch : ChId) (txOfs : BitVec 18)
  /-- NOP (R120). -/
  | nop (at_ : Site) (cc : BitVec 4)
  /-- LDI (R120). -/
  | ldi (at_ : Site) (d : VReg) (imm : Word)
  /-- MOV (R120). -/
  | mov (at_ : Site) (cc : BitVec 4) (d a : VReg)
  /-- LD (R120). -/
  | ld (at_ : Site) (cc : BitVec 4) (d : VReg) (m : BitVec 11)
  /-- LDX (R120). -/
  | ldx (at_ : Site) (cc : BitVec 4) (d a : VReg) (m : BitVec 11)
  /-- ST (R120). -/
  | st (at_ : Site) (cc : BitVec 4) (a : VReg) (m : BitVec 11)
  /-- STX (R120). -/
  | stx (at_ : Site) (cc : BitVec 4) (a b : VReg) (m : BitVec 11)
  /-- IN (R122). -/
  | inPort (at_ : Site) (cc : BitVec 4) (d : VReg) (m : BitVec 11)
  /-- MAILBOX_WAIT_END (R123). -/
  | mailboxWaitEnd (at_ : Site)
  /-- OUT (R122). -/
  | outPort (at_ : Site) (cc : BitVec 4) (a b : VReg) (m : BitVec 11)
  /-- PUB (R120). -/
  | pub (at_ : Site) (cc : BitVec 4) (a b : VReg) (m : BitVec 11)
  /-- LDC (R120). -/
  | ldc (at_ : Site) (cc : BitVec 4) (d : VReg) (k : BitVec 10)
  /-- SEL (R120). -/
  | sel (at_ : Site) (cc : BitVec 4) (d a b : VReg)
  /-- ADD (R120). -/
  | add (at_ : Site) (cc : BitVec 4) (rm : BitVec 2) (d a b : VReg)
  /-- SUB (R120). -/
  | sub (at_ : Site) (cc : BitVec 4) (rm : BitVec 2) (d a b : VReg)
  /-- NEG (R120). -/
  | neg (at_ : Site) (cc : BitVec 4) (rm : BitVec 2) (d a : VReg)
  /-- ABS (R120). -/
  | abs (at_ : Site) (cc : BitVec 4) (rm : BitVec 2) (d a : VReg)
  /-- MIN (R120). -/
  | min (at_ : Site) (cc : BitVec 4) (d a b : VReg)
  /-- MAX (R120). -/
  | max (at_ : Site) (cc : BitVec 4) (d a b : VReg)
  /-- CMP (R117). -/
  | cmp (at_ : Site) (cc : BitVec 4) (a b : VReg)
  /-- AND (R120). -/
  | and (at_ : Site) (cc : BitVec 4) (d a b : VReg)
  /-- OR (R120). -/
  | or (at_ : Site) (cc : BitVec 4) (d a b : VReg)
  /-- XOR (R120). -/
  | xor (at_ : Site) (cc : BitVec 4) (d a b : VReg)
  /-- ASH (R120). -/
  | ash (at_ : Site) (cc : BitVec 4) (rm : BitVec 2) (e : BitVec 5) (d a : VReg)
  /-- LSH (R120). -/
  | lsh (at_ : Site) (cc : BitVec 4) (e : BitVec 5) (d a : VReg)
  /-- MUL (R120). -/
  | mul (at_ : Site) (cc : BitVec 4) (rm : BitVec 2) (d a : VReg) (k : BitVec 10)
  /-- MULV (R120). -/
  | mulv (at_ : Site) (cc : BitVec 4) (rm : BitVec 2) (e : BitVec 5) (d a b : VReg)
  /-- CLR (R120). -/
  | clr (at_ : Site) (cc : BitVec 4) (ac : Bool)
  /-- LDA (R120). -/
  | lda (at_ : Site) (cc : BitVec 4) (ac : Bool) (a : VReg)
  /-- MAC (R114). -/
  | mac (at_ : Site) (cc : BitVec 4) (ac : Bool) (a : VReg) (k : BitVec 10)
  /-- MSU (R120). -/
  | msu (at_ : Site) (cc : BitVec 4) (ac : Bool) (a : VReg) (k : BitVec 10)
  /-- DMAC (R120). -/
  | dmac (at_ : Site) (cc : BitVec 4) (ac : Bool) (a b : VReg) (k : BitVec 10)
  /-- PMAC (R120). -/
  | pmac (at_ : Site) (cc : BitVec 4) (a b : VReg) (k : BitVec 10)
  /-- MACV (R120). -/
  | macv (at_ : Site) (cc : BitVec 4) (rm : BitVec 2) (ac : Bool) (a b : VReg)
  /-- EXT (R120). -/
  | ext (at_ : Site) (cc : BitVec 4) (rm : BitVec 2) (e : BitVec 5) (ac : Bool) (d : VReg)
  /-- DIV (R120). -/
  | div (at_ : Site) (cc : BitVec 4) (rm : BitVec 2) (e : BitVec 5) (d a b : VReg)
  /-- SQRT (R120). -/
  | sqrt (at_ : Site) (cc : BitVec 4) (rm : BitVec 2) (e : BitVec 5) (d a : VReg)
  /-- BR (R120). -/
  | br (at_ : Site) (cc : BitVec 4) (tgt : BitVec 12)
  /-- CALL (R120). -/
  | call (at_ : Site) (tgt : BitVec 12)
  /-- RET (R120). -/
  | ret (at_ : Site) (cc : BitVec 4)
  /-- LOOP (R120). -/
  | loop (at_ : Site) (count : BitVec 10) (tgt : BitVec 12)
  /-- TEND (R45). -/
  | tend (at_ : Site) (cc : BitVec 4)
  /-- RESERVED_OPCODE (R561). -/
  | reservedOpcode (at_ : Site) (op : BitVec 6)
  /-- FIR_OUTPUT (R75). -/
  | firOutput (ch : ChId) (i : InId) (bits : List Bool) (age : BitVec 16)
  /-- CHAIN_OUTPUT (R82). -/
  | chainOutput (ch : ChId) (i : InId) (age : BitVec 16)
  /-- SUBSTITUTE_WORD (R89). -/
  | substituteWord (ch : ChId) (i : InId)
  /-- MCLK_LOSS (R90). -/
  | mclkLoss (ch : ChId) (i : InId)
  /-- CLOCK_RECOVERY (R72). -/
  | clockRecovery (ch : ChId) (i : InId)
  /-- FAST_PATH_FILL_END (R94). -/
  | fastPathFillEnd (ch : ChId) (i : InId) (bits : List Bool)
  /-- FAST_COMPARATOR_CHANGE (R92). -/
  | fastComparatorChange (ch : ChId) (i : InId) (bits : List Bool)
  /-- SKARM (R96). -/
  | skarm (ctx : Ctx) (v : Word)
  /-- SKEW_CROSSING (R96). -/
  | skewCrossing (ch : ChId) (i : InId) (at_ : BitVec 20) (bits : List Bool) (below above : BitVec 16)
  /-- SKEW_WINDOW_EXPIRY (R96). -/
  | skewWindowExpiry (ch : ChId) (i : InId)
  /-- FIR_CDAT_WRITE (R76). -/
  | firCdatWrite (ctx : Ctx) (i : InId) (v : Word)
  /-- FIR_XF_GO (R77). -/
  | firXfGo (ctx : Ctx) (i : InId) (v : Word)
  /-- FIR_BANK_WRITE (R101). -/
  | firBankWrite (ctx : Ctx) (i : InId) (v : Word)
  /-- DCB_EST_WRITE (R80). -/
  | dcbEstWrite (ctx : Ctx) (i : InId) (v : Word)
  /-- SDI_TRIM_WRITE (R97). -/
  | sdiTrimWrite (ctx : Ctx) (i : InId) (v : Word)
  /-- SDI_SRC_WRITE (R99). -/
  | sdiSrcWrite (ctx : Ctx) (i : InId) (v : Word)
  /-- ENG_CDAT_WRITE (R131). -/
  | engCdatWrite (ctx : Ctx) (v : Word)
  /-- ENG_DDAT_WRITE (R138). -/
  | engDdatWrite (ctx : Ctx) (v : Word)
  /-- ENG_DDAT_READ (R138). -/
  | engDdatRead (ctx : Ctx)
  /-- ENG_DDAT_READ_SERVE (R138). -/
  | engDdatReadServe (ctx : Ctx)
  /-- LAW_PARAM_WRITE (R167). -/
  | lawParamWrite (ctx : Ctx) (off : BitVec 14) (v : Word)
  /-- MEAS_LOST (R164). -/
  | measLost (ch : ChId) (slot : BitVec 6)
  /-- LIM_RELEASE (R150). -/
  | limRelease (ch : ChId)
  /-- MODE_REQUEST (R175). -/
  | modeRequest (ctx : Ctx) (v : Word)
  /-- SAFE_LATCH_CLEAR (R191). -/
  | safeLatchClear (ctx : Ctx) (v : Word)
  /-- PRE_DONE (R182). -/
  | preDone (ch : ChId)
  /-- PRECHARGE_TIMEOUT (R182). -/
  | prechargeTimeout (ch : ChId)
  /-- DEAD_BUS_TIMEOUT (R183). -/
  | deadBusTimeout (ch : ChId)
  /-- BUS_FOUND_LIVE (R183). -/
  | busFoundLive (ch : ChId)
  /-- BS_DONE (R184). -/
  | bsDone (ch : ChId)
  /-- RSY_MATCH_COMPLETE (R185). -/
  | rsyMatchComplete (ch : ChId)
  /-- RESYNC_TIMEOUT (R186). -/
  | resyncTimeout (ch : ChId)
  /-- RIDE_RETURN (R188). -/
  | rideReturn (ch : ChId)
  /-- RIDE_TIMEOUT (R188). -/
  | rideTimeout (ch : ChId)
  /-- HANDOVER_BLEND_END (R196). -/
  | handoverBlendEnd (ch : ChId)
  /-- PACK_CHIP (R213). -/
  | packChip (ch : ChId) (mean : Word)
  /-- PACK_CODE_PERIOD (R217). -/
  | packCodePeriod (ch : ChId)
  /-- FINGER_ACQUIRED (R217). -/
  | fingerAcquired (ch : ChId) (f : Fin 64)
  /-- FINGER_LOST (R217). -/
  | fingerLost (ch : ChId) (f : Fin 64)
  /-- PACK_FRAME_RECEIVED (R218). -/
  | packFrameReceived (ch : ChId) (f : Fin 64)
  /-- PACK_FRAME_END (R220). -/
  | packFrameEnd (ch : ChId)
  /-- PACK_DUPLICATE (R228). -/
  | packDuplicate (ch : ChId)
  /-- PACK_BACKOFF_END (R228). -/
  | packBackoffEnd (ch : ChId)
  /-- STIFF_SET (R229). -/
  | stiffSet (ch : ChId)
  /-- STIFF_CLEAR (R229). -/
  | stiffClear (ch : ChId)
  /-- PACK_ENABLE (R225). -/
  | packEnable (ctx : Ctx) (v : Word)
  /-- PACK_DISABLE (R225). -/
  | packDisable (ctx : Ctx) (v : Word)
  /-- PACK_PSEL_WRITE (R219). -/
  | packPselWrite (ctx : Ctx) (v : Word)
  /-- DRIVER_FAULT_FILTERED: an input has been at its active level for FILT, or it is released again (R251, R274). -/
  | driverFaultFiltered (ch : ChId) (pad : Fin 12) (asserted : Bool)
  /-- BLANKING_END (R252). -/
  | blankingEnd (ch : ChId) (pad : Fin 12)
  /-- TSOFT_EXPIRY (R253). -/
  | tsoftExpiry (ch : ChId) (pad : Fin 12)
  /-- TOFF_EXPIRY (R253). -/
  | toffExpiry (ch : ChId)
  /-- TORD_EXPIRY of the turn-off sequence, or of a leg taken off by a UV report (R253, R260). -/
  | tordExpiry (ch : ChId) (leg : Option (Fin 3))
  /-- DESAT_WINDOW_CLOSE (R254). -/
  | desatWindowClose (ch : ChId)
  /-- LEG_FAULT_RELEASE (R260). -/
  | legFaultRelease (ch : ChId) (leg : Fin 3)
  /-- LEG_OFF_TIMEOUT (R261). -/
  | legOffTimeout (ch : ChId) (leg : Fin 3)
  /-- TRIP_CLEAR (R256). -/
  | tripClear (ctx : Ctx) (v : Word)
  /-- BRAKE_MIN_TIME_EXPIRY (R258). -/
  | brakeMinTimeExpiry (ch : ChId)
  /-- CAL_FAIL (R240). -/
  | calFail (ch : ChId)
  /-- REF_ACTIVITY_WINDOW (R278). -/
  | refActivityWindow (ref : RefId) (kHz : Nat)
  /-- REF_MISMATCH_WINDOW (R279). -/
  | refMismatchWindow (bEdges : Nat)
  /-- REF_EDGE_MISSING (R286). -/
  | refEdgeMissing (ch : ChId) (further : Bool)
  /-- BAND_SEARCH_END (R282). -/
  | bandSearchEnd (ch : ChId) (band : BitVec 4)
  /-- LOCK_WINDOW (R282). -/
  | lockWindow (ch : ChId) (count since : Nat)
  /-- LOCK_TIMEOUT (R282). -/
  | lockTimeout (ch : ChId)
  /-- CEILING_GUARD (R292). -/
  | ceilingGuard (ch : ChId) (what : CeilObs)
  /-- CHANNEL_START (R111). -/
  | channelStart (ch : ChId)
  /-- PLL_RELOCK (R283). -/
  | pllRelock (ctx : Ctx) (v : Word)
  /-- PLL_RAMP_GO (R288). -/
  | pllRampGo (ctx : Ctx) (v : Word)
  /-- PLL_RAMP_HOLD (R288). -/
  | pllRampHold (ctx : Ctx) (v : Word)
  /-- PLL_LEVEL (R288). -/
  | pllLevel (ctx : Ctx) (v : Word)
  /-- RAMP_SEGMENT_END (R288). -/
  | rampSegmentEnd (ch : ChId) (since : Nat)
  /-- HOST_PLL_LOCK (R295). -/
  | hostPllLock
  /-- HOST_PLL_LOSS (R295). -/
  | hostPllLoss
  /-- LINK_TRAINING_END (R307). -/
  | linkTrainingEnd (rsp : TrainObs)
  /-- RETRAIN (R307). -/
  | retrain (ctx : Ctx) (v : Word)
  /-- LINK_DOWN (R307). -/
  | linkDown (rxDir : Bool) (lane : Bool)
  /-- MIRROR_FRAME_RECEIVE (R310). -/
  | mirrorFrameReceive (frame : List Word) (since : Nat)
  /-- HEARTBEAT_SEND (R308). -/
  | heartbeatSend
  /-- HEARTBEAT_RECEIVE (R316). -/
  | heartbeatReceive (packet : List Word)
  /-- HEARTBEAT_TIMEOUT (R316). -/
  | heartbeatTimeout
  /-- LEASH_TOGGLE (R317). -/
  | leashToggle (ch : ChId)
  /-- LEASH_STATE_CHANGE (R318). -/
  | leashStateChange (ch : ChId) (samples : List (Bool × Bool))
  /-- LEASH_READBACK_FAULT (R319). -/
  | leashReadbackFault (ch : ChId) (what : ReadbackObs)
  /-- LEASH_CLAIM (R323). -/
  | leashClaim (ctx : Ctx) (v : Word)
  /-- LEASH_RELEASE (R323). -/
  | leashRelease (ctx : Ctx) (v : Word)
  /-- RELEASE_GUARD_EXPIRY (R326). -/
  | releaseGuardExpiry (ch : ChId)
  /-- ALIGN_LOCKED (R64). -/
  | alignLocked (ch : ChId)
  /-- ALIGN_UNLOCKED (R64). -/
  | alignUnlocked (ch : ChId)
  /-- HOUND_TEST_END (R328). -/
  | houndTestEnd (ch : ChId) (test : HoundTest) (ok : Bool)
  /-- HOUND_HEALTH_REPORT (R330). -/
  | houndHealthReport
  /-- TEST_END (R329). -/
  | testEnd (ch : ChId)
  /-- SAFETY_STROBE (R342). -/
  | safetyStrobe (env : StrobeEnv)
  /-- DISCREPANCY_LATCH (R348). -/
  | discrepancyLatch (ch : ChId)
  /-- CONTACTOR_SETTLE_END (R351). -/
  | contactorSettleEnd (ch : ChId) (k2 : Bool)
  /-- CONTACTOR_DEBOUNCE_END (R351). -/
  | contactorDebounceEnd (ch : ChId) (k2 : Bool)
  /-- SAFETY_FRAME_SUBMIT (R356). -/
  | safetyFrameSubmit (ctx : Ctx) (v : Word)
  /-- BC_WATCHDOG_EXPIRY (R357). -/
  | bcWatchdogExpiry
  /-- SAFETY_FRAME_PUBLISH (R359). -/
  | safetyFramePublish
  /-- SAF_TXF0_READ (R359). -/
  | safTxf0Read (ctx : Ctx)
  /-- SAFETY_PARAM_WRITE (R360). -/
  | safetyParamWrite (ctx : Ctx) (reg : SafParam) (v : Word)
  /-- SAFETY_CHECK_DONE (R361). -/
  | safetyCheckDone (a b : Option Word)
  /-- SAFETY_CONFIRM (R362). -/
  | safetyConfirm (ctx : Ctx) (v : Word)
  /-- ACK_DISC (R349). -/
  | ackDisc (ctx : Ctx)
  /-- ACK_CONT (R352). -/
  | ackCont (ctx : Ctx)
  /-- GINH_SET (R380). -/
  | ginhSet (src : Accessor)
  /-- GINH_CLR (R391). -/
  | ginhClr (src : Accessor) (key : BitVec 16)
  /-- SN_SET (R384). -/
  | snSet (src : Accessor)
  /-- SN_CLR (R384). -/
  | snClr (src : Accessor) (key : BitVec 16)
  /-- KRST (R385). -/
  | krst (src : Accessor) (key : BitVec 16)
  /-- KNL_INH_WRITE (R380). -/
  | knlInhWrite (src : Accessor) (v : Word)
  /-- HOST_WATCHDOG_ENABLE (R382). -/
  | hostWatchdogEnable (src : Accessor) (v : Word)
  /-- HOST_WATCHDOG_KICK (R382). -/
  | hostWatchdogKick (src : Accessor) (v : Word)
  /-- HOST_WATCHDOG_EXPIRY (R382). -/
  | hostWatchdogExpiry
  /-- SAFETY_SLOT_EXPIRY (R381). -/
  | safetySlotExpiry (aMissing bMissing : Bool)
  /-- SUPPLY_GIVE_UP (R383). -/
  | supplyGiveUp (inWindow : BitVec 4)
  /-- KENNEL_POWER_ON (R376). -/
  | kennelPowerOn (retainedOk : Bool)
  /-- RESET_RELEASE (R385). -/
  | resetRelease (hostMode prio : Bool)
  /-- PAD_RELEASE (R379). -/
  | padRelease
  /-- LAST_WORD_COMMIT (R388). -/
  | lastWordCommit (src : Accessor) (v : Word)
  /-- LAST_WORD_SELECT (R389). -/
  | lastWordSelect (src : Accessor) (v : Word)
  /-- KENNEL_PORT_WRITE (R390). -/
  | kennelPortWrite (bytes : List Byte)
  /-- KENNEL_PORT_READ (R390). -/
  | kennelPortRead (pointer : Byte)
  /-- KENNEL_PORT_TIMEOUT (R390). -/
  | kennelPortTimeout
  /-- CAP_ARM (R401). -/
  | capArm (ctx : Ctx) (set : Fin 4) (v : Word)
  /-- CAP_DISARM (R401). -/
  | capDisarm (ctx : Ctx) (set : Fin 4) (v : Word)
  /-- CAP_FORCE (R400). -/
  | capForce (ctx : Ctx) (set : Fin 4) (v : Word)
  /-- CAP_GLOBAL_FORCE (R400). -/
  | capGlobalForce (ctx : Ctx) (v : Word)
  /-- CAP_HCLR (R410). -/
  | capHclr (ctx : Ctx) (set : Fin 4) (v : Word)
  /-- CAP_ACK (R406). -/
  | capAck (ctx : Ctx) (set : Fin 4) (v : Word)
  /-- CAPTURE_BASE_SAMPLE (R398). -/
  | captureBaseSample (ch : ChId) (set : Fin 4)
  /-- HOLDOFF_END (R405). -/
  | holdoffEnd (ch : ChId) (set : Fin 4)
  /-- POSTPROC_DONE (R410). -/
  | postprocDone (ch : ChId) (set : Fin 4)
  /-- CAPTURE_DMA_GO (R411). -/
  | captureDmaGo (ctx : Ctx) (v : Word)
  /-- CAPTURE_DMA_DONE (R411). -/
  | captureDmaDone (err : DmaEnd)
  /-- CAPTURE_ECC_ABORT (R407). -/
  | captureEccAbort (ch : ChId) (set : Fin 4) (reader : Fin 4) (addr : Word)
  /-- RECORD_REQUEST (R421). -/
  | recordRequest (req : RecReq)
  /-- RECORD_WRITE (R422). -/
  | recordWrite
  /-- RECORD_CLOSE_TIMEOUT (R425). -/
  | recordCloseTimeout
  /-- RECORDER_START_SEARCH_END (R424). -/
  | recorderStartSearchEnd (storeOk : Bool)
  /-- REC_RPTR_WRITE (R426). -/
  | recRptrWrite (ctx : Ctx) (v : Word)
  /-- STORE_FETCH_DONE (R426). -/
  | storeFetchDone
  /-- PERSIST_BATCH_START (R433). -/
  | persistBatchStart (byTime : Bool) (failing : Option (Fin 8192))
  /-- PERSIST_BATCH_COMMIT (R433). -/
  | persistBatchCommit (retries : Nat)
  /-- STORE_FAIL (R435). -/
  | storeFail (cause : BitVec 8) (slot : BitVec 24)
  /-- STORE_RETRY (R436). -/
  | storeRetry (ctx : Ctx) (v : Word)
  /-- STORE_PROBE_DONE (R436). -/
  | storeProbeDone (ok : Bool)
  /-- CAL_SET (R429). -/
  | calSet (ctx : Ctx) (v : Word)
  /-- CAL_SETPPS (R429). -/
  | calSetpps (ctx : Ctx) (v : Word)
  /-- SETPPS_TIMEOUT (R429). -/
  | setppsTimeout
  /-- PPS_EDGE (R431). -/
  | ppsEdge
  /-- PPS_LOST (R431). -/
  | ppsLost
  /-- DIE_SENSOR_CONVERSION (R444). -/
  | dieSensorConversion (n : Fin 16) (reading : BitVec 12)
  /-- THROTTLE_WINDOW (R445). -/
  | throttleWindow (runPart : Bool)
  /-- CHSEL_WRITE (R463). -/
  | chselWrite (ctx : Ctx) (v : Word)
  /-- COUNTER_LOW_READ (R529). -/
  | counterLowRead (ctx : Ctx) (addr : BitVec 18)
  /-- QSPI_FRAME (R467). -/
  | qspiFrame (frame : QspiFrame)
  /-- HOST_RESET (R459). -/
  | hostReset (kind : HostResetKind)
  /-- INT_MASK_WRITE (R470). -/
  | intMaskWrite (ctx : Ctx) (v : Word)
  /-- GROUP_OPEN (R471). -/
  | groupOpen (ctx : Ctx) (v : Word)
  /-- GROUP_ABORT (R483). -/
  | groupAbort (ctx : Ctx) (v : Word)
  /-- GROUP_STAGED_WRITE (R471). -/
  | groupStagedWrite (ctx : Ctx) (off : BitVec 14) (v : Word)
  /-- GROUP_GO (R473). -/
  | groupGo (ctx : Ctx) (v : Word)
  /-- GROUP_DONE (R474). -/
  | groupDone
  /-- MIRROR_WRITE_RECEIVE (R475). -/
  | mirrorWriteReceive (pkt : MirWrite)
  /-- MIRROR_WRITE_ANSWER (R476). -/
  | mirrorWriteAnswer (seq : Nat) (ok : Bool) (reason : BitVec 8)
  /-- MIRROR_WRITE_TIMEOUT (R476). -/
  | mirrorWriteTimeout (seq : Nat)
  /-- MIRROR_RESYNC (R477). -/
  | mirrorResync (ctx : Ctx) (v : Word)
  /-- REGISTER_WRITE (R10). -/
  | registerWrite (acc : HostAccess) (v : Word)
  /-- STAGE (R494). -/
  | stage (ctx : Ctx) (v : Word)
  /-- STAGE_FLASH (R494). -/
  | stageFlash (ctx : Ctx) (v : Word)
  /-- LOAD_FULL (R493). -/
  | loadFull (ctx : Ctx) (v : Word)
  /-- UPD_OPEN (R499). -/
  | updOpen (ctx : Ctx) (v : Word)
  /-- UPD_COMMIT (R499). -/
  | updCommit (ctx : Ctx) (v : Word)
  /-- IMG_ABORT (R506). -/
  | imgAbort (ctx : Ctx) (v : Word)
  /-- IMG_DATA_WRITE (R492). -/
  | imgDataWrite (ctx : Ctx) (v : Word)
  /-- IMAGE_VERIFY_DONE (R487). -/
  | imageVerifyDone (found : ImageObs)
  /-- FLASH_OP_DONE (R499). -/
  | flashOpDone (ok : Bool)
  /-- REPAIR_LOAD_END (R496). -/
  | repairLoadEnd (ch : ChId) (res : LoadObs)
  /-- FUSE_PROG (R488). -/
  | fuseProg (ctx : Ctx) (v : Word)
  /-- FUSE_REVOKE (R488). -/
  | fuseRevoke (ctx : Ctx) (v : Word)
  /-- FUSE_OP_DONE (R488). -/
  | fuseOpDone
  /-- PARAM_SAVE (R504). -/
  | paramSave (ctx : Ctx) (v : Word)
  /-- PARAM_SAVE_DONE (R505). -/
  | paramSaveDone (res : SaveObs)
  /-- CHANNEL_RESET (R522). -/
  | channelReset (ctx : Ctx) (v : Word)
  /-- HOST_READ (R479). -/
  | hostRead (acc : HostAccess)
  /-- VOLTAGE_CLASS_LATCH (R544). -/
  | voltageClassLatch (bank : Fin 15) (milliVolt : Nat)
  /-- REF_INTERVAL_FAIL (R278). -/
  | refIntervalFail (ref : RefId)
  /-- CLAIM_CHECK_END (R323). -/
  | claimCheckEnd (ch : ChId)
  /-- D3HOT_TRANSITION (R459). -/
  | d3hotTransition (enter : Bool)
  /-- PCIE_LINK_TRAINING_END (R458). -/
  | pcieLinkTrainingEnd (gen width : BitVec 2)
  /-- TEST_RESET (R542). -/
  | testReset (level : Bool)
  /-- VBAT_KNL_CHANGE (R513). -/
  | vbatKnlChange (ok : Bool)
  /-- SUPPLY_RETURN (R383). -/
  | supplyReturn
  /-- KENNEL_POWER_OFF (R375). -/
  | kennelPowerOff
  deriving DecidableEq, Repr

end Sys2Proof
end

