-- ==== Sys2Proof/Decode.lean ====
section
/-! DEFINITION. Decode.lean: what the host asks of the table's words (no row has bits), and the engines' program words
(04_control_engines.md R119, R120): the word of an instruction, and the instruction of a word. -/

namespace Sys2Proof

/-- The command that a table word spells: the command table gives no row any bits, so no word spells one. -/
def decodeTableWord (_nbits _w : Nat) : Option Instr := none

/-! ## Program words (R119) -/

/-- The fields of a program word, from bit 63 down: the R format's, with `lo` for bits [9:0]. The J and the I format lay
COUNT, TGT and IMM over K, M, `lo` and the lowest bit of CC. -/
structure WordFields where
  op : BitVec 6
  d : BitVec 5
  a : BitVec 5
  b : BitVec 5
  ac : BitVec 1
  rm : BitVec 2
  e : BitVec 5
  cc : BitVec 4
  k : BitVec 10
  m : BitVec 11
  lo : BitVec 10
  deriving DecidableEq, Repr

/-- The word of the fields. -/
def WordFields.word (f : WordFields) : BitVec 64 :=
  f.op ++ f.d ++ f.a ++ f.b ++ f.ac ++ f.rm ++ f.e ++ f.cc ++ f.k ++ f.m ++ f.lo

/-- The fields of a word. -/
def WordFields.ofWord (w : BitVec 64) : WordFields where
  op := w.extractLsb' 58 6
  d := w.extractLsb' 53 5
  a := w.extractLsb' 48 5
  b := w.extractLsb' 43 5
  ac := w.extractLsb' 42 1
  rm := w.extractLsb' 40 2
  e := w.extractLsb' 35 5
  cc := w.extractLsb' 31 4
  k := w.extractLsb' 21 10
  m := w.extractLsb' 10 11
  lo := w.extractLsb' 0 10

/-- An opcode with every other field 0. -/
def opWord (op : BitVec 6) : WordFields := ⟨op, 0, 0, 0, 0, 0, 0, 0, 0, 0, 0⟩

/-- A value register's number in a field. -/
def regField (r : VReg) : BitVec 5 := BitVec.ofNat 5 r.val

/-- The value register that a field names. -/
def fieldReg (x : BitVec 5) : VReg := ⟨x.toNat, x.isLt⟩

/-- TGT of the J format, in bits [11:0]. -/
def WordFields.withTgt (f : WordFields) (t : BitVec 12) : WordFields :=
  { f with m := (t.extractLsb' 10 2).setWidth 11, lo := t.extractLsb' 0 10 }

def WordFields.tgt (f : WordFields) : BitVec 12 := f.m.extractLsb' 0 2 ++ f.lo

/-- IMM of the I format, in bits [31:0]. -/
def WordFields.withImm (f : WordFields) (x : Word) : WordFields :=
  { f with cc := (x.extractLsb' 31 1).setWidth 4, k := x.extractLsb' 21 10, m := x.extractLsb' 10 11,
           lo := x.extractLsb' 0 10 }

def WordFields.imm (f : WordFields) : Word := f.cc.extractLsb' 0 1 ++ f.k ++ f.m ++ f.lo

/-! ## The instructions (R120) -/

/-- The fields of an engine's instruction; `none` for the other commands. -/
def Instr.fields : Instr → Option WordFields
  | .tickBoundary _ _ => none
  | .carrierUpdatePoint _ => none
  | .refreshInsert _ _ => none
  | .tickOverrun _ _ => none
  | .lockstepMismatch _ _ _ _ => none
  | .uncorrectableEcc _ _ _ _ _ => none
  | .fabricParityError _ _ => none
  | .mirrorFrameSend _ _ => none
  | .nop _ cc => some { opWord 0x00 with cc := cc }
  | .ldi _ d imm => some ({ opWord 0x01 with d := regField d }.withImm imm)
  | .mov _ cc d a => some { opWord 0x02 with cc := cc, d := regField d, a := regField a }
  | .ld _ cc d m => some { opWord 0x03 with cc := cc, d := regField d, m := m }
  | .ldx _ cc d a m => some { opWord 0x04 with cc := cc, d := regField d, a := regField a, m := m }
  | .st _ cc a m => some { opWord 0x05 with cc := cc, a := regField a, m := m }
  | .stx _ cc a b m => some { opWord 0x06 with cc := cc, a := regField a, b := regField b, m := m }
  | .inPort _ cc d m => some { opWord 0x07 with cc := cc, d := regField d, m := m }
  | .mailboxWaitEnd _ => none
  | .outPort _ cc a b m => some { opWord 0x08 with cc := cc, a := regField a, b := regField b, m := m }
  | .pub _ cc a b m => some { opWord 0x09 with cc := cc, a := regField a, b := regField b, m := m }
  | .ldc _ cc d k => some { opWord 0x0A with cc := cc, d := regField d, k := k }
  | .sel _ cc d a b => some { opWord 0x0B with cc := cc, d := regField d, a := regField a, b := regField b }
  | .add _ cc rm d a b => some { opWord 0x10 with cc := cc, rm := rm, d := regField d, a := regField a, b := regField b }
  | .sub _ cc rm d a b => some { opWord 0x11 with cc := cc, rm := rm, d := regField d, a := regField a, b := regField b }
  | .neg _ cc rm d a => some { opWord 0x12 with cc := cc, rm := rm, d := regField d, a := regField a }
  | .abs _ cc rm d a => some { opWord 0x13 with cc := cc, rm := rm, d := regField d, a := regField a }
  | .min _ cc d a b => some { opWord 0x14 with cc := cc, d := regField d, a := regField a, b := regField b }
  | .max _ cc d a b => some { opWord 0x15 with cc := cc, d := regField d, a := regField a, b := regField b }
  | .cmp _ cc a b => some { opWord 0x16 with cc := cc, a := regField a, b := regField b }
  | .and _ cc d a b => some { opWord 0x17 with cc := cc, d := regField d, a := regField a, b := regField b }
  | .or _ cc d a b => some { opWord 0x18 with cc := cc, d := regField d, a := regField a, b := regField b }
  | .xor _ cc d a b => some { opWord 0x19 with cc := cc, d := regField d, a := regField a, b := regField b }
  | .ash _ cc rm e d a => some { opWord 0x1A with cc := cc, rm := rm, e := e, d := regField d, a := regField a }
  | .lsh _ cc e d a => some { opWord 0x1B with cc := cc, e := e, d := regField d, a := regField a }
  | .mul _ cc rm d a k => some { opWord 0x20 with cc := cc, rm := rm, d := regField d, a := regField a, k := k }
  | .mulv _ cc rm e d a b => some { opWord 0x21 with cc := cc, rm := rm, e := e, d := regField d, a := regField a, b := regField b }
  | .clr _ cc ac => some { opWord 0x22 with cc := cc, ac := BitVec.ofBool ac }
  | .lda _ cc ac a => some { opWord 0x23 with cc := cc, ac := BitVec.ofBool ac, a := regField a }
  | .mac _ cc ac a k => some { opWord 0x24 with cc := cc, ac := BitVec.ofBool ac, a := regField a, k := k }
  | .msu _ cc ac a k => some { opWord 0x25 with cc := cc, ac := BitVec.ofBool ac, a := regField a, k := k }
  | .dmac _ cc ac a b k => some { opWord 0x26 with cc := cc, ac := BitVec.ofBool ac, a := regField a, b := regField b, k := k }
  | .pmac _ cc a b k => some { opWord 0x27 with cc := cc, a := regField a, b := regField b, k := k }
  | .macv _ cc rm ac a b => some { opWord 0x28 with cc := cc, rm := rm, ac := BitVec.ofBool ac, a := regField a, b := regField b }
  | .ext _ cc rm e ac d => some { opWord 0x29 with cc := cc, rm := rm, e := e, ac := BitVec.ofBool ac, d := regField d }
  | .div _ cc rm e d a b => some { opWord 0x30 with cc := cc, rm := rm, e := e, d := regField d, a := regField a, b := regField b }
  | .sqrt _ cc rm e d a => some { opWord 0x31 with cc := cc, rm := rm, e := e, d := regField d, a := regField a }
  | .br _ cc tgt => some ({ opWord 0x38 with cc := cc }.withTgt tgt)
  | .call _ tgt => some ((opWord 0x39).withTgt tgt)
  | .ret _ cc => some { opWord 0x3A with cc := cc }
  | .loop _ count tgt => some ({ opWord 0x3B with k := count }.withTgt tgt)
  | .tend _ cc => some { opWord 0x3F with cc := cc }
  | .reservedOpcode _ _ => none
  | .firOutput _ _ _ _ => none
  | .chainOutput _ _ _ => none
  | .substituteWord _ _ => none
  | .mclkLoss _ _ => none
  | .clockRecovery _ _ => none
  | .fastPathFillEnd _ _ _ => none
  | .fastComparatorChange _ _ _ => none
  | .skarm _ _ => none
  | .skewCrossing _ _ _ _ _ _ => none
  | .skewWindowExpiry _ _ => none
  | .firCdatWrite _ _ _ => none
  | .firXfGo _ _ _ => none
  | .firBankWrite _ _ _ => none
  | .dcbEstWrite _ _ _ => none
  | .sdiTrimWrite _ _ _ => none
  | .sdiSrcWrite _ _ _ => none
  | .engCdatWrite _ _ => none
  | .engDdatWrite _ _ => none
  | .engDdatRead _ => none
  | .engDdatReadServe _ => none
  | .lawParamWrite _ _ _ => none
  | .measLost _ _ => none
  | .limRelease _ => none
  | .modeRequest _ _ => none
  | .safeLatchClear _ _ => none
  | .preDone _ => none
  | .prechargeTimeout _ => none
  | .deadBusTimeout _ => none
  | .busFoundLive _ => none
  | .bsDone _ => none
  | .rsyMatchComplete _ => none
  | .resyncTimeout _ => none
  | .rideReturn _ => none
  | .rideTimeout _ => none
  | .handoverBlendEnd _ => none
  | .packChip _ _ => none
  | .packCodePeriod _ => none
  | .fingerAcquired _ _ => none
  | .fingerLost _ _ => none
  | .packFrameReceived _ _ => none
  | .packFrameEnd _ => none
  | .packDuplicate _ => none
  | .packBackoffEnd _ => none
  | .stiffSet _ => none
  | .stiffClear _ => none
  | .packEnable _ _ => none
  | .packDisable _ _ => none
  | .packPselWrite _ _ => none
  | .driverFaultFiltered _ _ _ => none
  | .blankingEnd _ _ => none
  | .tsoftExpiry _ _ => none
  | .toffExpiry _ => none
  | .tordExpiry _ _ => none
  | .desatWindowClose _ => none
  | .legFaultRelease _ _ => none
  | .legOffTimeout _ _ => none
  | .tripClear _ _ => none
  | .brakeMinTimeExpiry _ => none
  | .calFail _ => none
  | .refActivityWindow _ _ => none
  | .refMismatchWindow _ => none
  | .refEdgeMissing _ _ => none
  | .bandSearchEnd _ _ => none
  | .lockWindow _ _ _ => none
  | .lockTimeout _ => none
  | .ceilingGuard _ _ => none
  | .channelStart _ => none
  | .pllRelock _ _ => none
  | .pllRampGo _ _ => none
  | .pllRampHold _ _ => none
  | .pllLevel _ _ => none
  | .rampSegmentEnd _ _ => none
  | .hostPllLock => none
  | .hostPllLoss => none
  | .linkTrainingEnd _ => none
  | .retrain _ _ => none
  | .linkDown _ _ => none
  | .mirrorFrameReceive _ _ => none
  | .heartbeatSend => none
  | .heartbeatReceive _ => none
  | .heartbeatTimeout => none
  | .leashToggle _ => none
  | .leashStateChange _ _ => none
  | .leashReadbackFault _ _ => none
  | .leashClaim _ _ => none
  | .leashRelease _ _ => none
  | .releaseGuardExpiry _ => none
  | .alignLocked _ => none
  | .alignUnlocked _ => none
  | .houndTestEnd _ _ _ => none
  | .houndHealthReport => none
  | .testEnd _ => none
  | .safetyStrobe _ => none
  | .discrepancyLatch _ => none
  | .contactorSettleEnd _ _ => none
  | .contactorDebounceEnd _ _ => none
  | .safetyFrameSubmit _ _ => none
  | .bcWatchdogExpiry => none
  | .safetyFramePublish => none
  | .safTxf0Read _ => none
  | .safetyParamWrite _ _ _ => none
  | .safetyCheckDone _ _ => none
  | .safetyConfirm _ _ => none
  | .ackDisc _ => none
  | .ackCont _ => none
  | .ginhSet _ => none
  | .ginhClr _ _ => none
  | .snSet _ => none
  | .snClr _ _ => none
  | .krst _ _ => none
  | .knlInhWrite _ _ => none
  | .hostWatchdogEnable _ _ => none
  | .hostWatchdogKick _ _ => none
  | .hostWatchdogExpiry => none
  | .safetySlotExpiry _ _ => none
  | .supplyGiveUp _ => none
  | .supplyReturn => none
  | .kennelPowerOn _ => none
  | .kennelPowerOff => none
  | .resetRelease _ _ => none
  | .padRelease => none
  | .lastWordCommit _ _ => none
  | .lastWordSelect _ _ => none
  | .kennelPortWrite _ => none
  | .kennelPortRead _ => none
  | .kennelPortTimeout => none
  | .capArm _ _ _ => none
  | .capDisarm _ _ _ => none
  | .capForce _ _ _ => none
  | .capGlobalForce _ _ => none
  | .capHclr _ _ _ => none
  | .capAck _ _ _ => none
  | .captureBaseSample _ _ => none
  | .holdoffEnd _ _ => none
  | .postprocDone _ _ => none
  | .captureDmaGo _ _ => none
  | .captureDmaDone _ => none
  | .captureEccAbort _ _ _ _ => none
  | .recordRequest _ => none
  | .recordWrite => none
  | .recordCloseTimeout => none
  | .recorderStartSearchEnd _ => none
  | .recRptrWrite _ _ => none
  | .storeFetchDone => none
  | .persistBatchStart _ _ => none
  | .persistBatchCommit _ => none
  | .storeFail _ _ => none
  | .storeRetry _ _ => none
  | .storeProbeDone _ => none
  | .calSet _ _ => none
  | .calSetpps _ _ => none
  | .setppsTimeout => none
  | .ppsEdge => none
  | .ppsLost => none
  | .dieSensorConversion _ _ => none
  | .throttleWindow _ => none
  | .chselWrite _ _ => none
  | .counterLowRead _ _ => none
  | .qspiFrame _ => none
  | .hostReset _ => none
  | .intMaskWrite _ _ => none
  | .groupOpen _ _ => none
  | .groupAbort _ _ => none
  | .groupStagedWrite _ _ _ => none
  | .groupGo _ _ => none
  | .groupDone => none
  | .mirrorWriteReceive _ => none
  | .mirrorWriteAnswer _ _ _ => none
  | .mirrorWriteTimeout _ => none
  | .mirrorResync _ _ => none
  | .registerWrite _ _ => none
  | .stage _ _ => none
  | .stageFlash _ _ => none
  | .loadFull _ _ => none
  | .updOpen _ _ => none
  | .updCommit _ _ => none
  | .imgAbort _ _ => none
  | .imgDataWrite _ _ => none
  | .imageVerifyDone _ => none
  | .flashOpDone _ => none
  | .repairLoadEnd _ _ => none
  | .fuseProg _ _ => none
  | .fuseRevoke _ _ => none
  | .fuseOpDone => none
  | .paramSave _ _ => none
  | .paramSaveDone _ => none
  | .channelReset _ _ => none
  | .hostRead _ => none
  | .voltageClassLatch _ _ => none
  | .refIntervalFail _ => none
  | .claimCheckEnd _ => none
  | .d3hotTransition _ => none
  | .pcieLinkTrainingEnd _ _ => none
  | .testReset _ => none
  | .vbatKnlChange _ => none

/-- The instruction that an opcode and its fields give at an engine; `none` for a reserved opcode (R120). -/
def instrOf (x : Site) (f : WordFields) : Option Instr :=
  match f.op.toNat with
  | 0x00 => some (.nop x f.cc)
  | 0x01 => some (.ldi x (fieldReg f.d) f.imm)
  | 0x02 => some (.mov x f.cc (fieldReg f.d) (fieldReg f.a))
  | 0x03 => some (.ld x f.cc (fieldReg f.d) f.m)
  | 0x04 => some (.ldx x f.cc (fieldReg f.d) (fieldReg f.a) f.m)
  | 0x05 => some (.st x f.cc (fieldReg f.a) f.m)
  | 0x06 => some (.stx x f.cc (fieldReg f.a) (fieldReg f.b) f.m)
  | 0x07 => some (.inPort x f.cc (fieldReg f.d) f.m)
  | 0x08 => some (.outPort x f.cc (fieldReg f.a) (fieldReg f.b) f.m)
  | 0x09 => some (.pub x f.cc (fieldReg f.a) (fieldReg f.b) f.m)
  | 0x0A => some (.ldc x f.cc (fieldReg f.d) f.k)
  | 0x0B => some (.sel x f.cc (fieldReg f.d) (fieldReg f.a) (fieldReg f.b))
  | 0x10 => some (.add x f.cc f.rm (fieldReg f.d) (fieldReg f.a) (fieldReg f.b))
  | 0x11 => some (.sub x f.cc f.rm (fieldReg f.d) (fieldReg f.a) (fieldReg f.b))
  | 0x12 => some (.neg x f.cc f.rm (fieldReg f.d) (fieldReg f.a))
  | 0x13 => some (.abs x f.cc f.rm (fieldReg f.d) (fieldReg f.a))
  | 0x14 => some (.min x f.cc (fieldReg f.d) (fieldReg f.a) (fieldReg f.b))
  | 0x15 => some (.max x f.cc (fieldReg f.d) (fieldReg f.a) (fieldReg f.b))
  | 0x16 => some (.cmp x f.cc (fieldReg f.a) (fieldReg f.b))
  | 0x17 => some (.and x f.cc (fieldReg f.d) (fieldReg f.a) (fieldReg f.b))
  | 0x18 => some (.or x f.cc (fieldReg f.d) (fieldReg f.a) (fieldReg f.b))
  | 0x19 => some (.xor x f.cc (fieldReg f.d) (fieldReg f.a) (fieldReg f.b))
  | 0x1A => some (.ash x f.cc f.rm f.e (fieldReg f.d) (fieldReg f.a))
  | 0x1B => some (.lsh x f.cc f.e (fieldReg f.d) (fieldReg f.a))
  | 0x20 => some (.mul x f.cc f.rm (fieldReg f.d) (fieldReg f.a) f.k)
  | 0x21 => some (.mulv x f.cc f.rm f.e (fieldReg f.d) (fieldReg f.a) (fieldReg f.b))
  | 0x22 => some (.clr x f.cc (f.ac.getLsbD 0))
  | 0x23 => some (.lda x f.cc (f.ac.getLsbD 0) (fieldReg f.a))
  | 0x24 => some (.mac x f.cc (f.ac.getLsbD 0) (fieldReg f.a) f.k)
  | 0x25 => some (.msu x f.cc (f.ac.getLsbD 0) (fieldReg f.a) f.k)
  | 0x26 => some (.dmac x f.cc (f.ac.getLsbD 0) (fieldReg f.a) (fieldReg f.b) f.k)
  | 0x27 => some (.pmac x f.cc (fieldReg f.a) (fieldReg f.b) f.k)
  | 0x28 => some (.macv x f.cc f.rm (f.ac.getLsbD 0) (fieldReg f.a) (fieldReg f.b))
  | 0x29 => some (.ext x f.cc f.rm f.e (f.ac.getLsbD 0) (fieldReg f.d))
  | 0x30 => some (.div x f.cc f.rm f.e (fieldReg f.d) (fieldReg f.a) (fieldReg f.b))
  | 0x31 => some (.sqrt x f.cc f.rm f.e (fieldReg f.d) (fieldReg f.a))
  | 0x38 => some (.br x f.cc f.tgt)
  | 0x39 => some (.call x f.tgt)
  | 0x3A => some (.ret x f.cc)
  | 0x3B => some (.loop x f.k f.tgt)
  | 0x3F => some (.tend x f.cc)
  | _ => none

/-- The program word of an engine's instruction (R119). -/
def encodeEngine (i : Instr) : Option (BitVec 64) := i.fields.map WordFields.word

/-- The bits that the word's format does not use are 0 (R119): in the I format all between D and IMM; in the J format
bits [57:35] and [20:12], CC but for BR, and COUNT but for LOOP; in the R format bits [9:0]. -/
def WordFields.formatOk (f : WordFields) : Bool :=
  let rest := f.a = 0 && f.b = 0 && f.ac = 0 && f.rm = 0 && f.e = 0
  match f.op.toNat with
  | 0x01 => rest && f.cc &&& 0xE = 0
  | 0x38 => rest && f.d = 0 && f.k = 0 && f.m &&& 0x7FC = 0
  | 0x39 => rest && f.d = 0 && f.cc = 0 && f.k = 0 && f.m &&& 0x7FC = 0
  | 0x3B => rest && f.d = 0 && f.cc = 0 && f.m &&& 0x7FC = 0
  | _ => f.lo = 0

/-- The instruction that an engine decodes from a program word; `none` for a reserved opcode (R121), and for a word that
sets a bit its format does not use (R119). A field of its format that an instruction does not name, as RM of MAC, is not
looked at. -/
def decodeEngine (x : Site) (w : BitVec 64) : Option Instr :=
  if (WordFields.ofWord w).formatOk then instrOf x (WordFields.ofWord w) else none

end Sys2Proof
end

