-- ==== Sys2Proof/Machine/Crc.lean ====
section
/-! DEFINITION. Machine/Crc.lean: the cyclic redundancy checks of frames, packets and records, and the little-endian byte
order of multi-byte values (00_scope.md). -/

namespace Sys2Proof.Machine

/-- One byte into a reflected 32-bit CRC register. -/
def crc32Bits (poly : Word) : Nat → Word → Word
  | 0, r => r
  | n + 1, r => crc32Bits poly n (if r.getLsbD 0 then (r >>> 1) ^^^ poly else r >>> 1)

/-- CRC-32C: reflected polynomial 0x82F63B78, register all ones before, inverted after (log 42). -/
def crc32c (bs : List Byte) : Word :=
  ~~~(bs.foldl (fun r b => crc32Bits 0x82F63B78 8 (r ^^^ b.setWidth 32)) 0xFFFFFFFF)

/-- One byte into a CRC-8 register, most significant bit first. -/
def crc8Bits (poly : Byte) : Nat → Byte → Byte
  | 0, r => r
  | n + 1, r => crc8Bits poly n (if r.msb then (r <<< 1) ^^^ poly else r <<< 1)

/-- CRC-8 with a polynomial and an initial value. -/
def crc8 (poly init : Byte) (bs : List Byte) : Byte :=
  bs.foldl (fun r b => crc8Bits poly 8 (r ^^^ b)) init

/-- CRC-16 with polynomial 0x1021 and initial value 0xFFFF (R354, R418). -/
def crc16Bits : Nat → BitVec 16 → BitVec 16
  | 0, r => r
  | n + 1, r => crc16Bits n (if r.msb then (r <<< 1) ^^^ 0x1021 else r <<< 1)

def crc16 (bs : List Byte) : BitVec 16 :=
  bs.foldl (fun r b => crc16Bits 8 (r ^^^ ((b.setWidth 16 : BitVec 16) <<< (8 : Nat)))) 0xFFFF

/-- The four bytes of a word, least significant first (R7). -/
def wordBytes (w : Word) : List Byte :=
  [w.extractLsb' 0 8, w.extractLsb' 8 8, w.extractLsb' 16 8, w.extractLsb' 24 8]

def bytesOf (ws : List Word) : List Byte := ws.flatMap wordBytes

/-- The word of four bytes, least significant first. -/
def byteWord (bs : List Byte) : Word :=
  bs.getD 3 0 ++ bs.getD 2 0 ++ bs.getD 1 0 ++ bs.getD 0 0

/-- `n` little-endian bytes of a number. -/
def natBytes : Nat → Nat → List Byte
  | 0, _ => []
  | n + 1, v => BitVec.ofNat 8 v :: natBytes n (v / 256)

/-- The number of little-endian bytes. -/
def bytesNat : List Byte → Nat
  | [] => 0
  | b :: t => b.toNat + 256 * bytesNat t

end Sys2Proof.Machine
end

