-- ==== Sys2Proof/Machine/State.lean ====
section
/-! DEFINITION. Machine/State.lean: everything the spec gives the SX12 to hold, as plain data. -/

namespace Sys2Proof.Machine

/-! ## Writes -/

/-- Whose write it is: a host context's, a committed group's, or the partner's by a mirror packet (R32, R473, R475). -/
inductive WriteSrc where
  | host (k : Ctx)
  | group (k : Ctx)
  | mirror (seq : Nat)
  deriving DecidableEq, Repr

/-! ## Engines (04_control_engines.md) -/

/-- The condition flags (R110, R117). -/
structure Flags where
  z : Bool
  n : Bool
  v : Bool
  tu : Bool
  ts : Bool
  tt : Bool
  tx : Bool
  deriving DecidableEq, Repr

/-- An entry of coefficient memory: mantissa, shift, saturation mode, owner (R110, R112, R113, R130). -/
structure Coef where
  mant : Word
  shift : BitVec 6
  sat : BitVec 2
  owner : BitVec 6
  deriving DecidableEq, Repr

/-- A word of the sample fabric (R24): value, tags, destinations. `cycles`: the channel-clock cycles from its posting to the
latch, from which AGE follows, 0 for what is produced on the channel clock; `num`: the channel's count of postings at its
posting. -/
structure FabWord where
  data : Word
  tag : BitVec 4
  dest : BitVec 8
  cycles : Nat
  num : Nat
  deriving DecidableEq, Repr

/-- A quantity that has not been posted. -/
def FabWord.blank : FabWord := ⟨0, 0, 0, 0, 0⟩

/-- An input slot as latched at the input-latch cycle: the word and its tags (R33, R122). -/
structure Slot where
  data : Word
  tag : BitVec 4
  age : BitVec 8
  deriving DecidableEq, Repr

/-- One level of the loop stack: first word, last word, iterations still to begin after this one (R120 LOOP). -/
structure LoopFrame where
  start : BitVec 12
  tgt : BitVec 12
  rem : Nat
  deriving DecidableEq, Repr

/-- A mailbox entry that is valid: its value and the cycle in which it was written (R123). -/
structure MailEntry where
  value : Word
  cycle : Nat
  deriving DecidableEq, Repr

/-- What an engine does in the present tick: idle (no work, or after TEND), running, waiting for a mailbox entry (R123),
or stopped by a fault (R48, R121, R127). -/
inductive EngRun where
  | idle
  | running
  | waiting (d : VReg) (entry : Fin 4)
  | stopped
  deriving DecidableEq, Repr

/-- A staged coefficient write (R131), with its place in the order of arrival over both engines (R132). -/
structure CoefWrite where
  idx : BitVec 10
  mant : Word
  shift : BitVec 6
  src : WriteSrc
  num : Nat
  deriving DecidableEq, Repr

/-- One engine (R110): registers, memories, stacks, its tick's state. `cycle` is the cycle of the tick in which the next
instruction executes (R47), after TEND the cycle of the TEND, 0 where the engine idles the tick through; `atEnd` the data
memory as it stood at the last TEND (R138); `ce` the engine's half of ENG_ECC, the corrected errors with their flag
(R128, R140). -/
structure Engine where
  v : Vector Word 32
  acc0 : BitVec 72
  acc1 : BitVec 72
  fl : Flags
  prog : List (Nat × BitVec 64)
  data : List (Nat × Word)
  atEnd : List (Nat × Word)
  coef : List (Nat × Coef)
  pc : BitVec 12
  loops : List LoopFrame
  calls : List (BitVec 12)
  run : EngRun
  cycle : Nat
  fst : Bool
  fstNext : Bool
  slots : Vector Slot 64
  slotMap : List (Nat × BitVec 8)
  mail : Vector (Option MailEntry) 4
  eventSent : Bool
  track : Word
  staged : List CoefWrite
  scrub : Nat
  ce : BitVec 16
  deriving DecidableEq, Repr

/-! ## Sample chain (03_sample_chain.md) -/

/-- A FIR tap: its Q1.31 coefficient and right shift (R73). -/
structure FirTap where
  coef : Word
  shift : BitVec 5
  deriving DecidableEq, Repr

/-- The fast path's state (R94): comparing; not started since the channel start (deasserted); held during clock loss,
on the bypass clock, or during the fill after it (asserted or kept, as LOSS_TRIP gives); in the fill after a first
recovery (deasserted); in the fill after a change of OSR (as it was). -/
inductive FastHold where
  | compare
  | notStarted
  | loss
  | bypass
  | fill
  | firstFill
  | refill
  deriving DecidableEq, Repr

/-- A chain output that has not been posted yet: its value, whether a stage has clamped, and the longest run of equal bits in
its span (R81, R86). -/
structure ChainOut where
  data : Word
  sat : Bool
  run : Nat
  deriving DecidableEq, Repr

/-- One modulator input (R73 to R97): the modulator's bits that the sinc filter holds (newest first, after INV), both
coefficient banks, the FIR delay line (newest first) with the clamp mark of each word, the longest run of equal bits in the
span of the latest FIR output, the fade in progress
(k, L), the DC blocker's estimate e (56 bits) and factor α in 2^-64 (R79), the decimator's count, whether it awaits its phase
(R84), the chain output that awaits its posting, the counts of the tags (R86 to R88), whether substitute words are due and
from what (R72, R89), the fast path and the skew unit. -/
structure Input where
  bits : List Bool
  bank0 : List (Nat × FirTap)
  bank1 : List (Nat × FirTap)
  delay : List Word
  clamps : List Bool
  run : Nat
  fade : Option (Nat × Nat)
  e : BitVec 56
  alpha : Nat
  frac : Nat
  decCount : Nat
  phaseOpen : Bool
  out : Option ChainOut
  settle : Nat
  subst : Bool
  lastGood : Word
  posted : Bool
  recovered : Bool
  lossAt : Option Nat
  fastBits : List Bool
  fastHi : Nat
  fastLo : Nat
  fastHold : FastHold
  skewArmed : Bool
  deriving DecidableEq, Repr

/-! ## Modes, ramps and the reference law (05_grid_forming_law.md, 06_modes_and_handover.md) -/

/-- What the mode controller keeps between boundaries (R174 to R197): the counts of consecutive ticks, the ramp factor r
of R184 in units of 2^-48, the events that await the next boundary, a SHADOW request whose LEASH release is under way
(R192), the length of the present blend as it stood at its boundary (R196), the differences of R185 in 2^-54 Hz, 2^-30 pu
and 2^-31 of π, and whether the test has ended. `starting`: no tick has ended since the channel start. -/
structure ModeCtl where
  preRun : Nat
  bsCheck : Bool
  deadRun : Nat
  liveRun : Nat
  ramp : Nat
  dwell : Nat
  matched : Nat
  preFail : Bool
  rsyTimeout : Bool
  rideReturn : Bool
  busLive : Bool
  releasing : Bool
  testDone : Bool
  blendLen : Nat
  df : Int
  dv : Int
  dth : Int
  starting : Bool
  deriving DecidableEq, Repr

/-- Tag counts of one measurement slot (R164): consecutive STALE, SATURATED, and UNSETTLED or SUBSTITUTED ticks. -/
structure TagCount where
  stale : Nat
  sat : Nat
  bad : Nat
  deriving DecidableEq, Repr

/-- A sequence separator (R155): the in-phase and the quadrature state of the generalised integrators of the two axes. -/
structure Separator where
  a : Int × Int
  b : Int × Int
  deriving DecidableEq, Repr

/-- The reference law's states where the image's engine programs are the block library's (R141 to R162), in fixed point:
per-unit quantities and voltages and currents in 2^-30, the angle in 2^-31 of pi. `on`: the image runs the library. The
separators are those of i_L, v_C, i_o and the grid side of K1. Outputs of a tick, which the loops' opening, their tracking
and the blends need: `vz` of FE loop 4 and `vcRef` as applied, `iv` of FE loop 1, `ilRef` as applied before and `iLim` after
the limiter, `inRef` and `vNeg` of FE loop 2, `vRef` of FE loop 0, `mb` of FE loop 5, `follow` and `followNext` of ME loop 3
as the FE has it and as the ME has staged it, `steer` of ME loop 5. -/
structure LawState where
  on : Bool
  seps : Vector Separator 4
  xPll : Int
  vz : Int × Int
  iv : Int × Int
  iLim : Int × Int
  inRef : Int × Int
  vNeg : Int × Int
  mb : Int
  follow : Int × Int
  followNext : Int × Int
  steer : Int × Int
  pf : Int
  qf : Int
  w : Int
  wd : Int
  pm : Int
  ee : Int
  theta : Int
  wPll : Int
  thPll : Int
  xv : Int × Int
  xi : Int × Int
  xvn : Int × Int
  xin : Int × Int
  sumP : Int
  sumQ : Int
  sumN : Nat
  pAvg : Int
  qAvg : Int
  vcRef : Int × Int
  ilRef : Int × Int
  vRef : Int × Int
  ip : Int
  iq : Int
  pmHeld : Int
  eHeld : Int
  delta : Int × Int
  good : List (Nat × Int)
  relRun : Nat
  status : Word
  deriving DecidableEq, Repr

/-! ## PACK (07_pack_peer_agreement.md) -/

/-- The states of a finger (R217). -/
inductive FingerState where
  | free
  | acq
  | valid
  | lost
  deriving DecidableEq, Repr

/-- One peer finger (R217, R218, R233): its state, code number and phase, its confidence (UQ4.4), the counts of
consecutive periods at or above QACQ and below QLOSE, the dwell of a scan, the frame alignment and its failures, and what
the peer's frames gave; the last data bits, how many there are, and the code periods since the last frame of the alignment. -/
structure Finger where
  state : FingerState
  code : Byte
  phase : Byte
  q : Byte
  high : Nat
  low : Nat
  dwell : Nat
  aligned : Bool
  bad : Nat
  id : BitVec 10
  idv : Bool
  x : BitVec 12
  xv : Bool
  w : BitVec 12
  wv : Bool
  age : Nat
  bits : BitVec 24
  nbits : Nat
  since : Nat
  deriving DecidableEq, Repr

/-- The cases in which the own-code finger detects a duplicate (R228), in the rule's order. -/
inductive DupCase where
  | outside
  | amplitude
  | silent
  deriving DecidableEq, Repr

/-- What the own-code finger keeps for R228: the consecutive periods in which the own code number peaks where it should not,
and that phase; the data bits read there and how many; the periods of this own frame with an amplitude out of bounds; the
amplitudes of the SYNC periods of this own frame and of the last two; a detection that is due. -/
structure DupTrack where
  run : Nat
  phase : Byte
  bits : BitVec 24
  nbits : Nat
  odd : Nat
  sync0 : List Int
  sync1 : List Int
  sync2 : List Int
  seen : Option DupCase
  deriving DecidableEq, Repr

/-- A channel's PACK unit (R213 to R229): the code generator (chip index, frame bits, frame-type position), the injected
deviation now and at the next boundary in units of 0.002 / f_b, what awaits a code-period, frame or chip boundary, the
restoration target, the chip estimates of the present code period (newest first; none for an excluded chip) and whether the
present chip is to be excluded, the own-code finger's duplicate test, and the fingers. `chip` counts the reference's chips;
the own code's chip index is `chip` + PHASE. `leaving`: 0 no, 1 the frame in progress completes, 2 the LEAVE
frame is being sent (R225). `window`: own frames since BACKOFF ended, while within R228's 64. `peerCopy`: the peer entry that each host context
has copied (R219). -/
structure Pack where
  chip : Nat
  chipAt : Nat
  frame : BitVec 24
  order : Nat
  d : Int
  dNext : Int
  plain : Bool
  stopAtChip : Bool
  leaving : Nat
  periodEnd : Bool
  frameEnd : Bool
  consensusDue : Bool
  newPhase : Option Nat
  window : Option Nat
  ownLow : Nat
  ownHigh : Nat
  scan : Byte
  tgt : Int
  ests : List (Option Int)
  chipBad : Bool
  dup : DupTrack
  enabled : Bool
  fingers : Vector Finger 64
  peerCopy : Vector (Word × Word) 4
  deriving DecidableEq, Repr

/-! ## PWM (08_pwm_and_power_stage.md) -/

/-- A switch's command for a half-period: its compare value in delay-line steps and whether it is peak-centred (R239).
Always on is valley-centred with C = H, always off valley-centred with C = 0. -/
structure SwCmd where
  peak : Bool
  cmp : Nat
  deriving DecidableEq, Repr

/-- A leg: switching, off until its fault inputs are released, waiting for the carrier period in which its refresh sequence
begins, in its refresh sequence with pulses left, or rejoining at an update point (R260, R262). -/
inductive LegState where
  | on
  | off
  | due (left : Nat)
  | seq (left : Nat)
  | rejoin
  deriving DecidableEq, Repr

/-- The programmed times as the unit has converted them (R247): the dead times, MINP, TRP, TSOFT, TOFF and TORD in
delay-line steps, the blanking times by pad, FILT, MINON and MINOFF in channel-clock cycles. -/
structure PwmTimes where
  dt13 : Nat
  dt24 : Nat
  minp : Nat
  trp : Nat
  tsoft : Nat
  toff : Nat
  tord : Nat
  blank : Vector Nat 12
  filt : Nat
  minon : Nat
  minoff : Nat
  deriving DecidableEq, Repr

/-- The PWM unit (R238 to R266). The half-period: whether an update point has come since the channel start, the reference
time of the last one, its carrier's peak H, the PWM time word (R59) and the times converted with it, the commands, the values applied, the pairs
that the interlock holds off, the sign branches, for how many steps each switch had been commanded on before the half-period.
Refresh: the counters, the refreshes inserted (`refreshed`), those that await their switch's off-point (`refNext`), those
whose off-point was the update point (`refHead`), how long each switch has been on at its pad in the carrier period, and the
switches that have been on for TRP in it. Legs: their states, those whose fault inputs have not been released for 1 µs, the
time since which one is off, and the inner pads that TORD still keeps on. Pads: driving since an update point, a take-over
that goes on without a start, and the inner pads that follow an inhibit 8 ns later (R264). The turn-off sequence of R253 by
pad (`held`: gone off or held off; `soft`: awaiting TSOFT, on where `frozen`; `other`: awaiting TOFF; `late`: inner switches
awaiting TORD), whether it treats switches with an asserted input as faulted, its record's mask while the joining window is
open (R254), the fault assertions ignored inside blanking (R252), the UV reports of the last second (R261), the brake's
output and minimum time (R258), and the events of the half-period (R267). -/
structure Pwm where
  started : Bool
  updAt : Nat
  h : Nat
  pt : Nat
  times : PwmTimes
  cmds : Vector SwCmd 12
  applied : Vector Word 3
  ilkOff : BitVec 12
  negBranch : Vector Bool 3
  age : Vector Nat 12
  refCount : Vector Nat 12
  refreshed : BitVec 12
  refNext : BitVec 12
  refHead : BitVec 12
  runs : Vector Nat 12
  natural : BitVec 12
  legs : Vector LegState 3
  unreleased : BitVec 3
  legOffAt : Option Nat
  legLate : BitVec 12
  driving : Bool
  resume : Bool
  lag : BitVec 12
  seqOn : Bool
  judges : Bool
  held : BitVec 12
  soft : BitVec 12
  frozen : BitVec 12
  other : BitVec 12
  late : BitVec 12
  window : Option (BitVec 12)
  blanked : BitVec 12
  uvTimes : List Nat
  brakeOn : Bool
  brakeHold : Bool
  brakeEnd : Nat
  events : BitVec 5
  deriving DecidableEq, Repr

/-! ## Clocks (09_clocking.md) -/

/-- Where a lock stands (R282, R283): none under way, band search, lock windows, or locked and calibrating before the
first tick. -/
inductive LockPhase where
  | idle
  | search
  | windows
  | calibrate
  deriving DecidableEq, Repr

/-- What a lock under way will end in: ticks resume in HALT (a relock), or a channel start from OFF, after a per-channel
reset, or after a REPAIR load (R111, R283, R496, R522). -/
inductive StartKind where
  | relock
  | fromOff
  | reset
  | repair
  deriving DecidableEq, Repr

/-- A ramp segment: target in 0.01 ppm, slope in 0.1 ppm/µs (R288, R302). -/
structure Segment where
  tgt : Int
  slope : Nat
  deriving DecidableEq, Repr

/-- A channel's PLL and ramp generator (R280 to R293): the settings in effect at the last lock, the lock under way, the
consecutive missing edges, the profile in the generator (present segment first), and whether the period word is to be held
(R57). `since`: the time of the tick, in 2^-16 reference cycles, for which PLL_OFS stands; `area`: the offset integrated
over the present lock window (R282, R290), in 2^-16 reference cycles times 0.01 ppm. -/
structure Pll where
  nint : Nat
  frac : Nat
  post : Nat
  auto : Bool
  fnom : Nat
  phase : LockPhase
  start : StartKind
  good : Nat
  missing : Nat
  profile : List Segment
  pwHold : Bool
  since : Nat
  area : Int
  deriving DecidableEq, Repr

/-! ## The redundant pair (10_redundant_pair.md) -/

/-- A claim of the LEASH under way (R322 to R324): the check of an ARMED channel, the claim of a PRIO 1 unit after
INVALID, either of them past its time and awaiting the boundary, or a host's claim in HALT. -/
inductive Claim where
  | check
  | forced
  | ready
  | host
  deriving DecidableEq, Repr

/-- The standby's own values of a tick (R311, R327): applied legs, ω, E, and the law's states in the order of the mirror
list, both pages. -/
structure OwnTick where
  legs : Vector Word 3
  w : Word
  e : Word
  states : List Int
  refs : List (Int × Int)
  deriving DecidableEq, Repr

/-- A channel's part of the pair (R304 to R333). LEASH: whether this unit drives the wires and pulls LSH_A low, the claim
under way, whether the KENNEL enables the pads (R306), and whether the channel has been eligible since SHADOW (R321). The
mirror: the latest valid frame since SHADOW, its TICK, whether it has come in the present tick (`fresh`), the own ticks from
the one that it stands for to the present one (`back`) and the phase error that it showed in 0.25 ns (`err`, R61), whether
the acquisition step was made, the cycles that it inserts in the present tick (R62), the slope that the alignment loop
gives the clock and whether it moves it (R59, R63), the durations of the last ticks in 2^-16 reference cycles (newest
first), the runs of R64, the last own values (newest first), the UVN and TX last seen. HOUND: the run of failing comparisons, what the health period has
seen, the results and the tests done of the pass, and the reports since the last full pass. -/
structure PairCh where
  drive : Bool
  aLow : Bool
  claim : Option Claim
  padsEn : Bool
  eligible : Bool
  frame : Option (List Word)
  lastTick : Option (BitVec 16)
  mode : Option (BitVec 4)
  fresh : Bool
  back : Nat
  err : Int
  acquired : Bool
  insert : Nat
  slope : Int
  moving : Bool
  spans : List Nat
  good : Nat
  badErr : Nat
  noFrame : Nat
  own : List OwnTick
  uvn : Nat
  peerTx : Bool
  failRun : Nat
  diverge : Bool
  failed : Bool
  framesIn : Bool
  results : BitVec 4
  done : BitVec 4
  reports : Nat
  disarm : Bool
  deriving DecidableEq, Repr

/-- The mirror link (R307 to R316): the last state frame and heartbeat handed to it, the heartbeat number, the last valid
heartbeat received, the partner's layout identities, whether a device give-up is in effect, and the PRIO pin. -/
structure Link where
  sentFrame : List Word
  sentHb : List Word
  seq : Nat
  heard : List Word
  mlids : List (BitVec 16)
  giveUp : Bool
  deriving DecidableEq, Repr

/-! ## Safety functions (11_safety_functions.md) -/

/-- A contactor as the safety engines watch it (R351, R352): its settle time runs, it is confirmed in its commanded state,
its feedback has been consistent for KDEB. -/
structure Contactor where
  settling : Bool
  confirmed : Bool
  clean : Bool
  deriving DecidableEq, Repr

/-- A channel's part of the safety engines (R345 to R352): each engine's count of differing samples, the count at which the
running disagreement has latched (0: not yet), whether both inputs have demanded since the discrepancy latched, the acknowledgement of contactor faults, the contactors, and each engine's
permits (gates, K1, K2). -/
structure SafCh where
  discA : Nat
  discB : Nat
  discAt : Nat
  sawBoth : Bool
  contAck : Bool
  k1 : Contactor
  k2 : Contactor
  permA : BitVec 3
  permB : BitVec 3
  deriving DecidableEq, Repr

/-- The safety engines' common part (R343, R354 to R361): the words of the host frame and the frame submitted, the
watchdog's expectation, the times of class-1 frames, the strobes with differing or missing results, a check value that
differed, an oscillator found off, whether the check value is to be computed, and the device frame's number. -/
structure Saf where
  rxf : Vector Word 8
  taken : Option (Vector Word 8)
  wdt : Nat
  badTimes : List Nat
  diffRun : Nat
  deafRun : Nat
  chkDiff : Bool
  chkDue : Bool
  txSeq : Nat
  deriving DecidableEq, Repr

/-! ## The KENNEL (12_kennel.md) -/

/-- What an accessor of the last-word bank has copied (R389). -/
structure LwCopy where
  idx : BitVec 5
  valid : Bool
  words : Vector Word 4
  deriving DecidableEq, Repr

/-- The KENNEL (R374 to R395): powered; whether the rest of the device is out of reset, and whether its boot has begun;
the retained contents (bank, newest first, sequence number, boot count) and KNL_TIME in kennel cycles; the sources of
SAFE_N that no register shows; the host watchdog's run and its timeout; the refresh inputs seen since the reset release;
KNL_LWD and the copies by accessor (host contexts 0 to 3, then the port), the times of the last commits; and the bytes
that the port has answered last. -/
structure Kennel where
  powered : Bool
  up : Bool
  boot : Bool
  bank : List (Vector Word 4)
  lwSeq : Nat
  boots : Word
  time : Nat
  snReset : Bool
  snWd : Bool
  snSet : Bool
  wdRun : Bool
  wdTo : Nat
  refA : Bool
  refB : Bool
  lwd : Vector Word 5
  copies : Vector LwCopy 5
  lwAtHost : Option Nat
  lwAtPort : Option Nat
  portOut : List Byte
  deriving DecidableEq, Repr

/-! ## Capture and trigger (13_capture_and_trigger.md) -/

/-- A segment of a set: free, in use by the set, or closed and unread (R406). -/
inductive SegSt where
  | free
  | open
  | unread
  deriving DecidableEq, Repr

/-- A trigger condition (R399, R400): consecutive true samples, a hit in the last sample, whether the opposite threshold
has been passed since the last edge, and the last values of x (newest first). -/
structure CapCond where
  run : Nat
  hit : Bool
  ready : Bool
  xs : List Int
  deriving DecidableEq, Repr

/-- What a record keeps of its trigger sample (R408). -/
structure CapTrig where
  mask : Nat
  time : Nat
  epoch : Nat
  tick : Nat
  mode : Nat
  phase : Nat
  prev : Nat
  prefull : Bool
  deriving DecidableEq, Repr

/-- A base sample as a hard fault finds it (R407): its row, its calendar time, tick and mode, and whether the set has stored
it as a row. -/
structure CapSample where
  row : List Word
  time : Nat
  epoch : Nat
  tick : Nat
  mode : Nat
  stored : Bool
  deriving DecidableEq, Repr

/-- A capture set (R398 to R410) beside its registers: conditions, a force that waits for the next base sample, the
segments and their records' numbers, whether it holds one, the next row, the valid pre-trigger rows, the post-trigger
rows stored and to be stored, the base samples to the next stored one and since the last, the trigger, the last base sample
of FILL or ARMED, whether an unread record was overwritten, onsets in the hold-off, segments awaiting post-processing, FAULT
events and whether a mode has been entered since the last base sample, and the posting count and the tick of that
sample. -/
structure CapSet where
  conds : Vector CapCond 16
  force : Bool
  segs : Vector SegSt 64
  segSeq : Vector Nat 64
  holds : Bool
  row : Nat
  prev : Nat
  post : Nat
  q : Nat
  dec : Nat
  since : Nat
  trig : Option CapTrig
  last : Option CapSample
  ovwr : Bool
  onsets : Nat
  pp : List (Fin 64)
  events : BitVec 7
  entered : Bool
  lastNum : Nat
  lastTick : Option Nat
  deriving DecidableEq, Repr

/-- A capture DMA descriptor (R411, R417). -/
structure DmaDesc where
  ctx : Ctx
  sel : Word
  lo : Word
  hi : Word
  deriving DecidableEq, Repr

/-- The capture DMA (R411): the staged descriptors by context, the queue, the copy that runs, and the last copy made: its
host address and words. -/
structure Dma where
  staged : Vector DmaDesc 4
  queue : List DmaDesc
  running : Option DmaDesc
  lastAddr : Nat
  lastData : List Word
  deriving DecidableEq, Repr

/-! ## Event recorder and calendar (14_event_recorder.md) -/

/-- The DATA field of a record, byte 0 in the lowest bits (R418). -/
abbrev RecData := BitVec 256

/-- A record, queued or in the ring (R418): `src` is SOURCE, `first` the time of the active reference at the first
occurrence, in ns. -/
structure RecRec where
  seq : Nat
  time : Nat
  epoch : Nat
  rep : Nat
  src : BitVec 16
  code : BitVec 16
  sev : BitVec 8
  flags : BitVec 8
  tlast : Nat
  data : RecData
  first : Nat
  deriving DecidableEq, Repr

/-- The recorder (R421 to R436): the newest and oldest SEQ, the first SEQ since the start, the ring by slot and its slots
with an uncorrectable error, the queue (oldest first), dropped requests not yet reported, whether a store has answered the
start search, the batch being written (first SEQ, length), a probe under way, and the words fetched from the store. -/
structure Recorder where
  seq : Nat
  old : Nat
  base : Nat
  bad : List Nat
  answers : Bool
  ring : List (Nat × RecRec)
  queue : List RecRec
  drops : Nat
  batch : Option (Nat × Nat)
  probing : Bool
  window : List Word
  deriving DecidableEq, Repr

/-- The calendar (R428 to R431): ns and their 32-bit fraction, a set that waits for a queue entry (new time, cause), the
time of the last accepted PPS edge, and the run of edges within 1 µs. -/
structure Calendar where
  ns : Nat
  frac : Nat
  waiting : Option (Nat × Nat)
  lastEdge : Option Nat
  good : Nat
  deriving DecidableEq, Repr

/-! ## Thermal sensing and protection (15_thermal.md) -/

/-- The sixteen die sensors (R443 to R445): consecutive readings without a failure, whether a reading has been taken, the
channels' trips and the central trip, and whether throttling pauses the background operations. -/
structure Die where
  good : Vector Nat 16
  seen : BitVec 16
  chTrip : BitVec 12
  cent : Bool
  paused : Bool
  deriving DecidableEq, Repr

/-- A channel's power-module model (R447 to R450): ΔT_j of each junction estimate and T_ref in 2^-32 °C, k in UQ1.31, and
the time at which it was frozen. -/
structure ThermalModel where
  dT : Vector (Vector Int 4) 12
  tref : Int
  k : Nat
  frozenAt : Option Nat
  deriving DecidableEq, Repr

/-! ## Host interface, groups and mirroring (16_host_interface.md) -/

/-- A write that waits for a tick boundary or is staged by a group (R32, R471): window offset, value, source, and for
ENG_CDAT the coefficient it names; for a GO or PLL_LEVEL the profile as it stood on arrival (R288). -/
structure ChanWrite where
  off : Nat
  v : Word
  src : WriteSrc
  coef : Option CoefRef
  prof : List Segment
  deriving DecidableEq, Repr

/-- A host context (R461, R462, R529): its four registers and the high word latched by its last read of a low word, with
the register and, for a channel register, the channel (16: a global register); and the device frame latched by its last
read of SAF_TXF0 (R359; empty: none). -/
structure CtxPort where
  chsel : Word
  stat : Word
  vaddr : Word
  cnt : Word
  latch : Option (Nat × Nat × Word)
  txf : List Word
  deriving DecidableEq, Repr

/-- A read of ENG_DDAT that waits for its engine's TEND (R138). -/
structure DdatRead where
  ctx : Ctx
  ch : ChId
  eng : Eng
  addr : BitVec 11
  deriving DecidableEq, Repr

/-- The host port: the contexts; what the last read was answered (a word for each word requested; Unsupported Request in
D3hot), the quad-SPI target's last answer after 0xA5; the reads that wait; the interrupt messages sent by vector; and the
MSI-X table and pending bits (R458, R470). -/
structure HostPort where
  ctxs : Vector CtxPort 4
  rdata : List Word
  unsupported : Bool
  qspi : List Byte
  waiting : List DdatRead
  msgs : Vector Nat 24
  msix : List (Nat × Word)
  pba : BitVec 24
  deriving DecidableEq, Repr

/-- A group (R471 to R474): the staged writes in staging order, and once committed the commit instant in ns of the active
reference and the members that await their boundary. -/
structure Group where
  staged : List (ChId × ChanWrite)
  commitAt : Option Nat
  waiting : BitVec 12
  deriving DecidableEq, Repr

/-- A mirrored write sent and not yet answered (R476, R477). -/
structure MirPacket where
  w : MirWrite
  resync : Bool
  deriving DecidableEq, Repr

/-- Write mirroring (R475 to R477): the packets sent, oldest first; the next number; the resynchronisations in which a
packet has failed; and what this unit answers the partner: number, applied, reason. -/
structure Mirror where
  queue : List MirPacket
  next : Nat
  failed : BitVec 12
  answers : List (Nat × Bool × Nat)
  deriving DecidableEq, Repr

/-! ## Images, parameters and non-volatile stores (17_configuration_image.md) -/

/-- A channel's parameter record (R502): SECTID, register values, and coefficients by engine. -/
structure ParamRec where
  ident : BitVec 64
  regs : List (Nat × Word)
  fe : List (Nat × Word × BitVec 6)
  me : List (Nat × Word × BitVec 6)
  deriving DecidableEq, Repr

/-- A bank of the parameter store (R501): committed with a good CRC, GEN, the channel records, the safety set with its
confirmed check value. -/
structure ParBank where
  commit : Bool
  gen : Nat
  recs : Vector (Option ParamRec) 12
  safety : Option (List Word × Word)
  deriving DecidableEq, Repr

/-- An image, or its staged parts, as verification finds it (R486, R487): the ERR code of the first failing check but for the
key slot's state, or 0; its length and the first bytes of its header's SHA-256 (R498), the build identity, the key slot, the SHA-256 of the public key, the PAIR flag, the digest of the
global section, the global registers that it sets, and the section of each present channel. -/
structure ImageView where
  err : BitVec 4
  len : Nat
  hdig : BitVec 64
  build : BitVec 64
  keySlot : BitVec 2
  keyHash : BitVec 256
  pair : Bool
  gdigest : BitVec 256
  gregs : List (BitVec 18 × Word)
  sections : List (ChId × Section)
  deriving DecidableEq, Repr

/-- A slot of the boot flash: the bytes of its record, and the image behind them (R498). -/
structure FlashSlot where
  record : List Byte
  image : Option ImageView
  deriving DecidableEq, Repr

/-- A fuse slot (R488). -/
structure FuseSlot where
  hash : Option (BitVec 256)
  revoked : Bool
  deriving DecidableEq, Repr

/-- A record as the persistent event store holds it, with its status byte (R432, R433). -/
structure StoreRec where
  rcd : RecRec
  st : Byte
  deriving DecidableEq, Repr

/-- What survives every reset: the event store with its number of slots, its head and the newest persisted SEQ (R432 to
R436), the parameter store, the boot flash and the fuses. `confirm`: the check value that the parameter store confirms, awaiting the start-up
check (R363). -/
structure Store where
  mram : List (Nat × StoreRec)
  size : Nat
  head : Nat
  pseq : Nat
  confirm : Option Word
  parOk : Bool
  par : Vector ParBank 2
  flashOk : Bool
  slots : Vector FlashSlot 2
  fuses : Vector FuseSlot 4
  deriving DecidableEq, Repr

/-- A parameter save (R504): the channels whose snapshot is still due, the snapshots taken, and a confirmed safety set. -/
structure SaveJob where
  due : BitVec 12
  snaps : List (ChId × ParamRec)
  safety : Option (List Word × Word)
  deriving DecidableEq, Repr

/-- The image loader (R490 to R505): the slots that the boot has still to try, first to try first; the words received of a
host delivery, newest first; the slot that an operation reads or writes; the staged section; the running image; the fuse
operation (slot, revoke); the failures of the present flash operation; the save that runs and those that wait; the
IMG_CTL.OP of the operation that runs and whether its data come by DMA (R492); whether the channel starts that the running
image began are still under way (R491). -/
structure Loader where
  boot : List (Fin 2)
  got : List Word
  slot : Fin 2
  staged : Option (ChId × Section)
  image : Option ImageView
  fuse : Option (Fin 4 × Bool)
  retries : Nat
  save : Option SaveJob
  queued : List SaveJob
  op : Nat
  dma : Bool
  booting : Bool
  deriving DecidableEq, Repr

/-! ## The whole machine -/

/-- The reference activity windows in a row that were good, by input (R278). -/
structure RefWindows where
  goodA : Nat
  goodB : Nat
  deriving DecidableEq, Repr

/-- The model's clock: ns counted on the active reference (log 21). -/
structure Time where
  refNs : Nat
  deriving DecidableEq, Repr

/-- Straps and banks (R518, R542, R544): whether the straps are to be sampled at the next release, the test reset, and the
voltage class of each VDD_IO bank (CH00 to CH11, HOST, GLB, KNL; true: 3.3 V). -/
structure Pins where
  straps : Bool
  testReset : Bool
  classes : Vector (Option Bool) 15
  deriving DecidableEq, Repr

/-- The duty words as written, as taken at DUTY_DONE, and whether DUTY_DONE has been executed in this tick (R125). -/
structure Duty where
  words : Vector Word 12
  loaded : Vector Word 12
  done : Bool
  deriving DecidableEq, Repr

/-- A channel: its registers in effect, the writes that wait, the engines, and each unit's own state. `sp`, `spNext`: the
set-point slots of the FE and the ME's staging copy (R124); `fab`: the latest word of each quantity (R24); `posts`: the
count of postings; `latchPosts`: that count at the last latch; `latched`: the sample chain's words as latched (R33); `periods`: the durations of the last ticks, newest
first (R56); `tags`: by law slot (R164); `img`: the section it has started with; `banks`: the section memory (R489). -/
structure Chan where
  regs : List (Nat × Word)
  writes : List ChanWrite
  fe : Engine
  me : Engine
  inputs : Vector Input 16
  fab : List (Nat × FabWord)
  posts : Nat
  latchPosts : Nat
  latched : List FabWord
  tick : Nat
  periods : List Nat
  sp : Vector Word 16
  spNext : Vector Word 16
  duty : Duty
  ctl : ModeCtl
  tags : Vector TagCount 64
  law : LawState
  pack : Pack
  pwm : Pwm
  pll : Pll
  pair : PairCh
  saf : SafCh
  cap : Vector CapSet 4
  tmod : ThermalModel
  img : Option Section
  banks : Vector (Option Section) 2
  deriving DecidableEq, Repr

/-- The SX12. `pending`: the commands that wait, first in, first out; `free`: the model's own count of the free values
drawn (log 1). -/
structure State where
  pending : List Instr
  free : Nat
  time : Time
  g : List (Nat × Word)
  ch : Vector Chan 12
  host : HostPort
  grp : Group
  mir : Mirror
  clk : RefWindows
  link : Link
  saf : Saf
  knl : Kennel
  sram : List (Nat × Word)
  dma : Dma
  rcd : Recorder
  cal : Calendar
  die : Die
  ldr : Loader
  store : Store
  pins : Pins
  deriving DecidableEq, Repr

/-! ## Why a step can stop -/

/-- Faults: behaviours to which the spec gives no effect. -/
inductive Fault where
  /-- CALL with eight calls open, LOOP with two loops open, or RET with none: the Builder refuses such a program and the
  engine relies on it (R110, R121). Raised by CALL, LOOP and RET. Safe: the model stops where the hardware goes on in some
  way that the spec does not give. -/
  | engineStackRule
  deriving DecidableEq, Repr

/-- Refusals: commands without a meaning. -/
inductive Refusal where
  /-- Raised by a refused arm of the dispatch for a command not modelled. Safe. -/
  | notModelled (mnemonic : String)
  deriving DecidableEq, Repr

/-- What a command answers. -/
abbrev Result := Host.Outcome State Fault Refusal

/-! ## Reset -/

def Engine.reset : Engine where
  v := Vector.replicate 32 0
  acc0 := 0
  acc1 := 0
  fl := ⟨false, false, false, false, false, false, false⟩
  prog := []
  data := []
  atEnd := []
  coef := []
  pc := 0
  loops := []
  calls := []
  run := .idle
  cycle := 0
  fst := false
  fstNext := true
  slots := Vector.replicate 64 ⟨0, 0, 0⟩
  slotMap := []
  mail := Vector.replicate 4 none
  eventSent := false
  track := 0
  staged := []
  scrub := 0
  ce := 0

def Input.reset : Input where
  bits := []
  bank0 := []
  bank1 := []
  delay := []
  clamps := []
  run := 0
  fade := none
  e := 0
  alpha := 0
  frac := 31
  decCount := 0
  phaseOpen := true
  out := none
  settle := 0
  subst := false
  lastGood := 0
  posted := false
  recovered := false
  lossAt := none
  fastBits := []
  fastHi := 0
  fastLo := 0
  fastHold := .notStarted
  skewArmed := false

def ModeCtl.reset : ModeCtl where
  preRun := 0
  bsCheck := false
  deadRun := 0
  liveRun := 0
  ramp := 0
  dwell := 0
  matched := 0
  preFail := false
  rsyTimeout := false
  rideReturn := false
  busLive := false
  releasing := false
  testDone := false
  blendLen := 0
  df := 0
  dv := 0
  dth := 0
  starting := false

def LawState.reset : LawState where
  on := false
  seps := Vector.replicate 4 ⟨(0, 0), (0, 0)⟩
  xPll := 0
  vz := (0, 0)
  iv := (0, 0)
  iLim := (0, 0)
  inRef := (0, 0)
  vNeg := (0, 0)
  mb := 0
  follow := (0, 0)
  followNext := (0, 0)
  steer := (0, 0)
  pf := 0
  qf := 0
  w := 0
  wd := 0
  pm := 0
  ee := 0
  theta := 0
  wPll := 0
  thPll := 0
  xv := (0, 0)
  xi := (0, 0)
  xvn := (0, 0)
  xin := (0, 0)
  sumP := 0
  sumQ := 0
  sumN := 0
  pAvg := 0
  qAvg := 0
  vcRef := (0, 0)
  ilRef := (0, 0)
  vRef := (0, 0)
  ip := 0
  iq := 0
  pmHeld := 0
  eHeld := 0
  delta := (0, 0)
  good := []
  relRun := 0
  status := 0

def Finger.reset : Finger := ⟨.free, 0, 0, 0, 0, 0, 0, false, 0, 0, false, 0, false, 0, false, 15, 0, 0, 0⟩

def DupTrack.reset : DupTrack := ⟨0, 0, 0, 0, 0, [], [], [], none⟩

def Pack.reset : Pack where
  chip := 0
  chipAt := 0
  frame := 0
  order := 0
  d := 0
  dNext := 0
  plain := false
  stopAtChip := false
  leaving := 0
  periodEnd := false
  frameEnd := false
  consensusDue := false
  newPhase := none
  window := none
  ownLow := 0
  ownHigh := 0
  scan := 0
  tgt := 0
  ests := []
  chipBad := false
  dup := DupTrack.reset
  enabled := false
  fingers := Vector.replicate 64 Finger.reset
  peerCopy := Vector.replicate 4 (0, 0xF0000000)

def Pwm.reset : Pwm where
  started := false
  updAt := 0
  h := 0
  pt := 0x40000000
  times := ⟨0, 0, 0, 0, 0, 0, 0, Vector.replicate 12 0, 0, 0, 0⟩
  cmds := Vector.replicate 12 ⟨false, 0⟩
  applied := Vector.replicate 3 0
  ilkOff := 0
  negBranch := Vector.replicate 3 false
  age := Vector.replicate 12 0
  refCount := Vector.replicate 12 0
  refreshed := 0
  refNext := 0
  refHead := 0
  runs := Vector.replicate 12 0
  natural := 0
  legs := Vector.replicate 3 .on
  unreleased := 0
  legOffAt := none
  legLate := 0
  driving := false
  resume := false
  lag := 0
  seqOn := false
  judges := false
  held := 0
  soft := 0
  frozen := 0
  other := 0
  late := 0
  window := none
  blanked := 0
  uvTimes := []
  brakeOn := false
  brakeHold := false
  brakeEnd := 0
  events := 0

def Pll.reset : Pll := ⟨0, 0, 0, false, 25000, .idle, .fromOff, 0, 0, [], false, 0, 0⟩

def PairCh.reset : PairCh where
  drive := false
  aLow := false
  claim := none
  padsEn := false
  eligible := false
  frame := none
  lastTick := none
  mode := none
  fresh := false
  back := 0
  err := 0
  acquired := false
  insert := 0
  slope := 0
  moving := false
  spans := []
  good := 0
  badErr := 0
  noFrame := 0
  own := []
  uvn := 0
  peerTx := false
  failRun := 0
  diverge := false
  failed := false
  framesIn := false
  results := 0
  done := 0
  reports := 0
  disarm := false

def SafCh.reset : SafCh := ⟨0, 0, 0, false, false, ⟨false, true, true⟩, ⟨false, true, true⟩, 0, 0⟩

/-- A condition that remembers nothing (log 73). -/
def CapCond.blank : CapCond := ⟨0, false, false, []⟩

def CapSet.reset : CapSet where
  conds := Vector.replicate 16 CapCond.blank
  force := false
  segs := Vector.replicate 64 .free
  segSeq := Vector.replicate 64 0
  holds := false
  row := 0
  prev := 0
  post := 0
  q := 0
  dec := 0
  since := 0
  trig := none
  last := none
  ovwr := false
  onsets := 0
  pp := []
  events := 0
  entered := false
  lastNum := 0
  lastTick := none

def ThermalModel.reset : ThermalModel := ⟨Vector.replicate 12 (Vector.replicate 4 0), 0, 2 ^ 31, none⟩

/-- A channel after a power-on reset: in OFF, every register at its index value (R527). -/
def Chan.reset : Chan where
  regs := []
  writes := []
  fe := Engine.reset
  me := Engine.reset
  inputs := Vector.replicate 16 Input.reset
  fab := []
  posts := 0
  latchPosts := 0
  latched := List.replicate 16 FabWord.blank
  tick := 0
  periods := []
  sp := Vector.replicate 16 0
  spNext := Vector.replicate 16 0
  duty := ⟨Vector.replicate 12 0, Vector.replicate 12 0, false⟩
  ctl := ModeCtl.reset
  tags := Vector.replicate 64 ⟨0, 0, 0⟩
  law := LawState.reset
  pack := Pack.reset
  pwm := Pwm.reset
  pll := Pll.reset
  pair := PairCh.reset
  saf := SafCh.reset
  cap := Vector.replicate 4 CapSet.reset
  tmod := ThermalModel.reset
  img := none
  banks := Vector.replicate 2 none

def CtxPort.reset : CtxPort := ⟨0, 0, 0, 0, none, []⟩

def HostPort.reset : HostPort := ⟨Vector.replicate 4 CtxPort.reset, [], false, [], [], Vector.replicate 24 0, [], 0⟩

/-- No group open (R520). -/
def Group.reset : Group := ⟨[], none, 0⟩

def Kennel.reset : Kennel where
  powered := true
  up := true
  boot := false
  bank := []
  lwSeq := 0
  boots := 0
  time := 0
  snReset := true
  snWd := false
  snSet := false
  wdRun := false
  wdTo := 1000
  refA := false
  refB := false
  lwd := Vector.replicate 5 0
  copies := Vector.replicate 5 ⟨0, false, Vector.replicate 4 0⟩
  lwAtHost := none
  lwAtPort := none
  portOut := []

def Store.reset : Store where
  mram := []
  size := 0
  head := 0
  pseq := 0
  confirm := none
  parOk := true
  par := Vector.replicate 2 ⟨false, 0, Vector.replicate 12 none, none⟩
  flashOk := true
  slots := Vector.replicate 2 ⟨List.replicate 32 0xFF, none⟩
  fuses := Vector.replicate 4 ⟨none, false⟩

def Loader.reset : Loader := ⟨[], [], 0, none, none, none, 0, none, [], 0, false, false⟩

/-- The machine right after a power-on reset (R9, R520): the KENNEL powered, the rest just released, every register at its
reset value, no command waiting. -/
def State.reset : State where
  pending := []
  free := 0
  time := ⟨0⟩
  g := []
  ch := Vector.replicate 12 Chan.reset
  host := HostPort.reset
  grp := Group.reset
  mir := ⟨[], 0, 0, []⟩
  clk := ⟨0, 0⟩
  link := ⟨[], [], 0, [], List.replicate 12 0, false⟩
  saf := ⟨Vector.replicate 8 0, none, 0, [], 0, 0, false, false, 0⟩
  knl := Kennel.reset
  sram := []
  dma := ⟨Vector.replicate 4 ⟨0, 0, 0, 0⟩, [], none, 0, []⟩
  rcd := ⟨0, 0, 0, [], false, [], [], 0, none, false, List.replicate 16 0⟩
  cal := ⟨0, 0, none, none, 0⟩
  die := ⟨Vector.replicate 16 0, 0, 0, false, false⟩
  ldr := Loader.reset
  store := Store.reset
  pins := ⟨true, false, Vector.replicate 15 none⟩

end Sys2Proof.Machine
end

