-- ==== Sys2Proof/Machine/Flags.lean ====
section
/-! DEFINITION. Machine/Flags.lean: the engines' condition flags and conditions (R117, R118), and narrowing with its
overflow flag (R115). -/

namespace Sys2Proof.Machine

/-- Rounding of R115: the exact value is `num / den` (`den` positive); nearest has ties toward +infinity. -/
def roundQuot (floorRm : Bool) (num : Int) (den : Nat) : Int :=
  if floorRm then num / (den : Int) else (2 * num + den) / ((2 * den : Nat) : Int)

/-- The range step to `w` bits of two's complement: wrap reduces modulo the range, saturate clamps (R113, R115). -/
def rangeStep (w : Nat) (wrap : Bool) (y : Int) : Int :=
  if wrap then (y + 2 ^ (w - 1)) % 2 ^ w - 2 ^ (w - 1)
  else min (max y (-2 ^ (w - 1))) (2 ^ (w - 1) - 1)

/-- `narrow` of R115 on the exact value `num / den`: the 32-bit result, and V (the range step changed the value). -/
def narrow (floorRm wrap : Bool) (num : Int) (den : Nat) : Word × Bool :=
  let y := roundQuot floorRm num den
  let r := rangeStep 32 wrap y
  (BitVec.ofInt 32 r, r != y)

/-- A value scaled by 2^e, as numerator and denominator. -/
def scaled (x : Int) (e : Int) : Int × Nat :=
  if 0 ≤ e then (x * 2 ^ e.toNat, 1) else (x, 2 ^ (-e).toNat)

/-- RM bit 0: floor; RM bit 1: wrap (R115). -/
def rmFloor (rm : BitVec 2) : Bool := rm.getLsbD 0

def rmWrap (rm : BitVec 2) : Bool := rm.getLsbD 1

/-- The conditions of R118. -/
def condHolds (f : Flags) (fst : Bool) (cc : BitVec 4) : Bool :=
  match cc.toNat with
  | 0 => true
  | 1 => f.z
  | 2 => !f.z
  | 3 => f.n
  | 4 => !f.n
  | 5 => !f.n && !f.z
  | 6 => f.n || f.z
  | 7 => f.v
  | 8 => !f.v
  | 9 => f.tu
  | 10 => f.ts
  | 11 => f.tt
  | 12 => f.tx
  | 13 => f.tu || f.ts || f.tt || f.tx
  | 14 => !(f.tu || f.ts || f.tt || f.tx)
  | _ => fst

/-- Z and N from a result, V as given (R117). -/
def Flags.ofResult (f : Flags) (r : Word) (v : Bool) : Flags := { f with z := r == 0, n := r.msb, v := v }

/-- TU, TS, TT and TX from the four tag bits of a fabric word (R24, R117). -/
def Flags.withTags (f : Flags) (tag : BitVec 4) : Flags :=
  { f with tu := tag.getLsbD 0, ts := tag.getLsbD 1, tt := tag.getLsbD 2, tx := tag.getLsbD 3 }

end Sys2Proof.Machine
end

