-- ==== Sys2Proof/Machine/Sparse.lean ====
section
/-! DEFINITION. Machine/Sparse.lean: sparse maps from addresses to cells, in one canonical form (addresses strictly rising, no
cell equal to what an unlisted address holds). Register files, engine memories, the record ring and the capture SRAM are held
so; equal contents are then equal data. -/

namespace Sys2Proof.Machine

/-- The cell at `k`; an unlisted address holds `dflt k`. -/
def sget {α : Type} (dflt : Nat → α) : List (Nat × α) → Nat → α
  | [], k => dflt k
  | (j, v) :: t, k => if k = j then v else sget dflt t k

/-- List the cell at `k`, in address order. -/
def sput {α : Type} (k : Nat) (v : α) : List (Nat × α) → List (Nat × α)
  | [] => [(k, v)]
  | (j, w) :: t => if k < j then (k, v) :: (j, w) :: t else if k = j then (k, v) :: t else (j, w) :: sput k v t

/-- Unlist the cell at `k`. -/
def sdel {α : Type} (k : Nat) : List (Nat × α) → List (Nat × α)
  | [] => []
  | (j, w) :: t => if k = j then sdel k t else (j, w) :: sdel k t

/-- Write the cell at `k`: the default value unlists it. -/
def sset {α : Type} [DecidableEq α] (dflt : Nat → α) (m : List (Nat × α)) (k : Nat) (v : α) : List (Nat × α) :=
  if v = dflt k then sdel k m else sput k v m

/-- The first address is above `lo`, the addresses rise strictly, and no listed cell is the default. -/
def swfFrom {α : Type} [DecidableEq α] (dflt : Nat → α) : Nat → List (Nat × α) → Bool
  | _, [] => true
  | lo, (j, v) :: t => decide (lo ≤ j) && !decide (v = dflt j) && swfFrom dflt (j + 1) t

/-- The canonical form. -/
def swf {α : Type} [DecidableEq α] (dflt : Nat → α) (m : List (Nat × α)) : Bool := swfFrom dflt 0 m

/-- Write consecutive cells from `k` on. -/
def ssetMany {α : Type} [DecidableEq α] (dflt : Nat → α) (m : List (Nat × α)) (k : Nat) : List α → List (Nat × α)
  | [] => m
  | v :: vs => ssetMany dflt (sset dflt m k v) (k + 1) vs

end Sys2Proof.Machine
end

