-- ==== Sys2Proof/Machine/Operands.lean ====
section
/-! DEFINITION. Machine/Operands.lean: the operand forms of the engines' instructions: value registers, accumulators, data
and coefficient memory (R110, R112 to R114, R130). -/

namespace Sys2Proof.Machine

/-- The coefficient an unused index reads as (R130). -/
def Coef.unused : Coef := ⟨0, 0, 0, 63⟩

def Engine.rv (e : Engine) (r : VReg) : Word := e.v[r]

def Engine.wv (e : Engine) (r : VReg) (x : Word) : Engine := { e with v := e.v.set r x }

def Engine.acc (e : Engine) (ac : Bool) : BitVec 72 := if ac then e.acc1 else e.acc0

def Engine.setAcc (e : Engine) (ac : Bool) (x : BitVec 72) : Engine :=
  if ac then { e with acc1 := x } else { e with acc0 := x }

def Engine.getData (e : Engine) (a : Nat) : Word := sget (fun _ => 0) e.data a

def Engine.setData (e : Engine) (a : Nat) (x : Word) : Engine := { e with data := sset (fun _ => 0) e.data a x }

def Engine.getCoef (e : Engine) (k : Nat) : Coef := sget (fun _ => Coef.unused) e.coef k

def Engine.setCoef (e : Engine) (k : Nat) (c : Coef) : Engine :=
  { e with coef := sset (fun _ => Coef.unused) e.coef k c }

/-- Saturation mode 1 wraps; 0, 2 and the reserved 3 saturate (R113). -/
def Coef.wraps (c : Coef) : Bool := c.sat == 1

/-- Saturation mode 2 reports a clamp (R113). -/
def Coef.reports (c : Coef) : Bool := c.sat == 2

/-- The address of LDX and STX: (X[10:0] + M) mod 2,048 (R120). -/
def indexedAddr (x : Word) (m : BitVec 11) : Nat := (x.toNat % 2048 + m.toNat) % 2048

/-- An accumulator range step: the 72-bit value and whether it changed (R114). -/
def accRange (wrap : Bool) (y : Int) : Int × Bool :=
  let r := rangeStep 72 wrap y
  (r, r != y)

/-- The term X × C × 2^k, rounded toward −infinity at the accumulator's lsb for k < 0 (R114), before its range step. -/
def coefTerm (x : Word) (c : Coef) : Int :=
  let p := x.toInt * c.mant.toInt
  if 0 ≤ c.shift.toInt then p * 2 ^ c.shift.toInt.toNat else p / 2 ^ (-c.shift.toInt).toNat

/-- What a multiply-accumulate does: the new accumulator, V, and whether a reporting coefficient clamped. -/
structure MacResult where
  acc : BitVec 72
  v : Bool
  csat : Bool
  deriving DecidableEq, Repr

/-- A + t (or A − t): the term and the sum each take the range step of the coefficient's saturation mode (R114). -/
def macTerm (minus : Bool) (a : BitVec 72) (x : Word) (c : Coef) : MacResult :=
  let t := accRange c.wraps (coefTerm x c)
  let r := accRange c.wraps (if minus then a.toInt - t.1 else a.toInt + t.1)
  let v := t.2 || r.2
  ⟨BitVec.ofInt 72 r.1, v, v && c.reports⟩

/-- The product X × C × 2^(k−31) of MUL: rounding by RM, range by the coefficient's mode (R113, R115). -/
def mulCoef (rm : BitVec 2) (x : Word) (c : Coef) : Word × Bool :=
  let p := scaled (x.toInt * c.mant.toInt) (c.shift.toInt - 31)
  narrow (rmFloor rm) c.wraps p.1 p.2

/-- Integer square root, one result bit per unit of fuel, from the top. -/
def isqrtFrom : Nat → Nat → Nat → Nat
  | 0, _, r => r
  | i + 1, n, r => isqrtFrom i n (if (r + 2 ^ i) * (r + 2 ^ i) ≤ n then r + 2 ^ i else r)

/-- The integer square root of a number below 2^84. -/
def isqrt (n : Nat) : Nat := isqrtFrom 42 n 0

/-- X × 2^(31+E) / Y of DIV, with the results of division by zero (R120). -/
def divResult (rm : BitVec 2) (e : BitVec 5) (x y : Word) : Word × Bool :=
  if y = 0 then
    (if x = 0 then 0 else if x.msb then 0x80000000 else 0x7FFFFFFF, true)
  else
    let num := x.toInt * 2 ^ (31 + e.toInt).toNat
    narrow (rmFloor rm) (rmWrap rm) (if y.msb then -num else num) y.toInt.natAbs

/-- sqrt(X × 2^(31+E)) of SQRT, rounded on the exact root; 0 and V for X < 0 (R120). -/
def sqrtResult (rm : BitVec 2) (e : BitVec 5) (x : Word) : Word × Bool :=
  if x.msb then (0, true)
  else
    let n := x.toNat * 2 ^ (31 + e.toInt).toNat
    narrow true (rmWrap rm) (if rmFloor rm then isqrt n else (isqrt (4 * n) + 1) / 2) 1

/-- ASH: narrow(X × 2^E) (R120). -/
def ashResult (rm : BitVec 2) (e : BitVec 5) (x : Word) : Word × Bool :=
  let p := scaled x.toInt e.toInt
  narrow (rmFloor rm) (rmWrap rm) p.1 p.2

/-- LSH: X shifted logically by E, left for E > 0 (R120). -/
def lshResult (e : BitVec 5) (x : Word) : Word :=
  if 0 ≤ e.toInt then x <<< e.toInt.toNat else x >>> (-e.toInt).toNat

/-- MULV: narrow(X × Y × 2^(E−31)) (R120). -/
def mulvResult (rm : BitVec 2) (e : BitVec 5) (x y : Word) : Word × Bool :=
  let p := scaled (x.toInt * y.toInt) (e.toInt - 31)
  narrow (rmFloor rm) (rmWrap rm) p.1 p.2

/-- EXT: narrow(A × 2^(E−31)) (R120). -/
def extResult (rm : BitVec 2) (e : BitVec 5) (a : BitVec 72) : Word × Bool :=
  let p := scaled a.toInt (e.toInt - 31)
  narrow (rmFloor rm) (rmWrap rm) p.1 p.2

end Sys2Proof.Machine
end

