-- ==== Sys2Proof/Config.lean ====
section
/-! DEFINITION. Config.lean: the values the spec leaves open. Each is a constant without a body, so that no proof can see
what it is: a statement about a free value holds whatever the value is. They are applied to the state's plain counter of
drawn values, or to the operands they depend on (the assumption log names each use). -/

namespace Sys2Proof

/-- A word the spec leaves open, for each drawing (log 1). -/
opaque Config.freeWord : Nat → Word

/-- A number the spec leaves open, for each drawing (log 1). -/
opaque Config.freeNat : Nat → Nat

/-- A choice the spec leaves open, for each drawing (log 1). -/
opaque Config.freeBool : Nat → Bool

/-- Whether a computed value that falls between two steps of its register is taken up to the upper step, where the spec
gives the exact value and no rounding: by the quantity (`site`), the numerator and the denominator (log 2). -/
opaque Config.roundsUp : (site num den : Nat) → Bool

/-- The error of a sinc output in 2^-31, whose bound alone the spec gives (R74), by the order, the ratio and the trimmed
bits it sums, in sixteenths; taken modulo 255 and less 127, so that it lies below 2^-24 (log 6). -/
opaque Config.sincError : (order osr : Nat) → List Int → Nat

/-- The high-passed value of a chip of a code period, from the period's estimates in order: the filter is not given (R217;
log 65). -/
opaque Config.packFilter : List (Option Int) → (chip : Nat) → Int

/-- The word of quantity 0xBC for a correlation: its scale is not given (R217, R230; log 65). -/
opaque Config.packAmplitude : Int → Word

/-- What a loop or a filter of the reference law adds for which the spec gives no equation, by the term and the values that
it uses (log 4). -/
opaque Config.lawTerm : (site : Nat) → List Int → Int

/-- The word in which the image's mirror list carries a state of the reference law (R309, R313: the format is the
image's), by its place in the list and the value in 2^-30 (log 41). -/
opaque Config.mirrorWord : (place : Nat) → Int → Word

/-- The value in 2^-30 that a word of the mirror list stands for (R311, R313; log 41). -/
opaque Config.mirrorValue : (place : Nat) → Word → Int

/-- The correction that the alignment loop of a standby makes for a phase error in 0.25 ns, in 0.01 ppm of the channel
clock: the loop's law is not given (R63; log 34). -/
opaque Config.alignStep : (err : Int) → Int

/-- The severity of the record of a host protocol violation, which the spec does not give, by its cause (R478; log 5). -/
opaque Config.violationSev : (cause : Nat) → Nat

end Sys2Proof
end

