-- ==== Sys2Proof/Machine/Real.lean ====
section
/-! DEFINITION. Machine/Real.lean: the real functions that the spec's equations use (exponentials, sines, cosines, angles,
square roots), in fixed point: each is evaluated by its series to far more digits than any register holds, then taken to
its grid. Whether a value between two steps of a grid falls on the lower or the upper one is open (log 2, log 3, log 8). -/

namespace Sys2Proof.Machine

/-- A quotient rounded up. -/
def ceilDiv (a b : Nat) : Nat := (a + b - 1) / b

/-- A value between two steps of its register, rounded as the hardware rounds it, which the spec leaves open (log 2):
exact multiples are themselves. -/
def quantFloor (site : Nat) (num : Int) (den : Nat) : Int :=
  if den = 0 then 0
  else if num % (den : Int) = 0 then num / (den : Int)
  else if Config.roundsUp site num.natAbs den then num / (den : Int) + 1 else num / (den : Int)

/-- The unit of the series: 2^96. -/
def realOne : Int := 2 ^ 96

/-- π in 2^-96. -/
def realPi : Int := 0x3243F6A8885A308D313198A2E

/-! ## The exponential -/

/-- The series of exp(-y) from its term n downward, y in 2^-96. -/
def expSeries (y : Int) : Nat → Int → Int
  | 0, t => t
  | n + 1, t => expSeries y n (realOne - y * t / (realOne * ((n : Int) + 1)))

/-- A number in 2^-96 squared n times. -/
def squared : Nat → Int → Int
  | 0, t => t
  | n + 1, t => squared n (t * t / realOne)

/-- exp(-y) in 2^-96, for y in 2^-96, not negative. -/
def expNeg (y : Nat) : Int :=
  if 128 * realOne ≤ (y : Int) then 0 else squared 10 (expSeries ((y : Int) / 1024) 20 realOne)

/-! ## Sine and cosine -/

/-- The series of cos x, from its term n downward; `q` is x squared, in 2^-96. -/
def cosSeries (q : Int) : Nat → Int → Int
  | 0, t => t
  | n + 1, t => cosSeries q n (realOne - q * t / (realOne * ((2 * (n : Int) + 1) * (2 * n + 2))))

/-- The series of sin x / x, from its term n downward. -/
def sinSeries (q : Int) : Nat → Int → Int
  | 0, t => t
  | n + 1, t => sinSeries q n (realOne - q * t / (realOne * ((2 * (n : Int) + 2) * (2 * n + 3))))

/-- An angle in 2^-31 of π, wrapped to −π ≤ θ < π. -/
def wrapPi (x : Int) : Int := (x + 2 ^ 31) % 2 ^ 32 - 2 ^ 31

/-- An angle in 2^-31 of π as radians in 2^-96, at most a quarter turn, by reflection about the vertical: `flip` says that
the cosine changes its sign. -/
def toQuarter (a : Int) : Int × Bool :=
  let w := wrapPi a
  if 2 ^ 30 < w then ((2 ^ 31 - w) * realPi / 2 ^ 31, true)
  else if w < -2 ^ 30 then ((-(2 ^ 31) - w) * realPi / 2 ^ 31, true)
  else (w * realPi / 2 ^ 31, false)

/-- cos of an angle in 2^-31 of π, in 2^-96. -/
def cosReal (a : Int) : Int :=
  let x := toQuarter a
  let c := cosSeries (x.1 * x.1 / realOne) 16 realOne
  if x.2 then -c else c

/-- sin of an angle in 2^-31 of π, in 2^-96. -/
def sinReal (a : Int) : Int :=
  let x := (toQuarter a).1
  x * sinSeries (x * x / realOne) 16 realOne / realOne

/-- A cosine or sine in 2^-30; at the multiples of a quarter turn it is exact. -/
def trig30 (site : Nat) (a : Int) (exact : Int) (v : Int) : Int :=
  if wrapPi a % 2 ^ 30 = 0 then exact else quantFloor site v (2 ^ 66)

/-- The cosine in 2^-30 of an angle in 2^-31 of π (R146 to R157; log 8). -/
def cosPi (a : Int) : Int :=
  trig30 70 a (if wrapPi a = 0 then 2 ^ 30 else if wrapPi a = -2 ^ 31 then -2 ^ 30 else 0) (cosReal a)

/-- The sine in 2^-30 of an angle in 2^-31 of π (log 8). -/
def sinPi (a : Int) : Int :=
  trig30 71 a (if wrapPi a = 2 ^ 30 then 2 ^ 30 else if wrapPi a = -2 ^ 30 then -2 ^ 30 else 0) (sinReal a)

/-! ## The angle of a vector -/

/-- The largest angle from `acc` upward, bit by bit, that does not pass the vector (x, y), which lies in the upper half
plane. -/
def angleFrom (x y : Int) : Nat → Int → Int
  | 0, acc => acc
  | n + 1, acc =>
    let a := acc + 2 ^ n
    angleFrom x y n (if sinReal a * x ≤ cosReal a * y then a else acc)

/-- The angle of a vector above the horizontal axis, in 2^-31 of π: exact at the multiples of an eighth turn. -/
def angleUp (x y : Int) : Int :=
  if x = 0 then 2 ^ 30
  else if x = y then 2 ^ 29
  else if x = -y then 3 * 2 ^ 29
  else
    let a := angleFrom x y 31 0
    if Config.roundsUp 72 (2 ^ 31 * x.natAbs) y.natAbs then a + 1 else a

/-- The angle in 2^-31 of π of a vector, in −π ≤ θ < π; of the zero vector 0 (R146; log 8). -/
def anglePi (x y : Int) : Int :=
  if y = 0 then (if x < 0 then -2 ^ 31 else 0)
  else if 0 < y then wrapPi (angleUp x y)
  else wrapPi (-angleUp x (-y))

/-! ## Square roots -/

/-- The root of n, one result bit per unit of fuel, from the top. -/
def sqrtFrom : Nat → Nat → Nat → Nat
  | 0, _, r => r
  | i + 1, n, r => sqrtFrom i n (if (r + 2 ^ i) * (r + 2 ^ i) ≤ n then r + 2 ^ i else r)

/-- The integer square root. -/
def sqrtFloor (n : Nat) : Nat := sqrtFrom (Nat.log2 n / 2 + 1) n 0

/-- The root of `num / den`, between two steps rounded as the hardware rounds it (log 2). -/
def rootOf (site num den : Nat) : Nat :=
  let r := sqrtFloor (num / max 1 den)
  if r * r * den = num then r else if Config.roundsUp site num den then r + 1 else r

end Sys2Proof.Machine
end

