-- ==== Sys2Proof/Machine/RegMap.lean ====
section
/-! DEFINITION. Machine/RegMap.lean: where every register of the SX12 lies and how its bits are accessed, copied from the
index tables (19_register_map.md R532, R536; R166, R207, R208, R455) and the field layouts of the home chapters. A channel
register is named by its context-window offset, a global one by its BAR0 offset; `Reg.X i` is the i-th of an array. -/


namespace Sys2Proof.Machine

/-- A field of a register: its lowest bit and its width. -/
structure BitField where
  lo : Nat
  width : Nat
  deriving DecidableEq, Repr

/-- One row of the register index: the word at `base + s1 * i + s2 * j` for `i < n1`, `j < n2`, its whole-word reset
value, and the bits of each access code of R10 (a reserved bit is in none). `counter`: a counter register (R528). -/
structure RegRow where
  base : Nat
  n1 : Nat
  s1 : Nat
  n2 : Nat
  s2 : Nat
  reset : Nat
  ro : Nat
  rw : Nat
  rwl : Nat
  wo : Nat
  w1c : Nat
  rws : Nat
  counter : Bool
  deriving DecidableEq, Repr

/-! ## Offsets -/

/-- GID (global, R530). -/
abbrev Reg.GID : Nat := 0x0

/-- GREV (global, R531). -/
abbrev Reg.GREV : Nat := 0x4

/-- GSTAT (global, R38). -/
abbrev Reg.GSTAT : Nat := 0x10

/-- REF_CFG (global, R298). -/
abbrev Reg.REF_CFG : Nat := 0x40

/-- REF_STAT (global, R298). -/
abbrev Reg.REF_STAT : Nat := 0x44

/-- CHRST (global, R521). -/
abbrev Reg.CHRST : Nat := 0x60

/-- THM_CFG (global, R453). -/
abbrev Reg.THM_CFG : Nat := 0x100

/-- THM_STAT (global, R453). -/
abbrev Reg.THM_STAT : Nat := 0x104

/-- THM_CNT (global, R456). -/
abbrev Reg.THM_CNT : Nat := 0x108

/-- THM_T i (global, R453). -/
abbrev Reg.THM_T (i : Nat) : Nat := 0x110 + 0x4 * i

/-- HOST_STAT (global, R482). -/
abbrev Reg.HOST_STAT : Nat := 0x200

/-- HOST_VIO (global, R482). -/
abbrev Reg.HOST_VIO : Nat := 0x204

/-- INT_STAT (global, R482). -/
abbrev Reg.INT_STAT : Nat := 0x210

/-- INT_MASK (global, R482). -/
abbrev Reg.INT_MASK : Nat := 0x214

/-- GRP_CTL (global, R483). -/
abbrev Reg.GRP_CTL : Nat := 0x220

/-- GRP_GO (global, R483). -/
abbrev Reg.GRP_GO : Nat := 0x224

/-- GRP_TIME_LO (global, R483). -/
abbrev Reg.GRP_TIME_LO : Nat := 0x228

/-- GRP_TIME_HI (global, R483). -/
abbrev Reg.GRP_TIME_HI : Nat := 0x22C

/-- GRP_STAT (global, R483). -/
abbrev Reg.GRP_STAT : Nat := 0x230

/-- GRP_RESULT (global, R483). -/
abbrev Reg.GRP_RESULT : Nat := 0x234

/-- MIR_CTL (global, R483). -/
abbrev Reg.MIR_CTL : Nat := 0x238

/-- MIR_CNT (global, R484). -/
abbrev Reg.MIR_CNT : Nat := 0x23C

/-- CTX_CHSEL (context, R481). -/
abbrev Reg.CTX_CHSEL : Nat := 0x0

/-- CTX_STAT (context, R481). -/
abbrev Reg.CTX_STAT : Nat := 0x4

/-- CTX_VADDR (context, R481). -/
abbrev Reg.CTX_VADDR : Nat := 0x8

/-- CTX_CNT (context, R484). -/
abbrev Reg.CTX_CNT : Nat := 0xC

/-- KNL_STAT (global, R392). -/
abbrev Reg.KNL_STAT : Nat := 0x1000

/-- KNL_CTL (global, R393). -/
abbrev Reg.KNL_CTL : Nat := 0x1004

/-- KNL_INH (global, R393). -/
abbrev Reg.KNL_INH : Nat := 0x1008

/-- KNL_WDT (global, R393). -/
abbrev Reg.KNL_WDT : Nat := 0x100C

/-- KNL_WDKICK (global, R393). -/
abbrev Reg.KNL_WDKICK : Nat := 0x1010

/-- KNL_LWSEL (global, R394). -/
abbrev Reg.KNL_LWSEL : Nat := 0x1014

/-- KNL_LW i (global, R394). -/
abbrev Reg.KNL_LW (i : Nat) : Nat := 0x1018 + 0x4 * i

/-- KNL_LWD (global, R394). -/
abbrev Reg.KNL_LWD : Nat := 0x1028

/-- KNL_LWW (global, R394). -/
abbrev Reg.KNL_LWW : Nat := 0x102C

/-- KNL_CNT (global, R395). -/
abbrev Reg.KNL_CNT : Nat := 0x1030

/-- KNL_BOOT (global, R395). -/
abbrev Reg.KNL_BOOT : Nat := 0x1034

/-- KNL_LWSEQ_LO (global, R395). -/
abbrev Reg.KNL_LWSEQ_LO : Nat := 0x1038

/-- KNL_LWSEQ_HI (global, R395). -/
abbrev Reg.KNL_LWSEQ_HI : Nat := 0x103C

/-- KNL_TIME_LO (global, R395). -/
abbrev Reg.KNL_TIME_LO : Nat := 0x1040

/-- KNL_TIME_HI (global, R395). -/
abbrev Reg.KNL_TIME_HI : Nat := 0x1044

/-- REC_CTL (global, R439). -/
abbrev Reg.REC_CTL : Nat := 0x2000

/-- REC_STAT (global, R439). -/
abbrev Reg.REC_STAT : Nat := 0x2004

/-- REC_CFG (global, R439). -/
abbrev Reg.REC_CFG : Nat := 0x2008

/-- REC_SEQ_LO (global, R439). -/
abbrev Reg.REC_SEQ_LO : Nat := 0x2010

/-- REC_SEQ_HI (global, R439). -/
abbrev Reg.REC_SEQ_HI : Nat := 0x2014

/-- REC_OLD_LO (global, R439). -/
abbrev Reg.REC_OLD_LO : Nat := 0x2018

/-- REC_OLD_HI (global, R439). -/
abbrev Reg.REC_OLD_HI : Nat := 0x201C

/-- REC_RPTR (global, R439). -/
abbrev Reg.REC_RPTR : Nat := 0x2020

/-- REC_CNT (global, R441). -/
abbrev Reg.REC_CNT : Nat := 0x2024

/-- REC_PCFG (global, R439). -/
abbrev Reg.REC_PCFG : Nat := 0x2028

/-- REC_PSTAT (global, R439). -/
abbrev Reg.REC_PSTAT : Nat := 0x202C

/-- REC_PSEQ_LO (global, R439). -/
abbrev Reg.REC_PSEQ_LO : Nat := 0x2030

/-- REC_PSEQ_HI (global, R439). -/
abbrev Reg.REC_PSEQ_HI : Nat := 0x2034

/-- REC_PCNT (global, R441). -/
abbrev Reg.REC_PCNT : Nat := 0x2038

/-- CAL_TIME_LO (global, R440). -/
abbrev Reg.CAL_TIME_LO : Nat := 0x2040

/-- CAL_TIME_HI (global, R440). -/
abbrev Reg.CAL_TIME_HI : Nat := 0x2044

/-- CAL_SET_LO (global, R440). -/
abbrev Reg.CAL_SET_LO : Nat := 0x2048

/-- CAL_SET_HI (global, R440). -/
abbrev Reg.CAL_SET_HI : Nat := 0x204C

/-- CAL_CTL (global, R440). -/
abbrev Reg.CAL_CTL : Nat := 0x2050

/-- CAL_STAT (global, R440). -/
abbrev Reg.CAL_STAT : Nat := 0x2054

/-- PPS_CFG (global, R440). -/
abbrev Reg.PPS_CFG : Nat := 0x2058

/-- PPS_STAT (global, R440). -/
abbrev Reg.PPS_STAT : Nat := 0x205C

/-- CAL_RATE (global, R440). -/
abbrev Reg.CAL_RATE : Nat := 0x2060

/-- CAL_CNT (global, R441). -/
abbrev Reg.CAL_CNT : Nat := 0x2064

/-- REC_RWIN i (global, R418). -/
abbrev Reg.REC_RWIN (i : Nat) : Nat := 0x2100 + 0x4 * i

/-- SAF_CTL (global, R368). -/
abbrev Reg.SAF_CTL : Nat := 0x3000

/-- SAF_STAT (global, R368). -/
abbrev Reg.SAF_STAT : Nat := 0x3004

/-- SAF_CHECK (global, R368). -/
abbrev Reg.SAF_CHECK : Nat := 0x3008

/-- SAF_CONFIRM (global, R368). -/
abbrev Reg.SAF_CONFIRM : Nat := 0x300C

/-- SAF_CONNID (global, R368). -/
abbrev Reg.SAF_CONNID : Nat := 0x3010

/-- SAF_BC_CFG (global, R369). -/
abbrev Reg.SAF_BC_CFG : Nat := 0x3014

/-- SAF_BC_STAT (global, R369). -/
abbrev Reg.SAF_BC_STAT : Nat := 0x3018

/-- SAF_CNT0 (global, R373). -/
abbrev Reg.SAF_CNT0 : Nat := 0x301C

/-- SAF_CNT1 (global, R373). -/
abbrev Reg.SAF_CNT1 : Nat := 0x3020

/-- SAF_RXF i (global, R370). -/
abbrev Reg.SAF_RXF (i : Nat) : Nat := 0x3040 + 0x4 * i

/-- SAF_TXF i (global, R370). -/
abbrev Reg.SAF_TXF (i : Nat) : Nat := 0x3060 + 0x4 * i

/-- PAIR_CTL (global, R336). -/
abbrev Reg.PAIR_CTL : Nat := 0x4000

/-- PAIR_STAT (global, R336). -/
abbrev Reg.PAIR_STAT : Nat := 0x4004

/-- PAIR_PSTAT (global, R337). -/
abbrev Reg.PAIR_PSTAT : Nat := 0x4008

/-- PAIR_LINK (global, R337). -/
abbrev Reg.PAIR_LINK : Nat := 0x400C

/-- PAIR_HB (global, R337). -/
abbrev Reg.PAIR_HB : Nat := 0x4010

/-- HND_CFG (global, R337). -/
abbrev Reg.HND_CFG : Nat := 0x4014

/-- PAIR_CNT0 (global, R340). -/
abbrev Reg.PAIR_CNT0 : Nat := 0x4018

/-- PAIR_CNT1 (global, R340). -/
abbrev Reg.PAIR_CNT1 : Nat := 0x401C

/-- PAIR_CHSTAT i (global, R338). -/
abbrev Reg.PAIR_CHSTAT (i : Nat) : Nat := 0x4100 + 0x4 * i

/-- HND_HEALTH i (global, R339). -/
abbrev Reg.HND_HEALTH (i : Nat) : Nat := 0x4140 + 0x4 * i

/-- HND_CNT i (global, R340). -/
abbrev Reg.HND_CNT (i : Nat) : Nat := 0x4180 + 0x4 * i

/-- HND_TOL (global, R337). -/
abbrev Reg.HND_TOL : Nat := 0x41C0

/-- IMG_CTL (global, R507). -/
abbrev Reg.IMG_CTL : Nat := 0x5000

/-- IMG_STAT (global, R507). -/
abbrev Reg.IMG_STAT : Nat := 0x5004

/-- IMG_SRC_LO (global, R508). -/
abbrev Reg.IMG_SRC_LO : Nat := 0x5008

/-- IMG_SRC_HI (global, R508). -/
abbrev Reg.IMG_SRC_HI : Nat := 0x500C

/-- IMG_LEN (global, R508). -/
abbrev Reg.IMG_LEN : Nat := 0x5010

/-- IMG_DATA (global, R508). -/
abbrev Reg.IMG_DATA : Nat := 0x5014

/-- IMG_RUN (global, R508). -/
abbrev Reg.IMG_RUN : Nat := 0x5018

/-- IMG_BUILD_LO (global, R508). -/
abbrev Reg.IMG_BUILD_LO : Nat := 0x501C

/-- IMG_BUILD_HI (global, R508). -/
abbrev Reg.IMG_BUILD_HI : Nat := 0x5020

/-- IMG_SECT i (global, R509). -/
abbrev Reg.IMG_SECT (i : Nat) : Nat := 0x5040 + 0x4 * i

/-- IMG_KEY (global, R509). -/
abbrev Reg.IMG_KEY : Nat := 0x5080

/-- IMG_FUSE (global, R510). -/
abbrev Reg.IMG_FUSE : Nat := 0x5084

/-- IMG_FHASH i (global, R510). -/
abbrev Reg.IMG_FHASH (i : Nat) : Nat := 0x50A0 + 0x4 * i

/-- PAR_CTL (global, R511). -/
abbrev Reg.PAR_CTL : Nat := 0x5100

/-- PAR_STAT (global, R511). -/
abbrev Reg.PAR_STAT : Nat := 0x5104

/-- IMG_CNT (global, R512). -/
abbrev Reg.IMG_CNT : Nat := 0x5110

/-- GCAP_FORCE (global, R417). -/
abbrev Reg.GCAP_FORCE : Nat := 0x6000

/-- GCAP_WBASE (global, R417). -/
abbrev Reg.GCAP_WBASE : Nat := 0x6004

/-- GCAP_GSTAT (global, R417). -/
abbrev Reg.GCAP_GSTAT : Nat := 0x6008

/-- GCAP_DMA_SEL (global, R417). -/
abbrev Reg.GCAP_DMA_SEL : Nat := 0x600C

/-- GCAP_DMA_ADDR_LO (global, R417). -/
abbrev Reg.GCAP_DMA_ADDR_LO : Nat := 0x6010

/-- GCAP_DMA_ADDR_HI (global, R417). -/
abbrev Reg.GCAP_DMA_ADDR_HI : Nat := 0x6014

/-- GCAP_DMA_GO (global, R417). -/
abbrev Reg.GCAP_DMA_GO : Nat := 0x6018

/-- GCAP_DMA_STAT (global, R417). -/
abbrev Reg.GCAP_DMA_STAT : Nat := 0x601C

/-- GCAP_ALLOC i (global, R417). -/
abbrev Reg.GCAP_ALLOC (i : Nat) : Nat := 0x6040 + 0x4 * i

/-- GCAP_WIN i (global, R411). -/
abbrev Reg.GCAP_WIN (i : Nat) : Nat := 0x7000 + 0x4 * i

/-- CH_MODE_REQ (channel, R198). -/
abbrev Reg.CH_MODE_REQ : Nat := 0x100

/-- CH_MODE_CUR (channel, R198). -/
abbrev Reg.CH_MODE_CUR : Nat := 0x104

/-- CH_MODE_STAT (channel, R200). -/
abbrev Reg.CH_MODE_STAT : Nat := 0x108

/-- CH_MODE_CFG (channel, R202). -/
abbrev Reg.CH_MODE_CFG : Nat := 0x10C

/-- CH_SAFE_LIVE (channel, R203). -/
abbrev Reg.CH_SAFE_LIVE : Nat := 0x110

/-- CH_SAFE_LATCH (channel, R203). -/
abbrev Reg.CH_SAFE_LATCH : Nat := 0x114

/-- CH_RIDE (channel, R204). -/
abbrev Reg.CH_RIDE : Nat := 0x118

/-- CH_PRE_CFG (channel, R204). -/
abbrev Reg.CH_PRE_CFG : Nat := 0x11C

/-- CH_BS_CFG (channel, R204). -/
abbrev Reg.CH_BS_CFG : Nat := 0x120

/-- CH_BS_RAMP (channel, R204). -/
abbrev Reg.CH_BS_RAMP : Nat := 0x124

/-- CH_RSY_CFG1 (channel, R205). -/
abbrev Reg.CH_RSY_CFG1 : Nat := 0x128

/-- CH_RSY_CFG2 (channel, R205). -/
abbrev Reg.CH_RSY_CFG2 : Nat := 0x12C

/-- CH_RSY_CFG3 (channel, R205). -/
abbrev Reg.CH_RSY_CFG3 : Nat := 0x130

/-- CH_MODE_CNT (channel, R206). -/
abbrev Reg.CH_MODE_CNT : Nat := 0x134

/-- CH_TICK_DIV (channel, R50). -/
abbrev Reg.CH_TICK_DIV : Nat := 0x140

/-- CH_OUTER_DIV (channel, R51). -/
abbrev Reg.CH_OUTER_DIV : Nat := 0x144

/-- CH_PERIOD (channel, R56). -/
abbrev Reg.CH_PERIOD : Nat := 0x148

/-- CH_TICK_LIM (channel, R52). -/
abbrev Reg.CH_TICK_LIM : Nat := 0x14C

/-- CH_TICK_USE (channel, R53). -/
abbrev Reg.CH_TICK_USE : Nat := 0x150

/-- CH_TICK_MAX (channel, R53). -/
abbrev Reg.CH_TICK_MAX : Nat := 0x154

/-- CH_TICK_STAT (channel, R54). -/
abbrev Reg.CH_TICK_STAT : Nat := 0x158

/-- CH_PERIOD_OUT (channel, R56). -/
abbrev Reg.CH_PERIOD_OUT : Nat := 0x15C

/-- CH_TICK_CNT_LO (channel, R55). -/
abbrev Reg.CH_TICK_CNT_LO : Nat := 0x160

/-- CH_TICK_CNT_HI (channel, R55). -/
abbrev Reg.CH_TICK_CNT_HI : Nat := 0x164

/-- CH_ALIGN (channel, R66). -/
abbrev Reg.CH_ALIGN : Nat := 0x168

/-- CH_FAB_OVWR (channel, R534). -/
abbrev Reg.CH_FAB_OVWR : Nat := 0x16C

/-- CH_QDEST i (channel, R535). -/
abbrev Reg.CH_QDEST (i : Nat) : Nat := 0x200 + 0x4 * i

/-- SDI_CFG i (channel, R99). -/
abbrev Reg.SDI_CFG (i : Nat) : Nat := 0x400 + 0x40 * i

/-- SINC_CFG i (channel, R100). -/
abbrev Reg.SINC_CFG (i : Nat) : Nat := 0x404 + 0x40 * i

/-- FIR_CFG i (channel, R101). -/
abbrev Reg.FIR_CFG (i : Nat) : Nat := 0x408 + 0x40 * i

/-- FIR_XF i (channel, R101). -/
abbrev Reg.FIR_XF (i : Nat) : Nat := 0x40C + 0x40 * i

/-- FIR_CADR i (channel, R102). -/
abbrev Reg.FIR_CADR (i : Nat) : Nat := 0x410 + 0x40 * i

/-- FIR_CDAT i (channel, R102). -/
abbrev Reg.FIR_CDAT (i : Nat) : Nat := 0x414 + 0x40 * i

/-- DCB_CFG i (channel, R103). -/
abbrev Reg.DCB_CFG (i : Nat) : Nat := 0x418 + 0x40 * i

/-- DCB_EST i (channel, R103). -/
abbrev Reg.DCB_EST (i : Nat) : Nat := 0x41C + 0x40 * i

/-- DEC_CFG i (channel, R104). -/
abbrev Reg.DEC_CFG (i : Nat) : Nat := 0x420 + 0x40 * i

/-- SDI_TRIM i (channel, R104). -/
abbrev Reg.SDI_TRIM (i : Nat) : Nat := 0x424 + 0x40 * i

/-- FAST_CFG i (channel, R105). -/
abbrev Reg.FAST_CFG (i : Nat) : Nat := 0x428 + 0x40 * i

/-- FAST_THR i (channel, R105). -/
abbrev Reg.FAST_THR (i : Nat) : Nat := 0x42C + 0x40 * i

/-- SDI_STAT i (channel, R106). -/
abbrev Reg.SDI_STAT (i : Nat) : Nat := 0x430 + 0x40 * i

/-- SDI_CNT i (channel, R107). -/
abbrev Reg.SDI_CNT (i : Nat) : Nat := 0x434 + 0x40 * i

/-- SDI_SKEW i (channel, R108). -/
abbrev Reg.SDI_SKEW (i : Nat) : Nat := 0x438 + 0x40 * i

/-- SDI_CHCTL (channel, R108). -/
abbrev Reg.SDI_CHCTL : Nat := 0x43C

/-- PWM_TOPO (channel, R269). -/
abbrev Reg.PWM_TOPO : Nat := 0x800

/-- PWM_POL (channel, R269). -/
abbrev Reg.PWM_POL : Nat := 0x804

/-- PWM_MAP0 (channel, R269). -/
abbrev Reg.PWM_MAP0 : Nat := 0x808

/-- PWM_MAP1 (channel, R269). -/
abbrev Reg.PWM_MAP1 : Nat := 0x80C

/-- PWM_CFG (channel, R270). -/
abbrev Reg.PWM_CFG : Nat := 0x810

/-- PWM_DT (channel, R270). -/
abbrev Reg.PWM_DT : Nat := 0x814

/-- PWM_DIR (channel, R269). -/
abbrev Reg.PWM_DIR : Nat := 0x818

/-- BST_CFG (channel, R271). -/
abbrev Reg.BST_CFG : Nat := 0x81C

/-- BST_MASK (channel, R271). -/
abbrev Reg.BST_MASK : Nat := 0x820

/-- FLT_CFG (channel, R272). -/
abbrev Reg.FLT_CFG : Nat := 0x824

/-- FLT_TIM (channel, R272). -/
abbrev Reg.FLT_TIM : Nat := 0x828

/-- DSAT_BLK i (channel, R272). -/
abbrev Reg.DSAT_BLK (i : Nat) : Nat := 0x82C + 0x4 * i

/-- BRK_CFG (channel, R273). -/
abbrev Reg.BRK_CFG : Nat := 0x844

/-- PWM_STAT (channel, R274). -/
abbrev Reg.PWM_STAT : Nat := 0x848

/-- PWM_TRIP (channel, R275). -/
abbrev Reg.PWM_TRIP : Nat := 0x84C

/-- PWM_CNT0 (channel, R276). -/
abbrev Reg.PWM_CNT0 : Nat := 0x850

/-- PWM_CNT1 (channel, R276). -/
abbrev Reg.PWM_CNT1 : Nat := 0x854

/-- ENG_CADR (channel, R134). -/
abbrev Reg.ENG_CADR : Nat := 0xC00

/-- ENG_CDAT (channel, R134). -/
abbrev Reg.ENG_CDAT : Nat := 0xC04

/-- ENG_CINFO (channel, R134). -/
abbrev Reg.ENG_CINFO : Nat := 0xC08

/-- ENG_CSTAT (channel, R135). -/
abbrev Reg.ENG_CSTAT : Nat := 0xC0C

/-- ENG_LOOP_OPEN_FE (channel, R137). -/
abbrev Reg.ENG_LOOP_OPEN_FE : Nat := 0xC10

/-- ENG_LOOP_OPEN_ME (channel, R137). -/
abbrev Reg.ENG_LOOP_OPEN_ME : Nat := 0xC14

/-- ENG_LOOP_TRK_FE (channel, R137). -/
abbrev Reg.ENG_LOOP_TRK_FE : Nat := 0xC18

/-- ENG_LOOP_TRK_ME (channel, R137). -/
abbrev Reg.ENG_LOOP_TRK_ME : Nat := 0xC1C

/-- ENG_DADR (channel, R138). -/
abbrev Reg.ENG_DADR : Nat := 0xC20

/-- ENG_DDAT (channel, R138). -/
abbrev Reg.ENG_DDAT : Nat := 0xC24

/-- ENG_STAT (channel, R139). -/
abbrev Reg.ENG_STAT : Nat := 0xC28

/-- ENG_ECC (channel, R140). -/
abbrev Reg.ENG_ECC : Nat := 0xC2C

/-- ENG_CNT (channel, R140). -/
abbrev Reg.ENG_CNT : Nat := 0xC30

/-- HO_CFG (channel, R209). -/
abbrev Reg.HO_CFG : Nat := 0x1CC0

/-- HO_STAT (channel, R209). -/
abbrev Reg.HO_STAT : Nat := 0x1CC4

/-- PLL_CFG (channel, R299). -/
abbrev Reg.PLL_CFG : Nat := 0x2000

/-- PLL_FRAC (channel, R299). -/
abbrev Reg.PLL_FRAC : Nat := 0x2004

/-- PLL_CTL (channel, R299). -/
abbrev Reg.PLL_CTL : Nat := 0x2008

/-- PLL_STAT (channel, R300). -/
abbrev Reg.PLL_STAT : Nat := 0x200C

/-- PLL_RAMP (channel, R302). -/
abbrev Reg.PLL_RAMP : Nat := 0x2010

/-- PLL_LEVEL (channel, R302). -/
abbrev Reg.PLL_LEVEL : Nat := 0x2014

/-- PLL_OFS (channel, R302). -/
abbrev Reg.PLL_OFS : Nat := 0x2018

/-- PLL_FMEAS (channel, R302). -/
abbrev Reg.PLL_FMEAS : Nat := 0x201C

/-- PLL_CNT (channel, R303). -/
abbrev Reg.PLL_CNT : Nat := 0x2020

/-- PLL_SEG_TGT i (channel, R302). -/
abbrev Reg.PLL_SEG_TGT (i : Nat) : Nat := 0x2080 + 0x8 * i

/-- PLL_SEG_SLP i (channel, R302). -/
abbrev Reg.PLL_SEG_SLP (i : Nat) : Nat := 0x2084 + 0x8 * i

/-- PACK_CFG (channel, R231). -/
abbrev Reg.PACK_CFG : Nat := 0x2400

/-- PACK_ID (channel, R231). -/
abbrev Reg.PACK_ID : Nat := 0x2404

/-- PACK_W (channel, R231). -/
abbrev Reg.PACK_W : Nat := 0x2408

/-- PACK_TR (channel, R231). -/
abbrev Reg.PACK_TR : Nat := 0x240C

/-- PACK_STAT (channel, R232). -/
abbrev Reg.PACK_STAT : Nat := 0x2410

/-- PACK_X (channel, R232). -/
abbrev Reg.PACK_X : Nat := 0x2414

/-- PACK_FMEAS (channel, R232). -/
abbrev Reg.PACK_FMEAS : Nat := 0x2418

/-- PACK_OWN (channel, R232). -/
abbrev Reg.PACK_OWN : Nat := 0x241C

/-- PACK_PSEL (channel, R233). -/
abbrev Reg.PACK_PSEL : Nat := 0x2420

/-- PACK_PEER0 (channel, R233). -/
abbrev Reg.PACK_PEER0 : Nat := 0x2424

/-- PACK_PEER1 (channel, R233). -/
abbrev Reg.PACK_PEER1 : Nat := 0x2428

/-- PACK_DUPID (channel, R233). -/
abbrev Reg.PACK_DUPID : Nat := 0x242C

/-- PACK_CNT0 (channel, R234). -/
abbrev Reg.PACK_CNT0 : Nat := 0x2430

/-- PACK_CNT1 (channel, R234). -/
abbrev Reg.PACK_CNT1 : Nat := 0x2434

/-- TMOD_CFG (channel, R454). -/
abbrev Reg.TMOD_CFG : Nat := 0x2800

/-- TMOD_LIM (channel, R454). -/
abbrev Reg.TMOD_LIM : Nat := 0x2804

/-- TMOD_TREF (channel, R454). -/
abbrev Reg.TMOD_TREF : Nat := 0x2808

/-- TMOD_STAT (channel, R454). -/
abbrev Reg.TMOD_STAT : Nat := 0x280C

/-- TMOD_TJ i (channel, R454). -/
abbrev Reg.TMOD_TJ (i : Nat) : Nat := 0x2810 + 0x4 * i

/-- TMOD_CNT (channel, R456). -/
abbrev Reg.TMOD_CNT : Nat := 0x2828

/-- TMOD_DEV i j (channel, R455). -/
abbrev Reg.TMOD_DEV (i j : Nat) : Nat := 0x2840 + 0x40 * i + 0x4 * j

/-- SAF_CH_CFG (channel, R371). -/
abbrev Reg.SAF_CH_CFG : Nat := 0x3000

/-- SAF_K_CFG (channel, R371). -/
abbrev Reg.SAF_K_CFG : Nat := 0x3004

/-- SAF_CH_STAT (channel, R372). -/
abbrev Reg.SAF_CH_STAT : Nat := 0x3008

/-- SAF_ACK (channel, R372). -/
abbrev Reg.SAF_ACK : Nat := 0x300C

/-- SAF_CH_CNT (channel, R373). -/
abbrev Reg.SAF_CH_CNT : Nat := 0x3010

/-- CAP_CTL i (channel, R414). -/
abbrev Reg.CAP_CTL (i : Nat) : Nat := 0x2C00 + 0x100 * i

/-- CAP_CFG i (channel, R414). -/
abbrev Reg.CAP_CFG (i : Nat) : Nat := 0x2C04 + 0x100 * i

/-- CAP_HOLD i (channel, R414). -/
abbrev Reg.CAP_HOLD (i : Nat) : Nat := 0x2C08 + 0x100 * i

/-- CAP_HIST i (channel, R414). -/
abbrev Reg.CAP_HIST (i : Nat) : Nat := 0x2C0C + 0x100 * i

/-- CAP_SEG i (channel, R414). -/
abbrev Reg.CAP_SEG (i : Nat) : Nat := 0x2C10 + 0x100 * i

/-- CAP_LAYOUT i (channel, R415). -/
abbrev Reg.CAP_LAYOUT (i : Nat) : Nat := 0x2C14 + 0x100 * i

/-- CAP_DEPTH i (channel, R415). -/
abbrev Reg.CAP_DEPTH (i : Nat) : Nat := 0x2C18 + 0x100 * i

/-- CAP_STAT i (channel, R415). -/
abbrev Reg.CAP_STAT (i : Nat) : Nat := 0x2C1C + 0x100 * i

/-- CAP_CNT i (channel, R416). -/
abbrev Reg.CAP_CNT (i : Nat) : Nat := 0x2C20 + 0x100 * i

/-- CAP_RSEQ_LO i (channel, R416). -/
abbrev Reg.CAP_RSEQ_LO (i : Nat) : Nat := 0x2C24 + 0x100 * i

/-- CAP_RSEQ_HI i (channel, R416). -/
abbrev Reg.CAP_RSEQ_HI (i : Nat) : Nat := 0x2C28 + 0x100 * i

/-- CAP_TRSEL i j (channel, R415). -/
abbrev Reg.CAP_TRSEL (i j : Nat) : Nat := 0x2C40 + 0x100 * i + 0x4 * j

/-- CAP_COND_CFG i j (channel, R415). -/
abbrev Reg.CAP_COND_CFG (i j : Nat) : Nat := 0x2C80 + 0x100 * i + 0x8 * j

/-- CAP_COND_THR i j (channel, R415). -/
abbrev Reg.CAP_COND_THR (i j : Nat) : Nat := 0x2C84 + 0x100 * i + 0x8 * j

/-- LAW_SBASE (channel, R166). -/
abbrev Reg.LAW_SBASE : Nat := 0x1400

/-- LAW_VBASE (channel, R166). -/
abbrev Reg.LAW_VBASE : Nat := 0x1404

/-- LAW_FBASE (channel, R166). -/
abbrev Reg.LAW_FBASE : Nat := 0x1408

/-- LAW_FS_I (channel, R166). -/
abbrev Reg.LAW_FS_I : Nat := 0x140C

/-- LAW_FS_V (channel, R166). -/
abbrev Reg.LAW_FS_V : Nat := 0x1410

/-- LAW_FS_DC (channel, R166). -/
abbrev Reg.LAW_FS_DC : Nat := 0x1414

/-- LAW_LF (channel, R166). -/
abbrev Reg.LAW_LF : Nat := 0x1418

/-- LAW_CF (channel, R166). -/
abbrev Reg.LAW_CF : Nat := 0x141C

/-- LAW_H (channel, R166). -/
abbrev Reg.LAW_H : Nat := 0x1440

/-- LAW_D (channel, R166). -/
abbrev Reg.LAW_D : Nat := 0x1444

/-- LAW_TFD (channel, R166). -/
abbrev Reg.LAW_TFD : Nat := 0x1448

/-- LAW_TPQ (channel, R166). -/
abbrev Reg.LAW_TPQ : Nat := 0x144C

/-- LAW_FDROOP (channel, R166). -/
abbrev Reg.LAW_FDROOP : Nat := 0x1450

/-- LAW_FDB (channel, R166). -/
abbrev Reg.LAW_FDB : Nat := 0x1454

/-- LAW_PMAX (channel, R166). -/
abbrev Reg.LAW_PMAX : Nat := 0x1458

/-- LAW_PMIN (channel, R166). -/
abbrev Reg.LAW_PMIN : Nat := 0x145C

/-- LAW_FLIM (channel, R166). -/
abbrev Reg.LAW_FLIM : Nat := 0x1460

/-- LAW_VDROOP (channel, R166). -/
abbrev Reg.LAW_VDROOP : Nat := 0x1464

/-- LAW_QDB (channel, R166). -/
abbrev Reg.LAW_QDB : Nat := 0x1468

/-- LAW_VMAX (channel, R166). -/
abbrev Reg.LAW_VMAX : Nat := 0x146C

/-- LAW_VMIN (channel, R166). -/
abbrev Reg.LAW_VMIN : Nat := 0x1470

/-- LAW_RIDE_DW (channel, R166). -/
abbrev Reg.LAW_RIDE_DW : Nat := 0x1474

/-- LAW_RV (channel, R166). -/
abbrev Reg.LAW_RV : Nat := 0x1480

/-- LAW_XV (channel, R166). -/
abbrev Reg.LAW_XV : Nat := 0x1484

/-- LAW_TVI_ITH (channel, R166). -/
abbrev Reg.LAW_TVI_ITH : Nat := 0x1488

/-- LAW_TVI_KR (channel, R166). -/
abbrev Reg.LAW_TVI_KR : Nat := 0x148C

/-- LAW_TVI_SIG (channel, R166). -/
abbrev Reg.LAW_TVI_SIG : Nat := 0x1490

/-- LAW_IMAX (channel, R166). -/
abbrev Reg.LAW_IMAX : Nat := 0x1494

/-- LAW_TVI_REL (channel, R169). -/
abbrev Reg.LAW_TVI_REL : Nat := 0x1498

/-- LAW_NEG_CFG (channel, R170). -/
abbrev Reg.LAW_NEG_CFG : Nat := 0x14A0

/-- LAW_TAG (channel, R171). -/
abbrev Reg.LAW_TAG : Nat := 0x14C0

/-- LAW_STAT (channel, R172). -/
abbrev Reg.LAW_STAT : Nat := 0x1500

/-- LAW_CNT (channel, R173). -/
abbrev Reg.LAW_CNT : Nat := 0x1504

/-- SP_TGT i (channel, R208). -/
abbrev Reg.SP_TGT (i : Nat) : Nat := 0x1C00 + 0x20 * i

/-- SP_MIN i (channel, R208). -/
abbrev Reg.SP_MIN (i : Nat) : Nat := 0x1C04 + 0x20 * i

/-- SP_MAX i (channel, R208). -/
abbrev Reg.SP_MAX (i : Nat) : Nat := 0x1C08 + 0x20 * i

/-- SP_RATE i (channel, R208). -/
abbrev Reg.SP_RATE (i : Nat) : Nat := 0x1C0C + 0x20 * i

/-- SP_ACC i (channel, R208). -/
abbrev Reg.SP_ACC (i : Nat) : Nat := 0x1C10 + 0x20 * i

/-- SP_OUT i (channel, R208). -/
abbrev Reg.SP_OUT (i : Nat) : Nat := 0x1C14 + 0x20 * i

/-- SP_VEL i (channel, R208). -/
abbrev Reg.SP_VEL (i : Nat) : Nat := 0x1C18 + 0x20 * i

/-- SP_STAT i (channel, R208). -/
abbrev Reg.SP_STAT (i : Nat) : Nat := 0x1C1C + 0x20 * i


/-! ## Fields -/

abbrev Fld.GID_PART : BitField := ⟨0, 16⟩
abbrev Fld.GID_CHANNELS : BitField := ⟨16, 8⟩
abbrev Fld.GID_ENGINES : BitField := ⟨24, 8⟩
abbrev Fld.GREV_SILREV : BitField := ⟨0, 8⟩
abbrev Fld.GREV_GRADE : BitField := ⟨8, 4⟩
abbrev Fld.GREV_PKG : BitField := ⟨12, 4⟩
abbrev Fld.GREV_ROMREV : BitField := ⟨16, 8⟩
abbrev Fld.GSTAT_CH_FAULT : BitField := ⟨0, 12⟩
abbrev Fld.GSTAT_SVE_RUN : BitField := ⟨12, 1⟩
abbrev Fld.GSTAT_SAFETY_CONF : BitField := ⟨13, 1⟩
abbrev Fld.GSTAT_HOST_PLL_LOCK : BitField := ⟨14, 1⟩
abbrev Fld.GSTAT_REFA_ACT : BitField := ⟨15, 1⟩
abbrev Fld.GSTAT_REFB_ACT : BitField := ⟨16, 1⟩
abbrev Fld.GSTAT_GLOBAL_INH : BitField := ⟨17, 1⟩
abbrev Fld.GSTAT_PAIR : BitField := ⟨18, 1⟩
abbrev Fld.GSTAT_IMAGE_OK : BitField := ⟨19, 1⟩
abbrev Fld.GSTAT_RECFAIL : BitField := ⟨20, 1⟩
abbrev Fld.GSTAT_PADS_RELEASED : BitField := ⟨21, 1⟩
abbrev Fld.REF_CFG_FNOM : BitField := ⟨0, 16⟩
abbrev Fld.REF_STAT_A_ACT : BitField := ⟨0, 1⟩
abbrev Fld.REF_STAT_B_ACT : BitField := ⟨1, 1⟩
abbrev Fld.REF_STAT_MISMATCH : BitField := ⟨2, 1⟩
abbrev Fld.REF_STAT_A_LOST : BitField := ⟨3, 1⟩
abbrev Fld.REF_STAT_B_LOST : BitField := ⟨4, 1⟩
abbrev Fld.CHRST_CH : BitField := ⟨0, 12⟩
abbrev Fld.CHRST_KEY : BitField := ⟨16, 16⟩
abbrev Fld.THM_CFG_DUTY : BitField := ⟨0, 4⟩
abbrev Fld.THM_STAT_WARN : BitField := ⟨0, 1⟩
abbrev Fld.THM_STAT_THROT : BitField := ⟨1, 1⟩
abbrev Fld.THM_STAT_TRIPANY : BitField := ⟨2, 1⟩
abbrev Fld.THM_STAT_WARN_SEEN : BitField := ⟨3, 1⟩
abbrev Fld.THM_STAT_THR_SEEN : BitField := ⟨4, 1⟩
abbrev Fld.THM_STAT_TRIP_SEEN : BitField := ⟨5, 1⟩
abbrev Fld.THM_STAT_REJ : BitField := ⟨6, 1⟩
abbrev Fld.THM_STAT_HOT : BitField := ⟨8, 4⟩
abbrev Fld.THM_STAT_SFAIL : BitField := ⟨16, 16⟩
abbrev Fld.THM_CNT_THRN : BitField := ⟨0, 15⟩
abbrev Fld.THM_CNT_THRN_SAT : BitField := ⟨15, 1⟩
abbrev Fld.THM_CNT_TRIPN : BitField := ⟨16, 15⟩
abbrev Fld.THM_CNT_TRIPN_SAT : BitField := ⟨31, 1⟩
abbrev Fld.THM_T_T : BitField := ⟨0, 12⟩
abbrev Fld.THM_T_FAIL : BitField := ⟨12, 1⟩
abbrev Fld.THM_T_RATE : BitField := ⟨13, 2⟩
abbrev Fld.HOST_STAT_MODE : BitField := ⟨0, 1⟩
abbrev Fld.HOST_STAT_LINKUP : BitField := ⟨1, 1⟩
abbrev Fld.HOST_STAT_GEN : BitField := ⟨2, 2⟩
abbrev Fld.HOST_STAT_WIDTH : BitField := ⟨4, 2⟩
abbrev Fld.HOST_STAT_D3 : BitField := ⟨6, 1⟩
abbrev Fld.HOST_STAT_QABORT : BitField := ⟨7, 1⟩
abbrev Fld.HOST_VIO_VCAUSE : BitField := ⟨0, 4⟩
abbrev Fld.HOST_VIO_CTX : BitField := ⟨4, 2⟩
abbrev Fld.HOST_VIO_VIO : BitField := ⟨6, 1⟩
abbrev Fld.INT_STAT_SRC : BitField := ⟨0, 24⟩
abbrev Fld.INT_MASK_MASK : BitField := ⟨0, 24⟩
abbrev Fld.GRP_CTL_OPEN : BitField := ⟨0, 1⟩
abbrev Fld.GRP_CTL_ABORT : BitField := ⟨1, 1⟩
abbrev Fld.GRP_GO_GO : BitField := ⟨0, 1⟩
abbrev Fld.GRP_STAT_OPEN : BitField := ⟨0, 1⟩
abbrev Fld.GRP_STAT_PEND : BitField := ⟨1, 1⟩
abbrev Fld.GRP_STAT_DONE : BitField := ⟨2, 1⟩
abbrev Fld.GRP_STAT_SREJ : BitField := ⟨3, 1⟩
abbrev Fld.GRP_STAT_OWNER : BitField := ⟨4, 2⟩
abbrev Fld.GRP_STAT_MEMBERS : BitField := ⟨8, 12⟩
abbrev Fld.GRP_RESULT_RES : BitField := ⟨0, 24⟩
abbrev Fld.MIR_CTL_RESYNC : BitField := ⟨0, 12⟩
abbrev Fld.MIR_CTL_RSBUSY : BitField := ⟨16, 12⟩
abbrev Fld.MIR_CNT_FAIL : BitField := ⟨0, 15⟩
abbrev Fld.MIR_CNT_FAIL_SAT : BitField := ⟨15, 1⟩
abbrev Fld.MIR_CNT_RESYNCN : BitField := ⟨16, 15⟩
abbrev Fld.MIR_CNT_RESYNCN_SAT : BitField := ⟨31, 1⟩
abbrev Fld.CTX_CHSEL_CH : BitField := ⟨0, 4⟩
abbrev Fld.CTX_CHSEL_STAGE : BitField := ⟨4, 1⟩
abbrev Fld.CTX_STAT_VCAUSE : BitField := ⟨0, 4⟩
abbrev Fld.CTX_STAT_VIO : BitField := ⟨4, 1⟩
abbrev Fld.CTX_STAT_CLA : BitField := ⟨5, 1⟩
abbrev Fld.CTX_VADDR_ADDR : BitField := ⟨0, 18⟩
abbrev Fld.CTX_VADDR_WR : BitField := ⟨18, 1⟩
abbrev Fld.CTX_CNT_VIOL : BitField := ⟨0, 15⟩
abbrev Fld.CTX_CNT_VIOL_SAT : BitField := ⟨15, 1⟩
abbrev Fld.CTX_CNT_CLA : BitField := ⟨16, 15⟩
abbrev Fld.CTX_CNT_CLA_SAT : BitField := ⟨31, 1⟩
abbrev Fld.KNL_STAT_CHINH : BitField := ⟨0, 12⟩
abbrev Fld.KNL_STAT_GINH : BitField := ⟨12, 1⟩
abbrev Fld.KNL_STAT_PADREL : BitField := ⟨13, 1⟩
abbrev Fld.KNL_STAT_SAFEN : BitField := ⟨14, 1⟩
abbrev Fld.KNL_STAT_HWDX : BitField := ⟨15, 1⟩
abbrev Fld.KNL_STAT_SSLOT : BitField := ⟨16, 1⟩
abbrev Fld.KNL_STAT_SUPPLY : BitField := ⟨17, 1⟩
abbrev Fld.KNL_STAT_SUPV : BitField := ⟨18, 4⟩
abbrev Fld.KNL_STAT_LWVALID : BitField := ⟨22, 1⟩
abbrev Fld.KNL_STAT_VBATOK : BitField := ⟨23, 1⟩
abbrev Fld.KNL_STAT_LRST : BitField := ⟨24, 3⟩
abbrev Fld.KNL_STAT_REJ : BitField := ⟨27, 1⟩
abbrev Fld.KNL_STAT_SSARM : BitField := ⟨28, 1⟩
abbrev Fld.KNL_CTL_GINH_SET : BitField := ⟨0, 1⟩
abbrev Fld.KNL_CTL_GINH_CLR : BitField := ⟨1, 1⟩
abbrev Fld.KNL_CTL_SN_SET : BitField := ⟨2, 1⟩
abbrev Fld.KNL_CTL_SN_CLR : BitField := ⟨3, 1⟩
abbrev Fld.KNL_CTL_KRST : BitField := ⟨4, 1⟩
abbrev Fld.KNL_CTL_KEY : BitField := ⟨16, 16⟩
abbrev Fld.KNL_INH_CHSET : BitField := ⟨0, 12⟩
abbrev Fld.KNL_WDT_TO : BitField := ⟨0, 14⟩
abbrev Fld.KNL_WDT_EN : BitField := ⟨14, 1⟩
abbrev Fld.KNL_WDT_ACT : BitField := ⟨15, 1⟩
abbrev Fld.KNL_WDKICK_KICK : BitField := ⟨0, 32⟩
abbrev Fld.KNL_LWSEL_IDX : BitField := ⟨0, 5⟩
abbrev Fld.KNL_LWSEL_VALID : BitField := ⟨8, 1⟩
abbrev Fld.KNL_LW_DATA : BitField := ⟨0, 32⟩
abbrev Fld.KNL_LWD_DATA : BitField := ⟨0, 32⟩
abbrev Fld.KNL_LWW_CODE : BitField := ⟨0, 8⟩
abbrev Fld.KNL_CNT_PORTERR : BitField := ⟨0, 15⟩
abbrev Fld.KNL_CNT_PORTERR_SAT : BitField := ⟨15, 1⟩
abbrev Fld.KNL_CNT_LWDROP : BitField := ⟨16, 15⟩
abbrev Fld.KNL_CNT_LWDROP_SAT : BitField := ⟨31, 1⟩
abbrev Fld.KNL_BOOT_BOOT : BitField := ⟨0, 15⟩
abbrev Fld.KNL_BOOT_BOOT_SAT : BitField := ⟨15, 1⟩
abbrev Fld.REC_CTL_RETRY : BitField := ⟨0, 1⟩
abbrev Fld.REC_STAT_RECFAIL : BitField := ⟨0, 1⟩
abbrev Fld.REC_STAT_PERS : BitField := ⟨1, 1⟩
abbrev Fld.REC_STAT_SEARCH : BitField := ⟨2, 1⟩
abbrev Fld.REC_STAT_SBUSY : BitField := ⟨3, 1⟩
abbrev Fld.REC_STAT_REJ : BitField := ⟨4, 1⟩
abbrev Fld.REC_CFG_RCLOSE : BitField := ⟨0, 14⟩
abbrev Fld.REC_RPTR_SLOT : BitField := ⟨0, 17⟩
abbrev Fld.REC_RPTR_STORE : BitField := ⟨31, 1⟩
abbrev Fld.REC_CNT_DROP : BitField := ⟨0, 15⟩
abbrev Fld.REC_CNT_DROP_SAT : BitField := ⟨15, 1⟩
abbrev Fld.REC_CNT_RUE : BitField := ⟨16, 15⟩
abbrev Fld.REC_CNT_RUE_SAT : BitField := ⟨31, 1⟩
abbrev Fld.REC_PCFG_SIZE : BitField := ⟨0, 3⟩
abbrev Fld.REC_PCFG_BTIME : BitField := ⟨8, 8⟩
abbrev Fld.REC_PCFG_BMAX : BitField := ⟨16, 5⟩
abbrev Fld.REC_PSTAT_FCAUSE : BitField := ⟨0, 8⟩
abbrev Fld.REC_PSTAT_FSLOT : BitField := ⟨8, 24⟩
abbrev Fld.REC_PCNT_PLOST : BitField := ⟨0, 15⟩
abbrev Fld.REC_PCNT_PLOST_SAT : BitField := ⟨15, 1⟩
abbrev Fld.REC_PCNT_RETRY : BitField := ⟨16, 15⟩
abbrev Fld.REC_PCNT_RETRY_SAT : BitField := ⟨31, 1⟩
abbrev Fld.CAL_CTL_SET : BitField := ⟨0, 1⟩
abbrev Fld.CAL_CTL_SETPPS : BitField := ⟨1, 1⟩
abbrev Fld.CAL_STAT_EPOCH : BitField := ⟨0, 16⟩
abbrev Fld.CAL_STAT_VALID : BitField := ⟨16, 1⟩
abbrev Fld.CAL_STAT_PPSLOCK : BitField := ⟨17, 1⟩
abbrev Fld.CAL_STAT_PPSLOST : BitField := ⟨18, 1⟩
abbrev Fld.CAL_STAT_SETPEND : BitField := ⟨19, 1⟩
abbrev Fld.CAL_STAT_SETFAIL : BitField := ⟨20, 1⟩
abbrev Fld.CAL_STAT_HOLD : BitField := ⟨21, 1⟩
abbrev Fld.CAL_STAT_EPSAT : BitField := ⟨22, 1⟩
abbrev Fld.CAL_STAT_REJ : BitField := ⟨23, 1⟩
abbrev Fld.PPS_CFG_EN : BitField := ⟨0, 1⟩
abbrev Fld.PPS_CFG_POL : BitField := ⟨1, 1⟩
abbrev Fld.PPS_CFG_STEP : BitField := ⟨2, 1⟩
abbrev Fld.PPS_CFG_SLEW : BitField := ⟨3, 6⟩
abbrev Fld.PPS_CFG_STEPTH : BitField := ⟨9, 20⟩
abbrev Fld.PPS_STAT_ERR : BitField := ⟨0, 32⟩
abbrev Fld.CAL_RATE_RATE : BitField := ⟨0, 32⟩
abbrev Fld.CAL_CNT_STEPS : BitField := ⟨0, 15⟩
abbrev Fld.CAL_CNT_STEPS_SAT : BitField := ⟨15, 1⟩
abbrev Fld.CAL_CNT_GLITCH : BitField := ⟨16, 15⟩
abbrev Fld.CAL_CNT_GLITCH_SAT : BitField := ⟨31, 1⟩
abbrev Fld.SAF_CTL_CONF : BitField := ⟨0, 1⟩
abbrev Fld.SAF_CTL_CODE : BitField := ⟨16, 16⟩
abbrev Fld.SAF_STAT_CONF : BitField := ⟨0, 1⟩
abbrev Fld.SAF_STAT_SEDIS : BitField := ⟨1, 1⟩
abbrev Fld.SAF_STAT_CHKV : BitField := ⟨2, 1⟩
abbrev Fld.SAF_STAT_REJ : BitField := ⟨3, 1⟩
abbrev Fld.SAF_STAT_STRB : BitField := ⟨4, 2⟩
abbrev Fld.SAF_STAT_BCST : BitField := ⟨6, 2⟩
abbrev Fld.SAF_STAT_RCAUSE : BitField := ⟨8, 3⟩
abbrev Fld.SAF_CHECK_CHECK : BitField := ⟨0, 32⟩
abbrev Fld.SAF_CONNID_ID : BitField := ⟨0, 32⟩
abbrev Fld.SAF_BC_CFG_CHMASK : BitField := ⟨0, 12⟩
abbrev Fld.SAF_BC_CFG_EMAX : BitField := ⟨12, 4⟩
abbrev Fld.SAF_BC_CFG_GAPMAX : BitField := ⟨16, 4⟩
abbrev Fld.SAF_BC_CFG_TXPER : BitField := ⟨20, 10⟩
abbrev Fld.SAF_BC_STAT_LASTSEQ : BitField := ⟨0, 16⟩
abbrev Fld.SAF_BC_STAT_FCLASS : BitField := ⟨16, 4⟩
abbrev Fld.SAF_CNT0_BAD : BitField := ⟨0, 15⟩
abbrev Fld.SAF_CNT0_BAD_SAT : BitField := ⟨15, 1⟩
abbrev Fld.SAF_CNT0_LOST : BitField := ⟨16, 15⟩
abbrev Fld.SAF_CNT0_LOST_SAT : BitField := ⟨31, 1⟩
abbrev Fld.SAF_CNT1_REP : BitField := ⟨0, 15⟩
abbrev Fld.SAF_CNT1_REP_SAT : BitField := ⟨15, 1⟩
abbrev Fld.SAF_CNT1_STOPS : BitField := ⟨16, 15⟩
abbrev Fld.SAF_CNT1_STOPS_SAT : BitField := ⟨31, 1⟩
abbrev Fld.PAIR_CTL_CLAIM : BitField := ⟨0, 12⟩
abbrev Fld.PAIR_CTL_RELEASE : BitField := ⟨16, 12⟩
abbrev Fld.PAIR_CTL_RETRAIN : BitField := ⟨28, 1⟩
abbrev Fld.PAIR_STAT_PAIR : BitField := ⟨0, 1⟩
abbrev Fld.PAIR_STAT_PRIO : BitField := ⟨1, 1⟩
abbrev Fld.PAIR_STAT_PPRIO : BitField := ⟨2, 1⟩
abbrev Fld.PAIR_STAT_PRIOERR : BitField := ⟨3, 1⟩
abbrev Fld.PAIR_STAT_LINK : BitField := ⟨4, 2⟩
abbrev Fld.PAIR_STAT_HB_OK : BitField := ⟨6, 1⟩
abbrev Fld.PAIR_STAT_HB_LOST : BitField := ⟨7, 1⟩
abbrev Fld.PAIR_STAT_PGIVEUP : BitField := ⟨8, 1⟩
abbrev Fld.PAIR_STAT_REJ : BitField := ⟨9, 1⟩
abbrev Fld.PAIR_PSTAT_PARMED : BitField := ⟨0, 12⟩
abbrev Fld.PAIR_PSTAT_PHOLD : BitField := ⟨16, 12⟩
abbrev Fld.PAIR_PSTAT_PVALID : BitField := ⟨28, 1⟩
abbrev Fld.PAIR_LINK_DELAY : BitField := ⟨0, 12⟩
abbrev Fld.PAIR_LINK_TXUP : BitField := ⟨16, 2⟩
abbrev Fld.PAIR_LINK_RXUP : BitField := ⟨18, 2⟩
abbrev Fld.PAIR_HB_TO : BitField := ⟨0, 16⟩
abbrev Fld.HND_CFG_NMAX : BitField := ⟨0, 8⟩
abbrev Fld.HND_CFG_BIST_EN : BitField := ⟨8, 1⟩
abbrev Fld.HND_CFG_MARCH_EN : BitField := ⟨9, 1⟩
abbrev Fld.HND_CFG_LOOP_EN : BitField := ⟨10, 1⟩
abbrev Fld.HND_CFG_FCRC_EN : BitField := ⟨11, 1⟩
abbrev Fld.HND_CFG_VERIFY : BitField := ⟨16, 8⟩
abbrev Fld.PAIR_CNT0_HBLOST : BitField := ⟨0, 15⟩
abbrev Fld.PAIR_CNT0_HBLOST_SAT : BitField := ⟨15, 1⟩
abbrev Fld.PAIR_CNT0_RETRAIN : BitField := ⟨16, 15⟩
abbrev Fld.PAIR_CNT0_RETRAIN_SAT : BitField := ⟨31, 1⟩
abbrev Fld.PAIR_CNT1_TAKES : BitField := ⟨0, 15⟩
abbrev Fld.PAIR_CNT1_TAKES_SAT : BitField := ⟨15, 1⟩
abbrev Fld.PAIR_CNT1_GIVEUPS : BitField := ⟨16, 15⟩
abbrev Fld.PAIR_CNT1_GIVEUPS_SAT : BitField := ⟨31, 1⟩
abbrev Fld.PAIR_CHSTAT_LEASH : BitField := ⟨0, 2⟩
abbrev Fld.PAIR_CHSTAT_ARMED : BitField := ⟨2, 1⟩
abbrev Fld.PAIR_CHSTAT_GUARD : BitField := ⟨3, 1⟩
abbrev Fld.PAIR_CHSTAT_XLAYOUT : BitField := ⟨4, 1⟩
abbrev Fld.PAIR_CHSTAT_STALE : BitField := ⟨5, 1⟩
abbrev Fld.PAIR_CHSTAT_PLH : BitField := ⟨6, 1⟩
abbrev Fld.PAIR_CHSTAT_INVSEEN : BitField := ⟨7, 1⟩
abbrev Fld.PAIR_CHSTAT_TAKEN : BitField := ⟨8, 1⟩
abbrev Fld.PAIR_CHSTAT_GAVEUP : BitField := ⟨9, 1⟩
abbrev Fld.PAIR_CHSTAT_GUCAUSE : BitField := ⟨10, 4⟩
abbrev Fld.PAIR_CHSTAT_TMIS : BitField := ⟨14, 1⟩
abbrev Fld.HND_HEALTH_XOK : BitField := ⟨0, 1⟩
abbrev Fld.HND_HEALTH_DIVERGE : BitField := ⟨1, 1⟩
abbrev Fld.HND_HEALTH_BIST_OK : BitField := ⟨2, 1⟩
abbrev Fld.HND_HEALTH_MARCH_OK : BitField := ⟨3, 1⟩
abbrev Fld.HND_HEALTH_LOOP_OK : BitField := ⟨4, 1⟩
abbrev Fld.HND_HEALTH_FCRC_OK : BitField := ⟨5, 1⟩
abbrev Fld.HND_HEALTH_BGSTALE : BitField := ⟨6, 1⟩
abbrev Fld.HND_HEALTH_NOFRAMES : BitField := ⟨7, 1⟩
abbrev Fld.HND_HEALTH_LOCKED : BitField := ⟨8, 1⟩
abbrev Fld.HND_HEALTH_DISARM : BitField := ⟨9, 1⟩
abbrev Fld.HND_HEALTH_VRUN : BitField := ⟨16, 8⟩
abbrev Fld.HND_HEALTH_SEQ : BitField := ⟨24, 8⟩
abbrev Fld.HND_CNT_XFAIL : BitField := ⟨0, 15⟩
abbrev Fld.HND_CNT_XFAIL_SAT : BitField := ⟨15, 1⟩
abbrev Fld.HND_CNT_FRBAD : BitField := ⟨16, 15⟩
abbrev Fld.HND_CNT_FRBAD_SAT : BitField := ⟨31, 1⟩
abbrev Fld.HND_TOL_TOLM : BitField := ⟨0, 16⟩
abbrev Fld.HND_TOL_TOLW : BitField := ⟨16, 16⟩
abbrev Fld.IMG_CTL_OP : BitField := ⟨0, 4⟩
abbrev Fld.IMG_CTL_CH : BitField := ⟨4, 4⟩
abbrev Fld.IMG_CTL_SLOT : BitField := ⟨8, 1⟩
abbrev Fld.IMG_CTL_DMA : BitField := ⟨9, 1⟩
abbrev Fld.IMG_CTL_KEY : BitField := ⟨16, 16⟩
abbrev Fld.IMG_STAT_STATE : BitField := ⟨0, 4⟩
abbrev Fld.IMG_STAT_ERR : BitField := ⟨4, 4⟩
abbrev Fld.IMG_STAT_STGCH : BitField := ⟨8, 4⟩
abbrev Fld.IMG_STAT_STGOK : BitField := ⟨12, 1⟩
abbrev Fld.IMG_STAT_BUSY : BitField := ⟨13, 1⟩
abbrev Fld.IMG_STAT_RUNSLOT : BitField := ⟨14, 1⟩
abbrev Fld.IMG_STAT_FROMHOST : BitField := ⟨15, 1⟩
abbrev Fld.IMG_STAT_SLOTA : BitField := ⟨16, 1⟩
abbrev Fld.IMG_STAT_SLOTB : BitField := ⟨17, 1⟩
abbrev Fld.IMG_STAT_REJ : BitField := ⟨18, 1⟩
abbrev Fld.IMG_STAT_RCAUSE : BitField := ⟨19, 4⟩
abbrev Fld.IMG_SECT_MLID : BitField := ⟨0, 16⟩
abbrev Fld.IMG_SECT_PRESENT : BitField := ⟨16, 1⟩
abbrev Fld.IMG_SECT_BANK : BitField := ⟨17, 1⟩
abbrev Fld.IMG_SECT_REPAIRED : BitField := ⟨18, 1⟩
abbrev Fld.IMG_SECT_PDEF : BitField := ⟨19, 1⟩
abbrev Fld.IMG_KEY_PROG : BitField := ⟨0, 4⟩
abbrev Fld.IMG_KEY_REVOKED : BitField := ⟨4, 4⟩
abbrev Fld.IMG_KEY_USED : BitField := ⟨8, 2⟩
abbrev Fld.IMG_KEY_FBUSY : BitField := ⟨10, 1⟩
abbrev Fld.IMG_FUSE_SLOT : BitField := ⟨0, 2⟩
abbrev Fld.IMG_FUSE_PROG : BitField := ⟨2, 1⟩
abbrev Fld.IMG_FUSE_REVOKE : BitField := ⟨3, 1⟩
abbrev Fld.IMG_FUSE_KEY : BitField := ⟨16, 16⟩
abbrev Fld.PAR_CTL_SAVE : BitField := ⟨0, 12⟩
abbrev Fld.PAR_STAT_STATE : BitField := ⟨0, 2⟩
abbrev Fld.PAR_STAT_BANK : BitField := ⟨2, 1⟩
abbrev Fld.PAR_STAT_PRESENT : BitField := ⟨3, 1⟩
abbrev Fld.PAR_STAT_VALID : BitField := ⟨4, 1⟩
abbrev Fld.PAR_STAT_QUEUED : BitField := ⟨5, 1⟩
abbrev Fld.PAR_STAT_ERR : BitField := ⟨6, 2⟩
abbrev Fld.PAR_STAT_REJ : BitField := ⟨8, 1⟩
abbrev Fld.IMG_CNT_VERFAIL : BitField := ⟨0, 15⟩
abbrev Fld.IMG_CNT_VERFAIL_SAT : BitField := ⟨15, 1⟩
abbrev Fld.IMG_CNT_PARFAIL : BitField := ⟨16, 15⟩
abbrev Fld.IMG_CNT_PARFAIL_SAT : BitField := ⟨31, 1⟩
abbrev Fld.GCAP_FORCE_CH : BitField := ⟨0, 12⟩
abbrev Fld.GCAP_WBASE_PAGE : BitField := ⟨0, 13⟩
abbrev Fld.GCAP_GSTAT_WUE : BitField := ⟨0, 1⟩
abbrev Fld.GCAP_GSTAT_DMAERR : BitField := ⟨1, 1⟩
abbrev Fld.GCAP_GSTAT_REJ : BitField := ⟨2, 1⟩
abbrev Fld.GCAP_DMA_SEL_CH : BitField := ⟨0, 4⟩
abbrev Fld.GCAP_DMA_SEL_SET : BitField := ⟨4, 2⟩
abbrev Fld.GCAP_DMA_SEL_SEG : BitField := ⟨6, 6⟩
abbrev Fld.GCAP_DMA_SEL_KIND : BitField := ⟨12, 2⟩
abbrev Fld.GCAP_DMA_SEL_TAG : BitField := ⟨16, 8⟩
abbrev Fld.GCAP_DMA_ADDR_LO_ADDR : BitField := ⟨0, 32⟩
abbrev Fld.GCAP_DMA_ADDR_HI_ADDR : BitField := ⟨0, 32⟩
abbrev Fld.GCAP_DMA_GO_GO : BitField := ⟨0, 1⟩
abbrev Fld.GCAP_DMA_STAT_QUEUED : BitField := ⟨0, 5⟩
abbrev Fld.GCAP_DMA_STAT_BUSY : BitField := ⟨5, 1⟩
abbrev Fld.GCAP_DMA_STAT_LTAG : BitField := ⟨8, 8⟩
abbrev Fld.GCAP_DMA_STAT_LERR : BitField := ⟨16, 3⟩
abbrev Fld.GCAP_ALLOC_FIRST : BitField := ⟨0, 8⟩
abbrev Fld.GCAP_ALLOC_COUNT : BitField := ⟨8, 8⟩
abbrev Fld.CH_MODE_REQ_MODE : BitField := ⟨0, 4⟩
abbrev Fld.CH_MODE_CUR_MODE : BitField := ⟨0, 4⟩
abbrev Fld.CH_MODE_CUR_PREV : BitField := ⟨4, 4⟩
abbrev Fld.CH_MODE_CUR_TCAUSE : BitField := ⟨8, 5⟩
abbrev Fld.CH_MODE_CUR_FAULT : BitField := ⟨13, 1⟩
abbrev Fld.CH_MODE_STAT_REJ : BitField := ⟨0, 1⟩
abbrev Fld.CH_MODE_STAT_RCAUSE : BitField := ⟨4, 4⟩
abbrev Fld.CH_MODE_STAT_PRE_DONE : BitField := ⟨8, 1⟩
abbrev Fld.CH_MODE_STAT_PRE_FAIL : BitField := ⟨9, 1⟩
abbrev Fld.CH_MODE_STAT_BS_DONE : BitField := ⟨10, 1⟩
abbrev Fld.CH_MODE_STAT_BS_LIVE : BitField := ⟨11, 1⟩
abbrev Fld.CH_MODE_STAT_RSY_MATCH : BitField := ⟨12, 1⟩
abbrev Fld.CH_MODE_STAT_RSY_TMO : BitField := ⟨13, 1⟩
abbrev Fld.CH_MODE_STAT_K1_REQ : BitField := ⟨14, 1⟩
abbrev Fld.CH_MODE_STAT_K2_REQ : BitField := ⟨15, 1⟩
abbrev Fld.CH_MODE_CFG_ALLOW : BitField := ⟨0, 12⟩
abbrev Fld.CH_MODE_CFG_RIDE_EN : BitField := ⟨16, 1⟩
abbrev Fld.CH_MODE_CFG_RIDE_RET : BitField := ⟨17, 1⟩
abbrev Fld.CH_MODE_CFG_LIVE_ACT : BitField := ⟨18, 1⟩
abbrev Fld.CH_SAFE_LIVE_LIVE : BitField := ⟨0, 12⟩
abbrev Fld.CH_SAFE_LATCH_LATCH : BitField := ⟨0, 12⟩
abbrev Fld.CH_RIDE_DWELL : BitField := ⟨0, 16⟩
abbrev Fld.CH_RIDE_TMAX : BitField := ⟨16, 16⟩
abbrev Fld.CH_PRE_CFG_VDONE : BitField := ⟨0, 16⟩
abbrev Fld.CH_PRE_CFG_TMAX : BitField := ⟨16, 16⟩
abbrev Fld.CH_BS_CFG_VDEAD : BitField := ⟨0, 16⟩
abbrev Fld.CH_BS_CFG_TDEAD : BitField := ⟨16, 16⟩
abbrev Fld.CH_BS_RAMP_TRAMP : BitField := ⟨0, 16⟩
abbrev Fld.CH_RSY_CFG1_DF : BitField := ⟨0, 16⟩
abbrev Fld.CH_RSY_CFG1_DV : BitField := ⟨16, 16⟩
abbrev Fld.CH_RSY_CFG2_DTH : BitField := ⟨0, 16⟩
abbrev Fld.CH_RSY_CFG2_NMATCH : BitField := ⟨16, 16⟩
abbrev Fld.CH_RSY_CFG3_TCLOSE : BitField := ⟨0, 16⟩
abbrev Fld.CH_RSY_CFG3_TMAX : BitField := ⟨16, 16⟩
abbrev Fld.CH_MODE_CNT_TRANS : BitField := ⟨0, 15⟩
abbrev Fld.CH_MODE_CNT_TRANS_SAT : BitField := ⟨15, 1⟩
abbrev Fld.CH_MODE_CNT_REJ : BitField := ⟨16, 15⟩
abbrev Fld.CH_MODE_CNT_REJ_SAT : BitField := ⟨31, 1⟩
abbrev Fld.CH_TICK_DIV_CYCLES : BitField := ⟨0, 15⟩
abbrev Fld.CH_TICK_DIV_LEAD : BitField := ⟨16, 9⟩
abbrev Fld.CH_OUTER_DIV_DIV : BitField := ⟨0, 7⟩
abbrev Fld.CH_PERIOD_PW : BitField := ⟨0, 32⟩
abbrev Fld.CH_TICK_LIM_MIN_CYCLES : BitField := ⟨0, 15⟩
abbrev Fld.CH_TICK_LIM_MIN_LEAD : BitField := ⟨16, 9⟩
abbrev Fld.CH_TICK_USE_FE_LAST : BitField := ⟨0, 16⟩
abbrev Fld.CH_TICK_USE_ME_LAST : BitField := ⟨16, 16⟩
abbrev Fld.CH_TICK_MAX_FE_MAX : BitField := ⟨0, 16⟩
abbrev Fld.CH_TICK_MAX_ME_MAX : BitField := ⟨16, 16⟩
abbrev Fld.CH_TICK_STAT_OVR_FE : BitField := ⟨0, 1⟩
abbrev Fld.CH_TICK_STAT_OVR_ME : BitField := ⟨1, 1⟩
abbrev Fld.CH_TICK_STAT_OVR_DUTY : BitField := ⟨2, 1⟩
abbrev Fld.CH_TICK_STAT_REJ : BitField := ⟨3, 1⟩
abbrev Fld.CH_TICK_STAT_PW_HOLD : BitField := ⟨4, 1⟩
abbrev Fld.CH_PERIOD_OUT_PWO : BitField := ⟨0, 32⟩
abbrev Fld.CH_ALIGN_ERR : BitField := ⟨0, 16⟩
abbrev Fld.CH_ALIGN_LOCKED : BitField := ⟨16, 1⟩
abbrev Fld.CH_ALIGN_FRAMES : BitField := ⟨17, 1⟩
abbrev Fld.CH_FAB_OVWR_COUNT : BitField := ⟨0, 16⟩
abbrev Fld.CH_FAB_OVWR_SAT : BitField := ⟨31, 1⟩
abbrev Fld.SDI_CFG_MODE : BitField := ⟨0, 2⟩
abbrev Fld.SDI_CFG_EDGE : BitField := ⟨2, 1⟩
abbrev Fld.SDI_CFG_INV : BitField := ⟨3, 1⟩
abbrev Fld.SDI_CFG_SRC : BitField := ⟨4, 2⟩
abbrev Fld.SDI_CFG_RATE : BitField := ⟨16, 8⟩
abbrev Fld.SINC_CFG_ORDER : BitField := ⟨0, 3⟩
abbrev Fld.SINC_CFG_OSR : BitField := ⟨3, 11⟩
abbrev Fld.SINC_CFG_SETTLE : BitField := ⟨16, 8⟩
abbrev Fld.FIR_CFG_TAPS : BitField := ⟨0, 8⟩
abbrev Fld.FIR_CFG_DEC : BitField := ⟨8, 6⟩
abbrev Fld.FIR_CFG_BANK : BitField := ⟨14, 1⟩
abbrev Fld.FIR_XF_LEN : BitField := ⟨0, 11⟩
abbrev Fld.FIR_XF_GO : BitField := ⟨11, 1⟩
abbrev Fld.FIR_XF_BUSY : BitField := ⟨12, 1⟩
abbrev Fld.FIR_CADR_TAP : BitField := ⟨0, 7⟩
abbrev Fld.FIR_CADR_BANK : BitField := ⟨7, 1⟩
abbrev Fld.FIR_CADR_SHIFT : BitField := ⟨8, 5⟩
abbrev Fld.FIR_CADR_SHIFT_RD : BitField := ⟨16, 5⟩
abbrev Fld.FIR_CDAT_COEF : BitField := ⟨0, 32⟩
abbrev Fld.DCB_CFG_CORNER : BitField := ⟨0, 14⟩
abbrev Fld.DCB_CFG_EN : BitField := ⟨14, 1⟩
abbrev Fld.DCB_CFG_FREEZE : BitField := ⟨15, 1⟩
abbrev Fld.DCB_EST_EST : BitField := ⟨0, 32⟩
abbrev Fld.DEC_CFG_DEC : BitField := ⟨0, 7⟩
abbrev Fld.DEC_CFG_SUBST : BitField := ⟨7, 1⟩
abbrev Fld.DEC_CFG_SAT_RUN : BitField := ⟨16, 10⟩
abbrev Fld.SDI_TRIM_BITS : BitField := ⟨0, 8⟩
abbrev Fld.SDI_TRIM_FRAC : BitField := ⟨8, 4⟩
abbrev Fld.FAST_CFG_EN : BitField := ⟨0, 1⟩
abbrev Fld.FAST_CFG_OSR : BitField := ⟨1, 6⟩
abbrev Fld.FAST_CFG_CNT : BitField := ⟨7, 6⟩
abbrev Fld.FAST_CFG_LOSS_TRIP : BitField := ⟨13, 1⟩
abbrev Fld.FAST_CFG_CLASS : BitField := ⟨14, 2⟩
abbrev Fld.FAST_CFG_TRIP : BitField := ⟨16, 1⟩
abbrev Fld.FAST_CFG_HIT_HI : BitField := ⟨17, 1⟩
abbrev Fld.FAST_CFG_HIT_LO : BitField := ⟨18, 1⟩
abbrev Fld.FAST_THR_LO : BitField := ⟨0, 16⟩
abbrev Fld.FAST_THR_HI : BitField := ⟨16, 16⟩
abbrev Fld.SDI_STAT_CLK_OK : BitField := ⟨0, 1⟩
abbrev Fld.SDI_STAT_LOSS : BitField := ⟨1, 1⟩
abbrev Fld.SDI_STAT_MAN_LOCK : BitField := ⟨2, 1⟩
abbrev Fld.SDI_STAT_UNSETTLED : BitField := ⟨3, 1⟩
abbrev Fld.SDI_STAT_SATURATED : BitField := ⟨4, 1⟩
abbrev Fld.SDI_STAT_SUBSTITUTED : BitField := ⟨5, 1⟩
abbrev Fld.SDI_STAT_SAT_SEEN : BitField := ⟨6, 1⟩
abbrev Fld.SDI_STAT_STALE_SEEN : BitField := ⟨7, 1⟩
abbrev Fld.SDI_STAT_REJ : BitField := ⟨8, 1⟩
abbrev Fld.SDI_CNT_LOSS : BitField := ⟨0, 15⟩
abbrev Fld.SDI_CNT_LOSS_SAT : BitField := ⟨15, 1⟩
abbrev Fld.SDI_CNT_FTRIP : BitField := ⟨16, 15⟩
abbrev Fld.SDI_CNT_FTRIP_SAT : BitField := ⟨31, 1⟩
abbrev Fld.SDI_SKEW_T : BitField := ⟨0, 24⟩
abbrev Fld.SDI_SKEW_VALID : BitField := ⟨24, 1⟩
abbrev Fld.SDI_SKEW_NOSTEP : BitField := ⟨25, 1⟩
abbrev Fld.SDI_CHCTL_MDIV0 : BitField := ⟨0, 8⟩
abbrev Fld.SDI_CHCTL_MDIV1 : BitField := ⟨8, 8⟩
abbrev Fld.SDI_CHCTL_SKARM : BitField := ⟨16, 1⟩
abbrev Fld.SDI_CHCTL_SKBUSY : BitField := ⟨17, 1⟩
abbrev Fld.SDI_CHCTL_SKWIN : BitField := ⟨18, 6⟩
abbrev Fld.PWM_TOPO_TOPO : BitField := ⟨0, 2⟩
abbrev Fld.PWM_TOPO_DIRECT : BitField := ⟨2, 1⟩
abbrev Fld.PWM_TOPO_USED : BitField := ⟨16, 12⟩
abbrev Fld.PWM_POL_POL : BitField := ⟨0, 12⟩
abbrev Fld.PWM_POL_BRKPOL : BitField := ⟨12, 1⟩
abbrev Fld.PWM_MAP0_MAP : BitField := ⟨0, 32⟩
abbrev Fld.PWM_MAP1_MAP : BitField := ⟨0, 16⟩
abbrev Fld.PWM_CFG_MINP : BitField := ⟨0, 8⟩
abbrev Fld.PWM_CFG_ILK_LOG : BitField := ⟨16, 1⟩
abbrev Fld.PWM_DT_DT13 : BitField := ⟨0, 15⟩
abbrev Fld.PWM_DT_DT24 : BitField := ⟨16, 15⟩
abbrev Fld.PWM_DIR_PEAK : BitField := ⟨0, 12⟩
abbrev Fld.BST_CFG_NPER : BitField := ⟨0, 7⟩
abbrev Fld.BST_CFG_EN : BitField := ⟨7, 1⟩
abbrev Fld.BST_CFG_TRP : BitField := ⟨8, 11⟩
abbrev Fld.BST_CFG_NSEQ : BitField := ⟨19, 4⟩
abbrev Fld.BST_CFG_UVMAX : BitField := ⟨23, 4⟩
abbrev Fld.BST_CFG_START : BitField := ⟨27, 1⟩
abbrev Fld.BST_MASK_MASK : BitField := ⟨0, 12⟩
abbrev Fld.FLT_CFG_FILT : BitField := ⟨0, 8⟩
abbrev Fld.FLT_CFG_EN : BitField := ⟨16, 12⟩
abbrev Fld.FLT_TIM_TSOFT : BitField := ⟨0, 10⟩
abbrev Fld.FLT_TIM_TOFF : BitField := ⟨10, 10⟩
abbrev Fld.FLT_TIM_TORD : BitField := ⟨20, 9⟩
abbrev Fld.DSAT_BLK_BLK_LO : BitField := ⟨0, 16⟩
abbrev Fld.DSAT_BLK_BLK_HI : BitField := ⟨16, 16⟩
abbrev Fld.BRK_CFG_MINON : BitField := ⟨0, 14⟩
abbrev Fld.BRK_CFG_MINOFF : BitField := ⟨14, 14⟩
abbrev Fld.BRK_CFG_EN : BitField := ⟨28, 1⟩
abbrev Fld.PWM_STAT_PHASE : BitField := ⟨0, 1⟩
abbrev Fld.PWM_STAT_CAL_OK : BitField := ⟨1, 1⟩
abbrev Fld.PWM_STAT_BRK : BitField := ⟨2, 1⟩
abbrev Fld.PWM_STAT_ILK : BitField := ⟨3, 1⟩
abbrev Fld.PWM_STAT_DCLAMP : BitField := ⟨4, 1⟩
abbrev Fld.PWM_STAT_ZDEF : BitField := ⟨5, 1⟩
abbrev Fld.PWM_STAT_LEGOFF : BitField := ⟨6, 3⟩
abbrev Fld.PWM_STAT_FLIVE : BitField := ⟨9, 12⟩
abbrev Fld.PWM_STAT_PADS : BitField := ⟨21, 2⟩
abbrev Fld.PWM_STAT_REJ : BitField := ⟨23, 1⟩
abbrev Fld.PWM_TRIP_OC : BitField := ⟨0, 1⟩
abbrev Fld.PWM_TRIP_OV : BitField := ⟨1, 1⟩
abbrev Fld.PWM_TRIP_DESAT : BitField := ⟨2, 1⟩
abbrev Fld.PWM_TRIP_UVREP : BitField := ⟨3, 1⟩
abbrev Fld.PWM_TRIP_SWMASK : BitField := ⟨16, 12⟩
abbrev Fld.PWM_CNT0_ILK : BitField := ⟨0, 15⟩
abbrev Fld.PWM_CNT0_ILK_SAT : BitField := ⟨15, 1⟩
abbrev Fld.PWM_CNT0_DESAT : BitField := ⟨16, 15⟩
abbrev Fld.PWM_CNT0_DESAT_SAT : BitField := ⟨31, 1⟩
abbrev Fld.PWM_CNT1_UV : BitField := ⟨0, 15⟩
abbrev Fld.PWM_CNT1_UV_SAT : BitField := ⟨15, 1⟩
abbrev Fld.PWM_CNT1_BRKN : BitField := ⟨16, 15⟩
abbrev Fld.PWM_CNT1_BRKN_SAT : BitField := ⟨31, 1⟩
abbrev Fld.ENG_CADR_IDX : BitField := ⟨0, 10⟩
abbrev Fld.ENG_CADR_AINC : BitField := ⟨11, 1⟩
abbrev Fld.ENG_CADR_ENG : BitField := ⟨12, 1⟩
abbrev Fld.ENG_CADR_SHIFT : BitField := ⟨16, 6⟩
abbrev Fld.ENG_CDAT_MANT : BitField := ⟨0, 32⟩
abbrev Fld.ENG_CINFO_SHIFT_RD : BitField := ⟨0, 6⟩
abbrev Fld.ENG_CINFO_SAT : BitField := ⟨6, 2⟩
abbrev Fld.ENG_CINFO_OWNER : BitField := ⟨8, 6⟩
abbrev Fld.ENG_CSTAT_PEND_FE : BitField := ⟨0, 7⟩
abbrev Fld.ENG_CSTAT_PEND_ME : BitField := ⟨8, 7⟩
abbrev Fld.ENG_CSTAT_REJ : BitField := ⟨15, 1⟩
abbrev Fld.ENG_CSTAT_CAUSE : BitField := ⟨16, 3⟩
abbrev Fld.ENG_DADR_ADDR : BitField := ⟨0, 11⟩
abbrev Fld.ENG_DADR_AINC : BitField := ⟨11, 1⟩
abbrev Fld.ENG_DADR_ENG : BitField := ⟨12, 1⟩
abbrev Fld.ENG_DDAT_DATA : BitField := ⟨0, 32⟩
abbrev Fld.ENG_STAT_FE_LS : BitField := ⟨0, 1⟩
abbrev Fld.ENG_STAT_ME_LS : BitField := ⟨1, 1⟩
abbrev Fld.ENG_STAT_FE_UE : BitField := ⟨2, 1⟩
abbrev Fld.ENG_STAT_ME_UE : BitField := ⟨3, 1⟩
abbrev Fld.ENG_STAT_FE_CSAT : BitField := ⟨4, 1⟩
abbrev Fld.ENG_STAT_ME_CSAT : BitField := ⟨5, 1⟩
abbrev Fld.ENG_STAT_FE_EDROP : BitField := ⟨6, 1⟩
abbrev Fld.ENG_STAT_ME_EDROP : BitField := ⟨7, 1⟩
abbrev Fld.ENG_STAT_FE_BADOP : BitField := ⟨8, 1⟩
abbrev Fld.ENG_STAT_ME_BADOP : BitField := ⟨9, 1⟩
abbrev Fld.ENG_ECC_FE_CE : BitField := ⟨0, 15⟩
abbrev Fld.ENG_ECC_FE_CE_SAT : BitField := ⟨15, 1⟩
abbrev Fld.ENG_ECC_ME_CE : BitField := ⟨16, 15⟩
abbrev Fld.ENG_ECC_ME_CE_SAT : BitField := ⟨31, 1⟩
abbrev Fld.ENG_CNT_REJ : BitField := ⟨0, 15⟩
abbrev Fld.ENG_CNT_REJ_SAT : BitField := ⟨15, 1⟩
abbrev Fld.ENG_CNT_MBX : BitField := ⟨16, 15⟩
abbrev Fld.ENG_CNT_MBX_SAT : BitField := ⟨31, 1⟩
abbrev Fld.HO_CFG_LEN : BitField := ⟨0, 13⟩
abbrev Fld.HO_STAT_REM : BitField := ⟨0, 13⟩
abbrev Fld.HO_STAT_ACT : BitField := ⟨13, 1⟩
abbrev Fld.HO_STAT_QTY : BitField := ⟨14, 2⟩
abbrev Fld.PLL_CFG_NINT : BitField := ⟨0, 10⟩
abbrev Fld.PLL_CFG_POST : BitField := ⟨10, 6⟩
abbrev Fld.PLL_CFG_REFSEL : BitField := ⟨16, 1⟩
abbrev Fld.PLL_CFG_AUTO : BitField := ⟨17, 1⟩
abbrev Fld.PLL_FRAC_FRAC : BitField := ⟨0, 24⟩
abbrev Fld.PLL_CTL_RELOCK : BitField := ⟨0, 1⟩
abbrev Fld.PLL_STAT_LOCK : BitField := ⟨0, 1⟩
abbrev Fld.PLL_STAT_BYPASS : BitField := ⟨1, 1⟩
abbrev Fld.PLL_STAT_GATED : BitField := ⟨2, 1⟩
abbrev Fld.PLL_STAT_ACTREF : BitField := ⟨3, 1⟩
abbrev Fld.PLL_STAT_LOL : BitField := ⟨4, 1⟩
abbrev Fld.PLL_STAT_LOR : BitField := ⟨5, 1⟩
abbrev Fld.PLL_STAT_CEIL : BitField := ⟨6, 1⟩
abbrev Fld.PLL_STAT_LFAIL : BitField := ⟨7, 1⟩
abbrev Fld.PLL_STAT_REFSW : BitField := ⟨8, 1⟩
abbrev Fld.PLL_STAT_REJ : BitField := ⟨9, 1⟩
abbrev Fld.PLL_STAT_RCAUSE : BitField := ⟨10, 4⟩
abbrev Fld.PLL_STAT_CLA : BitField := ⟨14, 1⟩
abbrev Fld.PLL_STAT_RAMPOWN : BitField := ⟨15, 1⟩
abbrev Fld.PLL_STAT_BAND : BitField := ⟨16, 4⟩
abbrev Fld.PLL_STAT_BUSY : BitField := ⟨20, 1⟩
abbrev Fld.PLL_RAMP_NSEG : BitField := ⟨0, 5⟩
abbrev Fld.PLL_RAMP_GO : BitField := ⟨5, 1⟩
abbrev Fld.PLL_RAMP_HOLD : BitField := ⟨6, 1⟩
abbrev Fld.PLL_RAMP_BUSY : BitField := ⟨7, 1⟩
abbrev Fld.PLL_RAMP_SEG : BitField := ⟨8, 4⟩
abbrev Fld.PLL_LEVEL_TGT : BitField := ⟨0, 18⟩
abbrev Fld.PLL_LEVEL_SLOPE : BitField := ⟨18, 14⟩
abbrev Fld.PLL_OFS_OFS : BitField := ⟨0, 32⟩
abbrev Fld.PLL_FMEAS_FM : BitField := ⟨0, 32⟩
abbrev Fld.PLL_CNT_LOL : BitField := ⟨0, 15⟩
abbrev Fld.PLL_CNT_LOL_SAT : BitField := ⟨15, 1⟩
abbrev Fld.PLL_CNT_REFSW : BitField := ⟨16, 15⟩
abbrev Fld.PLL_CNT_REFSW_SAT : BitField := ⟨31, 1⟩
abbrev Fld.PLL_SEG_TGT_TGT : BitField := ⟨0, 24⟩
abbrev Fld.PLL_SEG_SLP_SLOPE : BitField := ⟨0, 14⟩
abbrev Fld.PACK_CFG_EN : BitField := ⟨0, 1⟩
abbrev Fld.PACK_CFG_TXEN : BitField := ⟨1, 1⟩
abbrev Fld.PACK_CFG_RSTEN : BitField := ⟨2, 1⟩
abbrev Fld.PACK_CFG_KC : BitField := ⟨8, 8⟩
abbrev Fld.PACK_CFG_QACQ : BitField := ⟨16, 8⟩
abbrev Fld.PACK_CFG_QLOSE : BitField := ⟨24, 8⟩
abbrev Fld.PACK_ID_ID : BitField := ⟨0, 10⟩
abbrev Fld.PACK_W_W : BitField := ⟨0, 16⟩
abbrev Fld.PACK_W_WMIN : BitField := ⟨16, 16⟩
abbrev Fld.PACK_TR_TR : BitField := ⟨0, 16⟩
abbrev Fld.PACK_STAT_TX : BitField := ⟨0, 1⟩
abbrev Fld.PACK_STAT_LOCAL : BitField := ⟨1, 1⟩
abbrev Fld.PACK_STAT_SUSP : BitField := ⟨2, 1⟩
abbrev Fld.PACK_STAT_STIFF : BitField := ⟨3, 1⟩
abbrev Fld.PACK_STAT_LONE : BitField := ⟨4, 1⟩
abbrev Fld.PACK_STAT_DUP : BitField := ⟨5, 1⟩
abbrev Fld.PACK_STAT_BACKOFF : BitField := ⟨6, 1⟩
abbrev Fld.PACK_STAT_PEERFULL : BitField := ⟨7, 1⟩
abbrev Fld.PACK_STAT_REJ : BitField := ⟨8, 1⟩
abbrev Fld.PACK_STAT_NPEER : BitField := ⟨16, 7⟩
abbrev Fld.PACK_X_X : BitField := ⟨0, 32⟩
abbrev Fld.PACK_FMEAS_FM : BitField := ⟨0, 32⟩
abbrev Fld.PACK_OWN_PHASE : BitField := ⟨0, 8⟩
abbrev Fld.PACK_OWN_PERIOD : BitField := ⟨8, 5⟩
abbrev Fld.PACK_OWN_OWNQ : BitField := ⟨16, 8⟩
abbrev Fld.PACK_OWN_BOFF : BitField := ⟨24, 4⟩
abbrev Fld.PACK_PSEL_IDX : BitField := ⟨0, 6⟩
abbrev Fld.PACK_PEER0_ID : BitField := ⟨0, 10⟩
abbrev Fld.PACK_PEER0_IDV : BitField := ⟨10, 1⟩
abbrev Fld.PACK_PEER0_CODE : BitField := ⟨12, 8⟩
abbrev Fld.PACK_PEER0_STATE : BitField := ⟨20, 2⟩
abbrev Fld.PACK_PEER0_Q : BitField := ⟨22, 8⟩
abbrev Fld.PACK_PEER1_X : BitField := ⟨0, 12⟩
abbrev Fld.PACK_PEER1_W : BitField := ⟨16, 12⟩
abbrev Fld.PACK_PEER1_AGE : BitField := ⟨28, 4⟩
abbrev Fld.PACK_DUPID_ID : BitField := ⟨0, 10⟩
abbrev Fld.PACK_DUPID_IDV : BitField := ⟨10, 1⟩
abbrev Fld.PACK_DUPID_PHASE : BitField := ⟨11, 8⟩
abbrev Fld.PACK_CNT0_FRX : BitField := ⟨0, 15⟩
abbrev Fld.PACK_CNT0_FRX_SAT : BitField := ⟨15, 1⟩
abbrev Fld.PACK_CNT0_FBAD : BitField := ⟨16, 15⟩
abbrev Fld.PACK_CNT0_FBAD_SAT : BitField := ⟨31, 1⟩
abbrev Fld.PACK_CNT1_DUPN : BitField := ⟨0, 15⟩
abbrev Fld.PACK_CNT1_DUPN_SAT : BitField := ⟨15, 1⟩
abbrev Fld.PACK_CNT1_LOSTN : BitField := ⟨16, 15⟩
abbrev Fld.PACK_CNT1_LOSTN_SAT : BitField := ⟨31, 1⟩
abbrev Fld.TMOD_CFG_EN : BitField := ⟨0, 1⟩
abbrev Fld.TMOD_CFG_TQTY : BitField := ⟨8, 8⟩
abbrev Fld.TMOD_CFG_KMIN : BitField := ⟨16, 8⟩
abbrev Fld.TMOD_LIM_TDER : BitField := ⟨0, 12⟩
abbrev Fld.TMOD_LIM_TTRIP : BitField := ⟨12, 12⟩
abbrev Fld.TMOD_LIM_THYS : BitField := ⟨24, 6⟩
abbrev Fld.TMOD_TREF_TREF : BitField := ⟨0, 16⟩
abbrev Fld.TMOD_STAT_THOT : BitField := ⟨0, 12⟩
abbrev Fld.TMOD_STAT_HDEV : BitField := ⟨12, 4⟩
abbrev Fld.TMOD_STAT_DER : BitField := ⟨16, 1⟩
abbrev Fld.TMOD_STAT_TRIP : BitField := ⟨17, 1⟩
abbrev Fld.TMOD_STAT_FROZEN : BitField := ⟨18, 1⟩
abbrev Fld.TMOD_STAT_REJ : BitField := ⟨19, 1⟩
abbrev Fld.TMOD_STAT_KD : BitField := ⟨24, 8⟩
abbrev Fld.TMOD_TJ_TJ_LO : BitField := ⟨0, 16⟩
abbrev Fld.TMOD_TJ_TJ_HI : BitField := ⟨16, 16⟩
abbrev Fld.TMOD_CNT_DERN : BitField := ⟨0, 15⟩
abbrev Fld.TMOD_CNT_DERN_SAT : BitField := ⟨15, 1⟩
abbrev Fld.TMOD_CNT_TRIPN : BitField := ⟨16, 15⟩
abbrev Fld.TMOD_CNT_TRIPN_SAT : BitField := ⟨31, 1⟩
abbrev Fld.SAF_CH_CFG_TD : BitField := ⟨0, 18⟩
abbrev Fld.SAF_CH_CFG_K1SGI : BitField := ⟨18, 1⟩
abbrev Fld.SAF_CH_CFG_K2SGI : BitField := ⟨19, 1⟩
abbrev Fld.SAF_K_CFG_K1TS : BitField := ⟨0, 9⟩
abbrev Fld.SAF_K_CFG_K2TS : BitField := ⟨9, 9⟩
abbrev Fld.SAF_K_CFG_KDEB : BitField := ⟨18, 6⟩
abbrev Fld.SAF_K_CFG_K1EN : BitField := ⟨24, 1⟩
abbrev Fld.SAF_K_CFG_K2EN : BitField := ⟨25, 1⟩
abbrev Fld.SAF_CH_STAT_SGA : BitField := ⟨0, 1⟩
abbrev Fld.SAF_CH_STAT_SGB : BitField := ⟨1, 1⟩
abbrev Fld.SAF_CH_STAT_INH_A : BitField := ⟨2, 1⟩
abbrev Fld.SAF_CH_STAT_INH_B : BitField := ⟨3, 1⟩
abbrev Fld.SAF_CH_STAT_DISC : BitField := ⟨4, 1⟩
abbrev Fld.SAF_CH_STAT_DCYC : BitField := ⟨5, 1⟩
abbrev Fld.SAF_CH_STAT_DACK : BitField := ⟨6, 1⟩
abbrev Fld.SAF_CH_STAT_K1CMD : BitField := ⟨7, 1⟩
abbrev Fld.SAF_CH_STAT_K1FB : BitField := ⟨8, 1⟩
abbrev Fld.SAF_CH_STAT_K2CMD : BitField := ⟨9, 1⟩
abbrev Fld.SAF_CH_STAT_K2FB : BitField := ⟨10, 1⟩
abbrev Fld.SAF_CH_STAT_K1FLT : BitField := ⟨11, 3⟩
abbrev Fld.SAF_CH_STAT_K2FLT : BitField := ⟨14, 3⟩
abbrev Fld.SAF_ACK_DISC : BitField := ⟨0, 1⟩
abbrev Fld.SAF_ACK_CONT : BitField := ⟨1, 1⟩
abbrev Fld.SAF_CH_CNT_SGIN : BitField := ⟨0, 15⟩
abbrev Fld.SAF_CH_CNT_SGIN_SAT : BitField := ⟨15, 1⟩
abbrev Fld.SAF_CH_CNT_DISCN : BitField := ⟨16, 15⟩
abbrev Fld.SAF_CH_CNT_DISCN_SAT : BitField := ⟨31, 1⟩
abbrev Fld.CAP_CTL_ARM : BitField := ⟨0, 1⟩
abbrev Fld.CAP_CTL_DISARM : BitField := ⟨1, 1⟩
abbrev Fld.CAP_CTL_FORCE : BitField := ⟨2, 1⟩
abbrev Fld.CAP_CTL_HCLR : BitField := ⟨3, 1⟩
abbrev Fld.CAP_CTL_ACK : BitField := ⟨4, 1⟩
abbrev Fld.CAP_CTL_SEG : BitField := ⟨5, 6⟩
abbrev Fld.CAP_CFG_DECM1 : BitField := ⟨0, 16⟩
abbrev Fld.CAP_CFG_PRE : BitField := ⟨16, 7⟩
abbrev Fld.CAP_CFG_AUTO : BitField := ⟨23, 1⟩
abbrev Fld.CAP_CFG_BASE : BitField := ⟨24, 1⟩
abbrev Fld.CAP_CFG_HMODE : BitField := ⟨25, 2⟩
abbrev Fld.CAP_CFG_OVW : BitField := ⟨27, 1⟩
abbrev Fld.CAP_CFG_GFORCE : BitField := ⟨28, 1⟩
abbrev Fld.CAP_CFG_MLOG : BitField := ⟨29, 1⟩
abbrev Fld.CAP_HOLD_KIND : BitField := ⟨31, 1⟩
abbrev Fld.CAP_HIST_HSH : BitField := ⟨0, 5⟩
abbrev Fld.CAP_HIST_PTR : BitField := ⟨8, 6⟩
abbrev Fld.CAP_SEG_NSEG : BitField := ⟨0, 7⟩
abbrev Fld.CAP_LAYOUT_NTR : BitField := ⟨0, 7⟩
abbrev Fld.CAP_LAYOUT_HREG : BitField := ⟨8, 8⟩
abbrev Fld.CAP_LAYOUT_SIZE : BitField := ⟨16, 16⟩
abbrev Fld.CAP_DEPTH_DEPTH : BitField := ⟨0, 24⟩
abbrev Fld.CAP_STAT_STATE : BitField := ⟨0, 3⟩
abbrev Fld.CAP_STAT_SEGW : BitField := ⟨4, 6⟩
abbrev Fld.CAP_STAT_UNREAD : BitField := ⟨11, 7⟩
abbrev Fld.CAP_STAT_PPEND : BitField := ⟨18, 1⟩
abbrev Fld.CAP_STAT_THR : BitField := ⟨19, 1⟩
abbrev Fld.CAP_STAT_ECCAB : BitField := ⟨20, 1⟩
abbrev Fld.CAP_STAT_HSAT : BitField := ⟨21, 1⟩
abbrev Fld.CAP_STAT_REJ : BitField := ⟨22, 1⟩
abbrev Fld.CAP_CNT_MISSED : BitField := ⟨0, 15⟩
abbrev Fld.CAP_CNT_MISSED_SAT : BitField := ⟨15, 1⟩
abbrev Fld.CAP_CNT_LOSTREC : BitField := ⟨16, 15⟩
abbrev Fld.CAP_CNT_LOSTREC_SAT : BitField := ⟨31, 1⟩
abbrev Fld.CAP_TRSEL_QTY : BitField := ⟨0, 32⟩
abbrev Fld.CAP_COND_CFG_EN : BitField := ⟨0, 1⟩
abbrev Fld.CAP_COND_CFG_TYPE : BitField := ⟨1, 3⟩
abbrev Fld.CAP_COND_CFG_POL : BitField := ⟨4, 1⟩
abbrev Fld.CAP_COND_CFG_UNS : BitField := ⟨5, 1⟩
abbrev Fld.CAP_COND_CFG_HALF : BitField := ⟨6, 1⟩
abbrev Fld.CAP_COND_CFG_TAGQ : BitField := ⟨7, 1⟩
abbrev Fld.CAP_COND_CFG_QTY : BitField := ⟨8, 8⟩
abbrev Fld.CAP_COND_CFG_CNT : BitField := ⟨16, 4⟩
abbrev Fld.CAP_COND_CFG_RLAG : BitField := ⟨20, 8⟩
abbrev Fld.CAP_COND_THR_LO : BitField := ⟨0, 16⟩
abbrev Fld.CAP_COND_THR_HI : BitField := ⟨16, 16⟩
abbrev Fld.LAW_TVI_REL_TREL : BitField := ⟨0, 16⟩
abbrev Fld.LAW_TVI_REL_HYS : BitField := ⟨16, 16⟩
abbrev Fld.LAW_NEG_CFG_MODE : BitField := ⟨0, 2⟩
abbrev Fld.LAW_NEG_CFG_K_NEG : BitField := ⟨8, 8⟩
abbrev Fld.LAW_NEG_CFG_I_NEG_MAX : BitField := ⟨16, 16⟩
abbrev Fld.LAW_TAG_STALE_MAX : BitField := ⟨0, 4⟩
abbrev Fld.LAW_TAG_SAT_MAX : BitField := ⟨4, 4⟩
abbrev Fld.LAW_TAG_BAD_MAX : BitField := ⟨8, 4⟩
abbrev Fld.LAW_STAT_LIM : BitField := ⟨0, 1⟩
abbrev Fld.LAW_STAT_HARDLIM : BitField := ⟨1, 1⟩
abbrev Fld.LAW_STAT_OVM : BitField := ⟨2, 1⟩
abbrev Fld.LAW_STAT_READY : BitField := ⟨3, 1⟩
abbrev Fld.LAW_STAT_MEAS_LOST : BitField := ⟨4, 1⟩
abbrev Fld.LAW_STAT_HOLD : BitField := ⟨5, 1⟩
abbrev Fld.LAW_STAT_FLIM : BitField := ⟨6, 1⟩
abbrev Fld.LAW_STAT_ELIM : BitField := ⟨7, 1⟩
abbrev Fld.LAW_STAT_PLIM : BitField := ⟨8, 1⟩
abbrev Fld.LAW_STAT_NEG_LIM : BitField := ⟨9, 1⟩
abbrev Fld.LAW_STAT_REJ : BitField := ⟨10, 1⟩
abbrev Fld.LAW_STAT_LOST_SLOT : BitField := ⟨16, 6⟩
abbrev Fld.LAW_CNT_LIMN : BitField := ⟨0, 15⟩
abbrev Fld.LAW_CNT_LIMN_SAT : BitField := ⟨15, 1⟩
abbrev Fld.LAW_CNT_HOLDN : BitField := ⟨16, 15⟩
abbrev Fld.LAW_CNT_HOLDN_SAT : BitField := ⟨31, 1⟩
abbrev Fld.SP_STAT_CLAMP : BitField := ⟨0, 1⟩
abbrev Fld.SP_STAT_HELD : BitField := ⟨1, 1⟩
abbrev Fld.SP_STAT_MOVING : BitField := ⟨2, 1⟩
abbrev Fld.SP_STAT_REJ : BitField := ⟨3, 1⟩
abbrev Fld.SP_STAT_EXTSRC : BitField := ⟨4, 1⟩

/-! ## Rows: reset words and access masks -/

def globalRows0 : List RegRow := [
  ⟨0x0, 1, 0x40000, 1, 0x4, 0x1C0C5C12, 0xFFFFFFFF, 0x0, 0x0, 0x0, 0x0, 0x0, false⟩,
  ⟨0x4, 1, 0x40000, 1, 0x4, 0x11110, 0xFFFFFF, 0x0, 0x0, 0x0, 0x0, 0x0, false⟩,
  ⟨0x10, 1, 0x40000, 1, 0x4, 0x20000, 0x3FFFFF, 0x0, 0x0, 0x0, 0x0, 0x0, false⟩,
  ⟨0x40, 1, 0x40000, 1, 0x4, 0x61A8, 0xFFFF, 0x0, 0x0, 0x0, 0x0, 0x0, false⟩,
  ⟨0x44, 1, 0x40000, 1, 0x4, 0x0, 0x7, 0x0, 0x0, 0x0, 0x0, 0x18, false⟩,
  ⟨0x60, 1, 0x40000, 1, 0x4, 0x0, 0x0, 0x0, 0x0, 0xFFFF0FFF, 0x0, 0x0, false⟩,
  ⟨0x100, 1, 0x40000, 1, 0x4, 0x8, 0x0, 0xF, 0x0, 0x0, 0x0, 0x0, false⟩,
  ⟨0x104, 1, 0x40000, 1, 0x4, 0x0, 0xFFFF0F07, 0x0, 0x0, 0x0, 0x0, 0x78, false⟩,
  ⟨0x108, 1, 0x40000, 1, 0x4, 0x0, 0x7FFF7FFF, 0x0, 0x0, 0x0, 0x80008000, 0x0, true⟩,
  ⟨0x110, 16, 0x4, 1, 0x4, 0x0, 0x7FFF, 0x0, 0x0, 0x0, 0x0, 0x0, false⟩,
  ⟨0x200, 1, 0x40000, 1, 0x4, 0x0, 0x7F, 0x0, 0x0, 0x0, 0x0, 0x80, false⟩,
  ⟨0x204, 1, 0x40000, 1, 0x4, 0x0, 0x0, 0x0, 0x0, 0x0, 0x0, 0x7F, false⟩,
  ⟨0x210, 1, 0x40000, 1, 0x4, 0x0, 0x0, 0x0, 0x0, 0x0, 0xFFFFFF, 0x0, false⟩,
  ⟨0x214, 1, 0x40000, 1, 0x4, 0xFFFFFF, 0x0, 0xFFFFFF, 0x0, 0x0, 0x0, 0x0, false⟩,
  ⟨0x220, 1, 0x40000, 1, 0x4, 0x0, 0x0, 0x0, 0x0, 0x3, 0x0, 0x0, false⟩,
  ⟨0x224, 1, 0x40000, 1, 0x4, 0x0, 0x0, 0x0, 0x0, 0x1, 0x0, 0x0, false⟩,
  ⟨0x228, 1, 0x40000, 1, 0x4, 0x0, 0x0, 0xFFFFFFFF, 0x0, 0x0, 0x0, 0x0, false⟩,
  ⟨0x22C, 1, 0x40000, 1, 0x4, 0x0, 0x0, 0xFFFFFFFF, 0x0, 0x0, 0x0, 0x0, false⟩,
  ⟨0x230, 1, 0x40000, 1, 0x4, 0x0, 0xFFF33, 0x0, 0x0, 0x0, 0x0, 0xC, false⟩,
  ⟨0x234, 1, 0x40000, 1, 0x4, 0x0, 0xFFFFFF, 0x0, 0x0, 0x0, 0x0, 0x0, false⟩,
  ⟨0x238, 1, 0x40000, 1, 0x4, 0x0, 0xFFF0000, 0x0, 0x0, 0xFFF, 0x0, 0x0, false⟩,
  ⟨0x23C, 1, 0x40000, 1, 0x4, 0x0, 0x7FFF7FFF, 0x0, 0x0, 0x0, 0x80008000, 0x0, true⟩,
  ⟨0x1000, 1, 0x40000, 1, 0x4, 0x5FFF, 0x17FF7FFF, 0x0, 0x0, 0x0, 0x0, 0x8008000, false⟩,
  ⟨0x1004, 1, 0x40000, 1, 0x4, 0x0, 0x0, 0x0, 0x0, 0xFFFF001F, 0x0, 0x0, false⟩]

def globalRows1 : List RegRow := [
  ⟨0x1008, 1, 0x40000, 1, 0x4, 0x0, 0x0, 0xFFF, 0x0, 0x0, 0x0, 0x0, false⟩,
  ⟨0x100C, 1, 0x40000, 1, 0x4, 0x3E8, 0x0, 0xFFFF, 0x0, 0x0, 0x0, 0x0, false⟩,
  ⟨0x1010, 1, 0x40000, 1, 0x4, 0x0, 0x0, 0x0, 0x0, 0xFFFFFFFF, 0x0, 0x0, false⟩,
  ⟨0x1014, 1, 0x40000, 1, 0x4, 0x0, 0x100, 0x1F, 0x0, 0x0, 0x0, 0x0, false⟩,
  ⟨0x1018, 4, 0x4, 1, 0x4, 0x0, 0xFFFFFFFF, 0x0, 0x0, 0x0, 0x0, 0x0, false⟩,
  ⟨0x1028, 1, 0x40000, 1, 0x4, 0x0, 0x0, 0xFFFFFFFF, 0x0, 0x0, 0x0, 0x0, false⟩,
  ⟨0x102C, 1, 0x40000, 1, 0x4, 0x0, 0x0, 0x0, 0x0, 0xFF, 0x0, 0x0, false⟩,
  ⟨0x1030, 1, 0x40000, 1, 0x4, 0x0, 0x7FFF7FFF, 0x0, 0x0, 0x0, 0x80008000, 0x0, true⟩,
  ⟨0x1034, 1, 0x40000, 1, 0x4, 0x0, 0x7FFF, 0x0, 0x0, 0x0, 0x8000, 0x0, true⟩,
  ⟨0x1038, 1, 0x40000, 1, 0x4, 0x0, 0xFFFFFFFF, 0x0, 0x0, 0x0, 0x0, 0x0, false⟩,
  ⟨0x103C, 1, 0x40000, 1, 0x4, 0x0, 0xFFFFFFFF, 0x0, 0x0, 0x0, 0x0, 0x0, false⟩,
  ⟨0x1040, 1, 0x40000, 1, 0x4, 0x0, 0xFFFFFFFF, 0x0, 0x0, 0x0, 0x0, 0x0, false⟩,
  ⟨0x1044, 1, 0x40000, 1, 0x4, 0x0, 0xFFFFFFFF, 0x0, 0x0, 0x0, 0x0, 0x0, false⟩,
  ⟨0x2000, 1, 0x40000, 1, 0x4, 0x0, 0x0, 0x0, 0x0, 0x1, 0x0, 0x0, false⟩,
  ⟨0x2004, 1, 0x40000, 1, 0x4, 0x4, 0xF, 0x0, 0x0, 0x0, 0x0, 0x10, false⟩,
  ⟨0x2008, 1, 0x40000, 1, 0x4, 0x3E8, 0x0, 0x3FFF, 0x0, 0x0, 0x0, 0x0, false⟩,
  ⟨0x2010, 1, 0x40000, 1, 0x4, 0x0, 0xFFFFFFFF, 0x0, 0x0, 0x0, 0x0, 0x0, false⟩,
  ⟨0x2014, 1, 0x40000, 1, 0x4, 0x0, 0xFFFFFFFF, 0x0, 0x0, 0x0, 0x0, 0x0, false⟩,
  ⟨0x2018, 1, 0x40000, 1, 0x4, 0x0, 0xFFFFFFFF, 0x0, 0x0, 0x0, 0x0, 0x0, false⟩,
  ⟨0x201C, 1, 0x40000, 1, 0x4, 0x0, 0xFFFFFFFF, 0x0, 0x0, 0x0, 0x0, 0x0, false⟩,
  ⟨0x2020, 1, 0x40000, 1, 0x4, 0x0, 0x0, 0x8001FFFF, 0x0, 0x0, 0x0, 0x0, false⟩,
  ⟨0x2024, 1, 0x40000, 1, 0x4, 0x0, 0x7FFF7FFF, 0x0, 0x0, 0x0, 0x80008000, 0x0, true⟩,
  ⟨0x2028, 1, 0x40000, 1, 0x4, 0x106400, 0x7, 0x1FFF00, 0x0, 0x0, 0x0, 0x0, false⟩,
  ⟨0x202C, 1, 0x40000, 1, 0x4, 0x0, 0xFFFFFFFF, 0x0, 0x0, 0x0, 0x0, 0x0, false⟩]

def globalRows2 : List RegRow := [
  ⟨0x2030, 1, 0x40000, 1, 0x4, 0x0, 0xFFFFFFFF, 0x0, 0x0, 0x0, 0x0, 0x0, false⟩,
  ⟨0x2034, 1, 0x40000, 1, 0x4, 0x0, 0xFFFFFFFF, 0x0, 0x0, 0x0, 0x0, 0x0, false⟩,
  ⟨0x2038, 1, 0x40000, 1, 0x4, 0x0, 0x7FFF7FFF, 0x0, 0x0, 0x0, 0x80008000, 0x0, true⟩,
  ⟨0x2040, 1, 0x40000, 1, 0x4, 0x0, 0xFFFFFFFF, 0x0, 0x0, 0x0, 0x0, 0x0, false⟩,
  ⟨0x2044, 1, 0x40000, 1, 0x4, 0x0, 0xFFFFFFFF, 0x0, 0x0, 0x0, 0x0, 0x0, false⟩,
  ⟨0x2048, 1, 0x40000, 1, 0x4, 0x0, 0x0, 0xFFFFFFFF, 0x0, 0x0, 0x0, 0x0, false⟩,
  ⟨0x204C, 1, 0x40000, 1, 0x4, 0x0, 0x0, 0xFFFFFFFF, 0x0, 0x0, 0x0, 0x0, false⟩,
  ⟨0x2050, 1, 0x40000, 1, 0x4, 0x0, 0x0, 0x0, 0x0, 0x3, 0x0, 0x0, false⟩,
  ⟨0x2054, 1, 0x40000, 1, 0x4, 0x0, 0x6BFFFF, 0x0, 0x0, 0x0, 0x0, 0x940000, false⟩,
  ⟨0x2058, 1, 0x40000, 1, 0x4, 0x7D084, 0x0, 0x1FFFFFFF, 0x0, 0x0, 0x0, 0x0, false⟩,
  ⟨0x205C, 1, 0x40000, 1, 0x4, 0x0, 0xFFFFFFFF, 0x0, 0x0, 0x0, 0x0, 0x0, false⟩,
  ⟨0x2060, 1, 0x40000, 1, 0x4, 0x0, 0xFFFFFFFF, 0x0, 0x0, 0x0, 0x0, 0x0, false⟩,
  ⟨0x2064, 1, 0x40000, 1, 0x4, 0x0, 0x7FFF7FFF, 0x0, 0x0, 0x0, 0x80008000, 0x0, true⟩,
  ⟨0x2100, 16, 0x4, 1, 0x4, 0x0, 0xFFFFFFFF, 0x0, 0x0, 0x0, 0x0, 0x0, false⟩,
  ⟨0x3000, 1, 0x40000, 1, 0x4, 0x0, 0x0, 0x0, 0x0, 0xFFFF0001, 0x0, 0x0, false⟩,
  ⟨0x3004, 1, 0x40000, 1, 0x4, 0x0, 0xF7, 0x0, 0x0, 0x0, 0x0, 0x708, false⟩,
  ⟨0x3008, 1, 0x40000, 1, 0x4, 0x0, 0xFFFFFFFF, 0x0, 0x0, 0x0, 0x0, 0x0, false⟩,
  ⟨0x300C, 1, 0x40000, 1, 0x4, 0x0, 0x0, 0xFFFFFFFF, 0x0, 0x0, 0x0, 0x0, false⟩,
  ⟨0x3010, 1, 0x40000, 1, 0x4, 0x0, 0x0, 0xFFFFFFFF, 0x0, 0x0, 0x0, 0x0, false⟩,
  ⟨0x3014, 1, 0x40000, 1, 0x4, 0xA13000, 0x0, 0x3FFFFFFF, 0x0, 0x0, 0x0, 0x0, false⟩,
  ⟨0x3018, 1, 0x40000, 1, 0x4, 0x0, 0xFFFF, 0x0, 0x0, 0x0, 0x0, 0xF0000, false⟩,
  ⟨0x301C, 1, 0x40000, 1, 0x4, 0x0, 0x7FFF7FFF, 0x0, 0x0, 0x0, 0x80008000, 0x0, true⟩,
  ⟨0x3020, 1, 0x40000, 1, 0x4, 0x0, 0x7FFF7FFF, 0x0, 0x0, 0x0, 0x80008000, 0x0, true⟩,
  ⟨0x3040, 8, 0x4, 1, 0x4, 0x0, 0x0, 0x0, 0x0, 0xFFFFFFFF, 0x0, 0x0, false⟩]

def globalRows3 : List RegRow := [
  ⟨0x3060, 8, 0x4, 1, 0x4, 0x0, 0xFFFFFFFF, 0x0, 0x0, 0x0, 0x0, 0x0, false⟩,
  ⟨0x4000, 1, 0x40000, 1, 0x4, 0x0, 0x0, 0x0, 0x0, 0x1FFF0FFF, 0x0, 0x0, false⟩,
  ⟨0x4004, 1, 0x40000, 1, 0x4, 0x0, 0x77, 0x0, 0x0, 0x0, 0x0, 0x388, false⟩,
  ⟨0x4008, 1, 0x40000, 1, 0x4, 0x0, 0x1FFF0FFF, 0x0, 0x0, 0x0, 0x0, 0x0, false⟩,
  ⟨0x400C, 1, 0x40000, 1, 0x4, 0x0, 0xF0FFF, 0x0, 0x0, 0x0, 0x0, 0x0, false⟩,
  ⟨0x4010, 1, 0x40000, 1, 0x4, 0x3E8, 0x0, 0xFFFF, 0x0, 0x0, 0x0, 0x0, false⟩,
  ⟨0x4014, 1, 0x40000, 1, 0x4, 0xA0F08, 0x0, 0xFF0FFF, 0x0, 0x0, 0x0, 0x0, false⟩,
  ⟨0x4018, 1, 0x40000, 1, 0x4, 0x0, 0x7FFF7FFF, 0x0, 0x0, 0x0, 0x80008000, 0x0, true⟩,
  ⟨0x401C, 1, 0x40000, 1, 0x4, 0x0, 0x7FFF7FFF, 0x0, 0x0, 0x0, 0x80008000, 0x0, true⟩,
  ⟨0x4100, 12, 0x4, 1, 0x4, 0x0, 0x407F, 0x0, 0x0, 0x0, 0x0, 0x3F80, false⟩,
  ⟨0x4140, 12, 0x4, 1, 0x4, 0x0, 0xFFFF03FF, 0x0, 0x0, 0x0, 0x0, 0x0, false⟩,
  ⟨0x4180, 12, 0x4, 1, 0x4, 0x0, 0x7FFF7FFF, 0x0, 0x0, 0x0, 0x80008000, 0x0, true⟩,
  ⟨0x41C0, 1, 0x40000, 1, 0x4, 0x70148, 0x0, 0xFFFFFFFF, 0x0, 0x0, 0x0, 0x0, false⟩,
  ⟨0x5000, 1, 0x40000, 1, 0x4, 0x0, 0x0, 0x0, 0x0, 0xFFFF03FF, 0x0, 0x0, false⟩,
  ⟨0x5004, 1, 0x40000, 1, 0x4, 0x0, 0x3FF0F, 0x0, 0x0, 0x0, 0x0, 0x7C00F0, false⟩,
  ⟨0x5008, 1, 0x40000, 1, 0x4, 0x0, 0x0, 0xFFFFFFFF, 0x0, 0x0, 0x0, 0x0, false⟩,
  ⟨0x500C, 1, 0x40000, 1, 0x4, 0x0, 0x0, 0xFFFFFFFF, 0x0, 0x0, 0x0, 0x0, false⟩,
  ⟨0x5010, 1, 0x40000, 1, 0x4, 0x0, 0x0, 0xFFFFFFFF, 0x0, 0x0, 0x0, 0x0, false⟩,
  ⟨0x5014, 1, 0x40000, 1, 0x4, 0x0, 0x0, 0x0, 0x0, 0xFFFFFFFF, 0x0, 0x0, false⟩,
  ⟨0x5018, 1, 0x40000, 1, 0x4, 0x0, 0xFFFFFFFF, 0x0, 0x0, 0x0, 0x0, 0x0, false⟩,
  ⟨0x501C, 1, 0x40000, 1, 0x4, 0x0, 0xFFFFFFFF, 0x0, 0x0, 0x0, 0x0, 0x0, false⟩,
  ⟨0x5020, 1, 0x40000, 1, 0x4, 0x0, 0xFFFFFFFF, 0x0, 0x0, 0x0, 0x0, 0x0, false⟩,
  ⟨0x5040, 12, 0x4, 1, 0x4, 0x0, 0xFFFFF, 0x0, 0x0, 0x0, 0x0, 0x0, false⟩,
  ⟨0x5080, 1, 0x40000, 1, 0x4, 0x0, 0x7FF, 0x0, 0x0, 0x0, 0x0, 0x0, false⟩]

def globalRows4 : List RegRow := [
  ⟨0x5084, 1, 0x40000, 1, 0x4, 0x0, 0x0, 0x0, 0x0, 0xFFFF000F, 0x0, 0x0, false⟩,
  ⟨0x50A0, 8, 0x4, 1, 0x4, 0x0, 0x0, 0xFFFFFFFF, 0x0, 0x0, 0x0, 0x0, false⟩,
  ⟨0x5100, 1, 0x40000, 1, 0x4, 0x0, 0x0, 0x0, 0x0, 0xFFF, 0x0, 0x0, false⟩,
  ⟨0x5104, 1, 0x40000, 1, 0x4, 0x0, 0x3F, 0x0, 0x0, 0x0, 0x0, 0x1C0, false⟩,
  ⟨0x5110, 1, 0x40000, 1, 0x4, 0x0, 0x7FFF7FFF, 0x0, 0x0, 0x0, 0x80008000, 0x0, true⟩,
  ⟨0x6000, 1, 0x40000, 1, 0x4, 0x0, 0x0, 0x0, 0x0, 0xFFF, 0x0, 0x0, false⟩,
  ⟨0x6004, 1, 0x40000, 1, 0x4, 0x0, 0x0, 0x1FFF, 0x0, 0x0, 0x0, 0x0, false⟩,
  ⟨0x6008, 1, 0x40000, 1, 0x4, 0x0, 0x0, 0x0, 0x0, 0x0, 0x0, 0x7, false⟩,
  ⟨0x600C, 1, 0x40000, 1, 0x4, 0x0, 0x0, 0xFF3FFF, 0x0, 0x0, 0x0, 0x0, false⟩,
  ⟨0x6010, 1, 0x40000, 1, 0x4, 0x0, 0x0, 0xFFFFFFFF, 0x0, 0x0, 0x0, 0x0, false⟩,
  ⟨0x6014, 1, 0x40000, 1, 0x4, 0x0, 0x0, 0xFFFFFFFF, 0x0, 0x0, 0x0, 0x0, false⟩,
  ⟨0x6018, 1, 0x40000, 1, 0x4, 0x0, 0x0, 0x0, 0x0, 0x1, 0x0, 0x0, false⟩,
  ⟨0x601C, 1, 0x40000, 1, 0x4, 0x0, 0x7FF3F, 0x0, 0x0, 0x0, 0x0, 0x0, false⟩,
  ⟨0x6040, 12, 0x4, 1, 0x4, 0x0, 0xFFFF, 0x0, 0x0, 0x0, 0x0, 0x0, false⟩]

/-- The global registers of R532, without the context registers and GCAP_WIN. -/
def globalRows : List RegRow := globalRows0 ++ globalRows1 ++ globalRows2 ++ globalRows3 ++ globalRows4

def chanRows0 : List RegRow := [
  ⟨0x100, 1, 0x40000, 1, 0x4, 0x0, 0x0, 0xF, 0x0, 0x0, 0x0, 0x0, false⟩,
  ⟨0x104, 1, 0x40000, 1, 0x4, 0x0, 0x3FFF, 0x0, 0x0, 0x0, 0x0, 0x0, false⟩,
  ⟨0x108, 1, 0x40000, 1, 0x4, 0x0, 0xD500, 0x0, 0x0, 0x0, 0x0, 0x2AF1, false⟩,
  ⟨0x10C, 1, 0x40000, 1, 0x4, 0x70403, 0xFFF, 0x70000, 0x0, 0x0, 0x0, 0x0, false⟩,
  ⟨0x110, 1, 0x40000, 1, 0x4, 0x10, 0xFFF, 0x0, 0x0, 0x0, 0x0, 0x0, false⟩,
  ⟨0x114, 1, 0x40000, 1, 0x4, 0x0, 0x0, 0x0, 0x0, 0x0, 0xFFF, 0x0, false⟩,
  ⟨0x118, 1, 0x40000, 1, 0x4, 0xBB80064, 0x0, 0xFFFFFFFF, 0x0, 0x0, 0x0, 0x0, false⟩,
  ⟨0x11C, 1, 0x40000, 1, 0x4, 0x138802A3, 0x0, 0xFFFFFFFF, 0x0, 0x0, 0x0, 0x0, false⟩,
  ⟨0x120, 1, 0x40000, 1, 0x4, 0x641999, 0x0, 0xFFFFFFFF, 0x0, 0x0, 0x0, 0x0, false⟩,
  ⟨0x124, 1, 0x40000, 1, 0x4, 0x7D0, 0x0, 0xFFFF, 0x0, 0x0, 0x0, 0x0, false⟩,
  ⟨0x128, 1, 0x40000, 1, 0x4, 0xCCD0064, 0x0, 0xFFFFFFFF, 0x0, 0x0, 0x0, 0x0, false⟩,
  ⟨0x12C, 1, 0x40000, 1, 0x4, 0x6403E8, 0x0, 0xFFFFFFFF, 0x0, 0x0, 0x0, 0x0, false⟩,
  ⟨0x130, 1, 0x40000, 1, 0x4, 0x3C01C2, 0x0, 0xFFFFFFFF, 0x0, 0x0, 0x0, 0x0, false⟩,
  ⟨0x134, 1, 0x40000, 1, 0x4, 0x0, 0x7FFF7FFF, 0x0, 0x0, 0x0, 0x80008000, 0x0, true⟩,
  ⟨0x140, 1, 0x40000, 1, 0x4, 0x12C1388, 0x0, 0x1FF7FFF, 0x0, 0x0, 0x0, 0x0, false⟩,
  ⟨0x144, 1, 0x40000, 1, 0x4, 0x1, 0x0, 0x7F, 0x0, 0x0, 0x0, 0x0, false⟩,
  ⟨0x148, 1, 0x40000, 1, 0x4, 0x40000000, 0xFFFFFFFF, 0x0, 0x0, 0x0, 0x0, 0x0, false⟩,
  ⟨0x14C, 1, 0x40000, 1, 0x4, 0x2004E2, 0x1FF7FFF, 0x0, 0x0, 0x0, 0x0, 0x0, false⟩,
  ⟨0x150, 1, 0x40000, 1, 0x4, 0x0, 0xFFFFFFFF, 0x0, 0x0, 0x0, 0x0, 0x0, false⟩,
  ⟨0x154, 1, 0x40000, 1, 0x4, 0x0, 0x0, 0x0, 0x0, 0x0, 0x0, 0xFFFFFFFF, false⟩,
  ⟨0x158, 1, 0x40000, 1, 0x4, 0x0, 0x10, 0x0, 0x0, 0x0, 0x0, 0xF, false⟩,
  ⟨0x15C, 1, 0x40000, 1, 0x4, 0x40000000, 0xFFFFFFFF, 0x0, 0x0, 0x0, 0x0, 0x0, false⟩,
  ⟨0x160, 1, 0x40000, 1, 0x4, 0x0, 0xFFFFFFFF, 0x0, 0x0, 0x0, 0x0, 0x0, false⟩,
  ⟨0x164, 1, 0x40000, 1, 0x4, 0x0, 0xFFFFFFFF, 0x0, 0x0, 0x0, 0x0, 0x0, false⟩]

def chanRows1 : List RegRow := [
  ⟨0x168, 1, 0x40000, 1, 0x4, 0x0, 0x3FFFF, 0x0, 0x0, 0x0, 0x0, 0x0, false⟩,
  ⟨0x16C, 1, 0x40000, 1, 0x4, 0x0, 0xFFFF, 0x0, 0x0, 0x0, 0x80000000, 0x0, true⟩,
  ⟨0x200, 64, 0x4, 1, 0x4, 0x0, 0xFFFFFFFF, 0x0, 0x0, 0x0, 0x0, 0x0, false⟩,
  ⟨0x400, 16, 0x40, 1, 0x4, 0x0, 0xFF000F, 0x30, 0x0, 0x0, 0x0, 0x0, false⟩,
  ⟨0x404, 16, 0x40, 1, 0x4, 0x0, 0xFF3FFF, 0x0, 0x0, 0x0, 0x0, 0x0, false⟩,
  ⟨0x408, 16, 0x40, 1, 0x4, 0x0, 0x3FFF, 0x4000, 0x0, 0x0, 0x0, 0x0, false⟩,
  ⟨0x40C, 16, 0x40, 1, 0x4, 0x40, 0x1000, 0x7FF, 0x0, 0x800, 0x0, 0x0, false⟩,
  ⟨0x410, 16, 0x40, 1, 0x4, 0x0, 0x1F0000, 0x1FFF, 0x0, 0x0, 0x0, 0x0, false⟩,
  ⟨0x414, 16, 0x40, 1, 0x4, 0x0, 0x0, 0xFFFFFFFF, 0x0, 0x0, 0x0, 0x0, false⟩,
  ⟨0x418, 16, 0x40, 1, 0x4, 0x64, 0x0, 0xFFFF, 0x0, 0x0, 0x0, 0x0, false⟩,
  ⟨0x41C, 16, 0x40, 1, 0x4, 0x0, 0x0, 0xFFFFFFFF, 0x0, 0x0, 0x0, 0x0, false⟩,
  ⟨0x420, 16, 0x40, 1, 0x4, 0x400000, 0x7F, 0x3FF0080, 0x0, 0x0, 0x0, 0x0, false⟩,
  ⟨0x424, 16, 0x40, 1, 0x4, 0x0, 0x0, 0xFFF, 0x0, 0x0, 0x0, 0x0, false⟩,
  ⟨0x428, 16, 0x40, 1, 0x4, 0x2020, 0x10000, 0xFFFF, 0x0, 0x0, 0x0, 0x60000, false⟩,
  ⟨0x42C, 16, 0x40, 1, 0x4, 0x7FFF8000, 0x0, 0xFFFFFFFF, 0x0, 0x0, 0x0, 0x0, false⟩,
  ⟨0x430, 16, 0x40, 1, 0x4, 0x0, 0x3D, 0x0, 0x0, 0x0, 0x0, 0x1C2, false⟩,
  ⟨0x434, 16, 0x40, 1, 0x4, 0x0, 0x7FFF7FFF, 0x0, 0x0, 0x0, 0x80008000, 0x0, true⟩,
  ⟨0x438, 16, 0x40, 1, 0x4, 0x0, 0x3FFFFFF, 0x0, 0x0, 0x0, 0x0, 0x0, false⟩,
  ⟨0x43C, 1, 0x40000, 1, 0x4, 0x280000, 0x2FFFF, 0xFC0000, 0x0, 0x10000, 0x0, 0x0, false⟩,
  ⟨0x800, 1, 0x40000, 1, 0x4, 0x0, 0xFFF0007, 0x0, 0x0, 0x0, 0x0, 0x0, false⟩,
  ⟨0x804, 1, 0x40000, 1, 0x4, 0x0, 0x1FFF, 0x0, 0x0, 0x0, 0x0, 0x0, false⟩,
  ⟨0x808, 1, 0x40000, 1, 0x4, 0xFFFFFFFF, 0xFFFFFFFF, 0x0, 0x0, 0x0, 0x0, 0x0, false⟩,
  ⟨0x80C, 1, 0x40000, 1, 0x4, 0xFFFF, 0xFFFF, 0x0, 0x0, 0x0, 0x0, 0x0, false⟩,
  ⟨0x810, 1, 0x40000, 1, 0x4, 0x1000A, 0x0, 0x100FF, 0x0, 0x0, 0x0, 0x0, false⟩]

def chanRows2 : List RegRow := [
  ⟨0x814, 1, 0x40000, 1, 0x4, 0xFA00FA0, 0x0, 0x7FFF7FFF, 0x0, 0x0, 0x0, 0x0, false⟩,
  ⟨0x818, 1, 0x40000, 1, 0x4, 0x0, 0x0, 0xFFF, 0x0, 0x0, 0x0, 0x0, false⟩,
  ⟨0x81C, 1, 0x40000, 1, 0x4, 0x998C808, 0x0, 0xFFFFFFF, 0x0, 0x0, 0x0, 0x0, false⟩,
  ⟨0x820, 1, 0x40000, 1, 0x4, 0x0, 0x0, 0xFFF, 0x0, 0x0, 0x0, 0x0, false⟩,
  ⟨0x824, 1, 0x40000, 1, 0x4, 0x32, 0x0, 0xFFF00FF, 0x0, 0x0, 0x0, 0x0, false⟩,
  ⟨0x828, 1, 0x40000, 1, 0x4, 0x1E0C8C8, 0x0, 0x1FFFFFFF, 0x0, 0x0, 0x0, 0x0, false⟩,
  ⟨0x82C, 6, 0x4, 1, 0x4, 0x640064, 0x0, 0xFFFFFFFF, 0x0, 0x0, 0x0, 0x0, false⟩,
  ⟨0x844, 1, 0x40000, 1, 0x4, 0x190064, 0x0, 0x1FFFFFFF, 0x0, 0x0, 0x0, 0x0, false⟩,
  ⟨0x848, 1, 0x40000, 1, 0x4, 0x200000, 0x7FFFF7, 0x0, 0x0, 0x0, 0x0, 0x800008, false⟩,
  ⟨0x84C, 1, 0x40000, 1, 0x4, 0x0, 0xFFF0000, 0x0, 0x0, 0x0, 0xF, 0x0, false⟩,
  ⟨0x850, 1, 0x40000, 1, 0x4, 0x0, 0x7FFF7FFF, 0x0, 0x0, 0x0, 0x80008000, 0x0, true⟩,
  ⟨0x854, 1, 0x40000, 1, 0x4, 0x0, 0x7FFF7FFF, 0x0, 0x0, 0x0, 0x80008000, 0x0, true⟩,
  ⟨0xC00, 1, 0x40000, 1, 0x4, 0x0, 0x0, 0x3F1BFF, 0x0, 0x0, 0x0, 0x0, false⟩,
  ⟨0xC04, 1, 0x40000, 1, 0x4, 0x0, 0x0, 0x0, 0xFFFFFFFF, 0x0, 0x0, 0x0, false⟩,
  ⟨0xC08, 1, 0x40000, 1, 0x4, 0x0, 0x3FFF, 0x0, 0x0, 0x0, 0x0, 0x0, false⟩,
  ⟨0xC0C, 1, 0x40000, 1, 0x4, 0x0, 0x7F7F, 0x0, 0x0, 0x0, 0x0, 0x78000, false⟩,
  ⟨0xC10, 1, 0x40000, 1, 0x4, 0x0, 0x0, 0xFFFFFFFF, 0x0, 0x0, 0x0, 0x0, false⟩,
  ⟨0xC14, 1, 0x40000, 1, 0x4, 0x0, 0x0, 0xFFFFFFFF, 0x0, 0x0, 0x0, 0x0, false⟩,
  ⟨0xC18, 1, 0x40000, 1, 0x4, 0x0, 0xFFFFFFFF, 0x0, 0x0, 0x0, 0x0, 0x0, false⟩,
  ⟨0xC1C, 1, 0x40000, 1, 0x4, 0x0, 0xFFFFFFFF, 0x0, 0x0, 0x0, 0x0, 0x0, false⟩,
  ⟨0xC20, 1, 0x40000, 1, 0x4, 0x0, 0x0, 0x1FFF, 0x0, 0x0, 0x0, 0x0, false⟩,
  ⟨0xC24, 1, 0x40000, 1, 0x4, 0x0, 0x0, 0xFFFFFFFF, 0x0, 0x0, 0x0, 0x0, false⟩,
  ⟨0xC28, 1, 0x40000, 1, 0x4, 0x0, 0x0, 0x0, 0x0, 0x0, 0x0, 0x3FF, false⟩,
  ⟨0xC2C, 1, 0x40000, 1, 0x4, 0x0, 0x7FFF7FFF, 0x0, 0x0, 0x0, 0x80008000, 0x0, true⟩]

def chanRows3 : List RegRow := [
  ⟨0xC30, 1, 0x40000, 1, 0x4, 0x0, 0x7FFF7FFF, 0x0, 0x0, 0x0, 0x80008000, 0x0, true⟩,
  ⟨0x1CC0, 1, 0x40000, 1, 0x4, 0x40, 0x0, 0x1FFF, 0x0, 0x0, 0x0, 0x0, false⟩,
  ⟨0x1CC4, 1, 0x40000, 1, 0x4, 0x0, 0xFFFF, 0x0, 0x0, 0x0, 0x0, 0x0, false⟩,
  ⟨0x2000, 1, 0x40000, 1, 0x4, 0x228C8, 0x0, 0x3FFFF, 0x0, 0x0, 0x0, 0x0, false⟩,
  ⟨0x2004, 1, 0x40000, 1, 0x4, 0x0, 0x0, 0xFFFFFF, 0x0, 0x0, 0x0, 0x0, false⟩,
  ⟨0x2008, 1, 0x40000, 1, 0x4, 0x0, 0x0, 0x0, 0x0, 0x1, 0x0, 0x0, false⟩,
  ⟨0x200C, 1, 0x40000, 1, 0x4, 0x6, 0x1F800F, 0x0, 0x0, 0x0, 0x0, 0x7FF0, false⟩,
  ⟨0x2010, 1, 0x40000, 1, 0x4, 0x1, 0xF80, 0x5F, 0x0, 0x20, 0x0, 0x0, false⟩,
  ⟨0x2014, 1, 0x40000, 1, 0x4, 0x0, 0x0, 0x0, 0x0, 0xFFFFFFFF, 0x0, 0x0, false⟩,
  ⟨0x2018, 1, 0x40000, 1, 0x4, 0x0, 0xFFFFFFFF, 0x0, 0x0, 0x0, 0x0, 0x0, false⟩,
  ⟨0x201C, 1, 0x40000, 1, 0x4, 0x0, 0xFFFFFFFF, 0x0, 0x0, 0x0, 0x0, 0x0, false⟩,
  ⟨0x2020, 1, 0x40000, 1, 0x4, 0x0, 0x7FFF7FFF, 0x0, 0x0, 0x0, 0x80008000, 0x0, true⟩,
  ⟨0x2080, 16, 0x8, 1, 0x4, 0x0, 0x0, 0xFFFFFF, 0x0, 0x0, 0x0, 0x0, false⟩,
  ⟨0x2084, 16, 0x8, 1, 0x4, 0x1, 0x0, 0x3FFF, 0x0, 0x0, 0x0, 0x0, false⟩,
  ⟨0x2400, 1, 0x40000, 1, 0x4, 0x20408006, 0x0, 0xFFFFFF07, 0x0, 0x0, 0x0, 0x0, false⟩,
  ⟨0x2404, 1, 0x40000, 1, 0x4, 0x0, 0x0, 0x3FF, 0x0, 0x0, 0x0, 0x0, false⟩,
  ⟨0x2408, 1, 0x40000, 1, 0x4, 0x3338000, 0x0, 0xFFFFFFFF, 0x0, 0x0, 0x0, 0x0, false⟩,
  ⟨0x240C, 1, 0x40000, 1, 0x4, 0x3C, 0x0, 0xFFFF, 0x0, 0x0, 0x0, 0x0, false⟩,
  ⟨0x2410, 1, 0x40000, 1, 0x4, 0x0, 0x7F005F, 0x0, 0x0, 0x0, 0x0, 0x1A0, false⟩,
  ⟨0x2414, 1, 0x40000, 1, 0x4, 0x0, 0xFFFFFFFF, 0x0, 0x0, 0x0, 0x0, 0x0, false⟩,
  ⟨0x2418, 1, 0x40000, 1, 0x4, 0x0, 0xFFFFFFFF, 0x0, 0x0, 0x0, 0x0, 0x0, false⟩,
  ⟨0x241C, 1, 0x40000, 1, 0x4, 0x0, 0xFFF1FFF, 0x0, 0x0, 0x0, 0x0, 0x0, false⟩,
  ⟨0x2420, 1, 0x40000, 1, 0x4, 0x0, 0x0, 0x3F, 0x0, 0x0, 0x0, 0x0, false⟩,
  ⟨0x2424, 1, 0x40000, 1, 0x4, 0x0, 0x3FFFF7FF, 0x0, 0x0, 0x0, 0x0, 0x0, false⟩]

def chanRows4 : List RegRow := [
  ⟨0x2428, 1, 0x40000, 1, 0x4, 0xF0000000, 0xFFFF0FFF, 0x0, 0x0, 0x0, 0x0, 0x0, false⟩,
  ⟨0x242C, 1, 0x40000, 1, 0x4, 0x0, 0x0, 0x0, 0x0, 0x0, 0x0, 0x7FFFF, false⟩,
  ⟨0x2430, 1, 0x40000, 1, 0x4, 0x0, 0x7FFF7FFF, 0x0, 0x0, 0x0, 0x80008000, 0x0, true⟩,
  ⟨0x2434, 1, 0x40000, 1, 0x4, 0x0, 0x7FFF7FFF, 0x0, 0x0, 0x0, 0x80008000, 0x0, true⟩,
  ⟨0x2800, 1, 0x40000, 1, 0x4, 0x80FF00, 0x0, 0xFFFF01, 0x0, 0x0, 0x0, 0x0, false⟩,
  ⟨0x2804, 1, 0x40000, 1, 0x4, 0x142BC258, 0x0, 0x3FFFFFFF, 0x0, 0x0, 0x0, 0x0, false⟩,
  ⟨0x2808, 1, 0x40000, 1, 0x4, 0x280, 0x0, 0xFFFF, 0x0, 0x0, 0x0, 0x0, false⟩,
  ⟨0x280C, 1, 0x40000, 1, 0x4, 0xFF000000, 0xFF07FFFF, 0x0, 0x0, 0x0, 0x0, 0x80000, false⟩,
  ⟨0x2810, 6, 0x4, 1, 0x4, 0x0, 0xFFFFFFFF, 0x0, 0x0, 0x0, 0x0, 0x0, false⟩,
  ⟨0x2828, 1, 0x40000, 1, 0x4, 0x0, 0x7FFF7FFF, 0x0, 0x0, 0x0, 0x80008000, 0x0, true⟩,
  ⟨0x2840, 4, 0x40, 13, 0x4, 0x0, 0x0, 0xFFFFFFFF, 0x0, 0x0, 0x0, 0x0, false⟩,
  ⟨0x3000, 1, 0x40000, 1, 0x4, 0xC03E8, 0x0, 0xFFFFF, 0x0, 0x0, 0x0, 0x0, false⟩,
  ⟨0x3004, 1, 0x40000, 1, 0x4, 0x14C864, 0x0, 0x3FFFFFF, 0x0, 0x0, 0x0, 0x0, false⟩,
  ⟨0x3008, 1, 0x40000, 1, 0x4, 0xF, 0x1FFFF, 0x0, 0x0, 0x0, 0x0, 0x0, false⟩,
  ⟨0x300C, 1, 0x40000, 1, 0x4, 0x0, 0x0, 0x0, 0x0, 0x3, 0x0, 0x0, false⟩,
  ⟨0x3010, 1, 0x40000, 1, 0x4, 0x0, 0x7FFF7FFF, 0x0, 0x0, 0x0, 0x80008000, 0x0, true⟩,
  ⟨0x2C00, 4, 0x100, 1, 0x4, 0x0, 0x0, 0x0, 0x0, 0x7FF, 0x0, 0x0, false⟩,
  ⟨0x2C04, 4, 0x100, 1, 0x4, 0xB20000, 0x0, 0x3FFFFFFF, 0x0, 0x0, 0x0, 0x0, false⟩,
  ⟨0x2C08, 4, 0x100, 1, 0x4, 0x3E8, 0x0, 0x83FFFFFF, 0x0, 0x0, 0x0, 0x0, false⟩,
  ⟨0x2C0C, 4, 0x100, 1, 0x4, 0x16, 0x0, 0x3F1F, 0x0, 0x0, 0x0, 0x0, false⟩,
  ⟨0x2C10, 4, 0x100, 1, 0x4, 0x1, 0x0, 0x7F, 0x0, 0x0, 0x0, 0x0, false⟩,
  ⟨0x2C14, 4, 0x100, 1, 0x4, 0x0, 0xFFFFFF7F, 0x0, 0x0, 0x0, 0x0, 0x0, false⟩,
  ⟨0x2C18, 4, 0x100, 1, 0x4, 0x0, 0xFFFFFF, 0x0, 0x0, 0x0, 0x0, 0x0, false⟩,
  ⟨0x2C1C, 4, 0x100, 1, 0x4, 0x0, 0xFFBF7, 0x0, 0x0, 0x0, 0x0, 0x700000, false⟩]

def chanRows5 : List RegRow := [
  ⟨0x2C20, 4, 0x100, 1, 0x4, 0x0, 0x7FFF7FFF, 0x0, 0x0, 0x0, 0x80008000, 0x0, true⟩,
  ⟨0x2C24, 4, 0x100, 1, 0x4, 0x0, 0xFFFFFFFF, 0x0, 0x0, 0x0, 0x0, 0x0, false⟩,
  ⟨0x2C28, 4, 0x100, 1, 0x4, 0x0, 0xFFFFFFFF, 0x0, 0x0, 0x0, 0x0, 0x0, false⟩,
  ⟨0x2C40, 4, 0x100, 16, 0x4, 0x0, 0x0, 0xFFFFFFFF, 0x0, 0x0, 0x0, 0x0, false⟩,
  ⟨0x2C80, 4, 0x100, 16, 0x8, 0x100000, 0x0, 0xFFFFFFF, 0x0, 0x0, 0x0, 0x0, false⟩,
  ⟨0x2C84, 4, 0x100, 16, 0x8, 0x0, 0x0, 0xFFFFFFFF, 0x0, 0x0, 0x0, 0x0, false⟩,
  ⟨0x1400, 1, 0x40000, 1, 0x4, 0x30D40, 0x0, 0xFFFFFFFF, 0x0, 0x0, 0x0, 0x0, false⟩,
  ⟨0x1404, 1, 0x40000, 1, 0x4, 0x1900000, 0x0, 0xFFFFFFFF, 0x0, 0x0, 0x0, 0x0, false⟩,
  ⟨0x1408, 1, 0x40000, 1, 0x4, 0x32000000, 0x0, 0xFFFFFFFF, 0x0, 0x0, 0x0, 0x0, false⟩,
  ⟨0x140C, 1, 0x40000, 1, 0x4, 0x3E80000, 0x0, 0xFFFFFFFF, 0x0, 0x0, 0x0, 0x0, false⟩,
  ⟨0x1410, 1, 0x40000, 1, 0x4, 0x3E80000, 0x0, 0xFFFFFFFF, 0x0, 0x0, 0x0, 0x0, false⟩,
  ⟨0x1414, 1, 0x40000, 1, 0x4, 0x3E80000, 0x0, 0xFFFFFFFF, 0x0, 0x0, 0x0, 0x0, false⟩,
  ⟨0x1418, 1, 0x40000, 1, 0x4, 0x6666666, 0x0, 0xFFFFFFFF, 0x0, 0x0, 0x0, 0x0, false⟩,
  ⟨0x141C, 1, 0x40000, 1, 0x4, 0x147AE14, 0x0, 0xFFFFFFFF, 0x0, 0x0, 0x0, 0x0, false⟩,
  ⟨0x1440, 1, 0x40000, 1, 0x4, 0x2000000, 0x0, 0x0, 0xFFFFFFFF, 0x0, 0x0, 0x0, false⟩,
  ⟨0x1444, 1, 0x40000, 1, 0x4, 0x140000, 0x0, 0x0, 0xFFFFFFFF, 0x0, 0x0, 0x0, false⟩,
  ⟨0x1448, 1, 0x40000, 1, 0x4, 0x1000000, 0x0, 0x0, 0xFFFFFFFF, 0x0, 0x0, 0x0, false⟩,
  ⟨0x144C, 1, 0x40000, 1, 0x4, 0x28F5C, 0x0, 0x0, 0xFFFFFFFF, 0x0, 0x0, 0x0, false⟩,
  ⟨0x1450, 1, 0x40000, 1, 0x4, 0x28F5C29, 0x0, 0x0, 0xFFFFFFFF, 0x0, 0x0, 0x0, false⟩,
  ⟨0x1454, 1, 0x40000, 1, 0x4, 0x0, 0x0, 0xFFFFFFFF, 0x0, 0x0, 0x0, 0x0, false⟩,
  ⟨0x1458, 1, 0x40000, 1, 0x4, 0x40000000, 0x0, 0xFFFFFFFF, 0x0, 0x0, 0x0, 0x0, false⟩,
  ⟨0x145C, 1, 0x40000, 1, 0x4, 0xC0000000, 0x0, 0xFFFFFFFF, 0x0, 0x0, 0x0, 0x0, false⟩,
  ⟨0x1460, 1, 0x40000, 1, 0x4, 0x6666666, 0x0, 0xFFFFFFFF, 0x0, 0x0, 0x0, 0x0, false⟩,
  ⟨0x1464, 1, 0x40000, 1, 0x4, 0x51EB852, 0x0, 0x0, 0xFFFFFFFF, 0x0, 0x0, 0x0, false⟩]

def chanRows6 : List RegRow := [
  ⟨0x1468, 1, 0x40000, 1, 0x4, 0x0, 0x0, 0xFFFFFFFF, 0x0, 0x0, 0x0, 0x0, false⟩,
  ⟨0x146C, 1, 0x40000, 1, 0x4, 0x46666666, 0x0, 0xFFFFFFFF, 0x0, 0x0, 0x0, 0x0, false⟩,
  ⟨0x1470, 1, 0x40000, 1, 0x4, 0x3999999A, 0x0, 0xFFFFFFFF, 0x0, 0x0, 0x0, 0x0, false⟩,
  ⟨0x1474, 1, 0x40000, 1, 0x4, 0x147AE14, 0x0, 0xFFFFFFFF, 0x0, 0x0, 0x0, 0x0, false⟩,
  ⟨0x1480, 1, 0x40000, 1, 0x4, 0x0, 0x0, 0x0, 0xFFFFFFFF, 0x0, 0x0, 0x0, false⟩,
  ⟨0x1484, 1, 0x40000, 1, 0x4, 0xCCCCCCD, 0x0, 0x0, 0xFFFFFFFF, 0x0, 0x0, 0x0, false⟩,
  ⟨0x1488, 1, 0x40000, 1, 0x4, 0x46666666, 0x0, 0xFFFFFFFF, 0x0, 0x0, 0x0, 0x0, false⟩,
  ⟨0x148C, 1, 0x40000, 1, 0x4, 0x0, 0x0, 0x0, 0xFFFFFFFF, 0x0, 0x0, 0x0, false⟩,
  ⟨0x1490, 1, 0x40000, 1, 0x4, 0x5000000, 0x0, 0x0, 0xFFFFFFFF, 0x0, 0x0, 0x0, false⟩,
  ⟨0x1494, 1, 0x40000, 1, 0x4, 0x4CCCCCCD, 0x0, 0xFFFFFFFF, 0x0, 0x0, 0x0, 0x0, false⟩,
  ⟨0x1498, 1, 0x40000, 1, 0x4, 0xCCD0064, 0x0, 0xFFFFFFFF, 0x0, 0x0, 0x0, 0x0, false⟩,
  ⟨0x14A0, 1, 0x40000, 1, 0x4, 0x80002000, 0x0, 0x0, 0xFFFFFF03, 0x0, 0x0, 0x0, false⟩,
  ⟨0x14C0, 1, 0x40000, 1, 0x4, 0x842, 0x0, 0xFFF, 0x0, 0x0, 0x0, 0x0, false⟩,
  ⟨0x1500, 1, 0x40000, 1, 0x4, 0x0, 0x3EF, 0x0, 0x0, 0x0, 0x0, 0x3F0410, false⟩,
  ⟨0x1504, 1, 0x40000, 1, 0x4, 0x0, 0x7FFF7FFF, 0x0, 0x0, 0x0, 0x80008000, 0x0, true⟩,
  ⟨0x1C00, 1, 0x40000, 1, 0x4, 0x0, 0x0, 0xFFFFFFFF, 0x0, 0x0, 0x0, 0x0, false⟩,
  ⟨0x1C20, 1, 0x40000, 1, 0x4, 0x0, 0x0, 0xFFFFFFFF, 0x0, 0x0, 0x0, 0x0, false⟩,
  ⟨0x1C40, 1, 0x40000, 1, 0x4, 0x40000000, 0x0, 0xFFFFFFFF, 0x0, 0x0, 0x0, 0x0, false⟩,
  ⟨0x1C60, 1, 0x40000, 1, 0x4, 0x32000000, 0x0, 0xFFFFFFFF, 0x0, 0x0, 0x0, 0x0, false⟩,
  ⟨0x1C80, 1, 0x40000, 1, 0x4, 0x0, 0x0, 0xFFFFFFFF, 0x0, 0x0, 0x0, 0x0, false⟩,
  ⟨0x1C04, 1, 0x40000, 1, 0x4, 0xC0000000, 0x0, 0xFFFFFFFF, 0x0, 0x0, 0x0, 0x0, false⟩,
  ⟨0x1C24, 1, 0x40000, 1, 0x4, 0xC0000000, 0x0, 0xFFFFFFFF, 0x0, 0x0, 0x0, 0x0, false⟩,
  ⟨0x1C44, 1, 0x40000, 1, 0x4, 0x3999999A, 0x0, 0xFFFFFFFF, 0x0, 0x0, 0x0, 0x0, false⟩,
  ⟨0x1C64, 1, 0x40000, 1, 0x4, 0x2F000000, 0x0, 0xFFFFFFFF, 0x0, 0x0, 0x0, 0x0, false⟩]

def chanRows7 : List RegRow := [
  ⟨0x1C84, 1, 0x40000, 1, 0x4, 0xFF5C28F6, 0x0, 0xFFFFFFFF, 0x0, 0x0, 0x0, 0x0, false⟩,
  ⟨0x1C08, 1, 0x40000, 1, 0x4, 0x40000000, 0x0, 0xFFFFFFFF, 0x0, 0x0, 0x0, 0x0, false⟩,
  ⟨0x1C28, 1, 0x40000, 1, 0x4, 0x40000000, 0x0, 0xFFFFFFFF, 0x0, 0x0, 0x0, 0x0, false⟩,
  ⟨0x1C48, 1, 0x40000, 1, 0x4, 0x46666666, 0x0, 0xFFFFFFFF, 0x0, 0x0, 0x0, 0x0, false⟩,
  ⟨0x1C68, 1, 0x40000, 1, 0x4, 0x35000000, 0x0, 0xFFFFFFFF, 0x0, 0x0, 0x0, 0x0, false⟩,
  ⟨0x1C88, 1, 0x40000, 1, 0x4, 0xA3D70A, 0x0, 0xFFFFFFFF, 0x0, 0x0, 0x0, 0x0, false⟩,
  ⟨0x1C0C, 5, 0x20, 1, 0x4, 0x1000000, 0x0, 0xFFFFFFFF, 0x0, 0x0, 0x0, 0x0, false⟩,
  ⟨0x1C10, 5, 0x20, 1, 0x4, 0x4000000, 0x0, 0xFFFFFFFF, 0x0, 0x0, 0x0, 0x0, false⟩,
  ⟨0x1C14, 1, 0x40000, 1, 0x4, 0x0, 0xFFFFFFFF, 0x0, 0x0, 0x0, 0x0, 0x0, false⟩,
  ⟨0x1C34, 1, 0x40000, 1, 0x4, 0x0, 0xFFFFFFFF, 0x0, 0x0, 0x0, 0x0, 0x0, false⟩,
  ⟨0x1C54, 1, 0x40000, 1, 0x4, 0x40000000, 0xFFFFFFFF, 0x0, 0x0, 0x0, 0x0, 0x0, false⟩,
  ⟨0x1C74, 1, 0x40000, 1, 0x4, 0x32000000, 0xFFFFFFFF, 0x0, 0x0, 0x0, 0x0, 0x0, false⟩,
  ⟨0x1C94, 1, 0x40000, 1, 0x4, 0x0, 0xFFFFFFFF, 0x0, 0x0, 0x0, 0x0, 0x0, false⟩,
  ⟨0x1C18, 5, 0x20, 1, 0x4, 0x0, 0xFFFFFFFF, 0x0, 0x0, 0x0, 0x0, 0x0, false⟩,
  ⟨0x1C1C, 5, 0x20, 1, 0x4, 0x0, 0x16, 0x0, 0x0, 0x0, 0x0, 0x9, false⟩]

/-- The channel set of R536, R166 and R208. -/
def chanRows : List RegRow := chanRows0 ++ chanRows1 ++ chanRows2 ++ chanRows3 ++ chanRows4 ++ chanRows5 ++ chanRows6 ++ chanRows7

def ctxRows0 : List RegRow := [
  ⟨0x0, 1, 0x40000, 1, 0x4, 0x0, 0x0, 0x1F, 0x0, 0x0, 0x0, 0x0, false⟩,
  ⟨0x4, 1, 0x40000, 1, 0x4, 0x0, 0x0, 0x0, 0x0, 0x0, 0x0, 0x3F, false⟩,
  ⟨0x8, 1, 0x40000, 1, 0x4, 0x0, 0x7FFFF, 0x0, 0x0, 0x0, 0x0, 0x0, false⟩,
  ⟨0xC, 1, 0x40000, 1, 0x4, 0x0, 0x7FFF7FFF, 0x0, 0x0, 0x0, 0x80008000, 0x0, true⟩]

/-- The four context registers of a window (R481). -/
def ctxRows : List RegRow := ctxRows0


/-- Whether the row holds the offset. -/
def RegRow.covers (r : RegRow) (off : Nat) : Bool :=
  r.base ≤ off && (off - r.base) / r.s1 < r.n1 && (off - r.base) % r.s1 % r.s2 == 0 &&
    (off - r.base) % r.s1 / r.s2 < r.n2

/-- The row that holds an offset, if any (an offset in no row is reserved, R526). -/
def findRow (rows : List RegRow) (off : Nat) : Option RegRow := rows.find? (fun r => r.covers off)

/-- The word an offset holds after a power-on reset (R527); 0 for an offset in no row. -/
def resetWord (rows : List RegRow) (off : Nat) : Word :=
  match findRow rows off with
  | some r => BitVec.ofNat 32 r.reset
  | none => 0

/-- The reset word of a global register. -/
def globalReset (off : Nat) : Word := resetWord globalRows off

/-- The reset word of a channel register. -/
def chanReset (off : Nat) : Word := resetWord chanRows off

end Sys2Proof.Machine
end

