-- ==== Sys2Proof/Machine/Ops.lean ====
section
/-! DEFINITION. Machine/Ops.lean: the named operations over the state: register fields and accesses (R10), channels,
fabric words and postings (R24, R30), counters (R12 to R14, R437), event records (R418 to R425), interrupts (R469, R470), SAFE
causes (R189), pads (R39, R263, R306), the last-word bank (R386) and calendar time. -/

namespace Sys2Proof.Machine

/-! ## Fields of a word -/

/-- The value of a field. -/
def getField (w : Word) (f : BitField) : Nat := (w.extractLsb' f.lo f.width).toNat

/-- The bits of a field. -/
def BitField.mask (f : BitField) : Word := (BitVec.ofNat 32 (2 ^ f.width - 1)) <<< f.lo

/-- A word with a field replaced; the value is cut to the field's width. -/
def setField (w : Word) (f : BitField) (n : Nat) : Word :=
  (w &&& ~~~f.mask) ||| ((BitVec.ofNat 32 (n % 2 ^ f.width)) <<< f.lo)

/-- The bits of a row as a word. -/
def bitsOf (n : Nat) : Word := BitVec.ofNat 32 n

/-- The RW and RWL bits of a register take the written value (R10). -/
def RegRow.plain (r : RegRow) (old v : Word) : Word :=
  let m := bitsOf r.rw ||| bitsOf r.rwl
  (old &&& ~~~m) ||| (v &&& m)

/-- The W1C bits written 1 clear, and the RWS bits take the written value (R10). -/
def RegRow.sticky (r : RegRow) (old v : Word) : Word :=
  let o := old &&& ~~~(v &&& bitsOf r.w1c)
  (o &&& ~~~bitsOf r.rws) ||| (v &&& bitsOf r.rws)

/-- The clear actions of a register of two 15-bit counters: a 1 in bit 15 or 31 clears that half (R14, R528). -/
def clearHalves (old v : Word) : Word :=
  let o := if v.getLsbD 15 then old &&& 0xFFFF0000 else old
  if v.getLsbD 31 then o &&& 0x0000FFFF else o

/-- A step of a 15-bit saturating counter in the lower or the upper half of its register: at its maximum it stops with the
flag set (R12, R13). -/
def counterStep (w : Word) (hi : Bool) : Word :=
  let n := if hi then (w.extractLsb' 16 15).toNat else (w.extractLsb' 0 15).toNat
  let n := if n = 32767 then n else n + 1
  let h : BitVec 16 := BitVec.ofNat 16 (if n = 32767 then 65535 else n)
  if hi then h ++ w.extractLsb' 0 16 else w.extractLsb' 16 16 ++ h

/-- Whether a half stands at its maximum. -/
def counterFull (w : Word) (hi : Bool) : Bool := if hi then w.msb else w.getLsbD 15

/-- The lowest set bit of a number below 2^32, or `none`. -/
def lowestBit (m : Nat) : Option Nat := (List.range 32).find? fun i => m.testBit i

/-! ## Channels -/

def Chan.get (c : Chan) (off : Nat) : Word := sget chanReset c.regs off

def Chan.put (c : Chan) (off : Nat) (v : Word) : Chan := { c with regs := sset chanReset c.regs off v }

def Chan.fld (c : Chan) (off : Nat) (f : BitField) : Nat := getField (c.get off) f

def Chan.bit (c : Chan) (off : Nat) (f : BitField) : Bool := c.fld off f != 0

def Chan.setFld (c : Chan) (off : Nat) (f : BitField) (n : Nat) : Chan := c.put off (setField (c.get off) f n)

/-- The word that a write leaves in a register's RW and RWL bits (R10). -/
def Chan.plainWord (c : Chan) (off : Nat) (v : Word) : Word :=
  match findRow chanRows off with
  | some r => r.plain (c.get off) v
  | none => c.get off

/-- The register as a read sees it: the value in effect under the writes that wait for a boundary (R10, R464). -/
def Chan.peek (c : Chan) (off : Nat) : Word :=
  c.writes.foldl (fun w x =>
    if x.off = off then match findRow chanRows off with
      | some r => r.plain w x.v
      | none => w
    else w) (c.get off)

/-- The mode (R3, R198). -/
def Chan.mode (c : Chan) : Nat := c.fld Reg.CH_MODE_CUR Fld.CH_MODE_CUR_MODE

/-- The driving modes (R174). -/
def Chan.drivingMode (c : Chan) : Bool := 3 ≤ c.mode && c.mode ≤ 7

/-- Whether a hard channel fault is latched (R180). -/
def Chan.faulted (c : Chan) : Bool := c.bit Reg.CH_MODE_CUR Fld.CH_MODE_CUR_FAULT

/-- Whether the channel's ticks run: out of OFF, locked, no fault latched (R48, R57, R180; log 22). -/
def Chan.ticking (c : Chan) : Bool :=
  c.mode != 0 && c.bit Reg.PLL_STAT Fld.PLL_STAT_LOCK && c.pll.phase = .idle && !c.faulted

/-- The modes in which the sample chain and the fast path run (R94, R109). -/
def Chan.chainMode (c : Chan) : Bool := c.mode != 0 && c.mode != 11

/-- Whether the sample chain runs: in its modes, on the PLL output (R109, R284). -/
def Chan.chainRuns (c : Chan) : Bool := c.chainMode && !c.bit Reg.PLL_STAT Fld.PLL_STAT_BYPASS

/-- Whether a per-channel reset of the channel is under way (R522). -/
def Chan.resetting (c : Chan) : Bool := c.pll.start = .reset && c.pll.phase != .idle

/-- The tick count (R55). -/
def Chan.tickCount (c : Chan) : Nat := c.tick

def Chan.setTickCount (c : Chan) (n : Nat) : Chan := { c with tick := n % 2 ^ 64 }

/-- Whether the present tick is an outer tick (R34). -/
def Chan.outer (c : Chan) : Bool := c.tick % max 1 (c.fld Reg.CH_OUTER_DIV Fld.CH_OUTER_DIV_DIV) = 0

/-- The minimum channel clock of the image in Hz, or 0 without one (R29). -/
def Chan.minClock (c : Chan) : Nat :=
  match c.img with
  | some g => g.minClock
  | none => 0

/-- The base rate of the image's capture sets in Hz (R398). -/
def Chan.baseRate (c : Chan) : Nat :=
  match c.img with
  | some g => g.baseRate
  | none => 0

/-- Where the image puts set `k`: the pages of its records and of its histograms (R398, R406). -/
def Chan.capBase (c : Chan) (k : Nat) : Nat × Nat :=
  match c.img with
  | some g => g.capBase.getD k (0, 0)
  | none => (0, 0)

/-- The lock point in Hz, numerator and denominator, of the settings in effect (R280). -/
def Chan.fLock (c : Chan) : Nat × Nat :=
  (c.pll.fnom * 1000 * (c.pll.nint * 2 ^ 24 + c.pll.frac), 2 ^ 24 * max 1 c.pll.post)

/-- The ramp offset o in 0.01 ppm (R302). -/
def Chan.ofs (c : Chan) : Int := (c.get Reg.PLL_OFS).toInt

/-- The channel clock in Hz at the present offset, numerator and denominator (R287). -/
def Chan.clockHz (c : Chan) : Nat × Nat := (c.fLock.1 * (100000000 + c.ofs).toNat, c.fLock.2 * 100000000)

/-- The deviation d that the code generator adds to ω, in Q2.30: d × 0.002 / f_b (R213). -/
def Chan.packDev (c : Chan) : Int := quantFloor 95 (c.pack.d * 2 ^ 55) (1000 * max 1 (c.get Reg.LAW_FBASE).toNat)

/-- PACK's injection ends at once (R224, R226). -/
def Chan.packStop (c : Chan) : Chan :=
  { c.setFld Reg.PACK_STAT Fld.PACK_STAT_TX 0 with pack := { c.pack with d := 0, dNext := 0, leaving := 0 } }

/-- Whether K1 is commanded and confirmed closed (R181, R351). -/
def Chan.k1Closed (c : Chan) : Bool := c.bit Reg.SAF_CH_STAT Fld.SAF_CH_STAT_K1CMD && c.saf.k1.confirmed

def Chan.k2Closed (c : Chan) : Bool := c.bit Reg.SAF_CH_STAT Fld.SAF_CH_STAT_K2CMD && c.saf.k2.confirmed

/-- The latest word of a quantity (R24). -/
def Chan.fabGet (c : Chan) (q : Nat) : FabWord := sget (fun _ => FabWord.blank) c.fab q

/-- The destinations to which the image routes a quantity (R24, R535). -/
def Chan.route (c : Chan) (q : Nat) : BitVec 8 := (c.get (Reg.CH_QDEST (q / 4))).extractLsb' (8 * (q % 4)) 8

/-- Post a word on the fabric, `cycles` channel-clock cycles before the next latch; 0 for what is produced on the channel
clock (R24). -/
def Chan.postAged (c : Chan) (q : Nat) (w : Word) (tag : BitVec 4) (cycles : Nat) : Chan :=
  let n := c.posts + 1
  { c with posts := n, fab := sset (fun _ => FabWord.blank) c.fab q ⟨w, tag, c.route q, cycles, n⟩ }

/-- Post a word that is produced on the channel clock. -/
def Chan.post (c : Chan) (q : Nat) (w : Word) (tag : BitVec 4) : Chan := c.postAged q w tag 0

/-- AGE of a word at the latch: units of 64 cycles, truncated, up to 0xFF (R24, R84). -/
def FabWord.age (w : FabWord) : BitVec 8 := BitVec.ofNat 8 (min 255 (w.cycles / 64))

/-- Whether the number of ones is odd. -/
def oddParity {n : Nat} (x : BitVec n) : Bool := (List.range n).foldl (fun p i => p != x.getLsbD i) false

/-- A fabric word as its 64 bits: DATA, TAG, QTY, AGE, DEST, zeros, and even parity in PAR (R24). -/
def FabWord.bits (w : FabWord) (q : BitVec 8) : BitVec 64 :=
  let body : BitVec 63 := 0#3 ++ (w.dest ++ (w.age ++ (q ++ (w.tag ++ w.data))))
  (if oddParity body then 1#1 else 0#1) ++ body

def Chan.postNum (c : Chan) : Nat := c.posts

/-- Both engines have ended the tick (R35). -/
def Chan.enginesDone (c : Chan) : Bool := c.fe.run = .idle && c.me.run = .idle

/-- Both engines stop (R48, R127). -/
def Chan.stopEngines (c : Chan) : Chan :=
  { c with fe := { c.fe with run := .stopped }, me := { c.me with run := .stopped } }

/-- Mark a FAULT event of capture since the last base sample (R400): 0 hard fault, 1 trip, 2 interlock, 3 fast comparator,
4 LIM rise, 5 MEAS_LOST, 6 HOLD. -/
def Chan.capEvent (c : Chan) (b : Nat) : Chan :=
  { c with cap := c.cap.map fun k => { k with events := k.events ||| (1#7 <<< b) } }

/-- Mark for capture that a mode has been entered (R399). -/
def Chan.capEntered (c : Chan) : Chan := { c with cap := c.cap.map fun k => { k with entered := true } }

/-- The power-module model freezes (R450): in OFF and REPAIR and on the bypass clock. -/
def Chan.freezeThermal (c : Chan) (now : Nat) : Chan :=
  if c.tmod.frozenAt.isSome then c
  else { c.setFld Reg.TMOD_STAT Fld.TMOD_STAT_FROZEN 1 with tmod := { c.tmod with frozenAt := some now } }

/-! ## The state -/

def State.chan (s : State) (ch : ChId) : Chan := s.ch[ch]

def State.putChan (s : State) (ch : ChId) (c : Chan) : State := { s with ch := s.ch.set ch c }

def State.onChan (s : State) (ch : ChId) (f : Chan → Chan) : State := s.putChan ch (f (s.chan ch))

def State.gget (s : State) (off : Nat) : Word := sget globalReset s.g off

def State.gput (s : State) (off : Nat) (v : Word) : State := { s with g := sset globalReset s.g off v }

def State.gfld (s : State) (off : Nat) (f : BitField) : Nat := getField (s.gget off) f

def State.gbit (s : State) (off : Nat) (f : BitField) : Bool := s.gfld off f != 0

def State.gset (s : State) (off : Nat) (f : BitField) (n : Nat) : State := s.gput off (setField (s.gget off) f n)

/-- A write of a global register without commands: its RW fields take the value, W1C bits clear, RWS fields are replaced;
a counter register takes its clear actions only (R10, R528). -/
def State.plainWriteG (s : State) (off : Nat) (v : Word) : State :=
  match findRow globalRows off with
  | some r =>
    if r.counter then s.gput off (clearHalves (s.gget off) v)
    else s.gput off (r.sticky (r.plain (s.gget off) v) v)
  | none => s

/-- The reference's nominal frequency in kHz (R277, R298). -/
def State.fnom (s : State) : Nat := s.gfld Reg.REF_CFG Fld.REF_CFG_FNOM

/-- The host port is PCI Express (R457). -/
def State.pcie (s : State) : Bool := s.gfld Reg.HOST_STAT Fld.HOST_STAT_MODE = 0

/-- The image configures a pair member (R38, R304). -/
def State.isPair (s : State) : Bool := s.gbit Reg.GSTAT Fld.GSTAT_PAIR

/-- A mask over the channels. -/
def chMask (p : ChId → Bool) : Nat := (List.finRange 12).foldl (fun n ch => if p ch then n + 2 ^ ch.val else n) 0

/-! ## Interrupts (R469, R470) -/

/-- A word of the MSI-X table that nothing has written, by its byte offset: the vector control word masks (log 70). -/
def msixDefault (n : Nat) : Word := if n % 16 = 12 then 1 else 0

/-- Whether the MSI-X table masks a vector (its vector control word, bit 0). -/
def State.msixMasked (s : State) (v : Nat) : Bool := (sget msixDefault s.host.msix (16 * v + 12)).getLsbD 0

/-- Send the message of a vector, or set its pending bit where the MSI-X table masks it. -/
def State.message (s : State) (v : Nat) : State :=
  if !s.pcie then s
  else if s.msixMasked v then { s with host := { s.host with pba := s.host.pba ||| (1#24 <<< v) } }
  else { s with host := { s.host with
    msgs := s.host.msgs.setIfInBounds v (s.host.msgs.getD v 0 + 1) } }

/-- An occurrence of an interrupt source (R469): INT_STAT sets, and a message is sent if it was 0 and unmasked (R470). -/
def State.irq (s : State) (v : Nat) : State :=
  if (s.gget Reg.INT_STAT).getLsbD v then s
  else
    let s := s.gput Reg.INT_STAT (s.gget Reg.INT_STAT ||| (1#32 <<< v))
    if (s.gget Reg.INT_MASK).getLsbD v then s else s.message v

/-! ## Event records (R418 to R425, R437) -/

/-- A ring slot that nothing has written (log 11). -/
def ringDefault (_ : Nat) : RecRec := ⟨0, 0, 0, 0, 0, 0, 0, 0, 0, 0, 0⟩

/-- A slot of the event store that nothing has written: not committed (log 11). -/
def storeDefault (_ : Nat) : StoreRec := ⟨ringDefault 0, 0⟩

/-- DATA from (offset, bytes, value) entries, little-endian; undescribed bytes are 0 (R538). -/
def recData : List (Nat × Nat × Nat) → RecData
  | [] => 0
  | (o, n, v) :: t => (BitVec.ofNat 256 (v % 2 ^ (8 * n)) <<< (8 * o)) ||| recData t

/-- The calendar time in ns (R428). -/
def State.calNow (s : State) : Nat := s.cal.ns

/-- The epoch (R430). -/
def State.calEpoch (s : State) : Nat := s.gfld Reg.CAL_STAT Fld.CAL_STAT_EPOCH

/-- A record as requested now (R418, R421). -/
def State.newRecord (s : State) (blk ch code sev : Nat) (d : RecData) : RecRec where
  seq := 0
  time := s.calNow
  epoch := s.calEpoch
  rep := 0
  src := BitVec.ofNat 16 (blk % 256 + 256 * (ch % 16))
  code := BitVec.ofNat 16 code
  sev := BitVec.ofNat 8 sev
  flags := BitVec.ofNat 8 (s.gfld Reg.CAL_STAT Fld.CAL_STAT_VALID + 2 * s.gfld Reg.CAL_STAT Fld.CAL_STAT_PPSLOCK)
  tlast := 0
  data := d
  first := s.time.refNs

/-- Identical under R425. -/
def RecRec.same (a b : RecRec) : Bool := a.src == b.src && a.code == b.code && a.sev == b.sev && a.data == b.data

/-- Merge one more occurrence (R425): REPEAT, TLAST in ms of the active reference; at 65,535 RSAT sets and the record
closes. -/
def RecRec.merge (r : RecRec) (now : Nat) : RecRec :=
  let n := r.rep + 1
  { r with rep := n, tlast := min 65535 ((now - r.first) / 1000000),
           flags := if n = 65535 then (r.flags ||| 8) &&& 0xFB else r.flags }

/-- The request merged into the newest queued entry, or with an empty queue into the open record, whose slot is rewritten
(R423, R425). -/
def State.mergeRecord (s : State) (r : RecRec) : Option State :=
  match s.rcd.queue.getLast? with
  | some q =>
    if q.same r && q.rep < 65535 then
      some { s with rcd := { s.rcd with queue := s.rcd.queue.dropLast ++ [q.merge s.time.refNs] } }
    else none
  | none =>
    let k := s.rcd.seq % 8192
    let o := sget ringDefault s.rcd.ring k
    if o.flags.getLsbD 2 && o.same r && o.rep < 65535 && !s.gbit Reg.REC_STAT Fld.REC_STAT_SEARCH then
      some { s with rcd := { s.rcd with
        ring := sset ringDefault s.rcd.ring k (o.merge s.time.refNs), bad := s.rcd.bad.filter fun b => b != k } }
    else none

/-- Enter a request into the queue of 64 entries, the last 16 for reserved requests and SEV 3 only; `none`: no entry it may
use (R421). -/
def State.enqueue (s : State) (r : RecRec) (reserved : Bool) : Option State :=
  match s.mergeRecord r with
  | some t => some t
  | none =>
    if s.rcd.queue.length < (if reserved || r.sev == 3 then 64 else 48) then
      some { s with rcd := { s.rcd with queue := s.rcd.queue ++ [r] } }
    else none

/-- The record of a saturated counter (R437). -/
def State.saturated (s : State) (blk ch reg flag : Nat) : RecRec :=
  s.newRecord blk ch 0xFFFF 1 (recData [(0, 4, reg), (4, 1, flag)])

/-- A dropped request: REC_CNT.DROP counts it (R421). -/
def State.dropRecord (s : State) : State :=
  let w := counterStep (s.gget Reg.REC_CNT) false
  let fresh := counterFull w false && !counterFull (s.gget Reg.REC_CNT) false
  let s := { s.gput Reg.REC_CNT w with rcd := { s.rcd with drops := s.rcd.drops + 1 } }
  if fresh then (s.enqueue (s.saturated 0x13 0xF Reg.REC_CNT 15) true).getD s else s

/-- Request a record. -/
def State.requestRecord (s : State) (r : RecRec) (reserved : Bool) : State :=
  (s.enqueue r reserved).getD s.dropRecord

/-- A block requests a record: block, channel (0xF for a global block), code, severity, data. -/
def State.record (s : State) (blk ch code sev : Nat) (d : RecData) : State :=
  s.requestRecord (s.newRecord blk ch code sev d) false

/-- A request that may use the reserved entries (R421). -/
def State.recordReserved (s : State) (blk ch code sev : Nat) (d : RecData) : State :=
  s.requestRecord (s.newRecord blk ch code sev d) true

/-- The write-rejected record (R537): offset, value, context (4 for the kennel port), cause. -/
def State.rejectRecord (s : State) (blk ch off : Nat) (v : Word) (src cause : Nat) : State :=
  s.record blk ch 0x00F0 1 (recData [(0, 4, off), (4, 4, v.toNat), (8, 1, src), (9, 1, cause)])

/-! ## Counters (R12 to R14, R437) -/

/-- The BLOCK of R419 that owns a register: of the channel set by its offset. -/
def chanBlock (off : Nat) : Nat :=
  if off < 0x0140 then 0x01
  else if off < 0x0400 then 0x02
  else if off < 0x0800 then 0x03
  else if off < 0x0C00 then 0x07
  else if off < 0x1400 then 0x04
  else if off < 0x1C00 then 0x05
  else if off < 0x2000 then 0x01
  else if off < 0x2400 then 0x08
  else if off < 0x2800 then 0x06
  else if off < 0x2C00 then 0x0A
  else if off < 0x3000 then 0x09
  else 0x11

/-- The BLOCK of a global register. -/
def globalBlock (off : Nat) : Nat :=
  if off < 0x0060 then 0x08
  else if off < 0x0100 then 0x01
  else if off < 0x0200 then 0x0A
  else if off < 0x0238 then 0x14
  else if off < 0x0800 then 0x10
  else if off < 0x1000 then 0x14
  else if off < 0x2000 then 0x12
  else if off < 0x3000 then 0x13
  else if off < 0x4000 then 0x11
  else if off < 0x5000 then 0x10
  else if off < 0x6000 then 0x15
  else 0x09

/-- Count in a half of a channel's counter register; class SE records its saturation. -/
def State.countCh (s : State) (ch : ChId) (reg : Nat) (hi event : Bool) : State :=
  let w := (s.chan ch).get reg
  let w' := counterStep w hi
  let s := s.onChan ch fun c => c.put reg w'
  if event && counterFull w' hi && !counterFull w hi then
    s.requestRecord (s.saturated (chanBlock reg) ch.val reg (if hi then 31 else 15)) true
  else s

/-- Count in a half of a global counter register. -/
def State.countG (s : State) (reg : Nat) (hi event : Bool) : State :=
  let w := s.gget reg
  let w' := counterStep w hi
  let s := s.gput reg w'
  if event && counterFull w' hi && !counterFull w hi then
    s.requestRecord (s.saturated (globalBlock reg) 0xF reg (if hi then 31 else 15)) true
  else s

/-- Add `n` to a half of a global counter register: it stops at its maximum. -/
def addHalf (w : Word) (hi : Bool) (n : Nat) : Word :=
  let h := if hi then (w.extractLsb' 16 15).toNat else (w.extractLsb' 0 15).toNat
  let h : BitVec 16 := BitVec.ofNat 16 (if counterFull w hi || 32767 ≤ h + n then 65535 else h + n)
  if hi then h ++ w.extractLsb' 0 16 else w.extractLsb' 16 16 ++ h

/-- `n` occurrences at once. -/
def State.countGBy (s : State) (n : Nat) (reg : Nat) (hi event : Bool) : State :=
  let w := s.gget reg
  let w' := addHalf w hi n
  let s := s.gput reg w'
  if event && counterFull w' hi && !counterFull w hi then
    s.requestRecord (s.saturated (globalBlock reg) 0xF reg (if hi then 31 else 15)) true
  else s

/-- CH_FAB_OVWR: 16 bits, flag in bit 31, class SE (R30, R534). -/
def State.countOvwr (s : State) (ch : ChId) : State :=
  let w := (s.chan ch).get Reg.CH_FAB_OVWR
  if w.msb then s
  else
    let n := (w.toNat + 1) % 65536
    let s := s.onChan ch fun c =>
      c.put Reg.CH_FAB_OVWR (if n = 65535 then 0x8000FFFF else BitVec.ofNat 32 n)
    if n = 65535 then s.requestRecord (s.saturated 0x02 ch.val Reg.CH_FAB_OVWR 31) true else s

/-! ## SAFE causes (R189) -/

/-- SAFE cause `b` arises: LIVE and LATCH set; a newly set LATCH bit is recorded (R538) and is a source of the channel's
vector (R469). -/
def State.raiseSafe (s : State) (ch : ChId) (b : Nat) : State :=
  let c := s.chan ch
  let fresh := !(c.get Reg.CH_SAFE_LATCH).getLsbD b
  let c := c.put Reg.CH_SAFE_LIVE (c.get Reg.CH_SAFE_LIVE ||| (1#32 <<< b))
  let c := c.put Reg.CH_SAFE_LATCH (c.get Reg.CH_SAFE_LATCH ||| (1#32 <<< b))
  let s := s.putChan ch c
  if fresh then (s.record 0x01 ch.val 2 2 (recData [(0, 2, 2 ^ b)])).irq (8 + ch.val) else s

/-- A cause that is never live: its LATCH bit sets (R189: RIDET, HOST). -/
def State.latchSafe (s : State) (ch : ChId) (b : Nat) : State :=
  let c := s.chan ch
  if (c.get Reg.CH_SAFE_LATCH).getLsbD b then s
  else
    ((s.putChan ch (c.put Reg.CH_SAFE_LATCH (c.get Reg.CH_SAFE_LATCH ||| (1#32 <<< b)))).record 0x01 ch.val 2 2
      (recData [(0, 2, 2 ^ b)])).irq (8 + ch.val)

/-- The LIVE bit of a cause follows its condition; when the condition arises, the LATCH bit sets. -/
def State.setLive (s : State) (ch : ChId) (b : Nat) (on : Bool) : State :=
  let live := (s.chan ch).get Reg.CH_SAFE_LIVE
  if on then (if live.getLsbD b then s else s.raiseSafe ch b)
  else s.onChan ch fun c => c.put Reg.CH_SAFE_LIVE (live &&& ~~~(1#32 <<< b))

/-! ## The pair: a channel's status word, claims and holding (R306, R317, R338) -/

def State.onPair (s : State) (ch : ChId) (f : PairCh → PairCh) : State := s.onChan ch fun c => { c with pair := f c.pair }

/-- A field of PAIR_CHSTATn. -/
def State.cs (s : State) (ch : ChId) (f : BitField) : Nat := s.gfld (Reg.PAIR_CHSTAT ch) f

def State.setCs (s : State) (ch : ChId) (f : BitField) (n : Nat) : State := s.gset (Reg.PAIR_CHSTAT ch) f n

/-- Both wires are released and the pads' enable with them (R306, R317, R320). -/
def PairCh.letGo (p : PairCh) : PairCh := { p with drive := false, aLow := false, claim := none, padsEn := false }

/-- Whether the unit holds the channel's LEASH. -/
def State.holds (s : State) (ch : ChId) : Bool := (s.chan ch).pair.drive && (s.chan ch).pair.claim = none

/-- Whether the unit is in control of the channel's pads: not a pair member, or the holder (R39). -/
def State.owns (s : State) (ch : ChId) : Bool := !s.isPair || s.holds ch

/-- A member's outcome in GRP_RESULT (R474). -/
def State.groupOutcome (s : State) (ch : ChId) (n : Nat) : State :=
  let w := s.gfld Reg.GRP_RESULT Fld.GRP_RESULT_RES
  let old := w / 4 ^ ch.val % 4
  s.gset Reg.GRP_RESULT Fld.GRP_RESULT_RES (w - old * 4 ^ ch.val + n * 4 ^ ch.val)

/-- A member's staged writes are discarded before they apply (R474). -/
def State.groupDiscard (s : State) (ch : ChId) : State :=
  if s.grp.waiting.getLsbD ch.val then
    ({ s with grp := { s.grp with waiting := s.grp.waiting &&& ~~~(1#12 <<< ch.val),
                                  staged := s.grp.staged.filter fun w => w.1 != ch } }).groupOutcome ch 3
  else s

/-! ## Pads and inhibits (R39, R263, R379, R380) -/

/-- The KENNEL's global or the channel's inhibit is active (R380). -/
def State.inhibited (s : State) (ch : ChId) : Bool :=
  s.gbit Reg.KNL_STAT Fld.KNL_STAT_GINH || (getField (s.gget Reg.KNL_STAT) Fld.KNL_STAT_CHINH).testBit ch.val

/-- An inhibit holds the channel's gate pads OFF: the KENNEL's, or a safety engine's withdrawn permit (R263, R345). -/
def State.padsInhibited (s : State) (ch : ChId) : Bool :=
  s.inhibited ch || (s.chan ch).bit Reg.SAF_CH_STAT Fld.SAF_CH_STAT_INH_A ||
    (s.chan ch).bit Reg.SAF_CH_STAT Fld.SAF_CH_STAT_INH_B

/-- The pads are HIZ: not released, or in a pair member one of the two enables is not set, the KENNEL's or, in SHADOW, the
mode controller's (R39, R306). -/
def State.padsHiz (s : State) (ch : ChId) : Bool :=
  !s.gbit Reg.GSTAT Fld.GSTAT_PADS_RELEASED || (s.isPair && (!(s.chan ch).pair.padsEn || (s.chan ch).mode = 8))

/-! ## The KENNEL's last-word bank and safety slot (R381, R386) -/

/-- Write a last-word entry: 32 entries, newest first; SEQ, BOOT with SRC and CODE, KTIME, DATA (R386). -/
def State.lastWord (s : State) (src : Nat) (code : Byte) (data : Word) : State :=
  let n := s.knl.lwSeq + 1
  let w1 : Word := code ++ (BitVec.ofNat 8 src ++ s.knl.boots.extractLsb' 0 16)
  let e : Vector Word 4 := #v[BitVec.ofNat 32 n, w1, BitVec.ofNat 32 (s.knl.time / 1024), data]
  { s with knl := { s.knl with lwSeq := n, bank := (e :: s.knl.bank).take 32 } }

/-- The safety engines refresh the KENNEL's slot (R381): both inputs have been seen; the slot is armed. -/
def State.slotRefresh (s : State) : State :=
  { s with knl := { s.knl with refA := true, refB := true } }.gset Reg.KNL_STAT Fld.KNL_STAT_SSARM 1

/-- The times of the last second, on the active reference (R247, R357). -/
def recentTimes (now : Nat) (ts : List Nat) : List Nat := ts.filter fun t => now < t + 1000000000

end Sys2Proof.Machine
end

