-- ==== Sys2Proof/Machine/Capture.lean ====
section
/-! DEFINITION. Machine/Capture.lean: capture and trigger (13_capture_and_trigger.md R396 to R417): base samples, the sixteen
conditions of a set, records in the capture SRAM, hold-off, histograms and maps, and the capture DMA. The SRAM is held by
word address (byte address / 4). -/

namespace Sys2Proof.Machine

/-- A set number. -/
abbrev SetId := Fin 4

/-- What a word of capture SRAM that nothing has written reads as (log 50). -/
def sramDefault (_ : Nat) : Word := 0

/-- The capture SRAM's canonical form: word addresses rising, no word listed that reads as unwritten. -/
abbrev Memory.wf (m : List (Nat × Word)) : Bool := swf sramDefault m

def State.sramGet (s : State) (a : Nat) : Word := sget sramDefault s.sram a

def State.sramSet (s : State) (a : Nat) (w : Word) : State := { s with sram := sset sramDefault s.sram a w }

def State.sramPut (s : State) (a : Nat) (ws : List Word) : State := { s with sram := ssetMany sramDefault s.sram a ws }

def Chan.capSet (c : Chan) (k : SetId) : CapSet := c.cap[k]

def Chan.setCap (c : Chan) (k : SetId) (x : CapSet) : Chan := { c with cap := c.cap.set k x }

def State.onCap (s : State) (ch : ChId) (k : SetId) (f : CapSet → CapSet) : State :=
  s.onChan ch fun c => c.setCap k (f (c.capSet k))

def Chan.capState (c : Chan) (k : SetId) : Nat := c.fld (Reg.CAP_STAT k) Fld.CAP_STAT_STATE

def Chan.setCapState (c : Chan) (k : SetId) (n : Nat) : Chan := c.setFld (Reg.CAP_STAT k) Fld.CAP_STAT_STATE n

/-! ## Layout (R396, R397) -/

def Chan.capNtr (c : Chan) (k : SetId) : Nat := c.fld (Reg.CAP_LAYOUT k) Fld.CAP_LAYOUT_NTR

/-- Words of a row: the data words and the tag words. -/
def Chan.capRowWords (c : Chan) (k : SetId) : Nat := c.capNtr k + (c.capNtr k + 7) / 8

/-- Bytes of a segment, SIZE / NSEG; where that is no whole number of words, rounded down (log 51). -/
def Chan.capSegBytes (c : Chan) (k : SetId) : Nat :=
  c.fld (Reg.CAP_LAYOUT k) Fld.CAP_LAYOUT_SIZE * 4096 / max 1 (c.fld (Reg.CAP_SEG k) Fld.CAP_SEG_NSEG) / 4 * 4

/-- DEPTH (R397). -/
def Chan.capDepth (c : Chan) (k : SetId) : Nat :=
  if c.capNtr k = 0 then 0
  else (c.fld (Reg.CAP_LAYOUT k) Fld.CAP_LAYOUT_SIZE * 4096 / max 1 (c.fld (Reg.CAP_SEG k) Fld.CAP_SEG_NSEG) - 64) /
    (4 * c.capRowWords k)

/-- CAP_DEPTH reports it. -/
def Chan.capRefresh (c : Chan) : Chan :=
  (List.finRange 4).foldl (fun c (k : SetId) => c.put (Reg.CAP_DEPTH k) (BitVec.ofNat 32 (c.capDepth k))) c

/-- The word address of a segment. -/
def Chan.capSegAddr (c : Chan) (k : SetId) (seg : Nat) : Nat :=
  (c.capBase k.val).1 * 1024 + seg * c.capSegBytes k / 4

/-- The word address of a row of a segment. -/
def Chan.capRowAddr (c : Chan) (k : SetId) (seg row : Nat) : Nat := c.capSegAddr k seg + 16 + row * c.capRowWords k

/-- The pre-trigger target P (R402). -/
def Chan.capP (c : Chan) (k : SetId) : Nat := (c.capDepth k - 1) * c.fld (Reg.CAP_CFG k) Fld.CAP_CFG_PRE / 100

/-- The post-trigger length Q (R402). -/
def Chan.capQ (c : Chan) (k : SetId) : Nat := c.capDepth k - 1 - c.capP k

def Chan.capDec (c : Chan) (k : SetId) : Nat := c.fld (Reg.CAP_CFG k) Fld.CAP_CFG_DECM1 + 1

/-! ## Words of a base sample (R398) -/

/-- The word of a quantity in a base sample (R398). With BASE = 0, the word latched of a chain output, and of every other
quantity the last one posted, with STALE where it repeats; with BASE = 1, the latest word posted. -/
def Chan.capWord (c : Chan) (k : SetId) (q : Nat) : FabWord :=
  let w := c.fabGet q
  if c.bit (Reg.CAP_CFG k) Fld.CAP_CFG_BASE then w
  else if q < 16 then c.latched.getD q FabWord.blank
  else if w.num ≤ (c.capSet k).lastNum then { w with tag := w.tag ||| 4 } else w

/-- The quantity of a trace. -/
def Chan.capTrace (c : Chan) (k : SetId) (t : Nat) : Nat :=
  ((c.get (Reg.CAP_TRSEL k (t / 4))).extractLsb' (8 * (t % 4)) 8).toNat

/-- A base sample is due (R398): with BASE = 0 the first of its tick, with BASE = 1 one for a posting of trace 0's quantity. -/
def Chan.capDue (c : Chan) (k : SetId) : Bool :=
  if c.bit (Reg.CAP_CFG k) Fld.CAP_CFG_BASE then (c.capSet k).lastNum < (c.fabGet (c.capTrace k 0)).num
  else (c.capSet k).lastTick != some c.tickCount

/-- The row: data words, then tag words of eight traces each (R397). -/
def Chan.capRow (c : Chan) (k : SetId) : List Word :=
  let ws := (List.range (c.capNtr k)).map fun t => c.capWord k (c.capTrace k t)
  let tag := fun j => (List.range 8).foldl (fun (n : Nat) i => n + (match ws[8 * j + i]? with
    | some w => w.tag.toNat * 16 ^ i
    | none => 0)) 0
  ws.map (·.data) ++ (List.range ((c.capNtr k + 7) / 8)).map fun j => BitVec.ofNat 32 (tag j)

/-! ## Conditions (R399, R400) -/

/-- x of a word: the upper half, signed, or unsigned where UNS is 1. -/
def capX (uns : Bool) (w : Word) : Int :=
  if uns then (w.extractLsb' 16 16).toNat else (w.extractLsb' 16 16).toInt

/-- Whether a condition is true in the sample (R399), and the condition with what it remembers of it. `entered`: the mode
was entered since the last base sample, from mode `prev`. An EDGE needs a sample on the far side before it, and a RATE a
sample RLAG back; without one the condition is false (log 73). -/
def CapCond.judge (d : CapCond) (cfg thr data : Word) (entered : Bool) (mode prev : Nat) (events : BitVec 7) : Bool × CapCond :=
  let pol := cfg.getLsbD 4
  let uns := cfg.getLsbD 5
  let x := capX uns data
  let lim := fun lo => if uns then (((thr.extractLsb' lo 16).toNat : Nat) : Int) else (thr.extractLsb' lo 16).toInt
  let lo := lim 0
  let hi := lim 16
  match getField cfg Fld.CAP_COND_CFG_TYPE with
  | 0 => (if pol then decide (x ≤ lo) else decide (hi ≤ x), d)
  | 1 =>
    let at_ := if pol then x ≤ lo else hi ≤ x
    let away := if pol then hi ≤ x else x ≤ lo
    (decide at_ && d.ready, { d with ready := if at_ then false else d.ready || decide away })
  | 2 => (if pol then decide (lo ≤ x ∧ x ≤ hi) else decide (hi < x ∨ x < lo), d)
  | 3 =>
    let lag := getField cfg Fld.CAP_COND_CFG_RLAG
    let d' := { d with xs := (x :: d.xs).take lag }
    match d.xs[lag - 1]? with
    | some y => (if pol then decide (x - y ≤ lo) else decide (hi ≤ x - y), d')
    | none => (false, d')
  | 4 =>
    let y := if cfg.getLsbD 6 then data.extractLsb' 16 16 else data.extractLsb' 0 16
    let z := (y ^^^ thr.extractLsb' 0 16) &&& thr.extractLsb' 16 16
    ((z == 0) != pol, d)
  | 5 => (entered && (thr.extractLsb' 16 12).getLsbD mode && (thr.extractLsb' 0 12).getLsbD prev, d)
  | 6 => (events &&& thr.extractLsb' 0 7 != 0, d)
  | _ => (false, d)

/-- One condition in a base sample: its hit, its onset, and what it keeps (R400). A word tagged UNSETTLED or SUBSTITUTED
counts as false where TAGQ is 1, and its x still belongs to the samples that EDGE and RATE look back on; a condition that is
not enabled remembers nothing (log 73). -/
def Chan.capCond (c : Chan) (k : SetId) (j : Nat) (d : CapCond) : Bool × Bool × CapCond :=
  let cfg := c.get (Reg.CAP_COND_CFG k j)
  if !cfg.getLsbD 0 then (false, false, CapCond.blank)
  else
    let ty := getField cfg Fld.CAP_COND_CFG_TYPE
    let w := c.capWord k (getField cfg Fld.CAP_COND_CFG_QTY)
    let bad := cfg.getLsbD 7 && ty != 5 && ty != 6 && (w.tag.getLsbD 0 || w.tag.getLsbD 3)
    let r := d.judge cfg (c.get (Reg.CAP_COND_THR k j)) w.data (c.capSet k).entered c.mode
      (c.fld Reg.CH_MODE_CUR Fld.CH_MODE_CUR_PREV) (c.capSet k).events
    let holds := r.1 && !bad
    let run := if holds then d.run + 1 else 0
    let hit := holds && (ty = 1 || ty = 5 || ty = 6 || getField cfg Fld.CAP_COND_CFG_CNT + 1 ≤ run)
    (hit, hit && !d.hit, { r.2 with run := run, hit := hit })

/-- The hits and the onsets of a set's conditions as masks, and the conditions after the sample. -/
def Chan.capConds (c : Chan) (k : SetId) : Nat × Nat × Vector CapCond 16 :=
  let rs := (List.finRange 16).map fun j => c.capCond k j.val (c.capSet k).conds[j]
  let mask := fun (f : Bool × Bool × CapCond → Bool) =>
    (List.range 16).foldl (fun n j => match rs[j]? with
      | some r => if f r then n + 2 ^ j else n
      | none => n) 0
  (mask (·.1), mask (·.2.1), Vector.ofFn fun j : Fin 16 => match rs[j.val]? with
    | some r => r.2.2
    | none => (c.capSet k).conds[j])

/-! ## Segments (R401, R406) -/

/-- UNREAD counts the closed segments. -/
def Chan.capCountUnread (c : Chan) (k : SetId) : Chan :=
  c.setFld (Reg.CAP_STAT k) Fld.CAP_STAT_UNREAD (((c.capSet k).segs.toList.filter (· == SegSt.unread)).length)

def Chan.setSeg (c : Chan) (k : SetId) (i : Fin 64) (x : SegSt) : Chan :=
  (c.setCap k { c.capSet k with segs := (c.capSet k).segs.set i x }).capCountUnread k

/-- The lowest free segment below NSEG. -/
def Chan.capFree (c : Chan) (k : SetId) : Option (Fin 64) :=
  (List.finRange 64).find? fun i =>
    decide (i.val < c.fld (Reg.CAP_SEG k) Fld.CAP_SEG_NSEG) && (c.capSet k).segs[i] == SegSt.free

/-- The unread segment with the oldest record. -/
def Chan.capOldest (c : Chan) (k : SetId) : Option (Fin 64) :=
  ((List.finRange 64).filter fun i => (c.capSet k).segs[i] == SegSt.unread).foldl (fun b i =>
    match b with
    | none => some i
    | some j => if (c.capSet k).segSeq[i] < (c.capSet k).segSeq[j] then some i else b) none

/-- The segments that await post-processing, and PPEND, which shows them (R410). -/
def Chan.setPp (c : Chan) (k : SetId) (l : List (Fin 64)) : Chan :=
  (c.setCap k { c.capSet k with pp := l }).setFld (Reg.CAP_STAT k) Fld.CAP_STAT_PPEND (if l.isEmpty then 0 else 1)

/-- Enter FILL in a segment with no pre-trigger rows; a record that stood in it is lost, also to the post-processing. -/
def Chan.capFill (c : Chan) (k : SetId) (i : Fin 64) (ow : Bool) : Chan :=
  let c := (c.setSeg k i .open).setFld (Reg.CAP_STAT k) Fld.CAP_STAT_SEGW i.val
  let c := c.setPp k ((c.capSet k).pp.filter fun j => j != i)
  (c.setCap k { c.capSet k with
    holds := true, row := 0, prev := 0, post := 0, q := 0, dec := 0, since := 0, trig := none, last := none,
    ovwr := ow, onsets := 0 }).setCapState k 1

/-- Take a segment and enter FILL: a free one, else with OVW the oldest unread one, whose record is lost (R406); else
WAIT. -/
def State.capStart (s : State) (ch : ChId) (k : SetId) : State :=
  let c := s.chan ch
  match c.capFree k with
  | some i => s.putChan ch (c.capFill k i false)
  | none =>
    match c.bit (Reg.CAP_CFG k) Fld.CAP_CFG_OVW, c.capOldest k with
    | true, some i => (s.putChan ch (c.capFill k i true)).countCh ch (Reg.CAP_CNT k) true true
    | _, _ => s.putChan ch (c.setCapState k 5)

/-- The segment in use. -/
def Chan.capSeg (c : Chan) (k : SetId) : Fin 64 :=
  Fin.ofNat 64 (c.fld (Reg.CAP_STAT k) Fld.CAP_STAT_SEGW)

/-- The segment in use becomes free; the set enters IDLE. -/
def Chan.capIdle (c : Chan) (k : SetId) : Chan :=
  let c := if (c.capSet k).holds then c.setSeg k (c.capSeg k) .free else c
  (c.setCap k { c.capSet k with holds := false, trig := none, prev := 0, post := 0 }).setCapState k 0

/-! ## Records (R402, R403, R408) -/

/-- The present base sample, not yet stored. -/
def State.capNow (s : State) (ch : ChId) (k : SetId) : CapSample :=
  let c := s.chan ch
  ⟨c.capRow k, s.calNow, s.calEpoch, c.tickCount, c.mode, false⟩

/-- Store a row as the next one of the segment's ring (R397). -/
def State.capStore (s : State) (ch : ChId) (k : SetId) (row : List Word) : State :=
  let c := s.chan ch
  let s := s.sramPut (c.capRowAddr k (c.capSeg k).val (c.capSet k).row) row
  s.onCap ch k fun x => { x with row := (x.row + 1) % max 1 (c.capDepth k), since := 0 }

/-- The row index of the oldest row of the open record (R397, R408). -/
def Chan.capOldestRow (c : Chan) (k : SetId) (t : CapTrig) : Nat :=
  let d := max 1 (c.capDepth k)
  ((c.capSet k).row + d - (t.prev + 1 + (c.capSet k).post) % d) % d

/-- Whether a tag is set in a row of the open record (R408). -/
def State.capTagged (s : State) (ch : ChId) (k : SetId) (t : CapTrig) : Bool :=
  let c := s.chan ch
  (List.range (t.prev + 1 + (c.capSet k).post)).any fun i =>
    let a := c.capRowAddr k (c.capSeg k).val ((c.capOldestRow k t + i) % max 1 (c.capDepth k))
    (List.range ((c.capNtr k + 7) / 8)).any fun j => s.sramGet (a + c.capNtr k + j) != 0

/-- The words of a segment's header (R408); `tagged`: a stored tag was set. -/
def Chan.capHeader (c : Chan) (k : SetId) (t : CapTrig) (rseq : Nat) (trunc tagged : Bool) : List Word :=
  let x := c.capSet k
  let flags := (if trunc then 1 else 0) + (if t.prefull then 4 else 0) + (if tagged then 8 else 0) +
    (if x.ovwr then 16 else 0)
  let start := c.capOldestRow k t
  let info := t.mode + (if c.bit (Reg.CAP_CFG k) Fld.CAP_CFG_BASE then 16 else 0) + 32 * c.capNtr k
  let ws := [rseq % 2 ^ 32, rseq / 2 ^ 32, t.time % 2 ^ 32, t.time / 2 ^ 32, t.mask,
    t.epoch % 65536 + 65536 * (if t.mask % 65536 = 0 then 16 else (lowestBit t.mask).getD 16) + 2 ^ 24 * flags, t.tick % 2 ^ 32,
    t.tick / 2 ^ 32, t.prev, x.post, t.phase, start, (c.get (Reg.CAP_CNT k)).toNat % 65536, c.capDec k, info].map
      (BitVec.ofNat 32)
  ws ++ [crc32c (bytesOf ws)]

/-- The number of the record that closes next (R416). -/
def Chan.capNextSeq (c : Chan) (k : SetId) : Nat :=
  (c.get (Reg.CAP_RSEQ_LO k)).toNat + 2 ^ 32 * (c.get (Reg.CAP_RSEQ_HI k)).toNat + 1

/-- The channel with the open record closed: RSEQ, unread, post-processing pending, with THR in a pause, then HOLD where
AUTO is 1, else IDLE (R401, R406, R410, R445). -/
def Chan.capClosed (c : Chan) (k : SetId) (paused : Bool) : Chan :=
  let seg := c.capSeg k
  let rseq := c.capNextSeq k
  let h := c.fld (Reg.CAP_CFG k) Fld.CAP_CFG_HMODE != 0
  let c := (c.put (Reg.CAP_RSEQ_LO k) (BitVec.ofNat 32 rseq)).put (Reg.CAP_RSEQ_HI k) (BitVec.ofNat 32 (rseq / 2 ^ 32))
  let c := c.setSeg k seg .unread
  let x := c.capSet k
  let c := c.setCap k { x with holds := false, trig := none, onsets := 0, segSeq := x.segSeq.set seg rseq }
  let c := if h then c.setPp k (x.pp ++ [seg]) else c
  let c := if h && paused then c.setFld (Reg.CAP_STAT k) Fld.CAP_STAT_THR 1 else c
  c.setCapState k (if c.bit (Reg.CAP_CFG k) Fld.CAP_CFG_AUTO then 4 else 0)

/-- Close the open record: its header goes to the segment (R408). A set without one is IDLE. -/
def State.capClose (s : State) (ch : ChId) (k : SetId) (trunc : Bool) : State :=
  let c := s.chan ch
  match (c.capSet k).trig with
  | none => s.putChan ch (c.capIdle k)
  | some t =>
    (s.sramPut (c.capSegAddr k (c.capSeg k).val) (c.capHeader k t (c.capNextSeq k) trunc (s.capTagged ch k t))).putChan ch
      (c.capClosed k s.die.paused)

/-- A trigger sample (R402, R403): stored always; the record closes at once where Q is 0. -/
def State.capTrigger (s : State) (ch : ChId) (k : SetId) (m : CapSample) (mask q : Nat) (trunc : Bool) : State :=
  let c := s.chan ch
  let x := c.capSet k
  let prev := min x.prev (c.capP k)
  let t : CapTrig := ⟨mask, m.time, m.epoch, m.tick, m.mode, if x.prev = 0 then 0 else x.since + 1, prev,
    decide (c.capP k ≤ x.prev)⟩
  let s := s.onCap ch k fun x => { x with trig := some t, post := 0, q := q, dec := 0 }
  let s := (s.capStore ch k m.row).onChan ch fun c => c.setCapState k 3
  if q = 0 then s.capClose ch k trunc else s

/-- The missed onsets of a sample: counted, and recorded where MLOG is 1 (R404). -/
def State.capMissed (s : State) (ch : ChId) (k : SetId) (mask : Nat) : State :=
  let c := s.chan ch
  (List.range 17).foldl (fun s j =>
    if !mask.testBit j then s
    else
      let s := s.countCh ch (Reg.CAP_CNT k) false false
      if c.bit (Reg.CAP_CFG k) Fld.CAP_CFG_MLOG then
        s.record 0x09 ch.val 1 0 (recData [(0, 1, k.val), (1, 1, j), (2, 1, c.capState k)])
      else s) s

/-- FILL or ARMED without a hit: every DEC-th base sample is stored, the latest P rows are kept (R402). The first base
sample after the arming is the first stored one (log 52). -/
def State.capPre (s : State) (ch : ChId) (k : SetId) : State :=
  let c := s.chan ch
  let p := c.capP k
  let x := c.capSet k
  let m := s.capNow ch k
  let s := if x.dec = 0 && p != 0 then
      (s.capStore ch k m.row).onCap ch k fun x => { x with
        prev := min p (x.prev + 1), dec := c.capDec k - 1, last := some { m with stored := true } }
    else s.onCap ch k fun x => { x with dec := x.dec - 1, since := x.since + 1, last := some m }
  s.onChan ch fun c => if p ≤ (c.capSet k).prev then c.setCapState k 2 else c

/-- POST: every DEC-th base sample after the trigger sample is stored until Q rows have been (R402). -/
def State.capPost (s : State) (ch : ChId) (k : SetId) : State :=
  let c := s.chan ch
  let x := c.capSet k
  if x.dec + 1 < c.capDec k then s.onCap ch k fun x => { x with dec := x.dec + 1 }
  else
    let s := (s.capStore ch k (c.capRow k)).onCap ch k fun x => { x with dec := 0, post := x.post + 1 }
    if x.q ≤ x.post + 1 then s.capClose ch k false else s

/-- CAPTURE_BASE_SAMPLE (R398 to R405). -/
def execCaptureBaseSample (ch : ChId) (k : Fin 4) (s : State) : Host.Outcome State Fault Refusal :=
  let c := s.chan ch
  if c.mode = 0 || c.mode = 11 || !c.ticking || c.capNtr k = 0 || c.bit Reg.CH_MODE_CUR Fld.CH_MODE_CUR_FAULT ||
      !c.capDue k then .next s
  else
    let r := c.capConds k
    let x := c.capSet k
    let force := if x.force then 65536 else 0
    let hits := r.1 + force
    let onsets := r.2.1 + force
    let s := s.onCap ch k fun x => { x with conds := r.2.2, force := false }
    let st := c.capState k
    let s := match st with
      | 1 => if hits = 0 then s.capPre ch k else s.capTrigger ch k (s.capNow ch k) hits (c.capQ k) false
      | 2 => if hits = 0 then s.capPre ch k else s.capTrigger ch k (s.capNow ch k) hits (c.capQ k) false
      | 3 => (s.capMissed ch k onsets).capPost ch k
      | 4 => (s.capMissed ch k onsets).onCap ch k fun x => { x with
          onsets := x.onsets + ((List.range 17).filter fun j => onsets.testBit j).length }
      | 5 =>
        let s := s.capMissed ch k onsets
        if c.bit (Reg.CAP_STAT k) Fld.CAP_STAT_PPEND then s else s.capStart ch k
      | _ => s
    .next (s.onCap ch k fun x => { x with
      events := 0, entered := false, lastNum := c.postNum, lastTick := some c.tickCount })

/-- HOLDOFF_END: the time of CAP_HOLD, or its number of onsets, is over (R405). -/
def execHoldoffEnd (ch : ChId) (k : Fin 4) (s : State) : Host.Outcome State Fault Refusal :=
  let c := s.chan ch
  let onsets := c.bit (Reg.CAP_HOLD k) Fld.CAP_HOLD_KIND
  if c.capState k = 4 && (!onsets || (c.get (Reg.CAP_HOLD k)).toNat % 2 ^ 26 ≤ (c.capSet k).onsets) then
    .next (s.putChan ch (c.setCapState k 5))
  else .next s

/-! ## Faults and modes (R407) -/

/-- The set before its last base sample: where that sample was stored as a row, the row is taken back. -/
def CapSet.unstore (x : CapSet) (stored : Bool) (depth dec : Nat) : CapSet :=
  if stored then { x with row := (x.row + depth - 1) % max 1 depth, prev := x.prev - 1, since := dec - 1 }
  else { x with since := x.since - 1 }

/-- A hard channel fault: POST closes with TRUNC; FILL or ARMED with a FAULT condition on bit 0 takes the last complete base
sample as its trigger sample; a set that has had none since it entered FILL keeps its state (log 73). -/
def State.capFault (s : State) (ch : ChId) : State :=
  (List.finRange 4).foldl (fun s (k : SetId) =>
    let c := s.chan ch
    let mask := (List.range 16).foldl (fun n j =>
      let cfg := c.get (Reg.CAP_COND_CFG k j)
      if cfg.getLsbD 0 && getField cfg Fld.CAP_COND_CFG_TYPE = 6 && (c.get (Reg.CAP_COND_THR k j)).getLsbD 0
      then n + 2 ^ j else n) 0
    if c.capState k = 3 then s.capClose ch k true
    else match (c.capSet k).last with
      | some m =>
        if (c.capState k = 1 || c.capState k = 2) && mask != 0 then
          (s.onCap ch k fun x => x.unstore m.stored (c.capDepth k) (c.capDec k)).capTrigger ch k m mask 0 true
        else s
      | none => s) s

/-- A channel start: every set that is not IDLE enters FILL, in the segment that it holds. -/
def State.capRestart (s : State) (ch : ChId) : State :=
  (List.finRange 4).foldl (fun s (k : SetId) =>
    let s := s.onCap ch k fun x => { x with lastTick := none }
    let c := s.chan ch
    if c.capState k = 0 then s
    else if (c.capSet k).holds then s.putChan ch (c.capFill k (c.capSeg k) (c.capSet k).ovwr)
    else s.capStart ch k) s

/-- Entry to OFF or REPAIR, and DISARM of one set: an open record closes with TRUNC, the set is IDLE. -/
def State.capDisarmSet (s : State) (ch : ChId) (k : SetId) : State :=
  let s := if (s.chan ch).capState k = 3 then s.capClose ch k true else s
  s.onChan ch fun c => if c.capState k = 0 then c else c.capIdle k

def State.capStop (s : State) (ch : ChId) : State :=
  (List.finRange 4).foldl (fun s (k : SetId) => s.capDisarmSet ch k) s

/-- Clear a set's histograms and map (R410). -/
def State.capClearHist (s : State) (ch : ChId) (k : SetId) : State :=
  let c := s.chan ch
  let a := (c.capBase k.val).2 * 1024
  let n := c.fld (Reg.CAP_LAYOUT k) Fld.CAP_LAYOUT_HREG * 1024
  let s := { s with sram := s.sram.filter fun p => !(a ≤ p.1 && p.1 < a + n) }
  s.onChan ch fun c => c.setFld (Reg.CAP_STAT k) Fld.CAP_STAT_HSAT 0

/-- The end of a REPAIR load: every segment is free, histograms and maps are cleared. -/
def State.capFree (s : State) (ch : ChId) : State :=
  (List.finRange 4).foldl (fun s (k : SetId) =>
    (s.capClearHist ch k).onChan ch fun c => ((c.setCap k { c.capSet k with
      segs := Vector.replicate 64 .free, holds := false }).setPp k []).capCountUnread k) s

/-- CAPTURE_ECC_ABORT: an uncorrectable error in a set's region; `reader` 0 port, 1 post-processing, 2 DMA, 3 window. -/
def execCaptureEccAbort (ch : ChId) (k : Fin 4) (reader : Fin 4) (addr : Word) (s : State) :
    Host.Outcome State Fault Refusal :=
  let s := s.onChan ch fun c => (c.capIdle k).setFld (Reg.CAP_STAT k) Fld.CAP_STAT_ECCAB 1
  let s := if reader = 3 then s.gset Reg.GCAP_GSTAT Fld.GCAP_GSTAT_WUE 1 else s
  .next (s.record 0x09 ch.val 2 2 (recData [(0, 1, k.val), (1, 1, reader.val), (4, 4, addr.toNat)]))

/-! ## Post-processing (R410) -/

/-- Clamp to the bins 0 to n − 1. -/
def binOf (x : Int) (off n : Nat) : Nat := (min (max (x + off) 0) ((n : Int) - 1)).toNat

/-- Add one to a 32-bit bin; true where it is saturated. -/
def State.binAdd (s : State) (a : Nat) : State × Bool :=
  let w := s.sramGet a
  if w = 0xFFFFFFFF then (s, true) else (s.sramSet a (w + 1), false)

/-- Add one to a 16-bit cell, two to a word. -/
def State.cellAdd (s : State) (base cell : Nat) : State × Bool :=
  let a := base + cell / 2
  let w := s.sramGet a
  let v := (w.extractLsb' (16 * (cell % 2)) 16).toNat
  if v = 65535 then (s, true) else (s.sramSet a (w + BitVec.ofNat 32 (65536 ^ (cell % 2))), false)

/-- Whether a stored word is binned: neither UNSETTLED nor SUBSTITUTED. -/
def tagBinned (tag : Nat) : Bool := !(tag.testBit 0 || tag.testBit 3)

/-- Bin row `i` of `len` at word address `a` (R410). -/
def State.binRow (s : State) (c : Chan) (k : SetId) (a i len : Nat) : State × Bool :=
  let ntr := c.capNtr k
  let h := c.fld (Reg.CAP_HIST k) Fld.CAP_HIST_HSH
  let base := (c.capBase k.val).2 * 1024
  let tag := fun t => (s.sramGet (a + ntr + t / 8)).toNat / 16 ^ (t % 8) % 16
  let val := fun t => (s.sramGet (a + t)).toInt / 2 ^ h
  if c.fld (Reg.CAP_CFG k) Fld.CAP_CFG_HMODE = 1 then
    (List.range ntr).foldl (fun (r : State × Bool) t =>
      if tagBinned (tag t) then
        let q := r.1.binAdd (base + 1024 * t + binOf (val t) 512 1024)
        (q.1, r.2 || q.2)
      else r) (s, false)
  else
    let t := c.fld (Reg.CAP_HIST k) Fld.CAP_HIST_PTR
    if tagBinned (tag t) then s.cellAdd base (256 * binOf (val t) 128 256 + i * 256 / max 1 len) else (s, false)

/-- A copy of a set's histograms or map runs: the set's post-processing pauses (R411). -/
def State.copiesHist (s : State) (ch : ChId) (k : SetId) : Bool :=
  match s.dma.running with
  | some d => getField d.sel Fld.GCAP_DMA_SEL_CH = ch.val && getField d.sel Fld.GCAP_DMA_SEL_SET = k.val &&
      1 ≤ getField d.sel Fld.GCAP_DMA_SEL_KIND
  | none => false

/-- POSTPROC_DONE: the oldest pending record has been binned (R410, R412); not while it pauses. -/
def execPostprocDone (ch : ChId) (k : Fin 4) (s : State) : Host.Outcome State Fault Refusal :=
  let c := s.chan ch
  match (c.capSet k).pp with
  | [] => .next s
  | seg :: rest =>
    if c.bit (Reg.CAP_STAT k) Fld.CAP_STAT_THR || s.copiesHist ch k then .next s
    else
      let h := c.capSegAddr k seg.val
      let len := (s.sramGet (h + 8)).toNat + 1 + (s.sramGet (h + 9)).toNat
      let start := (s.sramGet (h + 11)).toNat
      let d := max 1 (c.capDepth k)
      let r := (List.range len).foldl (fun (r : State × Bool) i =>
        let q := r.1.binRow c k (c.capRowAddr k seg.val ((start + i) % d)) i len
        (q.1, r.2 || q.2)) (s, false)
      .next (r.1.onChan ch fun c =>
        let c := c.setPp k rest
        if r.2 then c.setFld (Reg.CAP_STAT k) Fld.CAP_STAT_HSAT 1 else c)

/-! ## Writes (R400, R401, R406, R410, R413) -/

/-- Whether an ARM fits: the capture port's bandwidth and the histogram region (R398, R410). -/
def Chan.armFits (c : Chan) (k : SetId) : Bool :=
  let rows := (List.finRange 4).foldl (fun n j =>
    if j = k || c.capState j != 0 then n + c.capRowWords j else n) 0
  let hreg := c.fld (Reg.CAP_LAYOUT k) Fld.CAP_LAYOUT_HREG
  let hmode := c.fld (Reg.CAP_CFG k) Fld.CAP_CFG_HMODE
  decide (2 * rows * c.baseRate ≤ c.minClock) &&
    !(hmode = 1 && hreg < c.capNtr k) && !(hmode = 2 && hreg < 32)

/-- Whether a write of CAP_CTL is rejected as a whole (R413). -/
def Chan.capCtlBad (c : Chan) (k : SetId) (v : Word) : Bool :=
  c.mode = 0 || c.mode = 11 ||
    (v.getLsbD 0 && c.capState k = 0 && !c.armFits k) ||
    (v.getLsbD 4 && (c.capSet k).segs[Fin.ofNat 64 (getField v Fld.CAP_CTL_SEG)] != SegSt.unread)

/-- A write of CAP_CTL: its bits act in their order (log 53). -/
def State.capCtl (s : State) (ch : ChId) (k : SetId) (v : Word) : State :=
  let s := if v.getLsbD 0 && (s.chan ch).capState k = 0 && (s.chan ch).capNtr k != 0 then s.capStart ch k else s
  let s := if v.getLsbD 1 then s.capDisarmSet ch k else s
  let s := if v.getLsbD 2 then s.onCap ch k fun x => { x with force := true } else s
  let s := if v.getLsbD 3 then s.capClearHist ch k else s
  if v.getLsbD 4 then s.onChan ch fun c => c.setSeg k (Fin.ofNat 64 (getField v Fld.CAP_CTL_SEG)) .free else s

/-- GCAP_FORCE: every set of the named channels that obeys it (R400). -/
def State.capGlobalForce (s : State) (v : Word) : State :=
  (List.finRange 12).foldl (fun s ch => if !v.getLsbD ch.val then s else
    (List.finRange 4).foldl (fun s (k : SetId) =>
      if (s.chan ch).bit (Reg.CAP_CFG k) Fld.CAP_CFG_GFORCE then s.onCap ch k fun x => { x with force := true } else s) s) s

/-- Whether a quantity is routed to a destination, by its bit in CH_QDEST (R535). -/
def Chan.routed (c : Chan) (q bit : Nat) : Bool :=
  q < 0xD0 && (c.get (Reg.CH_QDEST (q / 4))).getLsbD (8 * (q % 4) + bit)

/-- Whether a write of a CAP register of a set is rejected (R413); `r` is the offset within the slot. -/
def Chan.capWriteBad (c : Chan) (k : SetId) (r : Nat) (v : Word) : Bool :=
  let idle := c.capState k = 0
  if c.mode = 0 || c.mode = 11 then true
  else if r = 0x04 then !idle || 100 < getField v Fld.CAP_CFG_PRE || getField v Fld.CAP_CFG_HMODE = 3
  else if r = 0x08 then
    let n := v.toNat % 2 ^ 26
    n = 0 || (if v.getLsbD 31 then 65535 < n else 60000000 < n)
  else if r = 0x0C then
    !idle || 22 < getField v Fld.CAP_HIST_HSH || c.capNtr k ≤ getField v Fld.CAP_HIST_PTR
  else if r = 0x10 then !idle || getField v Fld.CAP_SEG_NSEG = 0 || 64 < getField v Fld.CAP_SEG_NSEG
  else if 0x40 ≤ r && r < 0x80 then
    let t := r - 0x40
    !idle || c.capNtr k ≤ t || (List.range 4).any fun i =>
      decide (t + i < c.capNtr k) && !c.routed (v.extractLsb' (8 * i) 8).toNat 4
  else if 0x80 ≤ r then
    let j := (r - 0x80) / 8
    let cfg := if r % 8 = 0 then v else c.peek (Reg.CAP_COND_CFG k j)
    let thr := if r % 8 = 0 then c.peek (Reg.CAP_COND_THR k j) else v
    let ty := getField cfg Fld.CAP_COND_CFG_TYPE
    let uns := cfg.getLsbD 5
    ty = 7 || getField cfg Fld.CAP_COND_CFG_RLAG = 0 ||
      (r % 8 = 0 && ty != 5 && ty != 6 && !c.routed (getField cfg Fld.CAP_COND_CFG_QTY) 3) ||
      ((ty = 1 || ty = 2) && decide (capX uns thr ≤ capX uns (thr <<< 16)))
  else false

/-! ## The capture DMA (R411) -/

/-- QUEUED and BUSY. -/
def State.dmaShow (s : State) : State :=
  (s.gset Reg.GCAP_DMA_STAT Fld.GCAP_DMA_STAT_QUEUED s.dma.queue.length).gset Reg.GCAP_DMA_STAT
    Fld.GCAP_DMA_STAT_BUSY (if s.dma.running.isSome then 1 else 0)

/-- The next descriptor starts where none runs. -/
def State.dmaNext (s : State) : State :=
  match s.dma.running, s.dma.queue with
  | none, d :: t => { s with dma := { s.dma with running := some d, queue := t } }.dmaShow
  | _, _ => s.dmaShow

/-- A write of GCAP_DMA_GO; true: rejected, the queue is full (R413). -/
def State.dmaGo (s : State) (k : Ctx) (v : Word) : State × Bool :=
  if !v.getLsbD 0 then (s, false)
  else if 16 ≤ s.dma.queue.length then (s, true)
  else ({ s with dma := { s.dma with queue := s.dma.queue ++ [s.dma.staged[k]] } }.dmaNext, false)

/-- The words that a descriptor copies (R411); `none`: segment not closed or set absent. -/
def State.dmaWords (s : State) (d : DmaDesc) : Option (List Word) :=
  if h : getField d.sel Fld.GCAP_DMA_SEL_CH < 12 then
    let c := s.chan ⟨_, h⟩
    let k : SetId := Fin.ofNat 4 (getField d.sel Fld.GCAP_DMA_SEL_SET)
    let seg : Fin 64 := Fin.ofNat 64 (getField d.sel Fld.GCAP_DMA_SEL_SEG)
    let words := fun a n => (List.range n).map fun i => s.sramGet (a + i)
    let base := (c.capBase k.val).2 * 1024
    if c.capNtr k = 0 then none
    else match getField d.sel Fld.GCAP_DMA_SEL_KIND with
      | 0 =>
        if (c.capSet k).segs[seg] != SegSt.unread then none
        else
          let a := c.capSegAddr k seg.val
          let len := (s.sramGet (a + 8)).toNat + 1 + (s.sramGet (a + 9)).toNat
          let start := (s.sramGet (a + 11)).toNat
          some (words a 16 ++ (List.range len).flatMap fun i =>
            words (c.capRowAddr k seg.val ((start + i) % max 1 (c.capDepth k))) (c.capRowWords k))
      | 1 => some (words base (1024 * c.capNtr k))
      | _ => some (words base 32768)
  else none

/-- The result code of a copy: 1 segment not closed or set absent, 2 ECC, 3 host-side abort (R417). -/
def dmaErr (absent : Bool) : DmaEnd → Nat
  | .ok => if absent then 1 else 0
  | .ecc => 2
  | .abort => 3

/-- The running copy ends. -/
def State.dmaEnd (s : State) (err : DmaEnd) : State :=
  match s.dma.running with
  | none => s
  | some d =>
    let ws := s.dmaWords d
    let e := dmaErr ws.isNone err
    let s := (s.gset Reg.GCAP_DMA_STAT Fld.GCAP_DMA_STAT_LTAG (getField d.sel Fld.GCAP_DMA_SEL_TAG)).gset
      Reg.GCAP_DMA_STAT Fld.GCAP_DMA_STAT_LERR e
    let s := if e = 0 then s else s.gset Reg.GCAP_GSTAT Fld.GCAP_GSTAT_DMAERR 1
    let s := if e = 0 then { s with dma := { s.dma with
        lastAddr := d.lo.toNat + 2 ^ 32 * d.hi.toNat, lastData := ws.getD [] } } else s
    let s := if h : e = 0 ∧ getField d.sel Fld.GCAP_DMA_SEL_KIND = 0 ∧ getField d.sel Fld.GCAP_DMA_SEL_CH < 12 then
        s.onChan ⟨_, h.2.2⟩ fun c => c.setSeg (Fin.ofNat 4 (getField d.sel Fld.GCAP_DMA_SEL_SET))
          (Fin.ofNat 64 (getField d.sel Fld.GCAP_DMA_SEL_SEG)) .free
      else s
    ({ s with dma := { s.dma with running := none } }.irq (20 + d.ctx.val)).dmaNext

/-- CAPTURE_DMA_DONE. -/
def execCaptureDmaDone (err : DmaEnd) (s : State) : Host.Outcome State Fault Refusal := .next (s.dmaEnd err)

/-- Whether a word of the SRAM belongs to a set: its record region or its histogram region (R396, R411). -/
def Chan.capOwns (c : Chan) (a : Nat) : Bool :=
  (List.finRange 4).any fun k : SetId =>
    let r := (c.capBase k.val).1 * 1024
    let h := (c.capBase k.val).2 * 1024
    c.capNtr k != 0 &&
      (decide (r ≤ a ∧ a < r + c.fld (Reg.CAP_LAYOUT k) Fld.CAP_LAYOUT_SIZE * 1024) ||
        decide (h ≤ a ∧ a < h + c.fld (Reg.CAP_LAYOUT k) Fld.CAP_LAYOUT_HREG * 1024))

/-- A word of GCAP_WIN: page PAGE of the SRAM; a word that no set owns reads 0 (R411, R417). -/
def State.capWindow (s : State) (i : Nat) : Word :=
  let a := s.gfld Reg.GCAP_WBASE Fld.GCAP_WBASE_PAGE * 1024 + i
  if (List.finRange 12).any fun ch => (s.chan ch).capOwns a then s.sramGet a else 0

end Sys2Proof.Machine
end

