-- ==== Sys2Proof/Machine/Pads.lean ====
section
/-! DEFINITION. Machine/Pads.lean: the gate and brake pads (08_pwm_and_power_stage.md R235 to R237, R239, R240, R246 to R249,
R258, R259, R263, R264): topology, the programmed times, the gate commands of a half-period with refresh and dead time, the
pads' states and levels, inhibits, and the brake chopper. Pads are numbered as the pins, switches by logical number. -/

namespace Sys2Proof.Machine

/-! ## Topology (R235, R236) -/

/-- The logical switch of pad k; 15 for an unused pad (R236, R269). -/
def Chan.padSwitch (c : Chan) (k : Nat) : Nat :=
  if k < 8 then (c.get Reg.PWM_MAP0).toNat / 16 ^ k % 16 else (c.get Reg.PWM_MAP1).toNat / 16 ^ (k - 8) % 16

/-- The used pads for which `p` holds, as a mask. -/
def Chan.usedPads (c : Chan) (p : Fin 12 → Bool) : BitVec 12 :=
  (List.finRange 12).foldl (fun m k => if c.padSwitch k.val != 15 && p k then m ||| (1#12 <<< k.val) else m) 0

/-- The used pads of the switches for which `p` holds, as a mask. -/
def Chan.padMask (c : Chan) (p : Nat → Bool) : BitVec 12 := c.usedPads fun k => p (c.padSwitch k.val)

/-- Whether the topology has three levels. -/
def Chan.threeLevel (c : Chan) : Bool := c.fld Reg.PWM_TOPO Fld.PWM_TOPO_TOPO != 0

/-- S1 and S4 are the outer switches; in two-level topologies every used switch is one (R235, R255). -/
def Chan.outerPads (c : Chan) : BitVec 12 := c.padMask fun l => !c.threeLevel || l % 4 == 0 || l % 4 == 3

def Chan.innerPads (c : Chan) : BitVec 12 := c.padMask fun l => c.threeLevel && (l % 4 == 1 || l % 4 == 2)

def Chan.legPads (c : Chan) (leg : Nat) : BitVec 12 := c.padMask fun l => l / 4 == leg

/-- The legs of the pads in a mask, bit n for leg n. -/
def Chan.legsOf (c : Chan) (m : BitVec 12) : Nat :=
  (if m &&& c.legPads 0 = 0 then 0 else 1) + (if m &&& c.legPads 1 = 0 then 0 else 2) +
    (if m &&& c.legPads 2 = 0 then 0 else 4)

/-- The complementary switch (R235). -/
def Chan.complement (c : Chan) (l : Nat) : Nat :=
  if c.threeLevel then l / 4 * 4 + (l + 2) % 4 else l / 4 * 4 + (3 - l % 4)

/-! ## Times (R247) -/

/-- A time of `n / d` seconds in units of 1 / (`k` × f_lock), rounded up with the PWM time word: ceil(T / (t_u × PT)). -/
def Chan.unitsOf (c : Chan) (k n d : Nat) : Nat := ceilDiv (n * k * c.fLock.1 * 2 ^ 30) (d * c.fLock.2 * c.pwm.pt)

/-- A time of `n` units of 10 ns in delay-line steps, rounded up. -/
def Chan.steps10ns (c : Chan) (n : Nat) : Nat := c.unitsOf 8 n 100000000

/-- A time of `n` units of 250 ps in delay-line steps, rounded up. -/
def Chan.steps250ps (c : Chan) (n : Nat) : Nat := c.unitsOf 8 n 4000000000

/-- A time of `n` units of 10 ns in channel-clock cycles, rounded up. -/
def Chan.cycles10ns (c : Chan) (n : Nat) : Nat := c.unitsOf 1 n 100000000

/-- The register field with the blanking time of pad k (R272). -/
def Chan.blankField (c : Chan) (k : Nat) : Nat :=
  c.fld (Reg.DSAT_BLK (k / 2)) (if k % 2 = 0 then Fld.DSAT_BLK_BLK_LO else Fld.DSAT_BLK_BLK_HI)

/-- The conversion of every programmed PWM time (R247, R270 to R273). -/
def Chan.pwmTimes (c : Chan) : PwmTimes where
  dt13 := c.steps250ps (c.fld Reg.PWM_DT Fld.PWM_DT_DT13)
  dt24 := c.steps250ps (c.fld Reg.PWM_DT Fld.PWM_DT_DT24)
  minp := c.steps10ns (c.fld Reg.PWM_CFG Fld.PWM_CFG_MINP)
  trp := c.steps10ns (c.fld Reg.BST_CFG Fld.BST_CFG_TRP)
  tsoft := c.steps10ns (c.fld Reg.FLT_TIM Fld.FLT_TIM_TSOFT)
  toff := c.steps10ns (c.fld Reg.FLT_TIM Fld.FLT_TIM_TOFF)
  tord := c.steps10ns (c.fld Reg.FLT_TIM Fld.FLT_TIM_TORD)
  blank := Vector.ofFn fun k : Fin 12 => c.cycles10ns (c.blankField k.val)
  filt := c.unitsOf 1 (c.fld Reg.FLT_CFG Fld.FLT_CFG_FILT) 500000000
  minon := c.cycles10ns (c.fld Reg.BRK_CFG Fld.BRK_CFG_MINON)
  minoff := c.cycles10ns (c.fld Reg.BRK_CFG Fld.BRK_CFG_MINOFF)

/-- The peak value of the carrier, 8 × CYCLES steps (R238). -/
def Chan.carrierH (c : Chan) : Nat := 8 * c.fld Reg.CH_TICK_DIV Fld.CH_TICK_DIV_CYCLES

/-- How many delay-line steps of the half-period have passed at reference time `now`. DEDUCED (log 66): the model knows the
instant of a command to the 10 ns of its time. -/
def Chan.gatePos (c : Chan) (now : Nat) : Nat :=
  min (c.pwm.h - 1) ((now - c.pwm.updAt) * 8 * c.fLock.1 * 2 ^ 30 / (1000000000 * c.fLock.2 * c.pwm.pt))

/-! ## The gate commands of a half-period (R239, R240, R248, R249, R260)

A switch's commands are on-intervals [a, b) in delay-line steps from the update point, in order and apart. -/

abbrev Spans := List (Nat × Nat)

/-- The on-interval of a command in a half-period that begins at a valley or at a peak (R239). -/
def SwCmd.spans (h : Nat) (peak : Bool) (x : SwCmd) : Spans :=
  let s := if peak then (if x.peak then (0, h - x.cmp) else (h - x.cmp, h)) else (if x.peak then (x.cmp, h) else (0, x.cmp))
  if s.1 < s.2 then [s] else []

/-- Without the first `x` and from `y` on. -/
def Spans.cut (x y : Nat) (s : Spans) : Spans :=
  (s.map fun p => (max p.1 x, min p.2 y)).filter fun p => p.1 < p.2

/-- On also in [0, x). -/
def Spans.addHead (x : Nat) : Spans → Spans
  | [] => if 0 < x then [(0, x)] else []
  | (a, b) :: t => if a ≤ x then (0, max b x) :: t else if 0 < x then (0, x) :: (a, b) :: t else (a, b) :: t

/-- On also in [y, h). -/
def Spans.addTail (y h : Nat) : Spans → Spans
  | [] => if y < h then [(y, h)] else []
  | [(a, b)] => if y ≤ b then [(min a y, max b h)] else if y < h then [(a, b), (y, h)] else [(a, b)]
  | p :: t => p :: Spans.addTail y h t

/-- An edge on a whole channel-clock cycle, the nearest one. DESIGN CHOICE (log 66): R240 does not say which cycle. -/
def wholeCycle (n : Nat) : Nat := (n + 4) / 8 * 8

/-- Whether the half-period in progress began at a peak (R238, R274). -/
def Chan.atPeak (c : Chan) : Bool := c.bit Reg.PWM_STAT Fld.PWM_STAT_PHASE

/-- The dead time of a switch's pair (R246): DT13 for S1 and S3, and for both switches of a two-level leg; DT24 for S2 and
S4. On whole cycles without a calibrated delay line. -/
def Chan.deadTime (c : Chan) (l : Nat) : Nat :=
  let d := if c.threeLevel && l % 2 = 1 then c.pwm.times.dt24 else c.pwm.times.dt13
  if c.bit Reg.PWM_STAT Fld.PWM_STAT_CAL_OK then d else ceilDiv d 8 * 8

/-- Half of TRP, in steps. -/
def Chan.halfPulse (c : Chan) : Nat := ceilDiv c.pwm.times.trp 2

/-- Whether switch `l` is refreshed (R248). -/
def Chan.isRefreshed (c : Chan) (l : Nat) : Bool := (c.get Reg.BST_MASK).getLsbD l

/-- The switches whose refresh, inserted or of their leg's sequence, is centred on the end of the half-period: the off-point
is the peak for a valley-centred switch and the valley for a peak-centred one (R248, R260). -/
def Chan.refTail (c : Chan) : BitVec 12 :=
  (List.finRange 12).foldl (fun m l =>
    let seq := match c.pwm.legs.toList.getD (l.val / 4) .on with
      | .seq _ => true
      | _ => false
    if c.isRefreshed l.val && (c.pwm.refNext.getLsbD l.val || seq) && (c.pwm.cmds[l]).peak == c.atPeak
    then m ||| (1#12 <<< l.val) else m) 0

/-- The commands of switch `l` in the half-period. An inserted refresh takes the switch off for TRP + 2 × DT at its pad and
puts its complement on for TRP in the middle (R248); the dead times of R246 are part of it, so the commands change DT before
the pads do on a rising edge (DEDUCED, log 66). A leg that is off or in its sequence has only the pulses (R260). -/
def Chan.gateSpans (c : Chan) (l : Fin 12) : Spans :=
  if c.pwm.ilkOff.getLsbD l.val then []
  else
    let h := c.pwm.h
    let tail := c.refTail
    let own := c.pwm.legs.toList.getD (l.val / 4) .on = .on || c.pwm.legLate.getLsbD l.val
    let base := if own then (c.pwm.cmds[l]).spans h c.atPeak else []
    let far := h - (c.halfPulse + c.deadTime l.val)
    let base := Spans.cut (if c.pwm.refHead.getLsbD l.val then c.halfPulse else 0) (if tail.getLsbD l.val then far else h) base
    let o := c.complement l.val
    let base := if c.pwm.refHead.getLsbD o then Spans.addHead (min c.halfPulse h) base else base
    let base := if tail.getLsbD o then Spans.addTail far h base else base
    if c.bit Reg.PWM_STAT Fld.PWM_STAT_CAL_OK then base
    else (base.map fun p => (wholeCycle p.1, wholeCycle p.2)).filter fun p => p.1 < p.2

/-- For how long switch `l` has been commanded on at position `p`; none where it is commanded off. -/
def Chan.cmdAge (c : Chan) (l : Fin 12) (p : Nat) : Option Nat :=
  ((c.gateSpans l).find? fun s => s.1 ≤ p && p < s.2).map fun s => if s.1 = 0 then p + c.pwm.age[l] else p - s.1

/-- The intervals in which switch `l` is on at its pad: each rising edge is delayed by the dead time, a falling edge is not, and
a shorter on-interval produces no pulse (R246). -/
def Chan.padSpans (c : Chan) (l : Fin 12) : Spans :=
  ((c.gateSpans l).map fun s => (s.1 + (c.deadTime l.val - if s.1 = 0 then c.pwm.age[l] else 0), s.2)).filter
    fun s => s.1 < s.2

/-- The turn-off edges of a switch's commands in the half-period (R447). -/
def Chan.offEdges (c : Chan) (l : Fin 12) : Nat :=
  let s := c.gateSpans l
  ((s.filter fun p => p.2 < c.pwm.h).length) +
    (if 0 < c.pwm.age[l] && !s.any (fun p => p.1 = 0) then 1 else 0)

/-- The steps for which a switch is commanded on in the half-period. -/
def Chan.onSteps (c : Chan) (l : Fin 12) : Nat := (c.gateSpans l).foldl (fun n p => n + (p.2 - p.1)) 0

/-- The switch of pad k, as an index; none for an unused pad. -/
def Chan.switchOf (c : Chan) (k : Nat) : Option (Fin 12) :=
  if h : c.padSwitch k < 12 then some ⟨c.padSwitch k, h⟩ else none

/-- Whether the commands reach pad k: the pads drive (in SHADOW, as if they did, R266), or an inhibit has yet to reach an
inner pad (R264). -/
def Chan.follows (c : Chan) (k : Nat) : Bool := c.pwm.driving || c.mode = 8 || c.pwm.lag.getLsbD k

/-- Whether pad k is on at position `p` of the half-period: a faulted switch of a turn-off sequence keeps its command, one
that has gone off or is held off is off, every other follows its commands (R246, R253). -/
def Chan.padOn (c : Chan) (k p : Nat) : Bool :=
  c.follows k && (if c.pwm.soft.getLsbD k then c.pwm.frozen.getLsbD k
    else !c.pwm.held.getLsbD k && match c.switchOf k with
      | some l => (c.padSpans l).any fun s => s.1 ≤ p && p < s.2
      | none => false)

/-- The pads that are on. -/
def Chan.padsOn (c : Chan) (p : Nat) : BitVec 12 := c.usedPads fun k => c.padOn k.val p

/-- Whether pad k, on, is inside its blanking window: DSAT_BLK after its rising edge (R252). -/
def Chan.blanking (c : Chan) (k : Fin 12) (p : Nat) : Bool :=
  match c.switchOf k.val with
  | some l => match c.cmdAge l p with
    | some a => a < c.deadTime l.val + 8 * c.pwm.times.blank[k]
    | none => false
  | none => false

/-! ## Pad states (R39, R263) -/

/-- The state of a pad (R263). -/
inductive PadState where
  | drive
  | off
  | hiz
  deriving DecidableEq, Repr

/-- The pad state as shown: 0 DRIVE, 1 OFF, 2 HIZ (R39, R263). A latched trip shows OFF once its sequence has taken the last
pad off; one leg or pair off leaves the others driving. -/
def State.padsShown (s : State) (ch : ChId) : Nat :=
  if s.padsHiz ch then 2 else if (s.chan ch).pwm.driving then 0 else 1

/-- The state of gate pad k by the priorities of R263. -/
def State.padState (s : State) (ch : ChId) (k : Nat) : PadState :=
  let c := s.chan ch
  if s.padsHiz ch then .hiz
  else if c.pwm.lag.getLsbD k then .drive
  else if !c.pwm.driving then .off
  else if c.pwm.held.getLsbD k then .off
  else match c.switchOf k with
    | none => .off
    | some l =>
      if c.pwm.legs.toList.getD (l.val / 4) .on != .on && !c.pwm.legLate.getLsbD l.val && (c.gateSpans l).isEmpty then .off
      else if c.pwm.ilkOff.getLsbD l.val then .off
      else .drive

/-- The level of gate pad k: none in HIZ; else the active level where the switch is on, and its inverse, the off level, where
it is off or the pad unused (R236, R237). -/
def State.padLevel (s : State) (ch : ChId) (k : Nat) : Option Bool :=
  let c := s.chan ch
  if s.padState ch k = .hiz then none
  else some ((c.get Reg.PWM_POL).getLsbD k == (s.padState ch k == .drive && c.padOn k (c.gatePos s.time.refNs)))

/-- The level of the brake pad (R237, R259). -/
def State.brakeLevel (s : State) (ch : ChId) : Option Bool :=
  let c := s.chan ch
  if s.padsHiz ch then none
  else some (c.bit Reg.PWM_POL Fld.PWM_POL_BRKPOL == c.bit Reg.PWM_STAT Fld.PWM_STAT_BRK)

/-- The level of a contactor command pad, active high: none in HIZ (R345, R517). -/
def State.contactorLevel (s : State) (ch : ChId) (k2 : Bool) : Option Bool :=
  if s.padsHiz ch then none
  else some ((s.chan ch).bit Reg.SAF_CH_STAT (if k2 then Fld.SAF_CH_STAT_K2CMD else Fld.SAF_CH_STAT_K1CMD))

/-- Whether the unit toggles the two wires of a channel's LEASH; else it releases both (R317, R517). -/
def State.leashToggles (s : State) (ch : ChId) : Bool := s.knl.powered && s.knl.up && s.isPair && s.holds ch

/-! ## The brake chopper (R258, R259) -/

/-- The inputs of the class whose comparator is asserted (R92, R105). -/
def Chan.comparators (c : Chan) (cls : Nat) : Nat :=
  (List.range 16).foldl (fun n i =>
    if c.bit (Reg.FAST_CFG i) Fld.FAST_CFG_TRIP && c.fld (Reg.FAST_CFG i) Fld.FAST_CFG_CLASS = cls &&
      c.bit (Reg.FAST_CFG i) Fld.FAST_CFG_EN then n + 2 ^ i else n) 0

/-- Whether a class-2 comparator asks for the brake. -/
def Chan.brakeDemand (c : Chan) : Bool :=
  c.bit Reg.BRK_CFG Fld.BRK_CFG_EN && c.comparators 2 != 0 && c.mode != 0 && c.mode != 11

/-- Whether the brake is held inactive at once: BRK_CFG.EN 0, OFF and REPAIR, a pad in HIZ (R258, R259). -/
def State.brakeBarred (s : State) (ch : ChId) : Bool :=
  let c := s.chan ch
  s.padsHiz ch || !c.bit Reg.BRK_CFG Fld.BRK_CFG_EN || c.mode = 0 || c.mode = 11

/-- `n` channel-clock cycles in ns of the reference. -/
def Chan.cyclesNs (c : Chan) (n : Nat) : Nat := ceilDiv (n * 1000000000 * c.fLock.2 * c.pwm.pt) (c.fLock.1 * 2 ^ 30)

/-- The brake goes active or inactive, and its minimum time begins (R258). -/
def Chan.brakeTurn (c : Chan) (on : Bool) (now : Nat) : Chan :=
  let n := if on then c.pwmTimes.minon else c.pwmTimes.minoff
  { c with pwm := { c.pwm with brakeOn := on, brakeHold := true, brakeEnd := now + c.cyclesNs n } }

/-- PWM_STAT.BRK shows the pad: inactive in HIZ (R258, R274). -/
def State.showBrake (s : State) (ch : ChId) : State :=
  s.onChan ch fun c => c.setFld Reg.PWM_STAT Fld.PWM_STAT_BRK (if c.pwm.brakeOn && !s.padsHiz ch then 1 else 0)

/-- The brake pad follows the demand outside a minimum time, and is inactive at once where it is barred (R258, R259). In
SHADOW its state and its timer are the active's (R266). -/
def State.brakeFollow (s : State) (ch : ChId) : State :=
  let c := s.chan ch
  if c.mode = 8 then s.showBrake ch
  else if s.brakeBarred ch then
    (if c.pwm.brakeOn then s.putChan ch (c.brakeTurn false s.time.refNs) else s).showBrake ch
  else if c.pwm.brakeHold || c.brakeDemand == c.pwm.brakeOn then s.showBrake ch
  else
    let t := (s.putChan ch (c.brakeTurn (!c.pwm.brakeOn) s.time.refNs)).showBrake ch
    if c.pwm.brakeOn then t else t.countCh ch Reg.PWM_CNT1 true false

/-! ## Inhibits (R263, R264) -/

/-- Every gate pad goes OFF, the faulted switches of a running sequence with the others; where `orderly`, in three-level
topologies the inner pads follow the outer ones 8 ns later, which an idle cycle of the model ends (R264, log 66). -/
def Chan.gatesOff (c : Chan) (orderly : Bool) : Chan :=
  let p := c.pwm
  { c with pwm := { p with
    driving := false, resume := false, lag := if orderly && p.driving then c.innerPads else if orderly then p.lag else 0, legLate := 0,
    held := if p.seqOn then c.padMask (fun _ => true) else p.held, soft := 0, frozen := 0, other := 0, late := 0 } }

/-- The inner pads have followed the outer ones (R264). -/
def State.innerFollow (s : State) (ch : ChId) : State :=
  if (s.chan ch).pwm.lag = 0 then s else s.onChan ch fun c => { c with pwm := { c.pwm with lag := 0 } }

/-- A channel whose pads a row above the trips keeps OFF or HIZ: an inhibit, a mode whose pads are OFF (R39, R263). In SHADOW
the unit computes on (R266). -/
def State.gatesBarred (s : State) (ch : ChId) : Bool :=
  s.padsInhibited ch || !(s.chan ch).drivingMode

/-- Gates that an inhibit, a mode or a high-impedance pad stops are no longer driving, and return at an update point (R263 to
R265); the brake follows (R259). -/
def State.gatesFollow (s : State) (ch : ChId) : State :=
  let s := if (s.chan ch).mode = 8 then s
    else if s.padsHiz ch then s.onChan ch (·.gatesOff false)
    else if s.gatesBarred ch then s.onChan ch (·.gatesOff true) else s
  s.brakeFollow ch

end Sys2Proof.Machine
end

