-- ==== Sys2Proof/Machine/Enter.lean ====
section
/-! DEFINITION. Machine/Enter.lean: entering a mode (R176, R181, R199, R206), hard channel faults (R36, R180) and the giving
up of a channel (R331, R332), as one shared operation each. -/

namespace Sys2Proof.Machine

/-! ## Contactor commands (R345, R351, R353) -/

/-- A contactor after a change of its command: the settle timer starts afresh (R351). -/
def Contactor.commanded : Contactor := ⟨true, false, false⟩

/-- The commands at CHnn_K1C and CHnn_K2C: request, both permits, and the pads' enable (R345, R306). -/
def State.contactors (s : State) (ch : ChId) : State :=
  let c := s.chan ch
  let perm := c.saf.permA &&& c.saf.permB
  let en := !s.padsHiz ch
  let k1 := en && c.bit Reg.CH_MODE_STAT Fld.CH_MODE_STAT_K1_REQ && perm.getLsbD 1
  let k2 := en && c.bit Reg.CH_MODE_STAT Fld.CH_MODE_STAT_K2_REQ && perm.getLsbD 2
  let c := if k1 == c.bit Reg.SAF_CH_STAT Fld.SAF_CH_STAT_K1CMD then c
    else { c.setFld Reg.SAF_CH_STAT Fld.SAF_CH_STAT_K1CMD (if k1 then 1 else 0) with
      saf := { c.saf with k1 := Contactor.commanded } }
  let c := if k2 == c.bit Reg.SAF_CH_STAT Fld.SAF_CH_STAT_K2CMD then c
    else { c.setFld Reg.SAF_CH_STAT Fld.SAF_CH_STAT_K2CMD (if k2 then 1 else 0) with
      saf := { c.saf with k2 := Contactor.commanded } }
  s.putChan ch c

/-- At a LEASH claim the new holder's settle timers start (R353). -/
def State.restartSettle (s : State) (ch : ChId) : State :=
  (s.onChan ch fun c => { c with saf := { c.saf with k1 := Contactor.commanded, k2 := Contactor.commanded } }).contactors ch


/-! ## The ramp generator -/

/-- Abandon any profile; o holds (R291). -/
def Chan.dropProfile (c : Chan) : Chan :=
  let c := { c with pll := { c.pll with profile := [] } }
  ((c.setFld Reg.PLL_RAMP Fld.PLL_RAMP_BUSY 0).setFld Reg.PLL_RAMP Fld.PLL_RAMP_SEG 0).setFld
    Reg.PLL_STAT Fld.PLL_STAT_BUSY 0

/-! ## Leaving SHADOW -/

/-- Leaving SHADOW: ARMED and DISARM clear, the health register reads 0 (R321, R328, R339); the ramp generator is the
host's again and holds the offset that the alignment loop left (R63, R291); no frame serves an alignment any more (R66). -/
def State.pairLeaveShadow (s : State) (ch : ChId) : State :=
  let s := s.onPair ch fun p =>
    let p := { p with eligible := false, disarm := false, results := 0, done := 0, insert := 0, slope := 0, moving := false }
    if p.claim.isSome then p.letGo else p
  (((s.setCs ch Fld.PAIR_CHSTAT_ARMED 0).setCs ch Fld.PAIR_CHSTAT_GUARD 0).gput (Reg.HND_HEALTH ch) 0).onChan ch
    fun c => (c.setFld Reg.PLL_STAT Fld.PLL_STAT_RAMPOWN 0).setFld Reg.CH_ALIGN Fld.CH_ALIGN_FRAMES 0

/-! ## Entering a mode -/

/-- KNL_STAT.CHINH bit n from its three sources: the channel in OFF, its reset, KNL_INH.CHSET (R380). -/
def State.chinhFollow (s : State) (ch : ChId) : State :=
  let on := (s.chan ch).mode = 0 || (s.chan ch).resetting || (s.gget Reg.KNL_INH).getLsbD ch.val
  let old := s.gfld Reg.KNL_STAT Fld.KNL_STAT_CHINH
  let s := s.gset Reg.KNL_STAT Fld.KNL_STAT_CHINH
    (if on then old ||| 2 ^ ch.val else if old.testBit ch.val then old - 2 ^ ch.val else old)
  s.gatesFollow ch

/-- The mode registers at an entry (R181, R182, R184, R198): the requests and marks of the mode left clear. -/
def Chan.enterRegs (c : Chan) (m tc : Nat) : Chan :=
  let old := c.mode
  let cur := setField (setField (setField (c.get Reg.CH_MODE_CUR) Fld.CH_MODE_CUR_MODE m) Fld.CH_MODE_CUR_PREV old)
    Fld.CH_MODE_CUR_TCAUSE tc
  let st := c.get Reg.CH_MODE_STAT
  let st := setField (setField (setField st Fld.CH_MODE_STAT_PRE_DONE 0) Fld.CH_MODE_STAT_BS_DONE 0)
    Fld.CH_MODE_STAT_RSY_MATCH 0
  let st := if m ≤ 1 then setField (setField st Fld.CH_MODE_STAT_K1_REQ 0) Fld.CH_MODE_STAT_K2_REQ 0 else st
  let st := if m = 2 then setField st Fld.CH_MODE_STAT_K2_REQ 1 else st
  (c.put Reg.CH_MODE_CUR cur).put Reg.CH_MODE_STAT st

/-- What an entry restarts beside the registers: the mode's counts and marks, the dead-bus check only while K1_REQ is not set
(R183); PACK no longer injects outside FORM, and x is 0 in HALT, also where no tick follows (R224); FST in the first tick after HALT or TEST
(R111); a blend is abandoned on entry to HALT, SHADOW, SAFE, OFF, TEST and REPAIR (R197); gates that no longer drive. -/
def Chan.enterInner (c : Chan) (m : Nat) : Chan :=
  let old := c.mode
  let leaves := (old = 1 || old = 9) && m != old
  let c := if m = 4 then c else c.packStop
  let c := if m = 1 then c.put Reg.PACK_X 0 else c
  let c := { c with ctl := { ModeCtl.reset with bsCheck := m = 3 && !c.bit Reg.CH_MODE_STAT Fld.CH_MODE_STAT_K1_REQ, starting := c.ctl.starting } }
  let c := if leaves then { c with fe := { c.fe with fstNext := true }, me := { c.me with fstNext := true } } else c
  let drives := 3 ≤ m && m ≤ 7
  if drives then c
  else (c.put Reg.HO_STAT 0).gatesOff (m != 8)

/-- Enter mode `m` with cause `tc` (R174, R199): the registers, TRANS, the record and the channel's interrupt; leaving
SHADOW ends its pair state; the inhibit of OFF and the contactor commands follow. -/
def State.enterMode (s : State) (ch : ChId) (m tc : Nat) : State :=
  let c := s.chan ch
  let old := c.mode
  let s := s.putChan ch ((c.enterInner m).enterRegs m tc).capEntered
  let s := if m = 0 || m = 11 then s.groupDiscard ch else s
  let s := if old = m then s else (s.countCh ch Reg.CH_MODE_CNT false false).irq (8 + ch.val)
  let s := s.record 0x01 ch.val 1 (if tc = 8 || tc = 9 then 3 else 0) (recData [(0, 1, m), (1, 1, old), (2, 1, tc),
    (4, 2, (c.get Reg.CH_SAFE_LIVE).toNat), (6, 2, (c.get Reg.CH_SAFE_LATCH).toNat), (8, 8, c.tickCount)])
  let s := if old = 8 && m != 8 then s.pairLeaveShadow ch else s
  (s.chinhFollow ch).contactors ch

/-! ## The end of a REPAIR load -/

/-- A REPAIR load ends with an ERR code (R496, R497): nothing is staged any more; the record, the IMAGE interrupt; every
capture segment of the channel is free (R407). -/
def State.repairEnds (s : State) (ch : ChId) (err : Nat) : State :=
  let st := s.gget Reg.IMG_STAT
  let st := setField (setField st Fld.IMG_STAT_STATE 0) Fld.IMG_STAT_STGOK 0
  let st := setField (setField st Fld.IMG_STAT_BUSY 0) Fld.IMG_STAT_ERR err
  let s := { s.gput Reg.IMG_STAT st with ldr := { s.ldr with staged := none } }
  ((s.record 0x15 0xF 5 (if err = 0 then 0 else 2) (recData [(0, 1, ch.val), (1, 1, err)])).irq 7).capFree ch

/-- The IMAGE vector is raised once every channel start that the running image began has ended (R491). -/
def State.bootSettled (s : State) : State :=
  if s.ldr.booting && (List.finRange 12).all fun ch => (s.chan ch).pll.phase = .idle then
    { s with ldr := { s.ldr with booting := false } }.irq 7
  else s

/-! ## Hard channel faults and give-ups -/

/-- HALT with FAULT, at once (R180), where a fault does not hold the channel there already: a REPAIR load ends (R497), both engines and the ramp generator stop (R291), GSTAT.CH_FAULT latches, FAULT is a source of the channel's vector,
capture records the event. -/
def State.faultHalt (s : State) (ch : ChId) : State :=
  let s := (s.groupDiscard ch).onChan ch fun c => c.stopEngines.dropProfile
  let was := (s.chan ch).faulted
  let s := if (s.chan ch).mode = 11 then s.repairEnds ch 8 else s
  let s := if was && (s.chan ch).mode = 1 then s else s.enterMode ch 1 8
  let s := s.onChan ch fun c => c.setFld Reg.CH_MODE_CUR Fld.CH_MODE_CUR_FAULT 1
  let s := s.gset Reg.GSTAT Fld.GSTAT_CH_FAULT (s.gfld Reg.GSTAT Fld.GSTAT_CH_FAULT ||| 2 ^ ch.val)
  let s := if was then s else s.irq (8 + ch.val)
  s.capFault ch

/-- The giving up itself (R331, R332): pads HIZ and the LEASH released; GAVEUP, GUCAUSE, the count, the record, the
last-word entry of SRC 0x05 (not for a device give-up, whose own entry stands) and the PAIR vector. -/
def State.releaseGivenUp (s : State) (ch : ChId) (cause : Nat) : State :=
  let s := ((s.groupDiscard ch).onPair ch PairCh.letGo).gatesFollow ch
  let s := (s.setCs ch Fld.PAIR_CHSTAT_GAVEUP 1).setCs ch Fld.PAIR_CHSTAT_GUCAUSE cause
  let s := (s.countG Reg.PAIR_CNT1 true true).irq 3
  let s := s.record 0x10 0xF 4 3 (recData [(0, 2, 2 ^ ch.val), (2, 1, cause)])
  if cause = 5 || cause = 6 then s else s.lastWord 5 0 (BitVec.ofNat 32 (2 ^ ch.val + 4096 * cause))

/-- Give up a held channel (R331, R332): HALT with FAULT for causes 1 to 6, HALT for 7, 8 and 10. -/
def State.giveUp (s : State) (ch : ChId) (cause : Nat) : State :=
  let s := s.releaseGivenUp ch cause
  if cause ≤ 6 then s.faultHalt ch else if (s.chan ch).mode ≤ 1 then s else s.enterMode ch 1 8

/-- A hard channel fault (R36): a pair member that holds the LEASH gives the channel up; HALT with FAULT. `cause` is the
GUCAUSE of R331. -/
def State.hardFault (s : State) (ch : ChId) (cause : Nat) : State :=
  (if s.isPair && s.holds ch then s.releaseGivenUp ch cause else s).faultHalt ch

end Sys2Proof.Machine
end

