-- ==== Sys2Proof/Machine/Pwm.lean ====
section
/-! DEFINITION. Machine/Pwm.lean: PWM, gate outputs and power-stage protection (08_pwm_and_power_stage.md R235 to R267):
the conversion of duties at the update point, interlock, refresh, the fault turn-off sequence, trips, the brake chopper
and the undervoltage rules. Pads are numbered as the pins, switches by logical number. -/

namespace Sys2Proof.Machine

/-! ## Duties to commands (R239 to R244) -/

/-- C = round(d × H) for d = num / den, ties upward (R239). -/
def compareOf (h num den : Nat) : Nat := (2 * num * h + den) / (2 * den)

/-- Whether a leg runs at m = 0 until the next peak because its sign changes at a valley (R242). -/
def Chan.deferred (c : Chan) (peak : Bool) (leg : Fin 3) (m : Word) : Bool :=
  c.threeLevel && !peak && m.msb != c.pwm.negBranch[leg]

/-- The four commands of a leg and its branch, from the modulation value in Q1.31 (R241, R242). -/
def Chan.legCmds (c : Chan) (peak : Bool) (leg : Fin 3) (m : Word) : List SwCmd × Bool :=
  let h := c.carrierH
  if !c.threeLevel then
    let k := compareOf h (m.toInt + 2 ^ 31).toNat (2 ^ 32)
    ([⟨false, k⟩, ⟨false, 0⟩, ⟨false, 0⟩, ⟨true, k⟩], c.pwm.negBranch[leg])
  else
    let neg := if c.deferred peak leg m then c.pwm.negBranch[leg] else m.msb
    let k := if c.deferred peak leg m then 0 else compareOf h m.toInt.natAbs (2 ^ 31)
    if neg then ([⟨false, 0⟩, ⟨true, k⟩, ⟨false, h⟩, ⟨false, k⟩], neg)
    else ([⟨false, k⟩, ⟨false, h⟩, ⟨true, k⟩, ⟨false, 0⟩], neg)

/-- A direct-mode duty in UQ1.31, clamped to 1.0 (R243). -/
def directDuty (w : Word) : Nat := min w.toNat (2 ^ 31)

/-- The twelve commands before the interlock. -/
def Chan.commands (c : Chan) (peak : Bool) (duty : Vector Word 12) : List SwCmd :=
  if c.bit Reg.PWM_TOPO Fld.PWM_TOPO_DIRECT then
    (List.finRange 12).map fun l =>
      let k := compareOf c.carrierH (directDuty duty[l]) (2 ^ 31)
      if (c.get Reg.PWM_DIR).getLsbD l.val then ⟨true, c.carrierH - k⟩ else ⟨false, k⟩
  else (c.legCmds peak 0 duty[0]).1 ++ (c.legCmds peak 1 duty[1]).1 ++ (c.legCmds peak 2 duty[2]).1

/-- Whether two commanded on-intervals overlap (R245). -/
def SwCmd.overlaps (h : Nat) (a b : SwCmd) : Bool :=
  match a.peak, b.peak with
  | false, false => 0 < a.cmp && 0 < b.cmp
  | true, true => a.cmp < h && b.cmp < h
  | false, true => b.cmp < a.cmp
  | true, false => a.cmp < b.cmp

/-- The interlock pairs of a leg with the pair number of the record (R245, R538). -/
def Chan.interlockPairs (c : Chan) (leg : Nat) : List (Nat × Nat × Nat) :=
  if c.threeLevel then [(4 * leg, 4 * leg + 2, 1), (4 * leg + 1, 4 * leg + 3, 2), (4 * leg, 4 * leg + 3, 3)]
  else [(4 * leg, 4 * leg + 3, 3)]

/-- The overlapping pairs: leg, pair number, and the two switches. -/
def Chan.overlaps (c : Chan) (cmds : List SwCmd) : List (Nat × Nat × Nat × Nat) :=
  let off : SwCmd := ⟨false, 0⟩
  [0, 1, 2].flatMap fun leg => (c.interlockPairs leg).filterMap fun (a, b, n) =>
    if (cmds.getD a off).overlaps c.carrierH (cmds.getD b off) then some (leg, n, a, b) else none

/-- MINP on one command (R244): a shorter on-time or off-time within the half-period becomes 0 there. -/
def SwCmd.minPulse (h minp : Nat) (x : SwCmd) : SwCmd :=
  let on := if x.peak then h - x.cmp else x.cmp
  let on' := if on < minp then 0 else if h - on < minp then h else on
  { x with cmp := if x.peak then h - on' else on' }

/-- The value a leg applies after clamp, MINP and deferral (R267), from the command of S1 (or S4 on the lower branch). -/
def Chan.appliedLeg (c : Chan) (peak : Bool) (leg : Fin 3) (m : Word) (before after : List SwCmd) : Word :=
  let off : SwCmd := ⟨false, 0⟩
  let i := 4 * leg.val + (if c.threeLevel && (c.legCmds peak leg m).2 then 3 else 0)
  let x := after.getD i off
  if x = before.getD i off then (if c.deferred peak leg m then 0 else m)
  else if x.cmp = 0 then (if c.threeLevel then 0 else 0x80000000)
  else if c.threeLevel && (c.legCmds peak leg m).2 then 0x80000000 else 0x7FFFFFFF

/-! ## Records -/

def State.recordInterlocks (s : State) (ch : ChId) : List (Nat × Nat × Nat × Nat) → State
  | [] => s
  | (leg, n, _, _) :: t =>
    let s := s.countCh ch Reg.PWM_CNT0 false false
    let s := if (s.chan ch).bit Reg.PWM_CFG Fld.PWM_CFG_ILK_LOG
      then s.record 0x07 ch.val 1 1 (recData [(0, 1, leg), (1, 1, n)]) else s
    s.recordInterlocks ch t

/-! ## The update point (R42, R238 to R245, R265, R267) -/

/-- What a leg does at an update point: a valley begins a carrier period, in which a sequence makes one pulse (R260); after
the last one the leg rejoins at the first update point at which no pulse is under way and its inputs have been released for
1 µs (R262). DEDUCED (log 67): the sequence begins with the first carrier period after the release. -/
def LegState.update (valley pulse released : Bool) : LegState → LegState
  | .due n => if valley then .seq n else .due n
  | .seq n =>
    if !valley then .seq n
    else if 1 < n then .seq (n - 1)
    else if pulse || !released then .rejoin else .on
  | .rejoin => if released then .on else .rejoin
  | .on => .on
  | .off => .off

/-- LEGOFF shows the legs that do not switch (R274). -/
def Chan.showLegs (c : Chan) : Chan :=
  c.setFld Reg.PWM_STAT Fld.PWM_STAT_LEGOFF
    ((if c.pwm.legs[0] = .on then 0 else 1) + (if c.pwm.legs[1] = .on then 0 else 2) +
      (if c.pwm.legs[2] = .on then 0 else 4))

/-- Whether a leg has a refreshed switch (R248, R262). -/
def Chan.legRefreshed (c : Chan) (leg : Nat) : Bool :=
  (c.get Reg.BST_MASK).toNat / 16 ^ leg % 16 != 0

/-- The pulses of a refresh sequence (R260, R271). -/
def Chan.nseq (c : Chan) : Nat := c.fld Reg.BST_CFG Fld.BST_CFG_NSEQ + 1

/-- The FLIVE inputs of a leg. -/
def Chan.legFaults (c : Chan) (leg : Nat) : Bool :=
  (BitVec.ofNat 12 (c.fld Reg.PWM_STAT Fld.PWM_STAT_FLIVE) &&& c.legPads leg) != 0

/-- A leg when the pads change from OFF to DRIVE at a valley or a peak: with START it first refreshes its switches; with a
fault input asserted it runs the sequence whatever START is (R262). -/
def Chan.legAtDrive (c : Chan) (peak : Bool) (leg : Nat) : LegState :=
  if c.legFaults leg || (c.bit Reg.BST_CFG Fld.BST_CFG_START && c.legRefreshed leg)
  then (if peak then .due c.nseq else .seq c.nseq) else .on

/-- The half-period ends: for how long each switch has been commanded on, the switches on at their pads for TRP, and the
refreshes whose off-point this update point is (R246, R248). -/
def Chan.closeHalf (c : Chan) : Chan :=
  let live := c.pwm.driving || c.mode = 8
  let lastRun := fun (own : Vector Nat 12) (l : Fin 12) (s : Spans) => match s.getLast? with
    | some p => if p.2 = c.pwm.h then p.2 - p.1 + (if p.1 = 0 then own[l] else 0) else 0
    | none => 0
  let met := fun l : Fin 12 => (c.padSpans l).any fun p =>
    c.pwm.times.trp ≤ p.2 - p.1 + (if p.1 = 0 then c.pwm.runs[l] else 0)
  let tail := c.refTail
  { c with pwm := { c.pwm with
    age := Vector.ofFn fun l => if live then lastRun c.pwm.age l (c.gateSpans l) else 0,
    runs := Vector.ofFn fun l => if live then lastRun c.pwm.runs l (c.padSpans l) else 0,
    natural := if live then (List.finRange 12).foldl (fun m l => if met l then m ||| (1#12 <<< l.val) else m) c.pwm.natural
      else c.pwm.natural,
    refHead := if live then tail else 0, refNext := c.pwm.refNext &&& ~~~tail } }

/-- A valley ends a carrier period: each refreshed switch has had a natural refresh in it, where its complement has been on for
TRP, or counts the period (R248). -/
def Chan.refreshPeriod (c : Chan) : Chan :=
  { c with pwm := { c.pwm with
    refCount := Vector.ofFn fun l : Fin 12 =>
      if !c.bit Reg.BST_CFG Fld.BST_CFG_EN || !c.isRefreshed l.val || c.pwm.natural.getLsbD (c.complement l.val) then 0
      else c.pwm.refCount[l] + 1,
    natural := 0, runs := Vector.replicate 12 0 } }

/-- The legs at an update point (R260, R262); R261 applies to a leg that is off from the change to DRIVE. -/
def Chan.stepLegs (c : Chan) (peak start : Bool) (now : Nat) : Chan :=
  let legs : Vector LegState 3 := Vector.ofFn fun i : Fin 3 =>
    if start then c.legAtDrive peak i.val
    else (c.pwm.legs[i]).update (!peak) ((List.range 4).any fun j => c.pwm.refHead.getLsbD (4 * i.val + j))
      (!c.pwm.unreleased.getLsbD i.val)
  let on := legs.all fun l => l == .on
  { c with pwm := { c.pwm with legs := legs, legOffAt := if on then none else if start then some now else c.pwm.legOffAt } }

/-- What an update point makes of the duties: the commands after interlock and MINP, and what goes with them (R239 to R245). -/
structure NewHalf where
  cmds : List SwCmd
  overlaps : List (Nat × Nat × Nat × Nat)
  off : BitVec 12
  applied : Vector Word 3
  zdef : Bool
  dclamp : Bool

/-- DEDUCED (log 33): the interlock acts on the commands, then the minimum pulse. -/
def Chan.newHalf (c : Chan) (peak : Bool) : NewHalf :=
  let h := c.carrierH
  let duty := c.duty.loaded
  let raw := c.commands peak duty
  let ov := c.overlaps raw
  let off := ov.foldl (fun m (_, _, a, b) => m ||| (1#12 <<< a) ||| (1#12 <<< b)) (0 : BitVec 12)
  let cut := (List.range 12).map fun l =>
    if off.getLsbD l then (⟨false, 0⟩ : SwCmd) else (raw.getD l ⟨false, 0⟩).minPulse h c.pwm.times.minp
  let direct := c.bit Reg.PWM_TOPO Fld.PWM_TOPO_DIRECT
  { cmds := cut, overlaps := ov, off := off,
    applied := Vector.ofFn fun i : Fin 3 =>
      if direct then
        let x := cut.getD i.val ⟨false, 0⟩
        let before := raw.getD i.val ⟨false, 0⟩
        if x = before then BitVec.ofNat 32 (directDuty duty[i.val])
        else if (if x.peak then h - x.cmp else x.cmp) = 0 then 0 else 0x80000000
      else c.appliedLeg peak i duty[i.val] raw cut,
    zdef := !direct && (c.deferred peak 0 duty[0] || c.deferred peak 1 duty[1] || c.deferred peak 2 duty[2]),
    dclamp := direct && duty.toList.any (fun w => 2 ^ 31 < w.toNat) }

/-- The quantities of the update point (R267). -/
def Chan.postPwm (c : Chan) (ev : BitVec 5) : Chan :=
  let on := (List.finRange 12).foldl (fun n l => if (c.gateSpans l).any (fun p => p.1 = 0) then n + 2 ^ l.val else n) 0
  let c := ((c.post 0xA0 c.pwm.applied[0] 0).post 0xA1 c.pwm.applied[1] 0).post 0xA2 c.pwm.applied[2] 0
  let c := c.post 0xA3 (if c.bit Reg.PWM_STAT Fld.PWM_STAT_BRK then 1 else 0) 0
  let c := c.post 0xA4 (BitVec.ofNat 32 (on + 4096 * c.fld Reg.PWM_STAT Fld.PWM_STAT_LEGOFF)) 0
  let c := c.post 0xA5 (BitVec.ofNat 32 (c.fld Reg.PWM_STAT Fld.PWM_STAT_FLIVE)) 0
  let c := c.post 0xA6 (ev.setWidth 32) 0
  c.post 0xA7 (BitVec.ofNat 32 (c.pwm.times.dt13 % 65536 + 65536 * (c.pwm.times.dt24 % 65536))) 0

/-- Whether the pads drive from an update point on: in a driving mode with no inhibit, no high impedance and no trip; a trip
keeps what its sequence has not yet ended (R256, R263, R265). -/
def State.drivesFrom (s : State) (ch : ChId) : Bool :=
  let c := s.chan ch
  !s.gatesBarred ch && !s.padsHiz ch && (c.get Reg.PWM_TRIP &&& 0xF == 0 || c.pwm.driving)

/-- CARRIER_UPDATE_POINT: the half-period ends and the next one begins with the tick's duties. -/
def execCarrierUpdatePoint (ch : ChId) (s : State) : Host.Outcome State Fault Refusal :=
  let c := s.chan ch
  if !c.ticking then .next s
  else
    let peak := c.pwm.started && !c.atPeak
    let drive := s.drivesFrom ch
    let start := drive && !c.pwm.driving && !c.pwm.resume
    let c := c.closeHalf
    let c := if peak then c else c.refreshPeriod
    let c := c.stepLegs peak start s.time.refNs
    let c := { c with pwm := { c.pwm with times := c.pwmTimes } }
    let n := c.newHalf peak
    let trips := (c.get Reg.PWM_TRIP).toNat % 16 != 0
    let ev : BitVec 5 := BitVec.ofBool (trips && c.pwm.events.getLsbD 4) ++ BitVec.ofBool n.zdef ++ BitVec.ofBool n.dclamp ++
      BitVec.ofBool (c.pwm.refreshed != 0) ++ BitVec.ofBool (!n.overlaps.isEmpty)
    let c := { c with pwm := { c.pwm with
      cmds := Vector.ofFn fun l : Fin 12 => n.cmds.getD l.val ⟨false, 0⟩, applied := n.applied, ilkOff := n.off,
      negBranch := Vector.ofFn fun i : Fin 3 => (c.legCmds peak i c.duty.loaded[i.val]).2,
      refreshed := 0, driving := drive, resume := c.pwm.resume && !drive, events := 0, started := true,
      updAt := s.time.refNs, h := c.carrierH } }
    let c := c.setFld Reg.PWM_STAT Fld.PWM_STAT_PHASE (if peak then 1 else 0)
    let c := c.setFld Reg.PWM_STAT Fld.PWM_STAT_ZDEF (if n.zdef then 1 else 0)
    let c := c.setFld Reg.PWM_STAT Fld.PWM_STAT_DCLAMP (if n.dclamp then 1 else 0)
    let c := if n.overlaps.isEmpty then c else (c.setFld Reg.PWM_STAT Fld.PWM_STAT_ILK 1).capEvent 2
    .next ((s.putChan ch (c.showLegs.postPwm ev)).recordInterlocks ch n.overlaps)

/-- REFRESH_INSERT: a refreshed switch's counter has reached NPER; a refresh is centred on its next off-point (R248, R249). -/
def execRefreshInsert (ch : ChId) (sw : Fin 12) (s : State) : Host.Outcome State Fault Refusal :=
  let c := s.chan ch
  if c.ticking && c.bit Reg.BST_CFG Fld.BST_CFG_EN && c.isRefreshed sw.val &&
      c.fld Reg.BST_CFG Fld.BST_CFG_NPER ≤ c.pwm.refCount[sw] then
    .next (s.putChan ch { c with pwm := { c.pwm with
      refCount := c.pwm.refCount.set sw 0, refNext := c.pwm.refNext ||| (1#12 <<< sw.val),
      refreshed := c.pwm.refreshed ||| (1#12 <<< sw.val) } })
  else .next s

/-! ## Trips and the fault turn-off sequence (R253 to R256) -/

/-- A latched trip holds PROT (R256, R189). -/
def State.tripProt (s : State) (ch : ChId) : State := s.raiseSafe ch 6

/-- The trip event of the half-period (R267) and the trip bit. -/
def Chan.setTrip (c : Chan) (f : BitField) : Chan :=
  let c := c.setFld Reg.PWM_TRIP f 1
  { c with pwm := { c.pwm with events := c.pwm.events ||| 0x10 } }.capEvent 1

/-- Mark pads as treated as faulted. -/
def Chan.addSwMask (c : Chan) (m : BitVec 12) : Chan :=
  c.setFld Reg.PWM_TRIP Fld.PWM_TRIP_SWMASK
    (BitVec.ofNat 12 (c.fld Reg.PWM_TRIP Fld.PWM_TRIP_SWMASK) ||| m).toNat

/-- Pads of a sequence are treated as faulted: each keeps its present command, on where `on`, until its TSOFT (R253). -/
def Pwm.soften (p : Pwm) (m on : BitVec 12) : Pwm :=
  { p with soft := p.soft ||| m, frozen := p.frozen ||| (m &&& on), other := p.other &&& ~~~m, late := p.late &&& ~~~m,
           judges := true }

/-- Once the sequence has taken the last pad off, the pads are OFF (R256, R263). -/
def Chan.seqSettle (c : Chan) : Chan :=
  if c.pwm.seqOn && c.pwm.soft ||| c.pwm.other ||| c.pwm.late = 0
  then { c with pwm := { c.pwm with driving := false, lag := 0 } } else c

/-- A DESAT on a pad, with the pads on at the detection (R253, R254): it opens a sequence or joins the running one. -/
def State.desat (s : State) (ch : ChId) (pad : Fin 12) : State :=
  let c := s.chan ch
  let b := 1#12 <<< pad.val
  let on := c.padsOn (c.gatePos s.time.refNs)
  let c := (c.setTrip Fld.PWM_TRIP_DESAT).addSwMask b
  let p := if c.pwm.seqOn then c.pwm else
    { c.pwm with seqOn := true, held := c.padMask (fun _ => true) &&& ~~~on &&& ~~~b,
                 other := on &&& c.outerPads, late := on &&& c.innerPads, soft := 0, frozen := 0 }
  let p := p.soften b on
  let p := { p with window := some (p.window.getD 0 ||| b) }
  ((s.putChan ch { c with pwm := p }).countCh ch Reg.PWM_CNT0 true true).tripProt ch

/-- Switch off the outer switches now and leave the inner ones that are on to TORD, for a trip without a running sequence
(R255, R261). Switches whose fault input is asserted are treated as faulted where `faulted`. -/
def Chan.tripOff (c : Chan) (faulted : Bool) (on : BitVec 12) : Chan :=
  if c.pwm.seqOn then c
  else
    let live := if faulted then BitVec.ofNat 12 (c.fld Reg.PWM_STAT Fld.PWM_STAT_FLIVE) else 0
    let c := if live = 0 then c else c.addSwMask live
    let late := c.innerPads &&& on &&& ~~~live
    { c with pwm := { c.pwm with
      seqOn := true, judges := faulted, soft := live, frozen := live &&& on, other := 0, late := late,
      held := c.padMask (fun _ => true) &&& ~~~live &&& ~~~late } }.seqSettle

/-- An OC (class 0) or OV (class 1) trip (R255). -/
def State.comparatorTrip (s : State) (ch : ChId) (cls : Nat) : State :=
  let c := s.chan ch
  let f := if cls = 0 then Fld.PWM_TRIP_OC else Fld.PWM_TRIP_OV
  let fresh := !c.bit Reg.PWM_TRIP f
  let s := (s.putChan ch ((c.setTrip f).tripOff true (c.padsOn (c.gatePos s.time.refNs)))).tripProt ch
  if fresh then s.record 0x07 ch.val (3 + cls) 3 (recData [(0, 2, c.comparators cls)]) else s

/-! ## The brake chopper (R258, R259) -/

/-- BRAKE_MIN_TIME_EXPIRY: MINON or MINOFF ends (R258). -/
def execBrakeMinTimeExpiry (ch : ChId) (s : State) : Host.Outcome State Fault Refusal :=
  let c := s.chan ch
  .next ((s.putChan ch { c with pwm := { c.pwm with brakeHold := false } }).brakeFollow ch)

/-- What a change of an input's comparator does, by its class (R255, R258). -/
def State.comparatorActs (s : State) (ch : ChId) (i : InId) : State :=
  let c := s.chan ch
  if !c.bit (Reg.FAST_CFG i) Fld.FAST_CFG_EN then s
  else
    let cls := c.fld (Reg.FAST_CFG i) Fld.FAST_CFG_CLASS
    if cls = 2 then s.brakeFollow ch
    else if cls ≤ 1 && c.bit (Reg.FAST_CFG i) Fld.FAST_CFG_TRIP then s.comparatorTrip ch cls
    else s

/-! ## Undervoltage (R260, R261) -/

/-- The UVREP trip (R261): `case` 1 repeat, 2 leg still off. Its sequence treats no switch as faulted. -/
def State.uvrep (s : State) (ch : ChId) (case_ : Nat) : State :=
  let c := s.chan ch
  let legs := c.fld Reg.PWM_STAT Fld.PWM_STAT_LEGOFF
  let c := (c.setTrip Fld.PWM_TRIP_UVREP).tripOff false (c.padsOn (c.gatePos s.time.refNs))
  ((s.putChan ch c).tripProt ch).record 0x07 ch.val 5 3 (recData [(0, 1, case_), (1, 1, legs)])

/-- The inner switches of a leg, by logical number. -/
def innerOf (leg : Nat) : BitVec 12 := 6#12 <<< (4 * leg)

/-- A UV report takes its leg off, the outer switches at once, the inner ones after TORD (R260); while a trip holds the pads
it only counts. -/
def Chan.legOff (c : Chan) (leg now : Nat) : Chan :=
  if c.get Reg.PWM_TRIP &&& 0xF != 0 then c
  else { c with pwm := { c.pwm with
    legs := Vector.ofFn fun i : Fin 3 => if i.val = leg then LegState.off else c.pwm.legs[i],
    legOffAt := some now, legLate := c.pwm.legLate ||| (if c.threeLevel && c.pwm.legs.toList.getD leg .on = .on then innerOf leg else 0) } }

/-- The window of UV reports has more than UVMAX: UVREP (R261). -/
def State.uvJudge (s : State) (ch : ChId) : State :=
  let c := s.chan ch
  if c.fld Reg.BST_CFG Fld.BST_CFG_UVMAX < (recentTimes s.time.refNs c.pwm.uvTimes).length &&
      !c.bit Reg.PWM_TRIP Fld.PWM_TRIP_UVREP
  then s.uvrep ch 1 else s

/-- A UV report on a leg in a driving mode (R260, R261). -/
def State.uvReport (s : State) (ch : ChId) (pad : Fin 12) : State :=
  let c := s.chan ch
  let now := s.time.refNs
  let c := c.legOff (c.padSwitch pad.val / 4) now
  let c := { c with pwm := { c.pwm with uvTimes := recentTimes now c.pwm.uvTimes ++ [now] } }.showLegs
  ((s.putChan ch c).countCh ch Reg.PWM_CNT1 false false).uvJudge ch

/-- The legs of a mask of pads, as a mask. -/
def Chan.legBits (c : Chan) (m : BitVec 12) : BitVec 3 := BitVec.ofNat 3 (c.legsOf m)

/-- An input of an enabled pad is asserted, after its filter, or released (R251, R252, R274). -/
def Chan.setFault (c : Chan) (pad : Fin 12) (asserted : Bool) : Chan :=
  let b := 1#12 <<< pad.val
  let live := BitVec.ofNat 12 (c.fld Reg.PWM_STAT Fld.PWM_STAT_FLIVE)
  let c := c.setFld Reg.PWM_STAT Fld.PWM_STAT_FLIVE (if asserted then live ||| b else live &&& ~~~b).toNat
  { c with pwm := { c.pwm with
    blanked := if asserted then c.pwm.blanked else c.pwm.blanked &&& ~~~b,
    unreleased := if asserted then c.pwm.unreleased ||| c.legBits b else c.pwm.unreleased } }

/-- Pads that are OFF or HIZ make an assertion without effect; in SHADOW the unit judges as if its pads drove (R251, R266). -/
def State.faultsIdle (s : State) (ch : ChId) : Bool := s.padsShown ch != 0 && (s.chan ch).mode != 8

/-- DRIVER_FAULT_FILTERED: the filter of an enabled input is satisfied, and the state of its switch at the pad decides; or the
input is released, and an assertion inside its blanking window is forgotten (R251, R252). In SHADOW the UV reports come with
the frames (R266). -/
def execDriverFaultFiltered (ch : ChId) (pad : Fin 12) (asserted : Bool) (s : State) :
    Host.Outcome State Fault Refusal :=
  if !(BitVec.ofNat 12 ((s.chan ch).fld Reg.FLT_CFG Fld.FLT_CFG_EN)).getLsbD pad.val then .next s
  else
    let c := (s.chan ch).setFault pad asserted
    let s := s.putChan ch c
    let pos := c.gatePos s.time.refNs
    if !asserted || s.faultsIdle ch then .next s
    else if !c.padOn pad.val pos then .next (if c.mode = 8 then s else s.uvReport ch pad)
    else if c.blanking pad pos then
      .next (s.putChan ch { c with pwm := { c.pwm with blanked := c.pwm.blanked ||| (1#12 <<< pad.val) } })
    else .next (s.desat ch pad)

/-- BLANKING_END: an input asserted through the end of its blanking window is acted on as DESAT (R252). -/
def execBlankingEnd (ch : ChId) (pad : Fin 12) (s : State) : Host.Outcome State Fault Refusal :=
  let c := s.chan ch
  if c.pwm.blanked.getLsbD pad.val then
    let s := s.putChan ch { c with pwm := { c.pwm with blanked := c.pwm.blanked &&& ~~~(1#12 <<< pad.val) } }
    .next (if s.faultsIdle ch then s else s.desat ch pad)
  else .next s

/-- TSOFT_EXPIRY: a faulted switch goes OFF (R253). -/
def execTsoftExpiry (ch : ChId) (pad : Fin 12) (s : State) : Host.Outcome State Fault Refusal :=
  let c := s.chan ch
  let b := 1#12 <<< pad.val &&& c.pwm.soft
  .next (s.putChan ch { c with pwm := { c.pwm with soft := c.pwm.soft &&& ~~~b, held := c.pwm.held ||| b } }.seqSettle)

/-- The pads of `m` go OFF; one that is on with its fault input asserted is treated as faulted from its own detection (R253),
and joins an open window's record (R254). -/
def Chan.seqTurnOff (c : Chan) (m on : BitVec 12) : Chan :=
  let live := if c.pwm.judges then BitVec.ofNat 12 (c.fld Reg.PWM_STAT Fld.PWM_STAT_FLIVE) &&& m &&& on else 0
  if live = 0 then { c with pwm := { c.pwm with held := c.pwm.held ||| m } }
  else
    let c := c.addSwMask live
    let p := { c.pwm with held := c.pwm.held ||| (m &&& ~~~live), window := c.pwm.window.map (· ||| live) }
    { c with pwm := p.soften live on }

/-- TOFF_EXPIRY: the other switches that are on go OFF, the outer ones first in three-level topologies (R253). -/
def execToffExpiry (ch : ChId) (s : State) : Host.Outcome State Fault Refusal :=
  let c := s.chan ch
  let c' := c.seqTurnOff c.pwm.other (c.padsOn (c.gatePos s.time.refNs))
  .next (s.putChan ch { c' with pwm := { c'.pwm with other := 0 } }.seqSettle)

/-- TORD_EXPIRY: the inner switches of the sequence go OFF (R253, R255, R261), or those of a leg taken off (R260). -/
def execTordExpiry (ch : ChId) (leg : Option (Fin 3)) (s : State) : Host.Outcome State Fault Refusal :=
  let c := s.chan ch
  match leg with
  | some n => .next (s.putChan ch { c with pwm := { c.pwm with legLate := c.pwm.legLate &&& ~~~innerOf n.val } })
  | none =>
    let c' := c.seqTurnOff c.pwm.late (c.padsOn (c.gatePos s.time.refNs))
    .next (s.putChan ch { c' with pwm := { c'.pwm with late := 0 } }.seqSettle)

/-- DESAT_WINDOW_CLOSE: one record carries all faulted switches and their legs (R254). -/
def execDesatWindowClose (ch : ChId) (s : State) : Host.Outcome State Fault Refusal :=
  let c := s.chan ch
  match c.pwm.window with
  | some m =>
    .next ((s.putChan ch { c with pwm := { c.pwm with window := none } }).record 0x07 ch.val 2 3
      (recData [(0, 2, m.toNat), (2, 1, c.legsOf m)]))
  | none => .next s

/-- What the release of a leg's inputs makes of it: off, it runs its refresh sequence, or rejoins where EN is 0; a trip holds
it off (R256, R260). -/
def Chan.legReleased (c : Chan) : LegState → LegState
  | .off => if c.get Reg.PWM_TRIP &&& 0xF != 0 then .off
            else if c.bit Reg.BST_CFG Fld.BST_CFG_EN then .due c.nseq else .rejoin
  | l => l

/-- LEG_FAULT_RELEASE: the leg's fault inputs have been released for 1 µs (R260, R262). -/
def execLegFaultRelease (ch : ChId) (leg : Fin 3) (s : State) : Host.Outcome State Fault Refusal :=
  let c := s.chan ch
  let live := BitVec.ofNat 12 (c.fld Reg.PWM_STAT Fld.PWM_STAT_FLIVE) &&& ~~~(c.legPads leg.val)
  let c := c.setFld Reg.PWM_STAT Fld.PWM_STAT_FLIVE live.toNat
  .next (s.putChan ch { c with pwm := { c.pwm with
    blanked := c.pwm.blanked &&& ~~~(c.legPads leg.val), unreleased := c.pwm.unreleased &&& ~~~(1#3 <<< leg.val),
    legs := c.pwm.legs.set leg (c.legReleased c.pwm.legs[leg]) } }.showLegs)

/-- LEG_OFF_TIMEOUT: a leg still off 100 ms after the UV report that took it off, or after the change to DRIVE (R261, R262). -/
def execLegOffTimeout (ch : ChId) (leg : Fin 3) (s : State) : Host.Outcome State Fault Refusal :=
  if ((s.chan ch).pwm.legs[leg]) != .on && !(s.chan ch).bit Reg.PWM_TRIP Fld.PWM_TRIP_UVREP
  then .next (s.uvrep ch 2) else .next s

/-- CAL_FAIL: the delay-line calibration failed (R240). -/
def execCalFail (ch : ChId) (s : State) : Host.Outcome State Fault Refusal :=
  .next ((s.onChan ch (·.setFld Reg.PWM_STAT Fld.PWM_STAT_CAL_OK 0)).record 0x07 ch.val 6 2 0)

/-! ## Clearing trips (R256) -/

/-- Whether the source of a trip bit is inactive (R256). -/
def Chan.tripInactive (c : Chan) (bit : Nat) : Bool :=
  let live := BitVec.ofNat 12 (c.fld Reg.PWM_STAT Fld.PWM_STAT_FLIVE)
  match bit with
  | 0 => c.comparators 0 == 0
  | 1 => c.comparators 1 == 0
  | 2 => live &&& BitVec.ofNat 12 (c.fld Reg.PWM_TRIP Fld.PWM_TRIP_SWMASK) == 0
  | _ => live &&& BitVec.ofNat 12 (c.fld Reg.FLT_CFG Fld.FLT_CFG_EN) == 0

/-- The set trip bits among those written with 1 that may clear: in SAFE or HALT, with the source inactive. -/
def Chan.tripClearable (c : Chan) (v : Word) : List Nat :=
  [0, 1, 2, 3].filter fun b =>
    v.getLsbD b && (c.get Reg.PWM_TRIP).getLsbD b && (c.mode = 1 || c.mode = 10) && c.tripInactive b

/-- The set trip bits written with 1 that may not clear; the write is then reported as rejected. -/
def Chan.tripStuck (c : Chan) (v : Word) : List Nat :=
  [0, 1, 2, 3].filter fun b =>
    v.getLsbD b && (c.get Reg.PWM_TRIP).getLsbD b && !((c.mode = 1 || c.mode = 10) && c.tripInactive b)

/-- Clear trip bits; DESAT clears SWMASK, UVREP clears LEGOFF and the report count (R256). -/
def Chan.clearTrips (c : Chan) (bits : List Nat) : Chan :=
  let c := bits.foldl (fun c b => c.setFld Reg.PWM_TRIP ⟨b, 1⟩ 0) c
  let c := if bits.contains 2 then c.setFld Reg.PWM_TRIP Fld.PWM_TRIP_SWMASK 0 else c
  let c := if bits.contains 3 then
      { c with pwm := { c.pwm with uvTimes := [], legs := Vector.replicate 3 .on, legOffAt := none, legLate := 0 } }.showLegs
    else c
  if c.get Reg.PWM_TRIP &&& 0xF = 0 then
    { c with pwm := { c.pwm with seqOn := false, judges := false, soft := 0, frozen := 0, held := 0, other := 0, late := 0 } }
  else c

end Sys2Proof.Machine
end

