-- ==== Sys2Proof/Machine/SampleChain.lean ====
section
/-! DEFINITION. Machine/SampleChain.lean: modulator inputs and the sample chain (03_sample_chain.md R67 to R109): clock loss
and recovery, the FIR with its fade, the DC blocker, chain outputs and their tags, the fast protection path and the skew
units. -/

namespace Sys2Proof.Machine

/-! ## Inputs -/

def Chan.inp (c : Chan) (i : InId) : Input := c.inputs[i]

def Chan.setInp (c : Chan) (i : InId) (x : Input) : Chan := { c with inputs := c.inputs.set i x }

def Chan.onInp (c : Chan) (i : InId) (f : Input → Input) : Chan := c.setInp i (f (c.inp i))

/-- SDI_CFG.MODE: 0 unused, 1 device-clocked, 2 external, 3 Manchester (R99). -/
def Chan.inMode (c : Chan) (i : InId) : Nat := c.fld (Reg.SDI_CFG i) Fld.SDI_CFG_MODE

/-- MCLKx where it is an output that runs: its divider, and the cycles for which each period is high. On the bypass clock
and with its clock stopped it stands low (R70, R284). -/
def Chan.mclkOut (c : Chan) (x : Fin 2) : Option (Nat × Nat) :=
  let n := c.fld Reg.SDI_CHCTL (if x = 0 then Fld.SDI_CHCTL_MDIV0 else Fld.SDI_CHCTL_MDIV1)
  if n = 0 || c.mode = 0 || c.bit Reg.PLL_STAT Fld.PLL_STAT_BYPASS then none else some (n, ceilDiv n 2)

/-- The MCLKx ball is HIZ until the pad release (R517), and as the image sets it after. -/
def State.mclkPin (s : State) (ch : ChId) (x : Fin 2) : Option (Nat × Nat) :=
  if s.gbit Reg.GSTAT Fld.GSTAT_PADS_RELEASED then (s.chan ch).mclkOut x else none

/-- The filters cleared: the next chain outputs are UNSETTLED (R88). -/
def Chan.clearFilters (c : Chan) (i : InId) : Chan :=
  c.onInp i fun x => { x with bits := [], delay := [], clamps := [], out := none,
                              settle := c.fld (Reg.SINC_CFG i) Fld.SINC_CFG_SETTLE }

/-- The filters cleared and restarted: the decimator takes its phase anew (R84, R88). -/
def Chan.restartFilters (c : Chan) (i : InId) : Chan :=
  (c.clearFilters i).onInp i fun x => { x with decCount := 0, phaseOpen := true }

/-! ## The trim and the sinc filter (R74, R97) -/

/-- Clamp to 32 bits, with whether it clamped. -/
def clamp32 (y : Int) : Int × Bool :=
  let r := min (max y (-2 ^ 31)) (2 ^ 31 - 1)
  (r, r != y)

/-- The trimmed bitstream in sixteenths, newest first, from bits already delayed by the whole-bit part: a fraction of
`frac` sixteenths interpolates linearly between adjacent bits; bit 1 is +1 and bit 0 is -1 (R74, R97). -/
def trimmed (frac : Nat) : List Bool → List Int
  | [] => []
  | b :: bs =>
    (((16 : Int) - frac) * (if b then 1 else -1) +
      (match bs with | [] => 0 | p :: _ => if p then (frac : Int) else -(frac : Int))) :: trimmed frac bs

/-- The sums over every window of `m` values, newest first; a window past the last value is filled with zeros. -/
def movingSum (m : Nat) : List Int → List Int
  | [] => []
  | x :: xs => ((x :: xs).take m).sum :: movingSum m xs

/-- The unnormalised outputs of a sinc filter of order n and ratio m at each bit, newest first (R74). -/
def sincSums (m : Nat) : Nat → List Int → List Int
  | 0, xs => xs
  | n + 1, xs => movingSum m (sincSums m n xs)

/-- How many bits a sinc output sums. -/
def sincLen (n m : Nat) : Nat := n * (m - 1) + 1

/-- One sinc output in Q1.31 from its trimmed bits in sixteenths, normalised by 1 / M^N with an error below 2^-24 of full
scale, and whether it clamped; all ones clamp to 1 - 2^-31 (R74; the error is open: log 6). -/
def sincOut (n m : Nat) (xs : List Int) : Int × Bool :=
  let den : Int := 16 * (m : Int) ^ n
  let y := (sincSums m n xs).headD 0
  if y = den then (2 ^ 31 - 1, true)
  else clamp32 (y * 2 ^ 31 / den + ((Config.sincError n m xs % 255 : Nat) : Int) - 127)

/-- The newest k sinc outputs, newest first: one every m bits, the newest ending with the newest bit. -/
def sincWords (n m : Nat) : Nat → List Int → List (Int × Bool)
  | 0, _ => []
  | k + 1, xs => sincOut n m (xs.take (sincLen n m)) :: sincWords n m k (xs.drop m)

/-- The longest run of equal bits. -/
def longestRun : Option Bool → Nat → List Bool → Nat
  | _, _, [] => 0
  | prev, n, b :: bs =>
    let k := if prev = some b then n + 1 else 1
    max k (longestRun (some b) k bs)

/-- The bits within a FIR output's span, after the trim's whole-bit delay (R86; the span is an inference: log 6). -/
def Chan.spanLen (c : Chan) (i : InId) : Nat :=
  let m := c.fld (Reg.SINC_CFG i) Fld.SINC_CFG_OSR
  sincLen (c.fld (Reg.SINC_CFG i) Fld.SINC_CFG_ORDER) m + (c.fld (Reg.FIR_CFG i) Fld.FIR_CFG_TAPS - 1) * m

/-- The sinc stage takes `bits`, oldest first: INV, the trim, and a sinc output every M bits into the FIR's delay line, the
newest of which is posted on the fabric, `age` cycles before the next latch (R25, R74, R97). -/
def Chan.sincStep (c : Chan) (i : InId) (bits : List Bool) (age : Nat) : Chan :=
  let x := c.inp i
  let inv := c.bit (Reg.SDI_CFG i) Fld.SDI_CFG_INV
  let n := c.fld (Reg.SINC_CFG i) Fld.SINC_CFG_ORDER
  let m := c.fld (Reg.SINC_CFG i) Fld.SINC_CFG_OSR
  let taps := c.fld (Reg.FIR_CFG i) Fld.FIR_CFG_TAPS
  let whole := c.fld (Reg.SDI_TRIM i) Fld.SDI_TRIM_BITS
  let all := (bits.map fun b => b != inv).reverse ++ x.bits
  let late := all.drop whole
  let ws := sincWords n m (ceilDiv bits.length m) (trimmed (c.fld (Reg.SDI_TRIM i) Fld.SDI_TRIM_FRAC) late)
  let c := c.setInp i { x with
    bits := all.take (whole + c.spanLen i + 1),
    delay := (ws.map (fun w => BitVec.ofInt 32 w.1) ++ x.delay).take taps,
    clamps := (ws.map Prod.snd ++ x.clamps).take taps,
    run := longestRun none 0 (late.take (c.spanLen i)) }
  match ws with
  | [] => c
  | w :: _ => c.postAged (0x10 + i.val) (BitVec.ofInt 32 w.1) (if w.2 then 2 else 0) age

/-! ## FIR, fade, DC blocker and decimator (R75 to R81) -/

/-- The FIR sum in 2^-93 of full scale, exactly (R75). -/
def firSum (bank : List (Nat × FirTap)) : Nat → List Word → Int
  | _, [] => 0
  | k, x :: xs =>
    let t := sget (fun _ => ⟨0, 0⟩) bank k
    t.coef.toInt * x.toInt * 2 ^ (31 - t.shift.toNat) + firSum bank (k + 1) xs

/-- A FIR output in the image's format of `frac` fraction bits: to nearest, ties upward, clamped (R75). DESIGN CHOICE (log
39): R75's product is taken as it stands also for the single coefficient 1 − 2^−31 of R73, which then changes a sample beyond
half of full scale by one step. -/
def firOut (bank : List (Nat × FirTap)) (frac : Nat) (xs : List Word) : Int × Bool :=
  clamp32 (roundQuot false (firSum bank 0 xs * 2 ^ frac) (2 ^ 93))

/-- A fade weight rounded to Q1.31 (R77). DESIGN CHOICE (log 38): to nearest, ties upward. -/
def fadeWeight (k l : Nat) : Nat := (2 * k * 2 ^ 31 + l) / (2 * l)

/-- The blend of output k of a fade of L outputs; its rounding to the output format is open (log 2). -/
def fadeOut (k l : Nat) (old new : Int) : Int × Bool :=
  if k = l then (new, false)
  else clamp32 (quantFloor 1 (old * fadeWeight (l - k) l + new * fadeWeight k l) (2 ^ 31))

/-- The FIR output with the fade in progress: the value, whether anything clamped, and the input and registers after it
(R75, R77). -/
def Chan.firStep (c : Chan) (i : InId) : Int × Bool × Chan :=
  let x := c.inp i
  let b1 := c.bit (Reg.FIR_CFG i) Fld.FIR_CFG_BANK
  let act := if b1 then x.bank1 else x.bank0
  let new := if b1 then x.bank0 else x.bank1
  let y0 := firOut act x.frac x.delay
  match x.fade with
  | none => (y0.1, y0.2, c)
  | some (k, l) =>
    let y1 := firOut new x.frac x.delay
    let y := fadeOut (k + 1) l y0.1 y1.1
    let sat := y0.2 || y1.2 || y.2
    if k + 1 < l then (y.1, sat, c.setInp i { x with fade := some (k + 1, l) })
    else (y.1, sat, ((c.setInp i { x with fade := none }).setFld (Reg.FIR_CFG i) Fld.FIR_CFG_BANK
        (if b1 then 0 else 1)).setFld (Reg.FIR_XF i) Fld.FIR_XF_BUSY 0)

/-- α = 1 − exp(−2π f_c / f_F) in 2^-64, for the corner in 0.01 Hz and the FIR output rate RATE / (M × D_f) (R79; its
width is open: log 3). -/
def Chan.dcbAlpha (c : Chan) (i : InId) : Nat :=
  let num := 2 * realPi.toNat * c.fld (Reg.DCB_CFG i) Fld.DCB_CFG_CORNER *
    (c.fld (Reg.SINC_CFG i) Fld.SINC_CFG_OSR * c.fld (Reg.FIR_CFG i) Fld.FIR_CFG_DEC)
  let den := 100 * 125000 * max 1 (c.fld (Reg.SDI_CFG i) Fld.SDI_CFG_RATE)
  (quantFloor 5 (realOne - expNeg (num / den)) (2 ^ 32)).toNat

/-- α is computed (R79): when CORNER lands, and at a channel start from the register as it stands (log 3). -/
def Chan.setAlpha (c : Chan) (i : InId) : Chan := c.onInp i fun x => { x with alpha := c.dcbAlpha i }

/-- The estimate after a sample x: e + α (x − e), with 24 bits below the sample's last (R79). -/
def dcbNext (alpha : Nat) (x e : Int) : Int := e + quantFloor 6 (alpha * (x * 2 ^ 24 - e)) (2 ^ 64)

/-- The DC blocker on an output x: y = x − e with whether it clamped, then the step of e, which DCB_EST shows (R79,
R103). -/
def Chan.dcBlock (c : Chan) (i : InId) (x : Int) : Int × Bool × Chan :=
  let n := c.inp i
  if !c.bit (Reg.DCB_CFG i) Fld.DCB_CFG_EN then (x, false, c)
  else
    let y := clamp32 (quantFloor 3 (x * 2 ^ 24 - n.e.toInt) (2 ^ 24))
    let e := if c.bit (Reg.DCB_CFG i) Fld.DCB_CFG_FREEZE then n.e else BitVec.ofInt 56 (dcbNext n.alpha x n.e.toInt)
    (y.1, y.2, (c.setInp i { n with e := e }).put (Reg.DCB_EST i) (e.extractLsb' 24 32))

/-- The plain decimator: every D_d-th output awaits its posting; while the phase is open, each one may be the one that the
latch will take (R81, R84). The flag: it replaces a chain output that the fabric has not carried yet (R30). -/
def Chan.decimate (c : Chan) (i : InId) (o : ChainOut) : Chan × Bool :=
  let x := c.inp i
  let n := x.decCount + 1
  if x.phaseOpen then (c.setInp i { x with out := some o, decCount := 0 }, false)
  else if max 1 (c.fld (Reg.DEC_CFG i) Fld.DEC_CFG_DEC) ≤ n then
    (c.setInp i { x with out := some o, decCount := 0 }, x.out.isSome)
  else (c.setInp i { x with decCount := n }, false)

/-- The modulator bits that one FIR output takes: D_f sinc outputs of M bits (R73). -/
def Chan.firBits (c : Chan) (i : InId) : Nat :=
  c.fld (Reg.SINC_CFG i) Fld.SINC_CFG_OSR * c.fld (Reg.FIR_CFG i) Fld.FIR_CFG_DEC

/-- The chain from the sinc to the decimator on the bits of one FIR output (R74 to R81, R97). -/
def Chan.firPass (c : Chan) (i : InId) (bits : List Bool) (age : Nat) : Chan × Bool :=
  let c := c.sincStep i bits age
  let f := c.firStep i
  let d := f.2.2.dcBlock i f.1
  d.2.2.decimate i ⟨BitVec.ofInt 32 d.1, f.2.1 || d.2.1 || (c.inp i).clamps.any id, (c.inp i).run⟩

/-- FIR_OUTPUT: `bits`, oldest first, are the modulator's bits since the last FIR output, D_f × M of them; the trim, the
sinc, the FIR, the fade, the DC blocker and the decimator take them and make one FIR output (R73 to R81, R97). The sinc
output is posted `age` cycles before the next latch (R24). A chain output that the fabric has not carried yet is
overwritten (R30; the other sources' words are carried at once: log 47). -/
def execFirOutput (ch : ChId) (i : InId) (bits : List Bool) (age : BitVec 16) (s : State) : Result :=
  let c := s.chan ch
  if !c.chainRuns || c.inMode i = 0 || !c.bit (Reg.SDI_STAT i) Fld.SDI_STAT_CLK_OK || bits.isEmpty ||
      bits.length != c.firBits i then .next s
  else
    let r := c.firPass i bits age.toNat
    .next (if r.2 then (s.putChan ch r.1).countOvwr ch else s.putChan ch r.1)

/-! ## Chain outputs and substitutes (R81 to R89, R106) -/

/-- SDI_STAT shows the tags of the latest chain output (R106). -/
def Chan.showTags (c : Chan) (i : InId) (tag : BitVec 4) : Chan :=
  let r := Reg.SDI_STAT i
  let c := c.setFld r Fld.SDI_STAT_UNSETTLED (if tag.getLsbD 0 then 1 else 0)
  let c := c.setFld r Fld.SDI_STAT_SATURATED (if tag.getLsbD 1 then 1 else 0)
  let c := c.setFld r Fld.SDI_STAT_SUBSTITUTED (if tag.getLsbD 3 then 1 else 0)
  if tag.getLsbD 1 then c.setFld r Fld.SDI_STAT_SAT_SEEN 1 else c

/-- The tags of a chain output: UNSETTLED among the first SETTLE, SATURATED by a clamp or a run of equal bits (R86). -/
def Chan.chainTag (c : Chan) (i : InId) (o : ChainOut) : BitVec 4 :=
  let lim := c.fld (Reg.DEC_CFG i) Fld.DEC_CFG_SAT_RUN
  (if 0 < (c.inp i).settle then 1 else 0) + (if o.sat || (lim ≠ 0 && lim < o.run) then 2 else 0)

/-- CHAIN_OUTPUT: the output that awaits it is posted, `age` channel-clock cycles before the next latch (R81 to R88);
substitution ends (R89). DESIGN CHOICE (log 48): the last good output is the last real one, whatever its tags. -/
def execChainOutput (ch : ChId) (i : InId) (age : BitVec 16) (s : State) : Result :=
  let c := s.chan ch
  match (c.inp i).out with
  | none => .next s
  | some o =>
    if !c.chainRuns || c.inMode i = 0 || !c.bit (Reg.SDI_STAT i) Fld.SDI_STAT_CLK_OK then .next s
    else
      let tag := c.chainTag i o
      let c := c.onInp i fun x => { x with
        out := none, phaseOpen := false, settle := x.settle - 1, subst := false, lastGood := o.data, posted := true }
      .next (s.putChan ch ((c.postAged i.val o.data tag age.toNat).showTags i tag))

/-- SUBSTITUTE_WORD: at a nominal output time without a real output since the loss or the start (R72, R89). -/
def execSubstituteWord (ch : ChId) (i : InId) (s : State) : Result :=
  let c := s.chan ch
  let x := c.inp i
  if !c.chainRuns || c.inMode i < 2 || !x.subst then .next s
  else
    let v := if c.bit (Reg.DEC_CFG i) Fld.DEC_CFG_SUBST then 0 else x.lastGood
    let c := c.setInp i { x with posted := true }
    .next (s.putChan ch ((c.post i.val v 8).showTags i 8))

/-! ## The fast protection path (R91 to R95) -/

/-- The weight w_m of the sinc2 filter (R91). -/
def fastWeight (osr m : Nat) : Nat := if m < osr then m + 1 else 2 * osr - 1 - m

/-- y in Q1.15 from the bits, newest first (R91). -/
def fastSum (osr : Nat) : Nat → List Bool → Int
  | _, [] => 0
  | m, b :: bs => (if b then (fastWeight osr m : Int) else -(fastWeight osr m : Int)) + fastSum osr (m + 1) bs

def fastOut (osr : Nat) (bits : List Bool) : Int :=
  min 32767 (roundQuot false (fastSum osr 0 bits * 2 ^ 15) (osr * osr))

/-- The filter length in bits: 2 × OSR − 1. -/
def Chan.fastLen (c : Chan) (i : InId) : Nat := 2 * c.fld (Reg.FAST_CFG i) Fld.FAST_CFG_OSR - 1

/-- An assertion by a threshold crossing: FTRIP and the HIT bit (R95). -/
def State.fastHit (s : State) (ch : ChId) (i : InId) (hi : Bool) : State :=
  let s := s.onChan ch fun c => (((c.setFld (Reg.FAST_CFG i) Fld.FAST_CFG_TRIP 1).setFld (Reg.FAST_CFG i)
    (if hi then Fld.FAST_CFG_HIT_HI else Fld.FAST_CFG_HIT_LO) 1).capEvent 3)
  (s.countCh ch (Reg.SDI_CNT i) true true).comparatorActs ch i

/-- Set the comparator's output without a crossing, and act by its class (R94, R95). -/
def State.fastForce (s : State) (ch : ChId) (i : InId) (on : Bool) : State :=
  let c := s.chan ch
  if c.bit (Reg.FAST_CFG i) Fld.FAST_CFG_TRIP == on then s
  else
    let c := c.setFld (Reg.FAST_CFG i) Fld.FAST_CFG_TRIP (if on then 1 else 0)
    (s.putChan ch (if on then c.capEvent 3 else c)).comparatorActs ch i

/-- One output y of a comparing fast path (R92). -/
def State.fastJudge (s : State) (ch : ChId) (i : InId) (y : Int) : State :=
  let c := s.chan ch
  let x := c.inp i
  let thr := c.get (Reg.FAST_THR i)
  let hi := (thr.extractLsb' 16 16).toInt
  let lo := (thr.extractLsb' 0 16).toInt
  let cnt := c.fld (Reg.FAST_CFG i) Fld.FAST_CFG_CNT + 1
  let brake := c.fld (Reg.FAST_CFG i) Fld.FAST_CFG_CLASS = 2
  let out := decide (hi < y) || (!brake && decide (y < lo))
  let nh := if out then x.fastHi + 1 else 0
  let nl := if y < lo then x.fastLo + 1 else 0
  let s := s.putChan ch (c.setInp i { x with fastHi := nh, fastLo := nl })
  if c.bit (Reg.FAST_CFG i) Fld.FAST_CFG_TRIP then
    if (if brake then decide (cnt ≤ nl) else !out) then s.fastForce ch i false else s
  else if cnt ≤ nh then s.fastHit ch i (decide (hi < y)) else s

/-- Whether the fast path goes through its fill (R94). -/
def FastHold.filling : FastHold → Bool
  | .fill | .firstFill | .refill => true
  | .compare | .notStarted | .loss | .bypass => false

/-- One more modulator bit (after INV): the filter takes it; with a full filter a fill has ended, and the path judges its
first output (R91, R94). -/
def State.fastBit (s : State) (ch : ChId) (i : InId) (b : Bool) : State :=
  let c := s.chan ch
  let x := c.inp i
  let bits := (b :: x.fastBits).take (c.fastLen i)
  let go := bits.length = c.fastLen i && (x.fastHold = .compare || x.fastHold.filling)
  let s := s.putChan ch (c.setInp i { x with fastBits := bits, fastHold := if go then .compare else x.fastHold })
  if go then s.fastJudge ch i (fastOut (c.fld (Reg.FAST_CFG i) Fld.FAST_CFG_OSR) bits) else s

def State.fastBits (s : State) (ch : ChId) (i : InId) : List Bool → State
  | [] => s
  | b :: bs => (s.fastBit ch i b).fastBits ch i bs

/-- Whether the input's fast path takes bits: enabled, in its modes, with a valid clock, and on the bypass clock only where
the input is externally clocked (R94, R284). -/
def Chan.fastRuns (c : Chan) (i : InId) : Bool :=
  c.chainMode && c.inMode i != 0 && c.bit (Reg.FAST_CFG i) Fld.FAST_CFG_EN &&
    c.bit (Reg.SDI_STAT i) Fld.SDI_STAT_CLK_OK && (!c.bit Reg.PLL_STAT Fld.PLL_STAT_BYPASS || c.inMode i = 2)

/-- FAST_COMPARATOR_CHANGE: `bits`, oldest first, are the recovered bits since the last such event; the filter and the
comparator take them one by one (R91, R92). -/
def execFastComparatorChange (ch : ChId) (i : InId) (bits : List Bool) (s : State) : Result :=
  let c := s.chan ch
  let inv := c.bit (Reg.SDI_CFG i) Fld.SDI_CFG_INV
  if c.fastRuns i then .next (s.fastBits ch i (bits.map fun b => b != inv)) else .next s

/-- Hold an input's fast path: it does not compare; the output asserts under LOSS_TRIP, or keeps its last state (R94). -/
def State.fastHold (s : State) (ch : ChId) (i : InId) (h : FastHold) : State :=
  let c := s.chan ch
  let s := s.putChan ch (c.onInp i fun x => { x with fastHold := h, fastBits := [], fastHi := 0, fastLo := 0 })
  if c.bit (Reg.FAST_CFG i) Fld.FAST_CFG_EN && c.bit (Reg.FAST_CFG i) Fld.FAST_CFG_LOSS_TRIP
  then s.fastForce ch i true else s

/-- FAST_PATH_FILL_END: `bits`, oldest first, complete the 2 × OSR − 1 bits of the fill; its first output compares, which
releases the hold's assertion unless the comparator itself trips (R90, R92, R94). -/
def execFastPathFillEnd (ch : ChId) (i : InId) (bits : List Bool) (s : State) : Result :=
  let c := s.chan ch
  let x := c.inp i
  let inv := c.bit (Reg.SDI_CFG i) Fld.SDI_CFG_INV
  if c.fastRuns i && x.fastHold.filling && x.fastBits.length + bits.length = c.fastLen i then
    .next (s.fastBits ch i (bits.map fun b => b != inv))
  else .next s

/-- The fast paths that the bypass clock holds: device-clocked and Manchester inputs that have started (R284). -/
def State.holdFastPaths (s : State) (ch : ChId) : State :=
  (List.finRange 16).foldl (fun s i =>
    let c := s.chan ch
    if c.chainMode && (c.inMode i = 1 || c.inMode i = 3) && (c.inp i).fastHold ≠ .notStarted
    then s.fastHold ch i .bypass else s) s

/-! ## Loss and recovery of a modulator clock (R67, R68, R72, R88, R90) -/

/-- The inputs that a loss or a recovery at input i concerns: its group's externally clocked inputs, or a Manchester input
alone (R67). -/
def Chan.clockGroup (c : Chan) (i : InId) : List InId :=
  if c.inMode i = 3 then [i]
  else if c.inMode i = 2 then (List.finRange 16).filter fun j => j.val / 8 = i.val / 8 && c.inMode j = 2
  else []

/-- One input loses its clock (R90). -/
def State.mclkLost (s : State) (ch : ChId) (i : InId) : State :=
  let c := s.chan ch
  if !c.bit (Reg.SDI_STAT i) Fld.SDI_STAT_CLK_OK then s
  else
    let r := Reg.SDI_STAT i
    let c := ((c.setFld r Fld.SDI_STAT_CLK_OK 0).setFld r Fld.SDI_STAT_LOSS 1).setFld r Fld.SDI_STAT_MAN_LOCK 0
    let c := c.onInp i fun x => { x with out := none, subst := true, lossAt := some s.time.refNs }
    let s := ((s.putChan ch c).fastHold ch i .loss).countCh ch (Reg.SDI_CNT i) false true
    s.record 0x03 ch.val 1 2 (recData [(0, 1, i.val), (1, 1, c.inMode i)])

/-- MCLK_LOSS (R68, R90). -/
def execMclkLoss (ch : ChId) (i : InId) (s : State) : Result :=
  let c := s.chan ch
  if c.chainMode then .next ((c.clockGroup i).foldl (fun s j => s.mclkLost ch j) s) else .next s

/-- One input recovers its clock; the first recovery after a start ends no loss (R72, R88, R94). -/
def State.mclkBack (s : State) (ch : ChId) (i : InId) : State :=
  let c := s.chan ch
  if c.bit (Reg.SDI_STAT i) Fld.SDI_STAT_CLK_OK then s
  else
    let x := c.inp i
    let r := Reg.SDI_STAT i
    let c := (c.setFld r Fld.SDI_STAT_CLK_OK 1).setFld r Fld.SDI_STAT_MAN_LOCK (if c.inMode i = 3 then 1 else 0)
    let c := (c.restartFilters i).onInp i fun x => { x with recovered := true, lossAt := none }
    let s := s.putChan ch c
    let s := if x.recovered then s.fastHold ch i .fill
      else s.onChan ch fun c => c.onInp i fun x => { x with fastHold := .firstFill, fastBits := [] }
    match x.lossAt with
    | some t => s.record 0x03 ch.val 2 0
        (recData [(0, 1, i.val), (4, 4, min (2 ^ 32 - 1) ((s.time.refNs - t) / 1000))])
    | none => s

/-- CLOCK_RECOVERY (R71, R72): on the bypass clock too an external input counts its edges; a Manchester input recovers its
clock by the channel clock. -/
def execClockRecovery (ch : ChId) (i : InId) (s : State) : Result :=
  let c := s.chan ch
  if c.chainMode && (c.inMode i != 3 || c.chainRuns) then .next ((c.clockGroup i).foldl (fun s j => s.mclkBack ch j) s)
  else .next s

/-! ## Channel starts and relocks (R72, R78, R80, R83, R88, R94, R283) -/

/-- A channel start abandons a fade in progress (R78). -/
def State.dropFade (s : State) (ch : ChId) (i : InId) : State :=
  let c := s.chan ch
  match (c.inp i).fade with
  | none => s.onChan ch fun c => c.setFld (Reg.FIR_XF i) Fld.FIR_XF_BUSY 0
  | some (k, _) =>
    let c := (c.onInp i fun x => { x with fade := none }).setFld (Reg.FIR_XF i) Fld.FIR_XF_BUSY 0
    (s.putChan ch c).record 0x03 ch.val 3 1 (recData [(0, 1, i.val), (2, 2, k)])

/-- An input at a channel start; `fresh`: a start after which e is taken from DCB_EST (R80). -/
def Chan.startInput (c : Chan) (fresh : Bool) (i : InId) : Chan :=
  if c.inMode i = 0 then c
  else
    let dev := c.inMode i = 1
    let c := (c.restartFilters i).setAlpha i
    let e := (c.get (Reg.DCB_EST i)) ++ (0 : BitVec 24)
    let c := c.onInp i fun x => { x with
      recovered := false, lossAt := none, lastGood := 0, posted := false, fastBits := [], fastHi := 0, fastLo := 0,
      fastHold := if dev then .firstFill else .notStarted, e := if fresh then e else x.e, skewArmed := false,
      settle := if dev then x.settle else 0, subst := !dev }
    let r := Reg.SDI_STAT i
    let c := (c.setFld r Fld.SDI_STAT_CLK_OK (if dev then 1 else 0)).setFld r Fld.SDI_STAT_MAN_LOCK 0
    c.setFld (Reg.FAST_CFG i) Fld.FAST_CFG_TRIP 0

/-- The sample chain at a channel start. DESIGN CHOICE (log 49): a skew measurement in progress ends without VALID or
NOSTEP (R96, R108). -/
def State.chainStart (s : State) (ch : ChId) (fresh : Bool) : State :=
  let s := (List.finRange 16).foldl (fun s i => s.dropFade ch i) s
  let s := s.onChan ch fun c => (List.finRange 16).foldl (fun c i => c.startInput fresh i) c
  (s.onChan ch fun c => c.setFld Reg.SDI_CHCTL Fld.SDI_CHCTL_SKBUSY 0).brakeFollow ch

/-- The sample chain at the end of a relock in HALT: every input restarts as at a clock recovery; the fast paths that the
bypass clock held go through their fill (R94, R283). -/
def State.chainRelock (s : State) (ch : ChId) : State :=
  (List.finRange 16).foldl (fun s i =>
    let c := s.chan ch
    if c.inMode i = 0 || !c.bit (Reg.SDI_STAT i) Fld.SDI_STAT_CLK_OK then s
    else
      let s := s.putChan ch (c.restartFilters i)
      if c.inMode i = 2 || (c.inp i).fastHold = .notStarted then s else s.fastHold ch i .fill) s

/-! ## Skew units (R96, R109) -/

/-- SKBUSY ends when no unit is armed. -/
def Chan.skewDone (c : Chan) : Chan :=
  if c.inputs.toList.any (·.skewArmed) then c else c.setFld Reg.SDI_CHCTL Fld.SDI_CHCTL_SKBUSY 0

/-- Arm every unit of a used input; VALID and NOSTEP clear (R96, R108). -/
def Chan.skewArm (c : Chan) : Chan :=
  let c := (List.finRange 16).foldl (fun c i =>
    let c := ((c.setFld (Reg.SDI_SKEW i) Fld.SDI_SKEW_VALID 0).setFld (Reg.SDI_SKEW i) Fld.SDI_SKEW_NOSTEP 0)
    c.onInp i fun x => { x with skewArmed := c.inMode i != 0 }) c
  (c.setFld Reg.SDI_CHCTL Fld.SDI_CHCTL_SKBUSY 1).skewDone

/-- An output of the skew unit's sinc3 of ratio 16, scaled by 16^3, from its 46 bits, newest first (R96). -/
def skewSum (bits : List Bool) : Int := (sincSums 16 3 ((bits.take 46).map fun b => if b then (1 : Int) else -1)).headD 0

/-- SKEW_CROSSING: the sinc3's outputs `at_` and `at_` + 1 bits after the arm, from their 47 bits, oldest first, cross zero
upward, out of a signal `below` under zero into one `above` over it, in 2^-15 of full scale; T is interpolated linearly, in
sixteenths of a bit (R96). -/
def execSkewCrossing (ch : ChId) (i : InId) (at_ : BitVec 20) (bits : List Bool) (below above : BitVec 16) (s : State) :
    Result :=
  let c := s.chan ch
  let inv := c.bit (Reg.SDI_CFG i) Fld.SDI_CFG_INV
  let late := (bits.map fun b => b != inv).reverse
  let y0 := skewSum late.tail
  let y1 := skewSum late
  if c.chainRuns && (c.inp i).skewArmed && y0 < 0 && 0 ≤ y1 && 32768 ≤ 10 * below.toNat && 32768 ≤ 10 * above.toNat then
    let t := min (2 ^ 24 - 1) <| 16 * at_.toNat + (quantFloor 4 (16 * -y0) (y1 - y0).toNat).toNat
    let c := (c.setFld (Reg.SDI_SKEW i) Fld.SDI_SKEW_T t).setFld (Reg.SDI_SKEW i) Fld.SDI_SKEW_VALID 1
    .next (s.putChan ch (c.onInp i fun x => { x with skewArmed := false }).skewDone)
  else .next s

/-- SKEW_WINDOW_EXPIRY: no crossing within SKWIN (R96); no unit runs in OFF and REPAIR (R109). -/
def execSkewWindowExpiry (ch : ChId) (i : InId) (s : State) : Result :=
  let c := s.chan ch
  if c.chainMode && (c.inp i).skewArmed then
    let c := c.setFld (Reg.SDI_SKEW i) Fld.SDI_SKEW_NOSTEP 1
    .next (s.putChan ch (c.onInp i fun x => { x with skewArmed := false }).skewDone)
  else .next s

/-! ## Writes that act here (R76, R77, R80, R95, R97) -/

/-- A FIR_CDAT write that is not rejected: it stores and steps TAP (R76). -/
def Chan.firCdat (c : Chan) (i : InId) (v : Word) : Chan :=
  let a := c.get (Reg.FIR_CADR i)
  let tap := getField a Fld.FIR_CADR_TAP
  let t : FirTap := ⟨v, a.extractLsb' 8 5⟩
  let c := c.onInp i fun x =>
    if getField a Fld.FIR_CADR_BANK = 1 then { x with bank1 := sset (fun _ => ⟨0, 0⟩) x.bank1 tap t }
    else { x with bank0 := sset (fun _ => ⟨0, 0⟩) x.bank0 tap t }
  c.setFld (Reg.FIR_CADR i) Fld.FIR_CADR_TAP ((tap + 1) % 128)

/-- The tap that FIR_CADR addresses (R102). -/
def Chan.firTap (c : Chan) (i : InId) : FirTap :=
  let a := c.get (Reg.FIR_CADR i)
  sget (fun _ => ⟨0, 0⟩) (if getField a Fld.FIR_CADR_BANK = 1 then (c.inp i).bank1 else (c.inp i).bank0)
    (getField a Fld.FIR_CADR_TAP)

/-- Whether a FIR_CDAT write is rejected: it targets the active bank, or a fade runs (R76). -/
def Chan.firCdatBad (c : Chan) (i : InId) : Bool :=
  c.bit (Reg.FIR_XF i) Fld.FIR_XF_BUSY ||
    c.bit (Reg.FIR_CADR i) Fld.FIR_CADR_BANK == c.bit (Reg.FIR_CFG i) Fld.FIR_CFG_BANK

/-- A fade begins at the boundary where its GO lands (R77). -/
def Chan.fadeGo (c : Chan) (i : InId) : Chan :=
  (c.onInp i fun x => { x with fade := some (0, c.fld (Reg.FIR_XF i) Fld.FIR_XF_LEN) }).setFld (Reg.FIR_XF i)
    Fld.FIR_XF_BUSY 1

/-- FAST_CFG has landed over `old` (R94, R95). An OSR change starts the path with a fill; LOSS_TRIP asserts during a hold.
DESIGN CHOICE (log 57): EN from 0 to 1 is such a start too, and EN = 0 deasserts the output. -/
def State.fastLanded (s : State) (ch : ChId) (i : InId) (old : Word) : State :=
  let c := s.chan ch
  let x := c.inp i
  if !c.bit (Reg.FAST_CFG i) Fld.FAST_CFG_EN then s.fastForce ch i false
  else
    let start := !(getField old Fld.FAST_CFG_OSR = c.fld (Reg.FAST_CFG i) Fld.FAST_CFG_OSR && old.getLsbD 0)
    let s := if start then s.putChan ch (c.setInp i { x with
        fastHold := if x.fastHold = .compare then .refill else x.fastHold, fastBits := [], fastHi := 0, fastLo := 0 })
      else s
    if (x.fastHold = .loss || x.fastHold = .bypass || x.fastHold = .fill) && c.bit (Reg.FAST_CFG i) Fld.FAST_CFG_LOSS_TRIP
    then s.fastForce ch i true else s

/-- What the landing of a write of the sample chain's registers does beside the fields: α (R79), the estimate (R80), the
filters (R88), and the fast path (R94, R95). `off` is the offset in the input's slot. -/
def State.chainLanded (s : State) (ch : ChId) (i : InId) (off : Nat) (old : Word) : State :=
  let c := s.chan ch
  if off = 0x18 then
    if getField old Fld.DCB_CFG_CORNER = c.fld (Reg.DCB_CFG i) Fld.DCB_CFG_CORNER then s else s.putChan ch (c.setAlpha i)
  else if off = 0x1C then s.putChan ch (c.onInp i fun x => { x with e := (c.get (Reg.DCB_EST i)) ++ (0 : BitVec 24) })
  else if off = 0x24 then s.putChan ch (c.clearFilters i)
  else if off = 0x00 then
    if getField old Fld.SDI_CFG_SRC = c.fld (Reg.SDI_CFG i) Fld.SDI_CFG_SRC then s else s.putChan ch (c.clearFilters i)
  else if off = 0x28 then s.fastLanded ch i old
  else s

end Sys2Proof.Machine
end

