-- ==== Sys2Proof/Machine/Clock.lean ====
section
/-! DEFINITION. Machine/Clock.lean: reference inputs and channel clock synthesis (09_clocking.md R277 to R303): the
references' activity, lock points and ramp targets and their checks, locking, ramps, the ceiling guard and the losses. -/

namespace Sys2Proof.Machine

/-! ## References (R278, R279) -/

def refAct : RefId → BitField
  | .a => Fld.REF_STAT_A_ACT
  | .b => Fld.REF_STAT_B_ACT

def refLost : RefId → BitField
  | .a => Fld.REF_STAT_A_LOST
  | .b => Fld.REF_STAT_B_LOST

def gstatAct : RefId → BitField
  | .a => Fld.GSTAT_REFA_ACT
  | .b => Fld.GSTAT_REFB_ACT

/-- A reference's activity bit changes, in REF_STAT and GSTAT (R38): clearing sets LOST; MISMATCH reads 0 while either is inactive and 1 from both
becoming active until the first comparison (R279, R298). -/
def State.setRefAct (s : State) (r : RefId) (on : Bool) : State :=
  let was := s.gbit Reg.REF_STAT (refAct r)
  let s := (s.gset Reg.REF_STAT (refAct r) (if on then 1 else 0)).gset Reg.GSTAT (gstatAct r) (if on then 1 else 0)
  let s := if was && !on then s.gset Reg.REF_STAT (refLost r) 1 else s
  let both := s.gbit Reg.REF_STAT Fld.REF_STAT_A_ACT && s.gbit Reg.REF_STAT Fld.REF_STAT_B_ACT
  if !both then s.gset Reg.REF_STAT Fld.REF_STAT_MISMATCH 0
  else if was then s else s.gset Reg.REF_STAT Fld.REF_STAT_MISMATCH 1

def State.setGoodWindows (s : State) (r : RefId) (n : Nat) : State :=
  match r with
  | .a => { s with clk := { s.clk with goodA := n } }
  | .b => { s with clk := { s.clk with goodB := n } }

def State.goodWindows (s : State) : RefId → Nat
  | .a => s.clk.goodA
  | .b => s.clk.goodB

/-- REF_ACTIVITY_WINDOW: a 40-µs window measured `kHz`; good within ±10 % of FNOM; the bit sets after two consecutive
good windows (R278). -/
def execRefActivityWindow (ref : RefId) (kHz : Nat) (s : State) : Host.Outcome State Fault Refusal :=
  if 9 * s.fnom ≤ 10 * kHz && 10 * kHz ≤ 11 * s.fnom then
    let n := s.goodWindows ref + 1
    let s := s.setGoodWindows ref n
    .next (if 2 ≤ n then s.setRefAct ref true else s)
  else .next ((s.setGoodWindows ref 0).setRefAct ref false)

/-- REF_INTERVAL_FAIL: an interval of more than 200 ns clears the bit at once (R278). -/
def execRefIntervalFail (ref : RefId) (s : State) : Host.Outcome State Fault Refusal :=
  .next ((s.setGoodWindows ref 0).setRefAct ref false)

/-- REF_MISMATCH_WINDOW: `bEdges` B edges in a window of 2^20 A cycles (R279). -/
def execRefMismatchWindow (bEdges : Nat) (s : State) : Host.Outcome State Fault Refusal :=
  if s.gbit Reg.REF_STAT Fld.REF_STAT_A_ACT && s.gbit Reg.REF_STAT Fld.REF_STAT_B_ACT then
    let d := (bEdges : Int) - 2 ^ 20
    .next (s.gset Reg.REF_STAT Fld.REF_STAT_MISMATCH (if 200 * 2 ^ 20 < d.natAbs * 1000000 then 1 else 0))
  else .next s

/-! ## Lock points and ramp targets (R280, R281, R287, R289) -/

/-- The frequency of a setting, in Hz, as numerator and denominator (R280). -/
def lockFreq (fnom nint frac post : Nat) : Nat × Nat := (fnom * 1000 * (nint * 2 ^ 24 + frac), 2 ^ 24 * post)

/-- TRP + 2 × DT ≤ T_c / 2 for every refreshed switch, at a frequency of `num / den` Hz (R250). -/
def bootstrapOk (cycles bst mask dt num den : Nat) : Bool :=
  let trp := 40 * (bst / 256 % 2048)
  let ok := fun d => (trp + 2 * d) * num ≤ cycles * 4000000000 * den
  (List.range 12).all fun l => mask / 2 ^ l % 2 = 0 ||
    (if l % 4 = 0 then ok (dt % 32768) else ok (dt / 65536 % 32768))

/-- The bounds that a lock point and a ramp target share, on the settings that every accepted write will hold: RCAUSE 3 to
6 in the order of R289, or 0. `peek` reads a register with the writes that wait for their boundary. -/
def Chan.freqCause (c : Chan) (num den : Nat) : Nat :=
  let cycles := getField (c.peek Reg.CH_TICK_DIV) Fld.CH_TICK_DIV_CYCLES
  let mdiv0 := c.fld Reg.SDI_CHCTL Fld.SDI_CHCTL_MDIV0
  let mdiv1 := c.fld Reg.SDI_CHCTL Fld.SDI_CHCTL_MDIV1
  if num < c.minClock * den then 3
  else if num < 20000 * cycles * den || 400000 * cycles * den < num then 4
  else if (mdiv0 ≠ 0 && 25000000 * mdiv0 * den < num) || (mdiv1 ≠ 0 && 25000000 * mdiv1 * den < num) then 5
  else if !bootstrapOk cycles (c.peek Reg.BST_CFG).toNat (c.peek Reg.BST_MASK).toNat (c.peek Reg.PWM_DT).toNat num den
  then 6 else 0

/-- R281 on the stored PLL_CFG and PLL_FRAC: 0 where the lock point is accepted, else its RCAUSE (R301). -/
def Chan.lockCause (c : Chan) (fnom : Nat) : Nat :=
  let post := getField (c.peek Reg.PLL_CFG) Fld.PLL_CFG_POST
  let f := lockFreq fnom (getField (c.peek Reg.PLL_CFG) Fld.PLL_CFG_NINT)
    (getField (c.peek Reg.PLL_FRAC) Fld.PLL_FRAC_FRAC) post
  if f.1 < 125000000 * f.2 || 520000000 * f.2 < f.1 then 2
  else if f.1 * post < 4000000000 * f.2 || 5600000000 * f.2 < f.1 * post then 2
  else c.freqCause f.1 f.2

/-- R289 on one target in 0.01 ppm: 0 where it lies in the ramp window, else its RCAUSE. -/
def Chan.targetCause (c : Chan) (o : Int) : Nat :=
  let num := c.fLock.1 * (100000000 + o).toNat
  let den := c.fLock.2 * 100000000
  if 8000000 < o.natAbs || num < 125000000 * den || 520000000 * den < num ||
      num * c.pll.post < 4000000000 * den || 5600000000 * den < num * c.pll.post then 7
  else c.freqCause num den

/-- The first cause among a profile's targets, in the order of the checks (R289: each check over every target). -/
def Chan.profileCause (c : Chan) (p : List Segment) : Nat :=
  let cs := p.map fun g => c.targetCause g.tgt
  if cs.contains 7 then 7 else (cs.filter (· ≠ 0)).min?.getD 0

/-- The profile that PLL_RAMP.GO copies: NSEG segments of PLL_SEGk as they stand (R288). -/
def Chan.copyProfile (c : Chan) (nseg : Nat) : List Segment :=
  (List.range nseg).map fun k =>
    ⟨((c.peek (Reg.PLL_SEG_TGT k)).setWidth 24).toInt * 1, getField (c.peek (Reg.PLL_SEG_SLP k)) Fld.PLL_SEG_SLP_SLOPE⟩

/-- The one-segment profile of a PLL_LEVEL write: TGT in ppm (R288, R302). -/
def levelProfile (v : Word) : List Segment :=
  [⟨(v.setWidth 18).toInt * 100, getField v Fld.PLL_LEVEL_SLOPE⟩]

/-! ## The ramp generator (R287, R288, R290) -/

/-- Load a profile: BUSY, segment 0 (R288). After a hard fault the generator stands still until the next lock (R291). -/
def Chan.loadProfile (c : Chan) (p : List Segment) : Chan :=
  if c.faulted then c
  else
    let c := { c with pll := { c.pll with profile := p } }
    let c := (c.setFld Reg.PLL_RAMP Fld.PLL_RAMP_BUSY 1).setFld Reg.PLL_RAMP Fld.PLL_RAMP_SEG 0
    c.setFld Reg.PLL_STAT Fld.PLL_STAT_BUSY 1

/-- The offset's largest magnitude, 8 % (R287). -/
def ofsMax : Int := 8000000

/-- What moves the offset at present: the profile's segment unless HOLD freezes it (R288), and in SHADOW the slope that
the alignment loop feeds forward (R63). -/
def Chan.rampMove (c : Chan) : Option Segment :=
  if c.bit Reg.PLL_STAT Fld.PLL_STAT_RAMPOWN then
    if c.pair.slope = 0 then none
    else some ⟨if 0 < c.pair.slope then ofsMax else -ofsMax, c.pair.slope.natAbs⟩
  else if c.bit Reg.PLL_RAMP Fld.PLL_RAMP_HOLD then none
  else c.pll.profile.head?

/-- The steps of 2^-16 reference cycles in which a slope unit (0.1 ppm/µs) moves the offset by 10,000 of its units. -/
def Chan.rampDen (c : Chan) : Nat := 65536 * c.pll.fnom

/-- The offset and its integral over `d` 2^-16 reference cycles from `o`, under a segment: toward the target at the slope,
never past it (R288). -/
def Chan.rampOver (c : Chan) (o : Int) (d : Nat) : Option Segment → Int × Int
  | none => (o, o * d)
  | some g =>
    let up : Int := if o ≤ g.tgt then 1 else -1
    let gap := (g.tgt - o).natAbs
    let step := (quantFloor 9 ((g.slope * 10000 * d : Nat) : Int) c.rampDen).toNat
    if step < gap then
      (o + up * step, o * d + up * quantFloor 14 ((g.slope * 10000 * d * d : Nat) : Int) (2 * c.rampDen))
    else (g.tgt, g.tgt * d - up * quantFloor 14 ((gap * gap * c.rampDen : Nat) : Int) (2 * g.slope * 10000))

/-- The generator at the time `t` of the present tick, in 2^-16 reference cycles: PLL_OFS, and the integral that the lock
detector compares against (R282, R290). -/
def Chan.rampTo (c : Chan) (t : Nat) : Chan :=
  let r := c.rampOver c.ofs (t - c.pll.since) c.rampMove
  { c.put Reg.PLL_OFS (BitVec.ofInt 32 r.1) with
    pll := { c.pll with since := max t c.pll.since, area := c.pll.area + r.2 } }

/-- RAMP_SEGMENT_END: `since` 2^-16 reference cycles after the latest input latch, the offset has reached the segment's
target; the next segment starts there, or BUSY clears (R288). Where the target is not reached, no segment ends. -/
def execRampSegmentEnd (ch : ChId) (since : Nat) (s : State) : Host.Outcome State Fault Refusal :=
  match (s.chan ch).pll.profile with
  | [] => .next s
  | g :: rest =>
    let c := (s.chan ch).rampTo since
    if c.bit Reg.PLL_RAMP Fld.PLL_RAMP_HOLD || c.ofs != g.tgt then .next s
    else match rest with
      | [] => .next (s.putChan ch c.dropProfile)
      | _ => .next (s.putChan ch ({ c with pll := { c.pll with profile := rest } }.setFld Reg.PLL_RAMP
          Fld.PLL_RAMP_SEG (c.fld Reg.PLL_RAMP Fld.PLL_RAMP_SEG + 1)))

/-- The PWM time word PT in UQ2.30 (R59): PW while nothing moves the clock, else f_lock / f_hi, where f_hi is the frequency
at the latch, the rise of the present slope over 1.1 T_nom, and the tracking bound of R290. -/
def Chan.pwmTime (c : Chan) : Nat :=
  let hi := fun slope rise : Nat => (quantFloor 10 ((100000000 * 2 ^ 30 : Nat) : Int)
    ((100000000 + c.ofs).toNat + rise + 500 + 2 * slope)).toNat
  match c.rampMove with
  | some g =>
    hi g.slope (if c.ofs < g.tgt then
      ceilDiv (g.slope * 11 * c.fld Reg.CH_TICK_DIV Fld.CH_TICK_DIV_CYCLES * 1000000 * c.fLock.2) c.fLock.1 else 0)
  | none => if c.pair.moving then hi 0 0 else (c.get Reg.CH_PERIOD).toNat

/-! ## The bypass clock (R284) -/

/-- The source of a channel's bypass clock: the active reference, else the other one, else the kennel oscillator
(`none`). -/
def State.bypassSource (s : State) (ch : ChId) : Option RefId :=
  let act := if (s.chan ch).bit Reg.PLL_STAT Fld.PLL_STAT_ACTREF then RefId.b else .a
  let other := if act = .a then RefId.b else .a
  if s.gbit Reg.REF_STAT (refAct act) then some act
  else if s.gbit Reg.REF_STAT (refAct other) then some other else none

/-! ## Locking (R282, R283) -/

/-- A lock begins: ticks stop, the output is gated, the logic goes to the bypass clock, on which the thermal model is frozen,
the offset is 0 and the stored settings take effect, AUTO and REFSEL with them (R281, R283, R286, R450). Writes that wait are held through the lock. -/
def State.beginLock (s : State) (ch : ChId) (kind : StartKind) : State :=
  let c := (s.chan ch).dropProfile
  let c := c.put Reg.PLL_OFS 0
  let c := (c.setFld Reg.PLL_STAT Fld.PLL_STAT_LOCK 0).setFld Reg.PLL_STAT Fld.PLL_STAT_BYPASS 1
  let c := (c.setFld Reg.PLL_STAT Fld.PLL_STAT_GATED 1).setFld Reg.PLL_STAT Fld.PLL_STAT_ACTREF
    (c.fld Reg.PLL_CFG Fld.PLL_CFG_REFSEL)
  let p := { c.pll with
    nint := c.fld Reg.PLL_CFG Fld.PLL_CFG_NINT, frac := c.fld Reg.PLL_FRAC Fld.PLL_FRAC_FRAC,
    post := c.fld Reg.PLL_CFG Fld.PLL_CFG_POST, auto := c.bit Reg.PLL_CFG Fld.PLL_CFG_AUTO, fnom := s.fnom,
    phase := .search, start := kind, good := 0, missing := 0, pwHold := false, since := 0, area := 0 }
  (s.putChan ch ({ c with pll := p }.stopEngines.freezeThermal s.time.refNs)).holdFastPaths ch

/-- BAND_SEARCH_END: the search has chosen its band; the lock windows start (R282). -/
def execBandSearchEnd (ch : ChId) (band : BitVec 4) (s : State) : Host.Outcome State Fault Refusal :=
  let c := s.chan ch
  if c.pll.phase = .search then
    .next (s.putChan ch ({ c with pll := { c.pll with phase := .windows, good := 0 } }.setFld
      Reg.PLL_STAT Fld.PLL_STAT_BAND band.toNat))
  else .next s

/-! ## The host-port PLL (R295) -/

/-- HOST_PLL_LOCK: the global domain returns to the PLL. -/
def execHostPllLock (s : State) : Host.Outcome State Fault Refusal :=
  .next (s.gset Reg.GSTAT Fld.GSTAT_HOST_PLL_LOCK 1)

end Sys2Proof.Machine
end

