-- ==== Sys2Proof/Machine/Violation.lean ====
section
/-! DEFINITION. Machine/Violation.lean: host protocol violations (16_host_interface.md R478, R479), the channel-clock-lost
status (R294), and what becomes of a write that is rejected at a tick boundary (R474, R476). -/

namespace Sys2Proof.Machine

/-- The BAR0 address of a window offset, as context `k` reaches it (R461). -/
def windowAddr (k : Ctx) (off : Nat) : Nat := 0x10000 + 0x4000 * k.val + off

def State.onCtx (s : State) (k : Ctx) (f : CtxPort → CtxPort) : State :=
  { s with host := { s.host with ctxs := s.host.ctxs.set k (f s.host.ctxs[k]) } }

/-- A host protocol violation of context `k`, with its BAR0 address (R478): the context's registers and count, HOST_VIO, a
record of its own but for causes 5 and 6, and the VIOL interrupt. -/
def State.violation (s : State) (k : Ctx) (cause addr : Nat) (wr : Bool) : State :=
  let w : Nat := if wr then 1 else 0
  let s := s.onCtx k fun p => { p with
    stat := setField (setField p.stat Fld.CTX_STAT_VIO 1) Fld.CTX_STAT_VCAUSE cause,
    vaddr := BitVec.ofNat 32 (addr % 2 ^ 18 + 2 ^ 18 * w),
    cnt := counterStep p.cnt false }
  let s := ((s.gset Reg.HOST_VIO Fld.HOST_VIO_VIO 1).gset Reg.HOST_VIO Fld.HOST_VIO_VCAUSE cause).gset Reg.HOST_VIO
    Fld.HOST_VIO_CTX k.val
  let s := if cause = 5 || cause = 6 then s
    else s.record 0x14 0xF cause (Config.violationSev cause % 4) (recData [(0, 4, addr), (4, 1, k.val), (5, 1, w)])
  s.irq 6

/-- The channel-clock-lost status, reported to context `k` (R294, R480). -/
def State.clockLostStatus (s : State) (k : Ctx) (ch : ChId) : State :=
  (s.onCtx k fun p => { p with stat := setField p.stat Fld.CTX_STAT_CLA 1, cnt := counterStep p.cnt true }).onChan ch
    fun c => c.setFld Reg.PLL_STAT Fld.PLL_STAT_CLA 1

/-- The context that a record of a rejected write names (R537); a mirrored write has none: a free byte. -/
def State.srcNum (s : State) : WriteSrc → Nat
  | .host k => k.val
  | .group k => k.val
  | .mirror _ => Config.freeNat s.free % 256

/-- What a rejection at a tick boundary adds to the block's own answer, by the write's source: a violation of the context
(R478), for a group's write also outcome 2 (R474), for the partner's the failed answer (R476). -/
def State.landingRejected (s : State) (ch : ChId) (src : WriteSrc) (cause off : Nat) : State :=
  match src with
  | .host k => s.violation k cause (windowAddr k off) true
  | .group k => (s.violation k cause (windowAddr k off) true).groupOutcome ch 2
  | .mirror n => { s with free := s.free + 1, mir := { s.mir with
      answers := s.mir.answers.filter (fun a => a.1 != n) ++ [(n, false, 4)] } }

end Sys2Proof.Machine
end

