-- ==== Sys2Proof/Machine/Engine.lean ====
section
/-! DEFINITION. Machine/Engine.lean: the control engines (04_control_engines.md): how an instruction runs, the ports, the
mailboxes, the end of a tick and its overrun (R44 to R48), the engines' hard faults, and coefficient and data accesses
(R131 to R138). -/

namespace Sys2Proof.Machine

/-! ## A channel's engines -/

def Chan.engine (c : Chan) : Eng → Engine
  | .fe => c.fe
  | .me => c.me

def Chan.setEngine (c : Chan) (e : Eng) (x : Engine) : Chan :=
  match e with
  | .fe => { c with fe := x }
  | .me => { c with me := x }

/-- FE 0, ME 1, as registers and records code them. -/
def engNum : Eng → Nat
  | .fe => 0
  | .me => 1

def otherEng : Eng → Eng
  | .fe => .me
  | .me => .fe

/-- The engine that a register field selects. -/
def engOf (b : Bool) : Eng := if b then .me else .fe

def State.eng (s : State) (x : Site) : Engine := (s.chan x.ch).engine x.eng

def State.putEng (s : State) (x : Site) (e : Engine) : State := s.onChan x.ch fun c => c.setEngine x.eng e

def State.onEng (s : State) (x : Site) (f : Engine → Engine) : State := s.putEng x (f (s.eng x))

/-- The work budget B (R45). -/
def Chan.budget (c : Chan) : Nat := c.fld Reg.CH_TICK_DIV Fld.CH_TICK_DIV_CYCLES * 9 / 10

/-- Whether the channel's engines execute in mode `m` (R39). -/
def engineMode (m : Nat) : Bool := (2 ≤ m && m ≤ 8) || m = 10

/-! ## How an instruction runs (R110, R118, R120) -/

/-- The word after the one at `pc`, where nothing jumps: a loop whose last word it is begins again or ends (R120). -/
def loopNext (pc : BitVec 12) : List LoopFrame → BitVec 12 × List LoopFrame
  | [] => (pc + 1, [])
  | f :: t =>
    if f.tgt = pc then (if f.rem = 0 then loopNext pc t else (f.start, { f with rem := f.rem - 1 } :: t))
    else (pc + 1, f :: t)

/-- The engine goes on to the next word after `n` cycles. -/
def Engine.retire (e : Engine) (n : Nat) : Engine :=
  { e with pc := (loopNext e.pc e.loops).1, loops := (loopNext e.pc e.loops).2, cycle := e.cycle + n }

/-- Run an instruction of `n` cycles whose effect is `f`: nothing where the engine does not run (its tick has ended, it
waits or it is stopped); a NOP of one cycle where the condition is false (R118). -/
def State.runIf (s : State) (x : Site) (cc : BitVec 4) (n : Nat) (f : State → State) : State :=
  let e := s.eng x
  if e.run != .running then s
  else if condHolds e.fl e.fst cc then (f s).onEng x fun e => e.retire n
  else s.onEng x fun e => e.retire 1

/-- An instruction that acts on its engine's registers and memories alone. -/
def State.instr (s : State) (x : Site) (cc : BitVec 4) (n : Nat) (f : Engine → Engine) : Result :=
  .next (s.runIf x cc n fun s => s.onEng x f)

/-- FE_CSAT or ME_CSAT sets (R113). -/
def State.setCsat (s : State) (x : Site) (b : Bool) : State :=
  if b then s.onChan x.ch fun c => c.setFld Reg.ENG_STAT
    (match x.eng with | .fe => Fld.ENG_STAT_FE_CSAT | .me => Fld.ENG_STAT_ME_CSAT) 1
  else s

/-- An instruction that names coefficients: its effect on the engine, and whether one that reports has clamped. -/
def State.instrC (s : State) (x : Site) (cc : BitVec 4) (f : Engine → Engine × Bool) : Result :=
  .next (s.runIf x cc 1 fun s => (s.onEng x fun e => (f e).1).setCsat x (f (s.eng x)).2)

/-- Write a 32-bit result with its Z, N and V (R117). -/
def Engine.result (e : Engine) (d : VReg) (r : Word × Bool) : Engine := { e.wv d r.1 with fl := e.fl.ofResult r.1 r.2 }

/-- Narrow an exact value in units of the register's last bit, by the instruction's RM (R115). -/
def narrowRm (rm : BitVec 2) (y : Int) : Word × Bool := narrow (rmFloor rm) (rmWrap rm) y 1

def execNop (x : Site) (cc : BitVec 4) (s : State) : Result := s.instr x cc 1 fun e => e

def execLdi (x : Site) (d : VReg) (imm : Word) (s : State) : Result := s.instr x 0 1 fun e => e.wv d imm

def execMov (x : Site) (cc : BitVec 4) (d a : VReg) (s : State) : Result := s.instr x cc 1 fun e => e.wv d (e.rv a)

def execLd (x : Site) (cc : BitVec 4) (d : VReg) (m : BitVec 11) (s : State) : Result :=
  s.instr x cc 1 fun e => e.wv d (e.getData m.toNat)

def execLdx (x : Site) (cc : BitVec 4) (d a : VReg) (m : BitVec 11) (s : State) : Result :=
  s.instr x cc 1 fun e => e.wv d (e.getData (indexedAddr (e.rv a) m))

def execSt (x : Site) (cc : BitVec 4) (a : VReg) (m : BitVec 11) (s : State) : Result :=
  s.instr x cc 1 fun e => e.setData m.toNat (e.rv a)

def execStx (x : Site) (cc : BitVec 4) (a b : VReg) (m : BitVec 11) (s : State) : Result :=
  s.instr x cc 1 fun e => e.setData (indexedAddr (e.rv b) m) (e.rv a)

def execLdc (x : Site) (cc : BitVec 4) (d : VReg) (k : BitVec 10) (s : State) : Result :=
  s.instr x cc 1 fun e => e.wv d (e.getCoef k.toNat).mant

/-- SEL is never a NOP (R120). -/
def execSel (x : Site) (cc : BitVec 4) (d a b : VReg) (s : State) : Result :=
  s.instr x 0 1 fun e => e.wv d (if condHolds e.fl e.fst cc then e.rv a else e.rv b)

def execAdd (x : Site) (cc : BitVec 4) (rm : BitVec 2) (d a b : VReg) (s : State) : Result :=
  s.instr x cc 1 fun e => e.result d (narrowRm rm ((e.rv a).toInt + (e.rv b).toInt))

def execSub (x : Site) (cc : BitVec 4) (rm : BitVec 2) (d a b : VReg) (s : State) : Result :=
  s.instr x cc 1 fun e => e.result d (narrowRm rm ((e.rv a).toInt - (e.rv b).toInt))

def execNeg (x : Site) (cc : BitVec 4) (rm : BitVec 2) (d a : VReg) (s : State) : Result :=
  s.instr x cc 1 fun e => e.result d (narrowRm rm (-(e.rv a).toInt))

def execAbs (x : Site) (cc : BitVec 4) (rm : BitVec 2) (d a : VReg) (s : State) : Result :=
  s.instr x cc 1 fun e => e.result d (narrowRm rm (e.rv a).toInt.natAbs)

def execMin (x : Site) (cc : BitVec 4) (d a b : VReg) (s : State) : Result :=
  s.instr x cc 1 fun e => e.result d (if (e.rv b).toInt < (e.rv a).toInt then e.rv b else e.rv a, false)

def execMax (x : Site) (cc : BitVec 4) (d a b : VReg) (s : State) : Result :=
  s.instr x cc 1 fun e => e.result d (if (e.rv a).toInt < (e.rv b).toInt then e.rv b else e.rv a, false)

/-- CMP: Z and N from the exact difference, V clear (R117). -/
def execCmp (x : Site) (cc : BitVec 4) (a b : VReg) (s : State) : Result :=
  s.instr x cc 1 fun e =>
    { e with fl := { e.fl with z := e.rv a == e.rv b, n := decide ((e.rv a).toInt < (e.rv b).toInt), v := false } }

def execAnd (x : Site) (cc : BitVec 4) (d a b : VReg) (s : State) : Result :=
  s.instr x cc 1 fun e => e.result d (e.rv a &&& e.rv b, false)

def execOr (x : Site) (cc : BitVec 4) (d a b : VReg) (s : State) : Result :=
  s.instr x cc 1 fun e => e.result d (e.rv a ||| e.rv b, false)

def execXor (x : Site) (cc : BitVec 4) (d a b : VReg) (s : State) : Result :=
  s.instr x cc 1 fun e => e.result d (e.rv a ^^^ e.rv b, false)

def execAsh (x : Site) (cc : BitVec 4) (rm : BitVec 2) (sh : BitVec 5) (d a : VReg) (s : State) : Result :=
  s.instr x cc 1 fun e => e.result d (ashResult rm sh (e.rv a))

def execLsh (x : Site) (cc : BitVec 4) (sh : BitVec 5) (d a : VReg) (s : State) : Result :=
  s.instr x cc 1 fun e => e.result d (lshResult sh (e.rv a), false)

def execMul (x : Site) (cc : BitVec 4) (rm : BitVec 2) (d a : VReg) (k : BitVec 10) (s : State) : Result :=
  s.instrC x cc fun e =>
    let r := mulCoef rm (e.rv a) (e.getCoef k.toNat)
    (e.result d r, r.2 && (e.getCoef k.toNat).reports)

def execMulv (x : Site) (cc : BitVec 4) (rm : BitVec 2) (sh : BitVec 5) (d a b : VReg) (s : State) : Result :=
  s.instr x cc 1 fun e => e.result d (mulvResult rm sh (e.rv a) (e.rv b))

def execClr (x : Site) (cc : BitVec 4) (ac : Bool) (s : State) : Result := s.instr x cc 1 fun e => e.setAcc ac 0

/-- LDA: X × 2^31 always fits, so V is 0 (R117, R120). -/
def execLda (x : Site) (cc : BitVec 4) (ac : Bool) (a : VReg) (s : State) : Result :=
  s.instr x cc 1 fun e =>
    { e.setAcc ac (BitVec.ofInt 72 ((e.rv a).toInt * 2 ^ 31)) with fl := { e.fl with v := false } }

/-- Put a multiply-accumulate's result into an accumulator, with V. -/
def Engine.putMac (e : Engine) (ac : Bool) (r : MacResult) : Engine :=
  { e.setAcc ac r.acc with fl := { e.fl with v := r.v } }

def execMac (x : Site) (cc : BitVec 4) (ac : Bool) (a : VReg) (k : BitVec 10) (s : State) : Result :=
  s.instrC x cc fun e =>
    let r := macTerm false (e.acc ac) (e.rv a) (e.getCoef k.toNat)
    (e.putMac ac r, r.csat)

def execMsu (x : Site) (cc : BitVec 4) (ac : Bool) (a : VReg) (k : BitVec 10) (s : State) : Result :=
  s.instrC x cc fun e =>
    let r := macTerm true (e.acc ac) (e.rv a) (e.getCoef k.toNat)
    (e.putMac ac r, r.csat)

/-- DMAC: the two terms, each with its own coefficient's saturation mode (R120). DESIGN CHOICE (log 63): they are added in
turn, with a range step after each. -/
def execDmac (x : Site) (cc : BitVec 4) (ac : Bool) (a b : VReg) (k : BitVec 10) (s : State) : Result :=
  s.instrC x cc fun e =>
    let r := macTerm false (e.acc ac) (e.rv a) (e.getCoef k.toNat)
    let q := macTerm false r.acc (e.rv b) (e.getCoef (k + 1).toNat)
    (e.putMac ac ⟨q.acc, r.v || q.v, false⟩, r.csat || q.csat)

/-- PMAC: one term into each accumulator (R120). -/
def execPmac (x : Site) (cc : BitVec 4) (a b : VReg) (k : BitVec 10) (s : State) : Result :=
  s.instrC x cc fun e =>
    let r := macTerm false e.acc0 (e.rv a) (e.getCoef k.toNat)
    let q := macTerm false e.acc1 (e.rv b) (e.getCoef (k + 1).toNat)
    ({ e with acc0 := r.acc, acc1 := q.acc, fl := { e.fl with v := r.v || q.v } }, r.csat || q.csat)

/-- MACV: the exact product; range by RM bit 1 (R113, R120). -/
def execMacv (x : Site) (cc : BitVec 4) (rm : BitVec 2) (ac : Bool) (a b : VReg) (s : State) : Result :=
  s.instr x cc 1 fun e =>
    let r := accRange (rmWrap rm) ((e.acc ac).toInt + (e.rv a).toInt * (e.rv b).toInt)
    e.putMac ac ⟨BitVec.ofInt 72 r.1, r.2, false⟩

def execExt (x : Site) (cc : BitVec 4) (rm : BitVec 2) (sh : BitVec 5) (ac : Bool) (d : VReg) (s : State) : Result :=
  s.instr x cc 1 fun e => e.result d (extResult rm sh (e.acc ac))

def execDiv (x : Site) (cc : BitVec 4) (rm : BitVec 2) (sh : BitVec 5) (d a b : VReg) (s : State) : Result :=
  s.instr x cc 34 fun e => e.result d (divResult rm sh (e.rv a) (e.rv b))

def execSqrt (x : Site) (cc : BitVec 4) (rm : BitVec 2) (sh : BitVec 5) (d a : VReg) (s : State) : Result :=
  s.instr x cc 18 fun e => e.result d (sqrtResult rm sh (e.rv a))

/-! ## Control flow (R120, R121) -/

/-- A jump of two cycles. -/
def Engine.jump (e : Engine) (t : BitVec 12) : Engine := { e with pc := t, cycle := e.cycle + 2 }

/-- BR: two cycles taken, one not taken. -/
def execBr (x : Site) (cc : BitVec 4) (tgt : BitVec 12) (s : State) : Result :=
  let e := s.eng x
  if e.run != .running then .next s
  else if condHolds e.fl e.fst cc then .next (s.onEng x fun e => e.jump tgt)
  else .next (s.onEng x fun e => e.retire 1)

/-- CALL: the return address is the word that would follow; beyond eight calls the program breaks R121. -/
def execCall (x : Site) (tgt : BitVec 12) (s : State) : Result :=
  let e := s.eng x
  if e.run != .running then .next s
  else if 8 ≤ e.calls.length then .fault .engineStackRule
  else .next (s.onEng x fun e =>
    ({ e with loops := (loopNext e.pc e.loops).2, calls := (loopNext e.pc e.loops).1 :: e.calls } : Engine).jump tgt)

/-- RET: with no call open the program breaks R121. -/
def execRet (x : Site) (cc : BitVec 4) (s : State) : Result :=
  let e := s.eng x
  if e.run != .running then .next s
  else if !condHolds e.fl e.fst cc then .next (s.onEng x fun e => e.retire 1)
  else match e.calls with
    | [] => .fault .engineStackRule
    | r :: t => .next (s.putEng x (({ e with calls := t } : Engine).jump r))

/-- LOOP: the words through TGT run COUNT + 1 times; beyond two levels the program breaks R121. -/
def execLoop (x : Site) (count : BitVec 10) (tgt : BitVec 12) (s : State) : Result :=
  let e := s.eng x
  if e.run != .running then .next s
  else if 2 ≤ e.loops.length then .fault .engineStackRule
  else .next (s.onEng x fun e =>
    { e with pc := e.pc + 1, loops := ⟨e.pc + 1, tgt, count.toNat⟩ :: e.loops, cycle := e.cycle + 1 })

/-! ## Hard faults of the engines (R47, R48, R127, R128, R27) -/

/-- The cause bits of an overrun (R47, R48): a missed duty deadline also stops an FE that has not finished. -/
def Chan.overrunBits (c : Chan) : OvrCause → Nat
  | .fe => 1
  | .me => 2
  | .both => 3
  | .duty => if c.fe.run = .idle then 4 else 5

/-- A tick overrun, declared now (R48). -/
def State.overrun (s : State) (ch : ChId) (cause : OvrCause) : State :=
  let c := s.chan ch
  let c := c.put Reg.CH_TICK_STAT (c.get Reg.CH_TICK_STAT ||| BitVec.ofNat 32 (c.overrunBits cause))
  let s := (s.putChan ch c).hardFault ch 2
  s.record 0x02 ch.val 1 3 (recData [(0, 2, c.fld Reg.CH_TICK_USE Fld.CH_TICK_USE_FE_LAST),
    (2, 2, c.fld Reg.CH_TICK_USE Fld.CH_TICK_USE_ME_LAST), (4, 1, (c.get Reg.CH_TICK_STAT).toNat % 8), (8, 8, c.tickCount)])

/-- Whether the overrun can be declared: the tick runs and the named engine, or the duties, are not finished (R47). -/
def Chan.canOverrun (c : Chan) : OvrCause → Bool
  | .fe => c.ticking && c.fe.run != .idle
  | .me => c.ticking && c.me.run != .idle
  | .both => c.ticking && c.fe.run != .idle && c.me.run != .idle
  | .duty => c.ticking && engineMode c.mode && !c.duty.done

/-- TICK_OVERRUN (R48). -/
def execTickOverrun (ch : ChId) (cause : OvrCause) (s : State) : Result :=
  .next (if (s.chan ch).canOverrun cause then s.overrun ch cause else s)

/-- LOCKSTEP_MISMATCH (R127): found in every cycle in which the cores are clocked. -/
def execLockstepMismatch (ch : ChId) (eng : Eng) (pc : BitVec 12) (cls : BitVec 8) (s : State) : Result :=
  let c := s.chan ch
  if !c.ticking then .next s
  else
    let c := c.setFld Reg.ENG_STAT (match eng with | .fe => Fld.ENG_STAT_FE_LS | .me => Fld.ENG_STAT_ME_LS) 1
    .next (((s.putChan ch c).hardFault ch 1).record 0x04 ch.val 1 3
      (recData [(0, 1, engNum eng), (2, 2, pc.toNat), (4, 1, cls.toNat)]))

/-- The code of an engine memory in a record (R538). -/
def memNum : EngMem → Nat
  | .program => 0
  | .data => 1
  | .coef => 2

/-- The load of the engine memories from the committed section, at the end of a channel start with its lock (R111, R489). -/
def Chan.loadsEngines (c : Chan) : Bool := c.pll.phase = .calibrate

/-- UNCORRECTABLE_ECC: by a read or the scrubber while ticks run (R128, R129), or by the load of a channel start from the
section memory, which ends the start (R489). -/
def execUncorrectableEcc (ch : ChId) (eng : Eng) (mem : EngMem) (addr : BitVec 16) (byScrubber : Bool) (s : State) :
    Result :=
  let c := s.chan ch
  if !c.ticking && !c.loadsEngines then .next s
  else
    let c := if c.loadsEngines then { c with pll := { c.pll with phase := .idle } } else c
    let c := c.setFld Reg.ENG_STAT (match eng with | .fe => Fld.ENG_STAT_FE_UE | .me => Fld.ENG_STAT_ME_UE) 1
    .next ((((s.putChan ch c).hardFault ch 4).record 0x04 ch.val 2 3
      (recData [(0, 1, engNum eng), (1, 1, memNum mem), (2, 2, addr.toNat), (4, 1, if byScrubber then 1 else 0)])).bootSettled)

/-- FABRIC_PARITY_ERROR: a received word whose 64 bits have odd parity, wherever the fabric runs (R24, R27, R39). -/
def execFabricParityError (ch : ChId) (word : BitVec 64) (s : State) : Result :=
  if !(s.chan ch).chainRuns || !oddParity word then .next s
  else .next ((s.hardFault ch 4).record 0x04 ch.val 2 3
    (recData [(0, 1, 0xFF), (1, 1, 3), (2, 2, (word.extractLsb' 36 8).toNat), (4, 1, 2)]))

/-- RESERVED_OPCODE (R121, R561): the engine stops without TEND, so that the tick overruns at the duty deadline or at cycle B
(R47); the other engine goes on until then. -/
def execReservedOpcode (x : Site) (_op : BitVec 6) (s : State) : Result :=
  let e := s.eng x
  if e.run != .running then .next s
  else
    let s := s.onChan x.ch fun c => c.setFld Reg.ENG_STAT
      (match x.eng with | .fe => Fld.ENG_STAT_FE_BADOP | .me => Fld.ENG_STAT_ME_BADOP) 1
    let s := s.onEng x fun e => { e with run := .stopped }
    .next (s.record 0x04 x.ch.val 4 3 (recData [(0, 1, engNum x.eng), (2, 2, e.pc.toNat)]))

/-! ## Ports (R122 to R126) -/

/-- The two limits that the thermal derating scales at the ports (R449). -/
def Chan.lawPort (c : Chan) (off : Nat) : Word :=
  let w := c.get off
  if off = Reg.LAW_IMAX || off = Reg.LAW_TVI_ITH then
    BitVec.ofInt 32 (quantFloor 40 ((w.toNat * c.tmod.k : Nat) : Int) (2 ^ 31))
  else w

/-- What a port other than a mailbox entry returns, with its tags; `none` where the engine owns no such port. -/
def State.portIn (s : State) (x : Site) (m : Nat) : Option (Word × BitVec 4) :=
  let c := s.chan x.ch
  let e := c.engine x.eng
  let div := max 1 (c.fld Reg.CH_OUTER_DIV Fld.CH_OUTER_DIV_DIV)
  if h : m < 0x40 then some ((e.slots[m]).data, (e.slots[m]).tag)
  else if m < 0x50 then
    let d := if m = 0x40 then c.packDev else 0
    if x.eng = .fe then some (BitVec.ofInt 32 ((c.sp[m % 16]'(Nat.mod_lt _ (by decide))).toInt + d), 0) else none
  else if m = 0x60 then
    some (c.get (match x.eng with | .fe => Reg.CH_PERIOD | .me => Reg.CH_PERIOD_OUT), 0)
  else if m = 0x61 then some (BitVec.ofNat 32 c.tick, 0)
  else if m = 0x62 then
    some (BitVec.ofNat 32 (c.mode + (if c.outer then 16 else 0) + (if s.owns x.ch then 32 else 0)), 0)
  else if m = 0x63 then some (BitVec.ofNat 32 (c.tick % div), 0)
  else if m = 0x64 then
    some (c.get (match x.eng with | .fe => Reg.ENG_LOOP_OPEN_FE | .me => Reg.ENG_LOOP_OPEN_ME), 0)
  else if 0x100 ≤ m && m < 0x400 then
    match findRow chanRows (0x1400 + 4 * (m - 0x100)) with
    | some _ => some (c.lawPort (0x1400 + 4 * (m - 0x100)), 0)
    | none => none
  else none

/-- IN returns `w` with the tags; `vf`: V as a mailbox read sets it (R117). -/
def Engine.inResult (e : Engine) (d : VReg) (w : Word) (tag : BitVec 4) (vf : Option Bool) : Engine :=
  let fl := e.fl.withTags tag
  { e.wv d w with fl := { fl with v := vf.getD fl.v } }

/-- A read of mailbox entry `j` (R123): `none` while it has to wait. The wait counts toward the reader's cycles. -/
def State.mailRead (s : State) (x : Site) (d : VReg) (j : Fin 4) : Option State :=
  let c := s.chan x.ch
  let e := c.engine x.eng
  let o := c.engine (otherEng x.eng)
  match e.mail[j] with
  | some m => some (s.putEng x ({ e.inResult d m.value 0 (some false) with
      cycle := max e.cycle m.cycle, run := .running } : Engine))
  | none =>
    if o.run = .idle then
      some ((s.putEng x ({ e.inResult d 0 0 (some true) with cycle := max e.cycle o.cycle, run := .running } : Engine)).countCh
        x.ch Reg.ENG_CNT true false)
    else none

/-- IN (R122, R123). A port that the engine does not own gives an open value (R121: no program names one). -/
def execIn (x : Site) (cc : BitVec 4) (d : VReg) (m : BitVec 11) (s : State) : Result :=
  let e := s.eng x
  if e.run != .running then .next s
  else if !condHolds e.fl e.fst cc then .next (s.onEng x fun e => e.retire 1)
  else if 0x50 ≤ m.toNat && m.toNat < 0x54 then
    match s.mailRead x d (Fin.ofNat 4 (m.toNat - 0x50)) with
    | some t => .next (t.onEng x fun e => e.retire 1)
    | none => .next (s.onEng x fun e => { e with run := .waiting d (Fin.ofNat 4 (m.toNat - 0x50)) })
  else
    match s.portIn x m.toNat with
    | some (w, tag) => .next (s.onEng x fun e => (e.inResult d w tag none).retire 1)
    | none => .next ({ s with free := s.free + 1 }.onEng x fun e =>
        (e.inResult d (Config.freeWord s.free) 0 none).retire 1)

/-- MAILBOX_WAIT_END (R123): the entry has been written, or the other engine has ended its tick. -/
def execMailboxWaitEnd (x : Site) (s : State) : Result :=
  match (s.eng x).run with
  | .waiting d j =>
    match s.mailRead x d j with
    | some t => .next (t.onEng x fun e => e.retire 1)
    | none => .next s
  | .idle | .running | .stopped => .next s

/-- FE_EDROP or ME_EDROP sets (R126). -/
def State.dropLawEvent (s : State) (x : Site) : State :=
  s.onChan x.ch fun c => c.setFld Reg.ENG_STAT
    (match x.eng with | .fe => Fld.ENG_STAT_FE_EDROP | .me => Fld.ENG_STAT_ME_EDROP) 1

/-- A law event (R122, R126, R419, R537). -/
def State.lawEvent (s : State) (x : Site) (a b : Word) : State :=
  let e := s.eng x
  let s' := s.onEng x fun e => { e with eventSent := true }
  let code := (a.extractLsb' 0 16).toNat
  if e.eventSent || code = 0 || code = 0xF0 || code = 0xFFFF then s'.dropLawEvent x
  else s'.record 0x05 x.ch.val code (a.extractLsb' 16 2).toNat (recData [(0, 4, b.toNat)])

/-- DUTY_DONE (R125): the first of the tick fixes the duty words; after the duty deadline the tick has overrun (R42,
R47). -/
def State.dutyDone (s : State) (ch : ChId) : State :=
  let c := s.chan ch
  if c.duty.done then s
  else if c.fld Reg.CH_TICK_DIV Fld.CH_TICK_DIV_LEAD < c.fe.cycle + 8 then s.overrun ch .duty
  else s.putChan ch { c with duty := { c.duty with loaded := c.duty.words, done := true } }

/-- A write of a port; one that the engine does not own has no effect (R122). -/
def State.portOut (s : State) (x : Site) (m : Nat) (a b : Word) : State :=
  match x.eng with
  | .fe =>
    if 0x400 ≤ m && m < 0x40C then
      s.onChan x.ch fun c => { c with duty := { c.duty with words := c.duty.words.setIfInBounds (m - 0x400) a } }
    else if m = 0x40F then s.dutyDone x.ch
    else if 0x420 ≤ m && m < 0x424 then
      s.onChan x.ch fun c => { c with me := { c.me with mail := c.me.mail.setIfInBounds (m - 0x420) (some ⟨a, c.fe.cycle⟩) } }
    else if m = 0x480 then s.lawEvent x a b
    else if m = 0x481 then s.onEng x fun e => { e with track := a }
    else s
  | .me =>
    if 0x410 ≤ m && m < 0x420 then
      s.onChan x.ch fun c => { c with spNext := c.spNext.setIfInBounds (m - 0x410) a }
    else if 0x420 ≤ m && m < 0x424 then
      s.onChan x.ch fun c => { c with fe := { c.fe with mail := c.fe.mail.setIfInBounds (m - 0x420) (some ⟨a, c.me.cycle⟩) } }
    else if m = 0x480 then s.lawEvent x a b
    else if m = 0x481 then s.onEng x fun e => { e with track := a }
    else s

/-- OUT (R122). -/
def execOut (x : Site) (cc : BitVec 4) (a b : VReg) (m : BitVec 11) (s : State) : Result :=
  .next (s.runIf x cc 1 fun s => s.portOut x m.toNat ((s.eng x).rv a) ((s.eng x).rv b))

/-- PUB: published quantity M[5:0] with TAG Y[3:0] (R25, R120). -/
def execPub (x : Site) (cc : BitVec 4) (a b : VReg) (m : BitVec 11) (s : State) : Result :=
  .next (s.runIf x cc 1 fun s => s.onChan x.ch fun c =>
    c.post ((match x.eng with | .fe => 0x20 | .me => 0x60) + m.toNat % 64) ((c.engine x.eng).rv a)
      (((c.engine x.eng).rv b).setWidth 4))

/-! ## The end of a tick (R45, R53, R129, R137) -/

/-- The larger of a cycle and the maximum seen (R53). -/
def Chan.tickMax (c : Chan) (f : BitField) (n : Nat) : Chan :=
  if c.fld Reg.CH_TICK_MAX f < n then c.setFld Reg.CH_TICK_MAX f n else c

/-- Once its engines have ended it, the tick is complete: FE_LAST, in an outer tick ME_LAST, and the maxima (R53). DESIGN
CHOICE (log 36): after a tick in which no engine executes (HALT, TEST), FE_LAST and ME_LAST read 0. -/
def Chan.tickUsed (c : Chan) : Chan :=
  if !c.enginesDone then c
  else
    let c := (c.setFld Reg.CH_TICK_USE Fld.CH_TICK_USE_FE_LAST c.fe.cycle).tickMax Fld.CH_TICK_MAX_FE_MAX c.fe.cycle
    if c.outer then (c.setFld Reg.CH_TICK_USE Fld.CH_TICK_USE_ME_LAST c.me.cycle).tickMax Fld.CH_TICK_MAX_ME_MAX c.me.cycle
    else c

/-- LAW_STAT takes the FE's published quantity 0 at the end of the tick, except READY: its RO bits, and where MEAS_LOST is set
in it, MEAS_LOST and LOST_SLOT; the RWS bits hold otherwise (R172). -/
def Chan.copyLawStat (c : Chan) : Chan :=
  let w := (c.fabGet 0x20).data
  let r := Reg.LAW_STAT
  match findRow chanRows r with
  | some row =>
    let ready := Fld.LAW_STAT_READY.mask
    let old := c.get r
    let ro := bitsOf row.ro &&& ~~~ready
    let lost := if getField w Fld.LAW_STAT_MEAS_LOST = 1 then Fld.LAW_STAT_MEAS_LOST.mask ||| Fld.LAW_STAT_LOST_SLOT.mask else 0
    c.put r ((old &&& ~~~(ro ||| lost)) ||| (w &&& (ro ||| lost)))
  | none => c

/-- What TEND does to its engine: the tick ends at this cycle, the tracking declaration shows, the scrubber reads its next
words (R129), and the data memory is as reads see it until the next TEND (R138). -/
def Chan.endTick (c : Chan) (eng : Eng) : Chan :=
  let e := c.engine eng
  let c := c.setEngine eng { e with run := .idle, atEnd := e.data, scrub := (e.scrub + 1) % 4096 }
  c.put (match eng with | .fe => Reg.ENG_LOOP_TRK_FE | .me => Reg.ENG_LOOP_TRK_ME) e.track

/-- `n` corrected single-bit errors count in the engine's half of ENG_ECC, which stops at its maximum (R128, R140). -/
def Engine.corrected (e : Engine) (n : Nat) : Engine := { e with ce := (addHalf (e.ce.setWidth 32) false n).setWidth 16 }

/-- An engine ends its tick in time. The single-bit errors that the tick's reads and the scrubber have corrected, and written
back where the scrubber found them, are counted with it: how many is open (R128, R129; log 29). -/
def State.tickEnds (s : State) (x : Site) : State :=
  { s with free := s.free + 1 }.onChan x.ch fun c =>
    (c.setEngine x.eng ((c.engine x.eng).corrected (Config.freeNat s.free))).endTick x.eng |>.tickUsed

/-- TEND: after cycle B the tick has overrun (R45, R47). -/
def execTend (x : Site) (cc : BitVec 4) (s : State) : Result :=
  let e := s.eng x
  if e.run != .running then .next s
  else if !condHolds e.fl e.fst cc then .next (s.onEng x fun e => e.retire 1)
  else if (s.chan x.ch).budget < e.cycle then
    .next (s.overrun x.ch (match x.eng with | .fe => .fe | .me => .me))
  else .next (s.tickEnds x)

/-! ## Coefficient writes (R130 to R137) -/

/-- PEND_FE and PEND_ME count the staged writes (R135). -/
def Chan.showStaged (c : Chan) : Chan :=
  (c.setFld Reg.ENG_CSTAT Fld.ENG_CSTAT_PEND_FE c.fe.staged.length).setFld Reg.ENG_CSTAT Fld.ENG_CSTAT_PEND_ME
    c.me.staged.length

/-- A rejected coefficient or data write (R133): REJ, CAUSE, the count and the record. -/
def State.rejectCoef (s : State) (ch : ChId) (eng : Eng) (idx cause : Nat) (v : Word) : State :=
  let s := s.onChan ch fun c =>
    (c.setFld Reg.ENG_CSTAT Fld.ENG_CSTAT_REJ 1).setFld Reg.ENG_CSTAT Fld.ENG_CSTAT_CAUSE cause
  (s.countCh ch Reg.ENG_CNT false false).record 0x04 ch.val 3 1
    (recData [(0, 1, engNum eng), (2, 2, idx), (4, 1, cause), (8, 4, v.toNat)])

/-- The cause for which a write of a coefficient is rejected at once, or 0 (R131, R136). -/
def Chan.coefCause (c : Chan) (eng : Eng) (idx : Nat) : Nat :=
  if c.mode = 0 || c.mode = 11 then 4
  else if ((c.engine eng).getCoef idx).owner.toNat = 63 then 2
  else if 64 ≤ (c.engine eng).staged.length then 3
  else 0

/-- A coefficient write as it is staged now: the writes staged so far come before it. -/
def Chan.coefArrives (c : Chan) (k : CoefRef) (v : Word) (src : WriteSrc) : CoefWrite :=
  ⟨k.idx, v, k.shift, src, c.fe.staged.length + c.me.staged.length⟩

/-- Stage a write (R131). -/
def Chan.stageCoef (c : Chan) (eng : Eng) (w : CoefWrite) : Chan :=
  let e := c.engine eng
  (c.setEngine eng { e with staged := e.staged ++ [w] }).showStaged

/-- The engine, index and shift that ENG_CADR names (R134). -/
def Chan.cadr (c : Chan) : CoefRef :=
  ⟨engOf (c.bit Reg.ENG_CADR Fld.ENG_CADR_ENG), (c.get Reg.ENG_CADR).extractLsb' 0 10,
    (c.get Reg.ENG_CADR).extractLsb' 16 6⟩

/-- IDX steps after an ENG_CDAT write where AINC is 1 (R131). -/
def Chan.cadrStep (c : Chan) : Chan :=
  if c.bit Reg.ENG_CADR Fld.ENG_CADR_AINC then
    c.setFld Reg.ENG_CADR Fld.ENG_CADR_IDX (c.fld Reg.ENG_CADR Fld.ENG_CADR_IDX + 1)
  else c

/-- Whether loop `owner` of an engine admits a write at this boundary (R10, R132): the channel is in HALT, the loop is
open, or it was held by tracking in the last completed tick and no mode change lands. -/
def Chan.loopAdmits (c : Chan) (eng : Eng) (owner : Nat) (modeChange : Bool) : Bool :=
  let op := c.get (match eng with | .fe => Reg.ENG_LOOP_OPEN_FE | .me => Reg.ENG_LOOP_OPEN_ME)
  let trk := c.get (match eng with | .fe => Reg.ENG_LOOP_TRK_FE | .me => Reg.ENG_LOOP_TRK_ME)
  c.mode = 1 || (owner < 32 && (op.getLsbD owner || (trk.getLsbD owner && !modeChange)))

/-- One staged write at its boundary (R132): whether it is accepted, and the channel with it applied. -/
def Chan.applyCoef (c : Chan) (eng : Eng) (w : CoefWrite) : Chan :=
  let e := c.engine eng
  let k := e.getCoef w.idx.toNat
  c.setEngine eng (e.setCoef w.idx.toNat { k with mant := w.mant, shift := w.shift })

/-! ## Data memory accesses (R138) -/

def Chan.dadr (c : Chan) : Eng × BitVec 11 :=
  (engOf (c.bit Reg.ENG_DADR Fld.ENG_DADR_ENG), (c.get Reg.ENG_DADR).extractLsb' 0 11)

/-- ADDR steps after an access where AINC is 1. -/
def Chan.dadrStep (c : Chan) : Chan :=
  if c.bit Reg.ENG_DADR Fld.ENG_DADR_AINC then
    c.setFld Reg.ENG_DADR Fld.ENG_DADR_ADDR (c.fld Reg.ENG_DADR Fld.ENG_DADR_ADDR + 1)
  else c

/-- The data word as it stood at the engine's last TEND. -/
def Engine.dataAtEnd (e : Engine) (a : Nat) : Word := sget (fun _ => 0) e.atEnd a

/-- A read of ENG_DDAT whose engine idles; `none` while the engine's tick runs. -/
def State.ddatValue (s : State) (r : DdatRead) : Option Word :=
  let e := (s.chan r.ch).engine r.eng
  match e.run with
  | .idle | .stopped => some (e.dataAtEnd r.addr.toNat)
  | .running | .waiting _ _ => if (s.chan r.ch).ticking then none else some (e.dataAtEnd r.addr.toNat)

end Sys2Proof.Machine
end

