-- ==== Sys2Proof/Machine/Pack.lean ====
section
/-! DEFINITION. Machine/Pack.lean: PACK, load sharing without wires (07_pack_peer_agreement.md R211 to R234): the code
generator, the fingers, the frames, duplicates and confidence. The restoration step of R220 is run at outer tick
boundaries (`Chan.restore`). -/

namespace Sys2Proof.Machine

/-! ## The code (R212) -/

/-- One step of a Fibonacci register: the state is eight consecutive terms, bit 0 the present one; the next term is the
parity of the tapped terms (DEDUCED, log 24: the recurrence of the polynomial, the first eight terms being the bits of
0x01 from bit 0). -/
def lfsrStep (taps : Nat) (st : BitVec 8) : BitVec 8 :=
  let m := (st &&& BitVec.ofNat 8 taps).toNat
  let fb := (m + m / 2 + m / 4 + m / 8 + m / 16 + m / 32 + m / 64 + m / 128) % 2
  (st >>> 1) ||| (BitVec.ofNat 8 fb <<< 7)

/-- The state after `n` steps from 0x01. -/
def lfsrRun (taps : Nat) : Nat → BitVec 8
  | 0 => 1
  | n + 1 => lfsrStep taps (lfsrRun taps n)

/-- The chip value, +1 or −1, of code number `n` at chip `i` (R212): taps x^8 + x^4 + x^3 + x^2 + 1 and
x^8 + x^5 + x^3 + x + 1. -/
def chipValue (n i : Nat) : Int :=
  let a := (lfsrRun 0x1D (i % 255)).getLsbD 0
  let b := (lfsrRun 0x2B ((i + n) % 255)).getLsbD 0
  if n = 255 then (if a then 1 else -1) else if a != b then 1 else -1

/-! ## Frames (R214, R215) -/

/-- PARITY of the 16 data bits: P_m = d_m xor d_(m+4) xor d_(m+8) xor d_(m+12). -/
def packParity (d : BitVec 16) : BitVec 4 :=
  d.extractLsb' 0 4 ^^^ d.extractLsb' 4 4 ^^^ d.extractLsb' 8 4 ^^^ d.extractLsb' 12 4

/-- A frame in the order sent, period 0 in bit 23: SYNC 1110, TYPE, VALUE, PARITY (R214). -/
def packFrame (type : BitVec 4) (value : BitVec 12) : BitVec 24 :=
  let d : BitVec 16 := type ++ value
  (0xE : BitVec 4) ++ d ++ packParity d

/-- Whether SYNC and PARITY hold (R218). -/
def packFrameOk (b : BitVec 24) : Bool :=
  b.extractLsb' 20 4 == 0xE && packParity (b.extractLsb' 4 16) == b.extractLsb' 0 4

/-- x in Q2.10, rounded to nearest and clamped (R215). -/
def restoreValue (x : Int) : BitVec 12 :=
  BitVec.ofInt 12 (min (max ((x + 2 ^ 19) / 2 ^ 20) (-2048)) 2047)

/-- The frame at place `order` of RESTORE, WEIGHT, RESTORE, IDENT (R215). -/
def Chan.packFrameAt (c : Chan) (order : Nat) : BitVec 24 :=
  match order % 4 with
  | 1 => packFrame 2 (BitVec.ofNat 12 ((c.fld Reg.PACK_W Fld.PACK_W_W * 4095 + 2 ^ 14) / 2 ^ 15))
  | 3 =>
    packFrame 3 (BitVec.ofNat 12 (c.fld Reg.PACK_ID Fld.PACK_ID_ID +
      1024 * c.fld Reg.PACK_CFG Fld.PACK_CFG_RSTEN + 2048 * c.fld Reg.PACK_STAT Fld.PACK_STAT_STIFF))
  | _ => packFrame 1 (restoreValue (c.get Reg.PACK_X).toInt)

/-- The LEAVE frame (R215). -/
def Chan.packLeaveFrame (c : Chan) : BitVec 24 := packFrame 4 (BitVec.ofNat 12 (c.fld Reg.PACK_ID Fld.PACK_ID_ID))

/-! ## Correlation (R217) -/

/-- The 255 chip values of a code number. -/
def codeChips (n : Nat) : List Int := (List.range 255).map (chipValue n)

/-- The high-passed estimates of a code period, none for an excluded chip (R216); the filter is open (log 65). -/
def packFiltered (ests : List (Option Int)) : List (Option Int) :=
  ests.mapIdx fun i e => e.map fun _ => Config.packFilter ests i

/-- The correlation of filtered estimates with a code's chips from phase `ph` on; excluded chips are left out. -/
def correlation (h : List (Option Int)) (code : List Int) (ph : Nat) : Int :=
  ((h.zip (code.drop ph ++ code.take ph)).map fun x => x.1.getD 0 * x.2).sum

/-- What a finger reports for a code period: the phase, the correlation A and the confidence q in UQ4.4. -/
structure Peak where
  phase : Byte
  amp : Int
  q : Byte
  deriving DecidableEq, Repr

/-- Two code phases within one chip of each other. -/
def nearPhase (a b : Nat) : Bool :=
  let d := (a + 255 - b) % 255
  d ≤ 1 || d ≥ 254

/-- The phase in `ps` of the largest magnitude in `a`, the first of equals (log 65). -/
def peakPhase (a : List Int) (ps : List Nat) : Nat :=
  ps.foldl (fun b p => if (a.getD b 0).natAbs < (a.getD p 0).natAbs then p else b) (ps.headD 0)

/-- The peak of the correlations `a` among the phases `ps`: q is |A| by the rms at the 252 phases outside ±1 chip, at most
its register's maximum (R217). -/
def peakOf (a : List Int) (ps : List Nat) : Peak :=
  let p := peakPhase a ps
  let x := a.getD p 0
  let rest := ((List.range 255).filter fun k => !nearPhase k p).map fun k => (a.getD k 0).natAbs * (a.getD k 0).natAbs
  ⟨BitVec.ofNat 8 p, x, BitVec.ofNat 8 (min 255 (rootOf 103 (256 * 252 * (x.natAbs * x.natAbs)) rest.sum))⟩

/-- The correlations of a code period with a code number at all 255 phases. -/
def Pack.correlations (p : Pack) (n : Nat) : List Int :=
  let h := packFiltered p.ests.reverse
  let code := codeChips n
  (List.range 255).map (correlation h code)

/-! ## Fingers -/

/-- A finger that has been freed keeps nothing of its peer (R217, R233: AGE reads 15). -/
def Finger.freed (f : Finger) : Finger :=
  { f with state := .free, q := 0, high := 0, low := 0, dwell := 0, aligned := false, bad := 0, id := 0, idv := false,
           x := 0, xv := false, w := 0, wv := false, age := 15, bits := 0, nbits := 0, since := 0 }

/-- NPEER and LONE follow the VALID fingers (R229, R232). -/
def Chan.packCount (c : Chan) : Chan :=
  let n := (c.pack.fingers.toList.filter (fun f => f.state == .valid)).length
  (c.setFld Reg.PACK_STAT Fld.PACK_STAT_NPEER n).setFld Reg.PACK_STAT Fld.PACK_STAT_LONE (if n = 0 then 1 else 0)

/-- A code number that the scan may take: not the own one, not held by another finger (R217). -/
def Chan.packScannable (c : Chan) (n : Byte) : Bool :=
  n.toNat != c.fld Reg.PACK_ID Fld.PACK_ID_ID % 256 &&
    !(c.pack.fingers.toList.any fun f => f.state != .free && f.code == n)

/-- The next code number to scan after `n`, in ascending order. -/
def Chan.packNextCode (c : Chan) : Nat → Byte → Byte
  | 0, n => n
  | k + 1, n => if c.packScannable (n + 1) then n + 1 else c.packNextCode k (n + 1)

/-- A finger becomes, or stays, FREE and begins to dwell on the next code number of the scan. -/
def Chan.packScan (c : Chan) (i : Fin 64) : Chan :=
  let n := c.packNextCode 256 c.pack.scan
  { c with pack := { c.pack with scan := n, fingers := c.pack.fingers.set i { (c.pack.fingers[i]).freed with code := n } } }

/-- What a code period's correlation does to a finger: in ACQ and VALID the confidence, its counts and the data bit; the
scan's counts in FREE (R217). -/
def Finger.period (f : Finger) (qacq qlose : Nat) (o : Peak) : Finger :=
  let hit := qacq ≤ o.q.toNat
  match f.state with
  | .free =>
    { f with q := o.q, phase := o.phase, dwell := f.dwell + 1,
             high := if hit then (if f.high = 0 || nearPhase f.phase.toNat o.phase.toNat then f.high + 1 else 1) else 0 }
  | .lost => f
  | _ =>
    { f with q := o.q, phase := o.phase, low := if o.q.toNat < qlose then f.low + 1 else 0, high := if hit then f.high + 1 else 0,
             bits := (f.bits <<< 1) ||| (if 0 < o.amp then 1 else 0), nbits := min 24 (f.nbits + 1),
             since := if f.since < 24 then f.since + 1 else 1 }

/-- At a code-period boundary a LOST finger is freed, and a FREE finger that has dwelt for 2 periods without an acquisition
moves to the next code number (R217). -/
def Chan.packRescan (c : Chan) : List (Fin 64) → Chan
  | [] => c
  | i :: is =>
    let f := c.pack.fingers[i]
    if f.state == .lost || (f.state == .free && 2 ≤ f.dwell && f.high < 2) then (c.packScan i).packRescan is
    else c.packRescan is

/-- Whether PACK listens: every mode except OFF and REPAIR (R224). -/
def Chan.packListens (c : Chan) : Bool := c.mode != 0 && c.mode != 11

/-- Whether the mode and the settings let the channel inject (R224). -/
def Chan.packMayInject (c : Chan) : Bool :=
  c.mode == 4 && c.k1Closed && (c.pack.enabled || c.pack.leaving != 0) && c.bit Reg.PACK_CFG Fld.PACK_CFG_TXEN &&
    !c.bit Reg.PACK_STAT Fld.PACK_STAT_DUP && !c.bit Reg.PACK_STAT Fld.PACK_STAT_BACKOFF

/-- The data bit of the present code period, as +1 or −1 (R213, R226). -/
def Chan.packBit (c : Chan) : Int :=
  if c.pack.plain then 1
  else if c.pack.frame.getLsbD (23 - c.fld Reg.PACK_OWN Fld.PACK_OWN_PERIOD) then 1 else -1

/-- The own code's chip index (R213, R225). -/
def Chan.packOwnChip (c : Chan) : Nat := (c.pack.chip + c.fld Reg.PACK_OWN Fld.PACK_OWN_PHASE) % 255

/-- The chip that the generator takes up: its deviation waits for the next tick boundary, and is posted (R213, R230). -/
def Chan.packInject (c : Chan) (on : Bool) : Chan :=
  let d : Int := if on then chipValue (c.fld Reg.PACK_ID Fld.PACK_ID_ID % 256) c.packOwnChip * c.packBit else 0
  ({ c with pack := { c.pack with dNext := d } } : Chan).post 0xBD
    (if d = 0 then 0 else if 0 < d then 0x7FFFFFFF else 0x80000000) 0

/-- PACK_CHIP: the estimator closes the mean of the chip that ends, unless slot 10 or 11 was tagged UNSETTLED or SUBSTITUTED
in it (R216), and the generator takes up the next chip (R213). The first chip of a code period is posted with the period
(PACK_CODE_PERIOD), which decides its data bit. `mean` is what the estimator measures on the bus (log 65). -/
def execPackChip (ch : ChId) (mean : Word) (s : State) : Host.Outcome State Fault Refusal :=
  let c := s.chan ch
  if !c.packListens then .next s
  else
    let stop := c.pack.stopAtChip || !c.packMayInject
    let est := if c.pack.chipBad then none else some mean.toInt
    let c := if stop then c.setFld Reg.PACK_STAT Fld.PACK_STAT_TX 0 else c
    let c := if c.pack.chipBad then c else c.post 0xB8 mean 0
    let c := { c with pack := { c.pack with
      chip := (c.pack.chip + 1) % 255, chipAt := s.time.refNs, stopAtChip := false, chipBad := false,
      ests := (est :: c.pack.ests).take 255 } }
    .next (s.putChan ch (if c.packOwnChip = 0 then { c with pack := { c.pack with periodEnd := true } }
      else c.packInject (c.bit Reg.PACK_STAT Fld.PACK_STAT_TX)))

/-- The mean of the code period in Q2.30 pu, where a chip gave an estimate (R216). -/
def Pack.periodMean (p : Pack) : Option Int :=
  let l := p.ests.filterMap id
  if l.isEmpty then none else some (quantFloor 20 l.sum l.length)

/-- The estimator's mean over the code period, in PACK_FMEAS and posted (R216, R230). -/
def Chan.packMeasure (c : Chan) : Chan :=
  match c.pack.periodMean with
  | some m =>
    (c.put Reg.PACK_FMEAS (BitVec.ofInt 32 (quantFloor 21 (m * (c.get Reg.LAW_FBASE).toNat) (2 ^ 30)))).post 0xB9
      (BitVec.ofInt 32 m) 0
  | none => c

/-- Whether an amplitude lies below 0.25 or above 2.0 times the mean of the amplitudes `l` (R228). -/
def ampOutside (a : Int) (l : List Int) : Bool := 4 * a * l.length < l.sum || 2 * l.sum < a * l.length

/-- A code period of the duplicate test (R228): `own` is the own-code finger at the own phase, `peak` its peak over all
phases, `bk` the period's own bit, `per` its place in the own frame. In SHADOW the partner's code at the mirrored phase is
the own one (R227). -/
def DupTrack.period (t : DupTrack) (inj shadow : Bool) (qacq per : Nat) (bk : Int) (own peak : Peak) : DupTrack :=
  let away := !nearPhase peak.phase.toNat 0
  let hit := qacq ≤ peak.q.toNat && (if inj || shadow then away else true)
  let a := own.amp * bk
  let good := inj && qacq ≤ own.q.toNat
  let odd := if good && 8 ≤ (t.sync1 ++ t.sync2).length && ampOutside a (t.sync1 ++ t.sync2) then t.odd + 1 else t.odd
  let run := if hit then t.run + 1 else 0
  let t := { t with
    run := run, phase := if hit then peak.phase else t.phase, odd := odd,
    bits := if hit then (t.bits <<< 1) ||| (if 0 < peak.amp then 1 else 0) else t.bits,
    nbits := if hit then min 24 (t.nbits + 1) else 0,
    sync0 := if inj && per < 4 then a :: t.sync0 else t.sync0,
    seen := if 2 ≤ run then some (if inj then .outside else .silent)
      else if 2 ≤ odd then some .amplitude else none }
  if per = 23 then { t with odd := 0, sync0 := [], sync1 := t.sync0, sync2 := t.sync1 } else t

/-- The duplicate's IDENT frame, where the own-code finger has just read one (R228). -/
def Chan.packDupIdent (c : Chan) : Chan :=
  let t := c.pack.dup
  if t.nbits = 24 && packFrameOk t.bits && t.bits.extractLsb' 16 4 = 3 then
    (c.setFld Reg.PACK_DUPID Fld.PACK_DUPID_ID (t.bits.extractLsb' 4 10).toNat).setFld Reg.PACK_DUPID Fld.PACK_DUPID_IDV 1
  else c

/-- The own-code finger's code period: OWNQ, the counts of R229, the duplicate test while EN is 1, and 0xBC (R217, R228 to
R230). -/
def Chan.packOwnFinger (c : Chan) (inj : Bool) (bk : Int) (per : Nat) : Chan :=
  let qacq := c.fld Reg.PACK_CFG Fld.PACK_CFG_QACQ
  let qlose := c.fld Reg.PACK_CFG Fld.PACK_CFG_QLOSE
  let a := c.pack.correlations (c.fld Reg.PACK_ID Fld.PACK_ID_ID % 256)
  let own := peakOf a [0, 1, 254]
  let t := if c.pack.enabled then
      c.pack.dup.period inj (c.mode = 8) qacq per bk own (peakOf a (List.range 255))
    else DupTrack.reset
  let c := { c with pack := { c.pack with
    dup := t, ownLow := if inj && own.q.toNat < qlose then c.pack.ownLow + 1 else 0,
    ownHigh := if inj && qacq ≤ own.q.toNat then c.pack.ownHigh + 1 else 0 } }
  let c := (c.setFld Reg.PACK_OWN Fld.PACK_OWN_OWNQ own.q.toNat).packDupIdent
  c.post 0xBC (Config.packAmplitude (own.amp * bk)) 0

/-- The peer fingers' code period, while EN is 1 (R217). -/
def Chan.packPeerFingers (c : Chan) : Chan :=
  if !c.pack.enabled then c
  else
    let qacq := c.fld Reg.PACK_CFG Fld.PACK_CFG_QACQ
    let qlose := c.fld Reg.PACK_CFG Fld.PACK_CFG_QLOSE
    let step := fun f : Finger => f.period qacq qlose (peakOf (c.pack.correlations f.code.toNat) (List.range 255))
    let c := { c with pack := { c.pack with fingers := c.pack.fingers.map step } }
    let c := c.packRescan (List.finRange 64)
    if c.pack.fingers.toList.any (fun f => f.state == .free) then c else c.setFld Reg.PACK_STAT Fld.PACK_STAT_PEERFULL 1

/-- The next own code period: PERIOD, and the start of the injection, which restarts the frame with RESTORE, but in the frame
in which RIDE has ended (R215, R225, R226). -/
def Chan.packNextPeriod (c : Chan) : Chan :=
  let per := c.fld Reg.PACK_OWN Fld.PACK_OWN_PERIOD
  let starts := !c.bit Reg.PACK_STAT Fld.PACK_STAT_TX && c.packMayInject
  let fresh := starts && !c.pack.plain
  let c := { c with pack := { c.pack with frameEnd := c.pack.frameEnd || per == 23 } }
  let c := c.setFld Reg.PACK_OWN Fld.PACK_OWN_PERIOD (if per = 23 || fresh then 0 else per + 1)
  let c := if starts then c.setFld Reg.PACK_STAT Fld.PACK_STAT_TX 1 else c
  if fresh then
    { c with pack := { c.pack with order := if per = 23 then 3 else 0, frame := c.packFrameAt 0, dup := { c.pack.dup with run := 0 } } }
  else c

/-- Whether the local restoration term acts: ME loop 4 drives, and the conditions of R221 hold. -/
def Chan.packLocal (c : Chan) : Bool :=
  c.mode == 4 && c.pack.enabled && c.k1Closed && c.bit Reg.PACK_CFG Fld.PACK_CFG_RSTEN && !c.bit Reg.PACK_STAT Fld.PACK_STAT_STIFF &&
    c.fld Reg.PACK_W Fld.PACK_W_WMIN ≤ c.fld Reg.PACK_W Fld.PACK_W_W

/-- LOCAL with the rest of PACK_STAT (R221, R232): whether the local restoration term acts. -/
def Chan.packStatus (c : Chan) : Word :=
  setField (c.get Reg.PACK_STAT) Fld.PACK_STAT_LOCAL (if c.packLocal then 1 else 0)

/-- PACK_CODE_PERIOD: 255 chips of the own code have passed. The fingers correlate (R217), the estimator's mean appears
(R216), the next period begins with its first chip (R213). -/
def execPackCodePeriod (ch : ChId) (s : State) : Host.Outcome State Fault Refusal :=
  let c := s.chan ch
  if !(c.packListens && c.pack.periodEnd) then .next s
  else
    let per := c.fld Reg.PACK_OWN Fld.PACK_OWN_PERIOD
    let inj := c.bit Reg.PACK_STAT Fld.PACK_STAT_TX
    let leaves := per = 23 && c.pack.leaving = 2
    let c := ((c.packOwnFinger inj c.packBit per).packPeerFingers.packMeasure).packNextPeriod
    let c := { c with pack := { c.pack with ests := [], periodEnd := false } }
    let c := (c.packInject (c.bit Reg.PACK_STAT Fld.PACK_STAT_TX && !leaves)).packCount
    .next (s.putChan ch (c.post 0xBE c.packStatus 0))

/-- FINGER_ACQUIRED: a scanned code number peaked at one phase with q ≥ QACQ in 2 consecutive periods (R217). -/
def execFingerAcquired (ch : ChId) (f : Fin 64) (s : State) : Host.Outcome State Fault Refusal :=
  let c := s.chan ch
  let g := c.pack.fingers[f]
  if c.pack.enabled && g.state == .free && 2 ≤ g.high then
    .next (s.putChan ch { c with pack := { c.pack with
      fingers := c.pack.fingers.set f { g with state := .acq, high := 0, low := 0, dwell := 0 } } })
  else .next s

/-- The peer-lost record: the peer's identity, 0xFFFF if never received, and its code number (R229, R538). -/
def peerLostData (g : Finger) : RecData :=
  recData [(0, 2, if g.idv then g.id.toNat else 0xFFFF), (2, 1, g.code.toNat)]

/-- FINGER_LOST: q < QLOSE in 8 consecutive periods, in ACQ or VALID (R217, R229). -/
def execFingerLost (ch : ChId) (f : Fin 64) (s : State) : Host.Outcome State Fault Refusal :=
  let c := s.chan ch
  let g := c.pack.fingers[f]
  if (g.state == .acq || g.state == .valid) && 8 ≤ g.low then
    let c' := { c with pack := { c.pack with fingers := c.pack.fingers.set f { g with state := .lost } } }.packCount
    .next (((s.putChan ch c').countCh ch Reg.PACK_CNT1 true false).record 0x06 ch.val 3 1 (peerLostData g))
  else .next s

/-- Whether a frame of the peer is complete (R218): in the search for the alignment, the last 24 data bits pass the test;
with the alignment, 24 code periods have passed since the last frame. -/
def Finger.frameDue (g : Finger) : Bool :=
  if g.aligned then g.since == 24 else g.nbits == 24 && packFrameOk g.bits

/-- What a valid frame gives the finger (R215, R218); a reserved type is ignored. -/
def Finger.take (g : Finger) (type : BitVec 4) (v : BitVec 12) : Finger :=
  let g := { g with state := if g.state == .acq then .valid else g.state, aligned := true, bad := 0, since := 0 }
  match type.toNat with
  | 1 => { g with x := v, xv := true, age := 0 }
  | 2 => { g with w := v, wv := true }
  | 3 => { g with id := v.setWidth 10, idv := true }
  | 4 => g.freed
  | _ => g

/-- PACK_FRAME_RECEIVED: the test of the frame that the data bits give, and its content (R218); a LEAVE frees the finger,
which scans on (R217). -/
def execPackFrameReceived (ch : ChId) (f : Fin 64) (s : State) : Host.Outcome State Fault Refusal :=
  let c := s.chan ch
  let g := c.pack.fingers[f]
  if !((g.state == .acq || g.state == .valid) && g.frameDue) then .next s
  else if packFrameOk g.bits then
    let g' := g.take (g.bits.extractLsb' 16 4) (g.bits.extractLsb' 4 12)
    let c' := { c with pack := { c.pack with fingers := c.pack.fingers.set f g' } }
    let c' := (if g'.state == .free then c'.packScan f else c').packCount
    .next ((s.putChan ch c').countCh ch Reg.PACK_CNT0 false false)
  else
    let g' := { g with bad := if g.bad = 1 then 0 else g.bad + 1, aligned := g.bad = 0, since := 0 }
    .next ((s.putChan ch { c with pack := { c.pack with fingers := c.pack.fingers.set f g' } }).countCh
      ch Reg.PACK_CNT0 true false)

/-- PACK_FRAME_END: the ages advance, the consensus step is due in the next outer tick (R220), and the next frame of the
type order starts; a leaving channel sends LEAVE and then stops (R225); backoff frames count down (R228). -/
def execPackFrameEnd (ch : ChId) (s : State) : Host.Outcome State Fault Refusal :=
  let c := s.chan ch
  if !(c.packListens && c.pack.frameEnd) then .next s
  else
    let p := c.pack
    let fs := p.fingers.map fun g => { g with age := min 15 (g.age + 1) }
    let order := if p.plain then 0 else (p.order + 1) % 4
    let frame := if p.leaving = 1 then c.packLeaveFrame else c.packFrameAt order
    let boff := c.fld Reg.PACK_OWN Fld.PACK_OWN_BOFF
    let p := { p with
      fingers := fs, frameEnd := false, consensusDue := true, order := order, frame := frame, plain := false,
      leaving := if p.leaving = 1 then 2 else 0,
      window := match p.window with
        | some n => if n + 1 < 64 then some (n + 1) else none
        | none => none }
    let stop := c.pack.leaving = 2
    let c := { c with pack := p }
    let c := if stop then c.setFld Reg.PACK_STAT Fld.PACK_STAT_TX 0 else c
    let c := if c.bit Reg.PACK_STAT Fld.PACK_STAT_BACKOFF && 0 < boff
      then c.setFld Reg.PACK_OWN Fld.PACK_OWN_BOFF (boff - 1) else c
    .next (s.putChan ch c)

/-- The case number of R228's order. -/
def dupNumber : DupCase → Nat
  | .outside => 1
  | .amplitude => 2
  | .silent => 3

/-- PACK_DUPLICATE: the own-code finger's test has found a duplicate. A first detection stops the injection at the next chip
and draws a backoff of 4 to 15 frames and a new phase; a detection during BACKOFF or in the 64 own frames after it latches
DUP (R228). -/
def execPackDuplicate (ch : ChId) (s : State) : Host.Outcome State Fault Refusal :=
  let c := s.chan ch
  match c.pack.dup.seen with
  | none => .next s
  | some k =>
    if !(c.pack.enabled && c.packListens) then .next s
    else
      let again := c.bit Reg.PACK_STAT Fld.PACK_STAT_BACKOFF || c.pack.window.isSome
      let c := c.setFld Reg.PACK_DUPID Fld.PACK_DUPID_PHASE c.pack.dup.phase.toNat
      let c := { c with pack := { c.pack with stopAtChip := true, dup := { c.pack.dup with run := 0, odd := 0, seen := none } } }
      if again then
        let c := c.setFld Reg.PACK_STAT Fld.PACK_STAT_DUP 1
        .next ((s.putChan ch c).record 0x06 ch.val 2 2 (recData [(0, 4, (c.get Reg.PACK_DUPID).toNat)]))
      else
        let boff := 4 + (Config.freeNat s.free) % 12
        let phase := Config.freeNat (s.free + 1) % 255
        let c := (c.setFld Reg.PACK_STAT Fld.PACK_STAT_BACKOFF 1).setFld Reg.PACK_OWN Fld.PACK_OWN_BOFF boff
        let c := { c with pack := { c.pack with newPhase := some phase } }
        let s := { s.putChan ch c with free := s.free + 2 }
        .next ((s.countCh ch Reg.PACK_CNT1 false true).record 0x06 ch.val 1 1
          (recData [(0, 2, c.fld Reg.PACK_ID Fld.PACK_ID_ID), (2, 1, boff), (3, 1, dupNumber k)]))

/-- PACK_BACKOFF_END: the backoff frames have passed; the new phase holds, with which the injection resumes at the next own
code period (R228). -/
def execPackBackoffEnd (ch : ChId) (s : State) : Host.Outcome State Fault Refusal :=
  let c := s.chan ch
  if c.bit Reg.PACK_STAT Fld.PACK_STAT_BACKOFF && c.fld Reg.PACK_OWN Fld.PACK_OWN_BOFF = 0 then
    let c' := c.setFld Reg.PACK_STAT Fld.PACK_STAT_BACKOFF 0
    let c' := match c.pack.newPhase with
      | some n => c'.setFld Reg.PACK_OWN Fld.PACK_OWN_PHASE n
      | none => c'
    .next (s.putChan ch { c' with pack := { c'.pack with newPhase := none, window := some 0 } })
  else .next s

/-- STIFF_SET: 8 consecutive periods with own q < QLOSE while injecting (R229). -/
def execStiffSet (ch : ChId) (s : State) : Host.Outcome State Fault Refusal :=
  let c := s.chan ch
  if c.bit Reg.PACK_STAT Fld.PACK_STAT_TX && 8 ≤ c.pack.ownLow then
    .next (s.putChan ch (c.setFld Reg.PACK_STAT Fld.PACK_STAT_STIFF 1))
  else .next s

/-- STIFF_CLEAR: 2 consecutive periods with own q ≥ QACQ (R229). -/
def execStiffClear (ch : ChId) (s : State) : Host.Outcome State Fault Refusal :=
  let c := s.chan ch
  if c.bit Reg.PACK_STAT Fld.PACK_STAT_TX && 2 ≤ c.pack.ownHigh then
    .next (s.putChan ch (c.setFld Reg.PACK_STAT Fld.PACK_STAT_STIFF 0))
  else .next s

/-! ## The peer table (R219, R233) -/

/-- PACK_PEER0 and PACK_PEER1 of a finger. -/
def Finger.peer (f : Finger) : Word × Word :=
  let st := match f.state with
    | .free => 0
    | .acq => 1
    | .valid => 2
    | .lost => 3
  (BitVec.ofNat 32 (f.id.toNat + 1024 * f.idv.toNat + 2 ^ 12 * f.code.toNat + 2 ^ 20 * st + 2 ^ 22 * f.q.toNat),
    BitVec.ofNat 32 (f.x.toNat + 2 ^ 16 * f.w.toNat + 2 ^ 28 * f.age))

/-- Writing PACK_PSEL copies the entry for the writing context (R219). -/
def Chan.packSelect (c : Chan) (k : Ctx) : Chan :=
  let i : Fin 64 := Fin.ofNat 64 (c.fld Reg.PACK_PSEL Fld.PACK_PSEL_IDX)
  { c with pack := { c.pack with peerCopy := c.pack.peerCopy.set k (c.pack.fingers[i]).peer } }

/-! ## Restoration (R220, R221, R224) -/

/-- g = R_f × w in 2^-46 (R220). -/
def Chan.packGain (c : Chan) : Nat := (c.get Reg.LAW_FDROOP).toNat * c.fld Reg.PACK_W Fld.PACK_W_W

/-- x clamped to its range (R220). -/
def packClampX (x : Int) : Int := min (max x (-2 ^ 31)) (2 ^ 31 - 1)

def Chan.setPackX (c : Chan) (x : Int) : Chan := c.put Reg.PACK_X (BitVec.ofInt 32 (packClampX x))

/-- x := SP_OUT(Δf_r) / g; with g = 0, x keeps its value (R224, R225). -/
def Chan.packTrackX (c : Chan) : Chan :=
  let g := c.packGain
  if g = 0 then c else c.setPackX (quantFloor 25 ((c.get (Reg.SP_OUT 4)).toInt * 2 ^ 45) g)

/-- h of R144: DIV × T_nom × PWO in seconds, as numerator and denominator. -/
def Chan.outerSeconds (c : Chan) : Nat × Nat :=
  (max 1 (c.fld Reg.CH_OUTER_DIV Fld.CH_OUTER_DIV_DIV) * c.fld Reg.CH_TICK_DIV Fld.CH_TICK_DIV_CYCLES * c.fLock.2 *
    (c.get Reg.CH_PERIOD_OUT).toNat, max 1 (c.fLock.1 * 2 ^ 30))

/-- The local term, and the target with its clamp: x in 2^-30 and tgt in Q1.31 (R220). -/
def Chan.packTarget (c : Chan) (x : Int) : Int × Int :=
  let g := c.packGain
  let h := c.outerSeconds
  let x := if !c.packLocal || g = 0 then x
    else
      let df := (c.get (Reg.SP_OUT 3)).toInt - (c.get Reg.PACK_FMEAS).toInt
      x + quantFloor 22 (df * h.1 * 2 ^ 76)
        (h.2 * max 1 (c.get Reg.LAW_FBASE).toNat * max 1 (c.fld Reg.PACK_TR Fld.PACK_TR_TR) * g)
  let gx := x * g
  if g = 0 then (packClampX x, 0)
  else if gx.natAbs * 100 ≤ 2 ^ 76 then (packClampX x, quantFloor 23 gx (2 ^ 45))
  else
    let sgn : Int := if gx < 0 then -1 else 1
    (packClampX (quantFloor 24 (sgn * 2 ^ 76) (100 * g)), quantFloor 23 (sgn * 2 ^ 31) 100)

/-- The consensus step over the VALID peers with x and w received and age at most 2 (R220). -/
def Chan.packConsensus (c : Chan) (x : Int) : Int :=
  let own : Int × Int := ((c.fld Reg.PACK_W Fld.PACK_W_W : Int) * 4095 * x, (c.fld Reg.PACK_W Fld.PACK_W_W : Int) * 4095)
  let sn := c.pack.fingers.toList.foldl (fun (a : Int × Int) f =>
    if f.state == .valid && f.xv && f.wv && f.age ≤ 2 then
      (a.1 + (f.w.toNat : Int) * 2 ^ 15 * (f.x.toInt * 2 ^ 20), a.2 + (f.w.toNat : Int) * 2 ^ 15)
    else a) own
  if sn.2 ≤ 0 then x
  else packClampX (x + quantFloor 26 ((sn.1 - sn.2 * x) * c.fld Reg.PACK_CFG Fld.PACK_CFG_KC) (256 * sn.2.toNat))

/-- The restoration of an outer tick (R220); the target goes to the Δf_r limiter. While ME loop 4 is open its output holds
(R162). -/
def Chan.restore (c : Chan) : Chan :=
  if (c.get Reg.ENG_LOOP_OPEN_ME).getLsbD 4 then c
  else
    let r := c.packTarget (c.get Reg.PACK_X).toInt
    let x := if c.pack.consensusDue then c.packConsensus r.1 else r.1
    { c.setPackX x with pack := { c.pack with consensusDue := false, tgt := r.2 } }

/-! ## PACK at a tick boundary -/

/-- Every finger begins to scan, from the own number plus 1 on (R217). -/
def Chan.packScanAll (c : Chan) : Chan :=
  (List.finRange 64).foldl Chan.packScan
    { c with pack := { c.pack with scan := BitVec.ofNat 8 (c.fld Reg.PACK_ID Fld.PACK_ID_ID), fingers := c.pack.fingers.map Finger.freed } }

/-- What a landing change of EN does (R225); `phase` is the random own phase of a rise. -/
def Chan.packEnableEdge (c : Chan) (phase : Nat) : Chan :=
  let en := c.bit Reg.PACK_CFG Fld.PACK_CFG_EN
  if en == c.pack.enabled then c
  else if en then
    let c := (c.setFld Reg.PACK_OWN Fld.PACK_OWN_PHASE phase).setFld Reg.PACK_STAT Fld.PACK_STAT_TX 0
    let c := if c.mode = 4 then c.packTrackX else c
    { c with pack := { c.pack with
      enabled := true, plain := false, leaving := 0, window := none, dup := DupTrack.reset } }.packScanAll.packCount
  else
    let tx := c.bit Reg.PACK_STAT Fld.PACK_STAT_TX
    { c with pack := { c.pack with
      enabled := false, leaving := if c.mode = 4 && tx then 1 else 0, dup := DupTrack.reset,
      fingers := c.pack.fingers.map Finger.freed } }.packCount

/-- Slot 10 or 11 is tagged UNSETTLED or SUBSTITUTED (R183, R185, R216). -/
def Chan.busTagged (c : Chan) : Bool := (c.fe.slots[10]).tag &&& 9 != 0 || (c.fe.slots[11]).tag &&& 9 != 0

/-- The injection of a tick whose mode begins (R224, R226, R227): after RIDE the data bit is 1 until the next own frame; a new
holder goes on where the partner was. -/
def Chan.packEntered (c : Chan) (prev : Nat) : Chan :=
  if c.mode != 4 then c
  else if prev = 6 then { c with pack := { c.pack with plain := true, consensusDue := false } }
  else
    let c := { c with pack := { c.pack with plain := false } }
    if prev = 8 then c.setFld Reg.PACK_STAT Fld.PACK_STAT_TX (if c.pair.peerTx && c.packMayInject then 1 else 0) else c

/-- x and the target in an outer tick or on a mode (R220, R224): the law's step in FORM, tracking, 0, or held. -/
def Chan.packIntegrator (c : Chan) : Chan :=
  let m := c.mode
  if m = 4 && c.pack.enabled then (if c.outer then c.restore else c)
  else if m = 3 || m = 5 || m = 7 then
    { c.packTrackX with pack := { c.pack with tgt := (c.get (Reg.SP_OUT 4)).toInt } }
  else if m = 1 || m = 2 || m = 9 || m = 10 then { c.put Reg.PACK_X 0 with pack := { c.pack with tgt := 0 } }
  else c

/-- PACK at a tick boundary, in the mode of the tick that begins (R216, R224, R226, R230): the chip that takes effect, RIDE's
suspension, x, and in an outer tick its posts; `entered` is whether the mode began at this boundary. -/
def Chan.packTick (c : Chan) (entered : Bool) (prev : Nat) : Chan :=
  let c := { c with pack := { c.pack with d := c.pack.dNext, chipBad := c.pack.chipBad || c.busTagged } }
  let c := if c.mode != 4 then c.packStop else c
  let c := if entered then c.packEntered prev else c
  let c := c.setFld Reg.PACK_STAT Fld.PACK_STAT_SUSP (if c.mode = 6 then 1 else 0)
  let c := if c.mode = 6 then { c with pack := { c.pack with consensusDue := false } } else c
  let c := c.packIntegrator
  if c.outer then (c.post 0xBA (c.get Reg.PACK_X) 0).post 0xBB (BitVec.ofInt 32 c.pack.tgt) 0 else c

end Sys2Proof.Machine
end

