-- ==== Sys2Proof/Machine/Pair.lean ====
section
/-! DEFINITION. Machine/Pair.lean: the redundant pair (10_redundant_pair.md R304 to R340): the mirror link and its frames
and heartbeats, the LEASH, claims and releases, HOUND. Giving up (R331, R332) is `State.giveUp` of Ops. -/

namespace Sys2Proof.Machine

/-- The PRIO that R324 acts on: 0 while the units' PRIO are equal, also after software has cleared PRIOERR (R325). -/
def State.prio (s : State) : Nat :=
  if s.gbit Reg.PAIR_STAT Fld.PAIR_STAT_PRIOERR || s.gbit Reg.PAIR_STAT Fld.PAIR_STAT_PPRIO then 0 else s.gfld Reg.PAIR_STAT Fld.PAIR_STAT_PRIO

/-- The mirror layout identity of the channel's section (R312); 0 without one. -/
def Chan.mlid (c : Chan) : BitVec 16 :=
  match c.img with
  | some g => g.mlid
  | none => 0

/-! ## The LEASH (R317 to R326) -/

/-- The LEASH state shown (R318, R338); a change is a source of the PAIR vector (R469). -/
def State.setLeash (s : State) (ch : ChId) (n : Nat) : State :=
  if s.cs ch Fld.PAIR_CHSTAT_LEASH = n then s else (s.setCs ch Fld.PAIR_CHSTAT_LEASH n).irq 3

/-- An ARMED channel that sees its LEASH RELEASED begins to toggle at once (R322). -/
def State.claimReleased (s : State) (ch : ChId) : State :=
  let p := (s.chan ch).pair
  if s.cs ch Fld.PAIR_CHSTAT_ARMED = 1 && s.cs ch Fld.PAIR_CHSTAT_LEASH = 0 && !p.drive then
    s.onPair ch fun p => { p with drive := true, aLow := true, claim := some .check }
  else s

/-- ARMED follows its conditions (R321, R328): in SHADOW, eligible, not disarmed, not inhibited. A channel that ceases to
be ARMED withdraws a claim under way. -/
def State.rearm (s : State) (ch : ChId) : State :=
  let c := s.chan ch
  let armed := c.mode = 8 && c.pair.eligible && !c.pair.disarm && !s.inhibited ch
  let s := s.setCs ch Fld.PAIR_CHSTAT_ARMED (if armed then 1 else 0)
  if armed then s.claimReleased ch
  else if c.pair.claim.isSome && c.pair.claim != some .host then s.onPair ch PairCh.letGo
  else s

/-- The role of the INVALID record (R538): 0 holder, 1 ARMED, 2 other. -/
def State.leashRole (s : State) (ch : ChId) : Nat :=
  if s.holds ch then 0 else if s.cs ch Fld.PAIR_CHSTAT_ARMED = 1 then 1 else 2

/-- INVALID is declared: the PRIO rule (R324). -/
def State.leashInvalid (s : State) (ch : ChId) : State :=
  let role := s.leashRole ch
  let s := (s.setLeash ch 3).setCs ch Fld.PAIR_CHSTAT_INVSEEN 1
  let s := s.record 0x10 0xF 5 2 (recData [(0, 1, ch.val), (1, 1, role), (2, 1, s.gfld Reg.PAIR_STAT Fld.PAIR_STAT_PRIO)])
  if s.prio = 0 then
    if role = 0 then s.giveUp ch 8 else s.onPair ch PairCh.letGo
  else if role = 0 then s
  else if role = 1 then
    s.onPair ch fun p => { p with drive := true, aLow := if p.drive then p.aLow else true, claim := some .forced }
  else s.onPair ch PairCh.letGo

/-- LEASH_TOGGLE: a unit that toggles changes over which wire it pulls low (R317). -/
def execLeashToggle (ch : ChId) (s : State) : Host.Outcome State Fault Refusal :=
  .next (s.onPair ch fun p => if p.drive then { p with aLow := !p.aLow } else p)

/-- The state of a LEASH (R318). -/
inductive LeashObs where
  | held
  | released
  | invalid
  deriving DecidableEq, Repr

/-- The instants, in kennel cycles back, at which a wire's samples change. -/
def wireEdges (w : List Bool) : List Nat :=
  ((List.range w.length).zip (w.zip (w.drop 1))).filterMap fun x => if x.2.1 != x.2.2 then some x.1 else none

/-- A wire has had at least 4 edges, 150 to 250 ns apart (R318). -/
def wireToggles (w : List Bool) : Bool :=
  let e := wireEdges w
  4 ≤ e.length && (e.zip (e.drop 1)).all fun p => 15 ≤ p.2 - p.1 && p.2 - p.1 ≤ 25

/-- The wires have been at one level for `n` cycles, and never for more than 50 ns. -/
def neverLevel : Nat → List (Bool × Bool) → Bool
  | _, [] => true
  | n, (a, b) :: t => if a == b then n < 5 && neverLevel (n + 1) t else neverLevel 0 t

/-- HELD over the last 1 µs of samples (R318). -/
def leashHeld (w : List (Bool × Bool)) : Bool :=
  let w := w.take 101
  w.length = 101 && wireToggles (w.map (·.1)) && wireToggles (w.map (·.2)) && neverLevel 0 w

/-- RELEASED over the last 1 µs of samples: both wires high without an edge (R318). -/
def leashFree (w : List (Bool × Bool)) : Bool :=
  let w := w.take 101
  w.length = 101 && w.all fun p => p.1 && p.2

/-- The state that the wires show; `samples` are the levels of LSH_A and LSH_B at the unit's balls at the last kennel cycles
of 10 ns, newest first. INVALID: neither state has held for 1 µs without a break (R318). -/
def leashSeen (samples : List (Bool × Bool)) : Option LeashObs :=
  if leashHeld samples then some .held
  else if leashFree samples then some .released
  else if 201 ≤ samples.length && (List.range 101).all (fun k => !leashHeld (samples.drop k) && !leashFree (samples.drop k))
  then some .invalid
  else none

/-- LEASH_STATE_CHANGE: the state declared at the unit's balls (R318, R321, R322, R324, R326). -/
def execLeashStateChange (ch : ChId) (samples : List (Bool × Bool)) (s : State) : Host.Outcome State Fault Refusal :=
  match leashSeen samples with
  | none => .next s
  | some .held =>
    if s.holds ch then .next (s.setLeash ch 1)
    else
      let s := (s.setLeash ch 2).setCs ch Fld.PAIR_CHSTAT_GUARD 0
      let s := if (s.chan ch).mode = 8 then s.onPair ch fun p => { p with eligible := true } else s
      .next (s.rearm ch)
  | some .released => .next ((s.setLeash ch 0).claimReleased ch)
  | some .invalid => .next (s.leashInvalid ch)

/-- LEASH_READBACK_FAULT: what a driving unit's readback of its wires shows (R319). -/
def execLeashReadbackFault (ch : ChId) (what : ReadbackObs) (s : State) : Host.Outcome State Fault Refusal :=
  if !(s.chan ch).pair.drive then .next s
  else match what with
    | .releasedLow => .next (s.leashInvalid ch)
    | .pulledHigh => .next (s.leashInvalid ch)
    | .bothHigh => .next (s.giveUp ch 7)

/-- CLAIM_CHECK_END: the claim's time has passed with a clean readback; a host's claim in HALT then holds the LEASH, and a
claim from SHADOW takes the channel at its next boundary (R322 to R324; log 40). -/
def execClaimCheckEnd (ch : ChId) (s : State) : Host.Outcome State Fault Refusal :=
  match (s.chan ch).pair.claim with
  | some .host => .next (((s.groupDiscard ch).onPair ch fun p => { p with claim := none }).setLeash ch 1)
  | some .check => .next ((s.onPair ch fun p => { p with claim := some .ready }).setLeash ch 1)
  | some .forced => .next ((s.onPair ch fun p => { p with claim := some .ready }).setLeash ch 1)
  | _ => .next s

/-- RELEASE_GUARD_EXPIRY: with the LEASH still RELEASED the channel becomes ARMED and takes it back (R326). -/
def execReleaseGuardExpiry (ch : ChId) (s : State) : Host.Outcome State Fault Refusal :=
  if s.cs ch Fld.PAIR_CHSTAT_GUARD = 1 then
    let s := s.setCs ch Fld.PAIR_CHSTAT_GUARD 0
    let s := if (s.chan ch).mode = 8 then s.onPair ch fun p => { p with eligible := true } else s
    .next (s.rearm ch)
  else .next s

/-- Release the LEASH for a host request (R192, R323): GUCAUSE 9; no GAVEUP, no count and no record (R332, R340;
log 43). -/
def State.hostRelease (s : State) (ch : ChId) : State :=
  ((((s.groupDiscard ch).onPair ch PairCh.letGo).gatesFollow ch).contactors ch).setCs ch Fld.PAIR_CHSTAT_GUCAUSE 9

/-- A takeover at a boundary (R322): the mode is entered by the mode controller. -/
def State.taken (s : State) (ch : ChId) (mode : Nat) : State :=
  let c := s.chan ch
  let s := (s.groupDiscard ch).onPair ch fun p => { p with claim := none, padsEn := true }
  let s := s.onChan ch fun c => { c.setFld Reg.PACK_STAT Fld.PACK_STAT_TX (if c.pair.peerTx then 1 else 0) with
    pwm := { c.pwm with resume := decide (3 ≤ mode ∧ mode ≤ 7) } }
  let s := ((s.setCs ch Fld.PAIR_CHSTAT_TAKEN 1).countG Reg.PAIR_CNT1 false false).irq 3
  s.record 0x10 0xF 3 2 (recData [(0, 1, ch.val), (1, 1, mode), (2, 1, c.fld Reg.CH_ALIGN Fld.CH_ALIGN_LOCKED),
    (4, 2, c.fld Reg.CH_ALIGN Fld.CH_ALIGN_ERR)])

/-- Entry into SHADOW (R310, R321, R328, R339): nothing of an earlier stay remains. -/
def State.pairEnterShadow (s : State) (ch : ChId) (guard : Bool) : State :=
  let s := s.onPair ch fun p => { p with
    eligible := false, disarm := false, frame := none, lastTick := none, mode := none, fresh := false, err := 0,
    acquired := false, insert := 0, slope := 0, moving := false, good := 0,
    badErr := 0, noFrame := 0, own := [], uvn := 0, peerTx := false, failRun := 0, diverge := false, failed := false,
    framesIn := false, results := 0, done := 0, reports := 0 }
  let s := s.onChan ch fun c =>
    (c.setFld Reg.CH_ALIGN Fld.CH_ALIGN_LOCKED 0).setFld Reg.CH_ALIGN Fld.CH_ALIGN_FRAMES 0
  let s := s.setCs ch Fld.PAIR_CHSTAT_TMIS 0
  let s := s.setCs ch Fld.PAIR_CHSTAT_GUARD (if guard then 1 else 0)
  let s := if s.cs ch Fld.PAIR_CHSTAT_LEASH = 2 then s.onPair ch fun p => { p with eligible := true } else s
  s.rearm ch

/-! ## Writes of this chapter's registers (R323, R335) -/

/-- The CLAIM bits of a write, channel by channel: the state, and whether a bit was rejected. -/
def State.claimBits (v : Word) : List ChId → State × Bool → State × Bool
  | [], r => r
  | ch :: t, (s, rej) =>
    if !v.getLsbD ch.val then State.claimBits v t (s, rej)
    else if (s.chan ch).mode = 1 && s.cs ch Fld.PAIR_CHSTAT_LEASH = 0 && !(s.chan ch).pair.drive then
      State.claimBits v t
        (s.onPair ch fun p => { p with drive := true, aLow := true, claim := some .host }, rej)
    else State.claimBits v t (s, true)

/-- The RELEASE bits of a write. -/
def State.releaseBits (v : Word) : List ChId → State × Bool → State × Bool
  | [], r => r
  | ch :: t, (s, rej) =>
    if !v.getLsbD (16 + ch.val) then State.releaseBits v t (s, rej)
    else if (s.chan ch).mode = 1 && s.holds ch then State.releaseBits v t (s.hostRelease ch, rej)
    else State.releaseBits v t (s, true)

/-- A change of PAIR_STAT.LINK, TXUP and RXUP, with its record (R307). -/
def State.setLink (s : State) (link txup rxup : Nat) : State :=
  let was := s.gfld Reg.PAIR_STAT Fld.PAIR_STAT_LINK
  let s := (s.gset Reg.PAIR_LINK Fld.PAIR_LINK_TXUP txup).gset Reg.PAIR_LINK Fld.PAIR_LINK_RXUP rxup
  if was = link then s
  else (s.gset Reg.PAIR_STAT Fld.PAIR_STAT_LINK link).record 0x10 0xF 1 1
    (recData [(0, 1, link), (1, 1, txup + 4 * rxup), (2, 2, s.gfld Reg.PAIR_LINK Fld.PAIR_LINK_DELAY)])

/-- RETRAIN: both directions return to training; each that was up is counted (R307, R340). -/
def State.retrain (s : State) : State :=
  let t := s.gfld Reg.PAIR_LINK Fld.PAIR_LINK_TXUP
  let r := s.gfld Reg.PAIR_LINK Fld.PAIR_LINK_RXUP
  let s := if t = 3 then s.countG Reg.PAIR_CNT0 true false else s
  let s := if r = 3 then s.countG Reg.PAIR_CNT0 true false else s
  s.setLink 1 0 0

/-- A write of PAIR_CTL; true: something was rejected (R335). -/
def State.writePairCtl (s : State) (v : Word) : State × Bool :=
  if !s.isPair then (s, true)
  else
    let r := State.claimBits v (List.finRange 12) (s, false)
    let r := State.releaseBits v (List.finRange 12) r
    if v.getLsbD 28 then (r.1.retrain, r.2) else r

/-- The range test of a write of PAIR_HB, HND_CFG or HND_TOL (R335, R337). -/
def pairRangeOk (off : Nat) (v : Word) : Bool :=
  if off = Reg.PAIR_HB then
    300 ≤ getField v Fld.PAIR_HB_TO && getField v Fld.PAIR_HB_TO ≤ 10000
  else if off = Reg.HND_CFG then
    1 ≤ getField v Fld.HND_CFG_NMAX && 1 ≤ getField v Fld.HND_CFG_VERIFY
  else if off = Reg.HND_TOL then
    65536 ≤ 10000 * getField v Fld.HND_TOL_TOLM && getField v Fld.HND_TOL_TOLM ≤ 32768 &&
      65536 ≤ 10000 * getField v Fld.HND_TOL_TOLW && getField v Fld.HND_TOL_TOLW ≤ 32768
  else true

/-- A rejection of this chapter's registers: PAIR_STAT.REJ and the write-rejected record (R335, R537). -/
def State.pairReject (s : State) (off : Nat) (v : Word) (src : Nat) : State :=
  (s.gset Reg.PAIR_STAT Fld.PAIR_STAT_REJ 1).rejectRecord 0x10 0xF off v src 0

/-! ## The state frame (R309, R313) -/

/-- Join fields given as (lowest bit, width, value). -/
def packFields : List (Nat × Nat × Nat) → Word
  | [] => 0
  | (lo, w, v) :: t => (BitVec.ofNat 32 (v % 2 ^ w) <<< lo) ||| packFields t

/-- The pulses left of a leg's refresh sequence; a frame's four bits show 16 of them as 15 (DEDUCED, log 67). -/
def LegState.left : LegState → Nat
  | .due n => n
  | .seq n => n
  | _ => 0

/-- The data words that the image's mirror list names (R309). -/
def Chan.mirrorList (c : Chan) : List (Eng × BitVec 11) :=
  match c.img with
  | some g => g.mirror
  | none => []

/-- A data word of an engine. -/
def Chan.dataWord (c : Chan) (k : Eng × BitVec 11) : Int :=
  ((match k.1 with | .fe => c.fe | .me => c.me).getData k.2.toNat).toInt

/-- The states in the order of the mirror list, W14 to W23, then W24 to W27 of page 0 and of page 1: the reference law's
(R313), or for other programs than the block library's the data words that the list names (R35, R309). -/
def Chan.lawStates (c : Chan) : List Int :=
  let l := c.law
  if !l.on then (List.range 18).map fun k => match c.mirrorList[k]? with
    | some m => c.dataWord m
    | none => 0
  else [l.theta, l.xv.1, l.xv.2, l.xi.1, l.xi.2, l.xvn.1, l.xvn.2, l.xin.1, l.xin.2, l.xPll,
   l.wd, l.pf, l.qf, (c.get Reg.PACK_X).toInt, l.ip, l.iq, l.pmHeld, l.eHeld]

/-- A data word of an engine replaced. -/
def Chan.setDataWord (c : Chan) (k : Eng × BitVec 11) (x : Int) : Chan :=
  match k.1 with
  | .fe => { c with fe := c.fe.setData k.2.toNat (BitVec.ofInt 32 x) }
  | .me => { c with me := c.me.setData k.2.toNat (BitVec.ofInt 32 x) }

/-- The states replaced, in the order of the mirror list. -/
def Chan.withLawStates (c : Chan) (x : List Int) : Chan :=
  if !c.law.on then (c.mirrorList.zip x).foldl (fun c kx => c.setDataWord kx.1 kx.2) c
  else
  let l := { c.law with
    theta := x.getD 0 0, xv := (x.getD 1 0, x.getD 2 0), xi := (x.getD 3 0, x.getD 4 0),
    xvn := (x.getD 5 0, x.getD 6 0), xin := (x.getD 7 0, x.getD 8 0), xPll := x.getD 9 0,
    wd := x.getD 10 0, pf := x.getD 11 0, qf := x.getD 12 0, ip := x.getD 14 0, iq := x.getD 15 0,
    pmHeld := x.getD 16 0, eHeld := x.getD 17 0 }
  { c with law := l }.put Reg.PACK_X (BitVec.ofInt 32 (x.getD 13 0))

/-- The places of the mirror list that a frame of `page` carries in W14 to W27. -/
def mirrorPlaces (page : Nat) : List Nat :=
  [0, 1, 2, 3, 4, 5, 6, 7, 8, 9] ++ (if page = 0 then [10, 11, 12, 13] else [14, 15, 16, 17])

/-- A state as a word: a data word as it stands; of the reference law θ in Q1.31 of π, the others in the image's format. -/
def Chan.mirrorEncode (c : Chan) (place : Nat) (x : Int) : Word :=
  if place = 0 || !c.law.on then BitVec.ofInt 32 x else Config.mirrorWord place x

def Chan.mirrorDecode (c : Chan) (place : Nat) (w : Word) : Int :=
  if place = 0 || !c.law.on then w.toInt else Config.mirrorValue place w

/-- The present ramp slope in 0.1 ppm/µs, signed (R309 W7). -/
def Chan.rampSlope (c : Chan) : Int :=
  match c.pll.profile with
  | [] => 0
  | g :: _ =>
    if c.bit Reg.PLL_RAMP Fld.PLL_RAMP_HOLD then 0
    else if (c.get Reg.PLL_OFS).toInt ≤ g.tgt then g.slope else -(g.slope : Int)

/-- W0 to W30 of the state frame after tick `n` (R309), at time `now` of the active reference in ns; `txOfs` is the time
from the input-latch cycle to the first symbol. -/
def Chan.mirrorWords (c : Chan) (ch : ChId) (now : Nat) (txOfs : BitVec 18) : List Word :=
  let n := c.tickCount
  let div := c.fld Reg.CH_OUTER_DIV Fld.CH_OUTER_DIV_DIV
  let oph := n % max 1 div
  let m := fun f => c.fld Reg.CH_MODE_STAT f
  let rf := fun i : Fin 12 => c.pwm.refCount[i]
  let seq := fun i : Fin 3 => min 15 (c.pwm.legs[i]).left
  let page := n % 2
  let xs := c.lawStates
  let i := n % 5
  let w0 := packFields [(0, 16, n), (16, 6, oph), (22, 4, ch.val), (26, 4, 1)]
  let w1 := packFields [(0, 4, c.mode), (4, 1, if oph = 0 then 1 else 0), (5, 1, m Fld.CH_MODE_STAT_K1_REQ),
    (6, 1, m Fld.CH_MODE_STAT_K2_REQ), (7, 5, c.fld Reg.CH_MODE_CUR Fld.CH_MODE_CUR_TCAUSE), (12, 7, div)]
  let w2 := packFields [(0, 16, (c.get Reg.HO_STAT).toNat), (16, 1, c.fld Reg.PWM_STAT Fld.PWM_STAT_PHASE),
    (17, 3, c.fld Reg.PWM_STAT Fld.PWM_STAT_LEGOFF), (20, 1, c.fld Reg.PWM_STAT Fld.PWM_STAT_ZDEF),
    (21, 1, c.fld Reg.PWM_STAT Fld.PWM_STAT_BRK)]
  let w3 := packFields [(0, 7, rf 0), (7, 7, rf 1), (14, 7, rf 4), (21, 7, rf 5)]
  let w4 := packFields [(0, 7, rf 8), (7, 7, rf 9), (14, 4, seq 0), (18, 4, seq 1), (22, 4, seq 2),
    (26, 4, (recentTimes now c.pwm.uvTimes).length)]
  let w5 := packFields [(0, 14, if c.pwm.brakeHold then (c.pwm.brakeEnd - now) / 10 else 0), (14, 1, if c.pwm.brakeOn then 0 else 1),
    (15, 1, if c.brakeDemand && !c.pwm.brakeOn then 1 else 0),
    (16, 10, match c.pwm.legOffAt with | some t => min 1023 ((now - t) / 1000000) | none => 0)]
  let w7 := packFields [(0, 15, (BitVec.ofInt 15 c.rampSlope).toNat), (15, 4, c.fld Reg.PLL_RAMP Fld.PLL_RAMP_SEG),
    (19, 1, c.fld Reg.PLL_RAMP Fld.PLL_RAMP_BUSY), (20, 1, c.fld Reg.PLL_RAMP Fld.PLL_RAMP_HOLD)]
  let per := c.fld Reg.PACK_OWN Fld.PACK_OWN_PERIOD
  let w8 := packFields [(0, 8, c.packOwnChip), (8, 9, min 499 ((now - c.pack.chipAt) / 10000)), (17, 5, per),
    (22, 1, if 0 < c.packBit then 1 else 0), (23, 2, c.pack.order),
    (25, 1, c.fld Reg.PACK_STAT Fld.PACK_STAT_TX), (26, 1, c.fld Reg.PACK_STAT Fld.PACK_STAT_BACKOFF),
    (27, 1, c.fld Reg.PACK_STAT Fld.PACK_STAT_DUP), (28, 4, c.fld Reg.PACK_OWN Fld.PACK_OWN_BOFF)]
  let st := (mirrorPlaces page).map fun k => c.mirrorEncode k (xs.getD k 0)
  let w30 := packFields [(0, 18, txOfs.toNat), (18, 3, i), (21, 1, page), (22, 10, (c.get Reg.LAW_STAT).toNat)]
  [w0, w1, w2, w3, w4, w5, c.get Reg.PLL_OFS, w7, w8, c.pwm.applied[0], c.pwm.applied[1], c.pwm.applied[2],
    c.sp[0], c.sp[1]] ++ st ++ [c.get (Reg.SP_OUT i), c.get (Reg.SP_VEL i), w30]

/-- A frame with its CRC in the last word. -/
def withCrc (ws : List Word) : List Word := ws ++ [crc32c (bytesOf ws)]

/-- MIRROR_FRAME_SEND: the holder's channel has finished tick n and sends its frame (R35, R308). -/
def execMirrorFrameSend (ch : ChId) (txOfs : BitVec 18) (s : State) : Host.Outcome State Fault Refusal :=
  let c := s.chan ch
  if s.isPair && s.holds ch && c.ticking && c.enginesDone && s.gfld Reg.PAIR_STAT Fld.PAIR_STAT_LINK = 2 then
    .next { s with link := { s.link with sentFrame := withCrc (c.mirrorWords ch s.time.refNs txOfs) } }
  else .next s

/-- A duration of `n` 2^-16 reference cycles in 0.25 ns. -/
def quarterNs (fnom n : Nat) : Int := quantFloor 18 ((n * 4000000 : Nat) : Int) (65536 * fnom)

/-- Where a frame whose first symbol arrives `since` 0.25 ns after the channel's latest input latch stands (R61, R311): the
number of own ticks back to the one whose latch lies nearest to the active's, and the own latch less the active's. The
active's latch is the arrival less TX_OFS and DELAY; the own latches go back by the durations of the last ticks. -/
def Chan.framePhase (c : Chan) (delay : Nat) (f : List Word) (since : Nat) : Nat × Int :=
  let x : Int := ((f.getD 30 0).extractLsb' 0 18).toNat + delay - since
  let err := fun m => x - quarterNs c.pll.fnom (c.pair.spans.take m).sum
  (List.range c.pair.spans.length).foldl (fun b m => if (err (m + 1)).natAbs < b.2.natAbs then (m + 1, err (m + 1)) else b)
    (0, err 0)

/-- MIRROR_FRAME_RECEIVE: the test of R310; `since` is the time in 0.25 ns from the latest input latch of the channel that
the frame names to its first symbol. A frame that fails the test counts in FRBAD of the channel it names (log 44). -/
def execMirrorFrameReceive (frame : List Word) (since : Nat) (s : State) : Host.Outcome State Fault Refusal :=
  let w0 := frame.getD 0 0
  let n := (w0.extractLsb' 22 4).toNat
  if h : n < 12 then
    let ch : ChId := ⟨n, h⟩
    let c := s.chan ch
    let tick := w0.extractLsb' 0 16
    let inOrder := match c.pair.lastTick with
      | some t => 1 ≤ (tick - t).toNat && (tick - t).toNat ≤ 4
      | none => true
    if frame.length = 32 && frame.getD 31 0 = crc32c (bytesOf (frame.take 31)) && w0.extractLsb' 26 4 = 1 &&
        s.cs ch Fld.PAIR_CHSTAT_LEASH = 2 && inOrder then
      let r := c.framePhase (s.gfld Reg.PAIR_LINK Fld.PAIR_LINK_DELAY) frame since
      .next (s.onPair ch fun p => { p with
        frame := some frame, lastTick := some tick, mode := some ((frame.getD 1 0).extractLsb' 0 4), framesIn := true,
        fresh := true, back := r.1, err := r.2 })
    else .next (s.countG (Reg.HND_CNT ch) true false)
  else .next s

/-! ## Applying a frame in SHADOW (R311, R314, R327) -/

/-- A leg as a frame shows it (R266). DEDUCED (log 67): a frame does not tell a leg that is off from one that is about to
rejoin; the standby takes it for off while its own view of the leg's inputs does. -/
def mirroredLeg (left : Nat) (off unreleased : Bool) : LegState :=
  if 0 < left then .seq left else if !off then .on else if unreleased then .off else .rejoin

/-- W1 to W5 and W8 (R181, R227, R266, R311). -/
def Chan.applyPwm (c : Chan) (f : List Word) (now : Nat) : Chan :=
  let w := fun i => f.getD i 0
  let bits := fun i lo n => ((w i).extractLsb' lo n).toNat
  let uvn := bits 4 26 4
  let ts := if c.pair.uvn ≤ uvn then c.pwm.uvTimes ++ List.replicate (uvn - c.pair.uvn) now
    else c.pwm.uvTimes.drop (c.pair.uvn - uvn)
  let rc : List (Nat × Nat × Nat) := [(3, 0, 0), (3, 7, 1), (3, 14, 4), (3, 21, 5), (4, 0, 8), (4, 7, 9)]
  let refs : Vector Nat 12 := Vector.ofFn fun l : Fin 12 =>
    match rc.find? (fun r => r.2.2 = l.val) with
    | some (i, lo, _) => bits i lo 7
    | none => c.pwm.refCount[l]
  let legs : Vector LegState 3 := Vector.ofFn fun i : Fin 3 =>
    mirroredLeg (bits 4 (14 + 4 * i.val) 4) ((w 2).getLsbD (17 + i.val)) (c.pwm.unreleased.getLsbD i.val)
  let p := { c.pwm with
    refCount := refs, legs := legs, uvTimes := ts, brakeOn := (w 2).getLsbD 21, brakeHold := decide (0 < bits 5 0 14),
    brakeEnd := now + 10 * bits 5 0 14,
    legOffAt := if bits 2 17 3 = 0 then none else some (now - 1000000 * bits 5 16 10) }
  let per := bits 8 17 5
  let fr := if (w 8).getLsbD 22 then c.pack.frame ||| (1#24 <<< (23 - per)) else c.pack.frame &&& ~~~(1#24 <<< (23 - per))
  let k := { c.pack with
    chip := (bits 8 0 8 + 255 - c.fld Reg.PACK_OWN Fld.PACK_OWN_PHASE) % 255, chipAt := now - 10000 * bits 8 8 9, order := bits 8 23 2, frame := fr }
  let c := { c with pwm := p, pack := k, pair := { c.pair with uvn := uvn, peerTx := (w 8).getLsbD 25 } }
  let c := c.setFld Reg.PWM_STAT Fld.PWM_STAT_LEGOFF (bits 2 17 3)
  let c := (c.setFld Reg.PACK_OWN Fld.PACK_OWN_PERIOD per).setFld Reg.PACK_OWN Fld.PACK_OWN_BOFF (bits 8 28 4)
  let c := (c.setFld Reg.PACK_STAT Fld.PACK_STAT_BACKOFF (bits 8 26 1)).setFld Reg.PACK_STAT Fld.PACK_STAT_DUP (bits 8 27 1)
  (c.setFld Reg.CH_MODE_STAT Fld.CH_MODE_STAT_K1_REQ (bits 1 5 1)).setFld Reg.CH_MODE_STAT Fld.CH_MODE_STAT_K2_REQ
    (bits 1 6 1)

/-- The state words: x + (x_a − x_s) with the own value of tick n, or x_a where there is none (R311). -/
def Chan.applyStates (c : Chan) (f : List Word) (own : Option OwnTick) : Chan :=
  let page := ((f.getD 30 0).extractLsb' 21 1).toNat
  let ps := mirrorPlaces page
  let step := fun (xs : List Int) (jk : Nat × Nat) =>
    let a := c.mirrorDecode jk.2 (f.getD (14 + jk.1) 0)
    xs.set jk.2 (match own with
      | some o => xs.getD jk.2 0 + (a - o.states.getD jk.2 0)
      | none => a)
  c.withLawStates (((List.range 14).zip ps).foldl step c.lawStates)

/-- Whether two words, as signed values, lie within `tol` × 2^`k` of each other. -/
def withinTol (a b : Word) (tol k : Nat) : Bool := (a.toInt - b.toInt).natAbs ≤ tol * 2 ^ k

/-- The comparison of R327: the legs within TOLM, ω and E within TOLW. -/
def houndCompare (f : List Word) (o : OwnTick) (tolm tolw : Nat) : Bool × Bool :=
  (withinTol o.legs[0] (f.getD 9 0) tolm 15 && withinTol o.legs[1] (f.getD 10 0) tolm 15 &&
    withinTol o.legs[2] (f.getD 11 0) tolm 15,
   withinTol o.w (f.getD 12 0) tolw 14 && withinTol o.e (f.getD 13 0) tolw 14)

/-- Whether the mode field of a frame is a driving mode (R174). -/
def drivingCode (m : Nat) : Bool := 3 ≤ m && m ≤ 7

/-- PHASE at the latch `lag` ticks after the tick that a frame follows: it has changed at each update point since
(R266). -/
def mirroredPhase (f : List Word) (lag : Nat) : Nat := (((f.getD 2 0).extractLsb' 16 1).toNat + lag + 1) % 2

/-- The acquisition step at the latch of a tick, on a frame for the own tick `lag` ticks back (R62): the tick is lengthened
by the cycles that bring e to within one cycle, to the partner's next latch where the own one comes late, and CH_TICK_CNT
advances until it agrees with the partner's modulo DIV. -/
def Chan.acquire (c : Chan) (f : List Word) (lag : Nat) : Chan :=
  let n := quantFloor 16 (-c.pair.err * c.clockHz.1) (4000000000 * c.clockHz.2)
  let late := if n < 0 then 1 else 0
  let div := max 1 (c.fld Reg.CH_OUTER_DIV Fld.CH_OUTER_DIV_DIV)
  let oph := ((f.getD 0 0).extractLsb' 16 6).toNat
  let adv := (oph + lag + late + (div - c.tickCount % div)) % div
  let c := { c with pair := { c.pair with
    acquired := true, insert := (n % max 1 (c.fld Reg.CH_TICK_DIV Fld.CH_TICK_DIV_CYCLES)).toNat } }
  (c.setTickCount (c.tickCount + adv)).setFld Reg.PWM_STAT Fld.PWM_STAT_PHASE (mirroredPhase f (lag + late))

/-- The alignment loop on an applied frame (R63): the offset that the frame carries, moved on at its slope to the present
latch, and the correction of a newly measured e, whose law the spec leaves open (log 34); within ±8 % (R287). -/
def Chan.steer (c : Chan) (f : List Word) (lag : Nat) (fresh : Bool) : Chan :=
  let slope := ((f.getD 7 0).extractLsb' 0 15).toInt
  let ahead := quantFloor 17 (slope * 10000 * ((c.pair.spans.take lag).sum : Nat)) c.rampDen
  let o := (f.getD 6 0).toInt + ahead + if fresh then Config.alignStep c.pair.err else 0
  { c.put Reg.PLL_OFS (BitVec.ofInt 32 (min (max o (-ofsMax)) ofsMax)) with
    pair := { c.pair with slope := slope, moving := true } }

/-- The two quantities that a blend may take, each as applied and as its path gives it (R196): v*_C, then i*_L. -/
def Chan.blendRefs (c : Chan) : List (Int × Int) :=
  [c.law.vcRef, c.law.vz, c.law.ilRef, if c.mode = 5 then c.law.follow else c.law.iv]

/-- W2's blend: HO_STAT as the frame for tick n has it; where the blend begins at tick n, the own Δ of tick n is the quantity
as applied in the tick before, less the path's at tick n (R196, R311). -/
def Chan.applyBlend (c : Chan) (f : List Word) (lag : Nat) : Chan :=
  let w := (f.getD 2 0) &&& 0xFFFF
  let len := max 1 (c.fld Reg.HO_CFG Fld.HO_CFG_LEN)
  let c' := c.put Reg.HO_STAT ((c.get Reg.HO_STAT &&& 0xFFFF0000) ||| w)
  let begins := getField w Fld.HO_STAT_ACT = 1 && getField w Fld.HO_STAT_REM = len - 1
  let k := 2 * (getField w Fld.HO_STAT_QTY - 1)
  match begins, c.pair.own[lag - 1]?, c.pair.own[lag]? with
  | true, some n, some p =>
    let a := p.refs.getD k (0, 0)
    let b := n.refs.getD (k + 1) (0, 0)
    { c' with ctl := { c'.ctl with blendLen := len }, law := { c'.law with delta := (a.1 - b.1, a.2 - b.2) } }
  | true, _, _ => { c' with ctl := { c'.ctl with blendLen := len } }
  | false, _, _ => c'

/-- The partner's quantities that a tick with an applied frame posts (R314); `cmp`: the comparison's bits. -/
def Chan.postPartner (c : Chan) (f : List Word) (lag : Nat) (cmp : Word) : Chan :=
  let w := fun i => f.getD i 0
  let err := (c.get Reg.CH_ALIGN).setWidth 16
  [(0xC0, w 9), (0xC1, w 10), (0xC2, w 11), (0xC3, w 12), (0xC4, w 13), (0xC5, w 14), (0xC6, w 1), (0xC7, (w 30) >>> 22),
    (0xC8, w 6), (0xC9, err.signExtend 32), (0xCA, packFields [(0, 16, (w 0).toNat), (16, 2, lag)]), (0xCB, cmp)].foldl
    (fun c qw => c.post qw.1 qw.2 0) c

/-- A valid frame for own tick k − `lag` applied at the input-latch cycle of tick k; `fresh`: it has come in the tick that
has ended (R311, R314, R315, R327). -/
def State.applyFrame (s : State) (ch : ChId) (f : List Word) (lag : Nat) (fresh : Bool) : State :=
  let c := s.chan ch
  let own := c.pair.own[lag - 1]?
  let div := c.fld Reg.CH_OUTER_DIV Fld.CH_OUTER_DIV_DIV
  let tmis := ((f.getD 1 0).extractLsb' 12 7).toNat != div
  let c := if c.pair.acquired then (c.steer f lag fresh).setFld Reg.PWM_STAT Fld.PWM_STAT_PHASE (mirroredPhase f lag)
    else if !tmis && fresh then (c.acquire f lag).steer f lag fresh else c
  let c := c.applyPwm f s.time.refNs
  let c := c.applyBlend f lag
  let c := if s.cs ch Fld.PAIR_CHSTAT_XLAYOUT = 1 then c else c.applyStates f own
  let i := ((f.getD 30 0).extractLsb' 18 3).toNat
  let c := if i < 5 then (c.put (Reg.SP_OUT i) (f.getD 28 0)).put (Reg.SP_VEL i) (f.getD 29 0) else c
  let made := own.isSome && drivingCode ((f.getD 1 0).extractLsb' 0 4).toNat
  let r := match own with
    | some o => houndCompare f o (s.gfld Reg.HND_TOL Fld.HND_TOL_TOLM) (s.gfld Reg.HND_TOL Fld.HND_TOL_TOLW)
    | none => (false, false)
  let fail := made && !(r.1 && r.2)
  let run := if fail then c.pair.failRun + 1 else if made then 0 else c.pair.failRun
  let c := { c with pair := { c.pair with
    good := if tmis then 0 else c.pair.good, failRun := run, failed := c.pair.failed || fail,
    diverge := c.pair.diverge || (fail && s.gfld Reg.HND_CFG Fld.HND_CFG_NMAX ≤ run) } }
  let c := c.postPartner f lag (packFields [(0, 1, if made && r.1 then 1 else 0), (1, 1, if made && r.2 then 1 else 0),
    (2, 1, if made then 1 else 0)])
  let s := ((s.putChan ch c).uvJudge ch).setCs ch Fld.PAIR_CHSTAT_TMIS (if tmis then 1 else 0)
  if fail then s.countG (Reg.HND_CNT ch) false false else s

/-- At a boundary: whether a valid frame has come in the tick that ended, in FRAMES and in the run of ticks without one
(R64, R66); the latest frame is one tick older. -/
def Chan.noteFrame (c : Chan) : Chan :=
  { c.setFld Reg.CH_ALIGN Fld.CH_ALIGN_FRAMES (if c.pair.fresh then 1 else 0) with
    pair := { c.pair with
      fresh := false, back := c.pair.back + 1, noFrame := if c.pair.fresh then 0 else c.pair.noFrame + 1 } }

/-- A phase error that the tick has measured (R61, R64, R66): ERR, and the runs of ticks within and beyond 4 ns. -/
def Chan.noteError (c : Chan) : Chan :=
  let good := c.pair.err.natAbs ≤ 16
  let e := min (max c.pair.err (-32768)) 32767
  { c.setFld Reg.CH_ALIGN Fld.CH_ALIGN_ERR (BitVec.ofInt 16 e).toNat with
    pair := { c.pair with good := if good then c.pair.good + 1 else 0, badErr := if good then 0 else c.pair.badErr + 1 } }

/-- The boundary of a channel in SHADOW: the phase error, and the latest valid frame where it is for tick k − 1 or k − 2;
else nothing is applied and the clock holds (R63, R64, R311). DESIGN CHOICE (log 35): a tick without a measured e ends the
run of ticks within 4 ns and leaves the run beyond 4 ns as it is. DEDUCED (log 35): a frame that is still for tick k − 2 is
applied once more where no newer one has come. -/
def State.shadowBoundary (s : State) (ch : ChId) : State :=
  let c := s.chan ch
  let fresh := c.pair.noFrame = 0
  let s := s.putChan ch (if fresh then c.noteError else { c with pair := { c.pair with good := 0 } })
  let lag := c.pair.back
  match c.pair.frame with
  | some f =>
    if lag = 1 || lag = 2 then s.applyFrame ch f lag fresh
    else s.onPair ch fun p => { p with slope := 0, moving := false }
  | none => s.onPair ch fun p => { p with slope := 0, moving := false }

/-- Keep the own values of the tick just ended (R311). -/
def Chan.keepOwn (c : Chan) : Chan :=
  let o : OwnTick := ⟨c.pwm.applied, c.sp[0], c.sp[1], c.lawStates, c.blendRefs⟩
  { c with pair := { c.pair with own := (o :: c.pair.own).take 4 } }

/-- ALIGN_LOCKED: 16 consecutive ticks with |e| ≤ 4 ns (R64). -/
def execAlignLocked (ch : ChId) (s : State) : Host.Outcome State Fault Refusal :=
  let c := s.chan ch
  if c.mode = 8 && 16 ≤ c.pair.good then .next (s.putChan ch (c.setFld Reg.CH_ALIGN Fld.CH_ALIGN_LOCKED 1)) else .next s

/-- ALIGN_UNLOCKED: 4 consecutive ticks out of tolerance or without a valid frame (R64). -/
def execAlignUnlocked (ch : ChId) (s : State) : Host.Outcome State Fault Refusal :=
  let c := s.chan ch
  if 4 ≤ c.pair.badErr || 4 ≤ c.pair.noFrame then .next (s.putChan ch (c.setFld Reg.CH_ALIGN Fld.CH_ALIGN_LOCKED 0))
  else .next s

/-! ## Link and heartbeats (R307, R312, R316, R325) -/

/-- The partner's PRIO (R325). -/
def State.setPartnerPrio (s : State) (p : Bool) : State :=
  let s := s.gset Reg.PAIR_STAT Fld.PAIR_STAT_PPRIO (if p then 1 else 0)
  if p == s.gbit Reg.PAIR_STAT Fld.PAIR_STAT_PRIO then s.gset Reg.PAIR_STAT Fld.PAIR_STAT_PRIOERR 1 else s

/-- XLAYOUT of every channel from the partner's layout identities (R312). -/
def State.compareMlids (s : State) (ids : List (BitVec 16)) : State :=
  (List.finRange 12).foldl (fun s ch => s.setCs ch Fld.PAIR_CHSTAT_XLAYOUT
    (if ids.getD ch.val 0 = (s.chan ch).mlid then 0 else 1)) { s with link := { s.link with mlids := ids } }

/-- LINK_TRAINING_END: lanes aligned and the delay measured (units of 0.25 ns); beyond 500 ns the link stays in training
(R307). -/
def execLinkTrainingEnd (rsp : TrainObs) (s : State) : Host.Outcome State Fault Refusal :=
  if !s.isPair then .next s
  else
    let s := s.gset Reg.PAIR_LINK Fld.PAIR_LINK_DELAY (min 4095 rsp.delay)
    if 2000 < rsp.delay then .next (s.setLink 1 0 0)
    else .next (((s.setLink 2 3 3).setPartnerPrio rsp.prio).compareMlids rsp.mlids)

/-- LINK_DOWN: a lane goes down; its direction, if it was up, drops out and retrains (R307). Without the receive direction
no frame arrives: FRAMES clears at once (R66). -/
def execLinkDown (rxDir lane : Bool) (s : State) : Host.Outcome State Fault Refusal :=
  let t := s.gfld Reg.PAIR_LINK Fld.PAIR_LINK_TXUP
  let r := s.gfld Reg.PAIR_LINK Fld.PAIR_LINK_RXUP
  let clear := fun m : Nat => if lane then m % 2 else m / 2 * 2
  let s := if (if rxDir then r else t) = 3 then s.countG Reg.PAIR_CNT0 true false else s
  if s.gfld Reg.PAIR_STAT Fld.PAIR_STAT_LINK = 0 then .next s
  else if rxDir then
    .next ((List.finRange 12).foldl (fun s ch => s.onChan ch fun c => c.setFld Reg.CH_ALIGN Fld.CH_ALIGN_FRAMES 0)
      (s.setLink 1 t (clear r)))
  else .next (s.setLink 1 (clear t) r)

/-- The 16 words of a heartbeat packet before its CRC (R316). -/
def State.heartbeatWords (s : State) : List Word :=
  let h := fun i : Nat => (s.gget (Reg.HND_HEALTH i)).extractLsb' 0 8
  let m := fun i : Nat => if hi : i < 12 then (s.chan ⟨i, hi⟩).mlid else (0 : BitVec 16)
  [packFields [(0, 8, 2), (8, 8, s.link.seq), (16, 1, s.gfld Reg.PAIR_STAT Fld.PAIR_STAT_PRIO),
      (17, 1, if s.link.giveUp then 1 else 0)],
   s.gget Reg.GSTAT,
   packFields [(0, 12, chMask s.holds), (16, 12, chMask fun ch => s.cs ch Fld.PAIR_CHSTAT_ARMED = 1)],
   byteWord [h 0, h 1, h 2, h 3], byteWord [h 4, h 5, h 6, h 7], byteWord [h 8, h 9, h 10, h 11],
   m 1 ++ m 0, m 3 ++ m 2, m 5 ++ m 4, m 7 ++ m 6, m 9 ++ m 8, m 11 ++ m 10, 0, 0, 0]

/-- HEARTBEAT_SEND: every 100 µs (R308, R316). -/
def execHeartbeatSend (s : State) : Host.Outcome State Fault Refusal :=
  if s.isPair && s.gfld Reg.PAIR_STAT Fld.PAIR_STAT_LINK = 2 then
    .next { s with link := { s.link with sentHb := withCrc s.heartbeatWords, seq := (s.link.seq + 1) % 256 } }
  else .next s

/-- HEARTBEAT_RECEIVE: a valid packet updates the partner's status (R312, R316, R325, R336 to R338). -/
def execHeartbeatReceive (packet : List Word) (s : State) : Host.Outcome State Fault Refusal :=
  let w := fun i => packet.getD i 0
  if !(packet.length = 16 && w 15 = crc32c (bytesOf (packet.take 15)) && (w 0).extractLsb' 0 8 = 2) then .next s
  else
    let was := s.gbit Reg.PAIR_STAT Fld.PAIR_STAT_HB_OK
    let ids := (List.range 12).map fun i => (w (6 + i / 2)).extractLsb' (16 * (i % 2)) 16
    let s := ({ s with link := { s.link with heard := packet } }.setPartnerPrio ((w 0).getLsbD 16)).compareMlids ids
    let s := (s.gset Reg.PAIR_PSTAT Fld.PAIR_PSTAT_PHOLD ((w 2).extractLsb' 0 12).toNat).gset Reg.PAIR_PSTAT
      Fld.PAIR_PSTAT_PARMED ((w 2).extractLsb' 16 12).toNat
    let s := if (w 0).getLsbD 17 then s.gset Reg.PAIR_STAT Fld.PAIR_STAT_PGIVEUP 1 else s
    let s := (s.gset Reg.PAIR_STAT Fld.PAIR_STAT_HB_OK 1).gset Reg.PAIR_PSTAT Fld.PAIR_PSTAT_PVALID 1
    if was then .next s
    else .next ((List.finRange 12).foldl (fun s ch => s.setCs ch Fld.PAIR_CHSTAT_PLH 0) (s.irq 3))

/-- HEARTBEAT_TIMEOUT: no valid heartbeat within TO (R316, and R333's what-if). -/
def execHeartbeatTimeout (s : State) : Host.Outcome State Fault Refusal :=
  if !s.gbit Reg.PAIR_STAT Fld.PAIR_STAT_HB_OK then .next s
  else
    let s := (s.gset Reg.PAIR_STAT Fld.PAIR_STAT_HB_OK 0).gset Reg.PAIR_STAT Fld.PAIR_STAT_HB_LOST 1
    let s := ((s.gset Reg.PAIR_PSTAT Fld.PAIR_PSTAT_PVALID 0).countG Reg.PAIR_CNT0 false true).irq 3
    let s := s.record 0x10 0xF 2 2 (recData [(0, 2, s.gfld Reg.PAIR_PSTAT Fld.PAIR_PSTAT_PHOLD)])
    .next ((List.finRange 12).foldl (fun s ch =>
      if s.cs ch Fld.PAIR_CHSTAT_LEASH = 2 then
        (s.setCs ch Fld.PAIR_CHSTAT_PLH 1).record 0x10 0xF 8 2 (recData [(0, 1, ch.val)])
      else s) s)

/-! ## HOUND (R327 to R330) -/

/-- The place of a test among the health bits and in its record (R339, R538). -/
def houndNum : HoundTest → Nat
  | .bist => 0
  | .march => 1
  | .loop => 2
  | .fcrc => 3

/-- The tests enabled in HND_CFG, as a mask. -/
def State.houndEnabled (s : State) : BitVec 4 := (s.gget Reg.HND_CFG).extractLsb' 8 4

/-- HOUND_TEST_END: a background test of a channel in SHADOW, or a test in TEST, has completed (R328, R329). -/
def execHoundTestEnd (ch : ChId) (test : HoundTest) (ok : Bool) (s : State) : Host.Outcome State Fault Refusal :=
  let c := s.chan ch
  let b := 1#4 <<< (houndNum test)
  if !((c.mode = 8 || c.mode = 9) && s.houndEnabled &&& b != 0) then .next s
  else
    let done := c.pair.done ||| b
    let full := done &&& s.houndEnabled = s.houndEnabled && c.mode = 8
    let s := s.onPair ch fun p => { p with
      results := if ok then p.results ||| b else p.results &&& ~~~b, done := if full then 0 else done,
      reports := if full then 0 else p.reports }
    if ok then .next s
    else
      let s := s.record 0x10 0xF 6 2 (recData [(0, 1, ch.val), (1, 1, houndNum test + 1)])
      if c.mode = 8 then
        let s := s.gset (Reg.HND_HEALTH ch) ⟨2 + houndNum test, 1⟩ 0
        let s := (s.gset (Reg.HND_HEALTH ch) Fld.HND_HEALTH_DISARM 1).onPair ch fun p => { p with disarm := true }
        .next (s.rearm ch)
      else .next s

/-- One channel's health report (R330, R339). BGSTALE: 100 reports without a complete pass (R329). In a period without a
compared tick XOK is 1, as every compared tick was within tolerance. -/
def State.healthReport (s : State) (ch : ChId) : State :=
  let c := s.chan ch
  if c.mode != 8 then s
  else
    let p := c.pair
    let old := s.gget (Reg.HND_HEALTH ch)
    let xok := !p.failed
    let bit := fun b : Bool => if b then 1 else 0
    let vrun := if xok then min 255 (getField old Fld.HND_HEALTH_VRUN + 1) else 0
    let new := packFields [(0, 1, bit xok), (1, 1, bit p.diverge), (2, 4, p.results.toNat),
      (6, 1, bit (decide (100 ≤ p.reports + 1))), (7, 1, bit (!p.framesIn)),
      (8, 1, c.fld Reg.CH_ALIGN Fld.CH_ALIGN_LOCKED), (9, 1, bit p.disarm), (16, 8, vrun),
      (24, 8, getField old Fld.HND_HEALTH_SEQ + 1)]
    let s := (s.gput (Reg.HND_HEALTH ch) new).onPair ch fun p => { p with
      failed := false, diverge := false, framesIn := false, reports := p.reports + 1 }
    if new.extractLsb' 0 10 = old.extractLsb' 0 10 then s
    else s.record 0x10 0xF 7 0 (recData [(0, 1, ch.val), (2, 2, (new.extractLsb' 0 10).toNat),
      (4, 2, (old.extractLsb' 0 10).toNat)])

/-- HOUND_HEALTH_REPORT: every 100 ms (R330). -/
def execHoundHealthReport (s : State) : Host.Outcome State Fault Refusal :=
  .next ((List.finRange 12).foldl State.healthReport s)

/-- TEST_END: the tests of TEST have run once; the mode controller returns to HALT with TCAUSE 12 (R176, R329). -/
def execTestEnd (ch : ChId) (s : State) : Host.Outcome State Fault Refusal :=
  let c := s.chan ch
  if c.mode = 9 && c.pair.done &&& s.houndEnabled = s.houndEnabled then
    .next (s.putChan ch { c with ctl := { c.ctl with testDone := true } })
  else .next s

end Sys2Proof.Machine
end

