-- ==== Sys2Proof/Machine/Thermal.lean ====
section
/-! DEFINITION. Machine/Thermal.lean: thermal sensing and protection (15_thermal.md R442 to R456): the die sensors and their
limits, throttling, and the power-module model. Temperatures of the model are held in 2^-32 °C (log 60). -/

namespace Sys2Proof.Machine

/-! ## Die sensors (R442, R443) -/

/-- A sensor's last reading, in 0.25 °C. -/
def State.dieT (s : State) (n : Nat) : Int := ((s.gget (Reg.THM_T n)).extractLsb' 0 12).toInt

def State.dieFailed (s : State) (n : Nat) : Bool := s.gbit (Reg.THM_T n) Fld.THM_T_FAIL

/-- The sampling period's code from the distance to the nearest limit (R442). -/
def dieRate (t : Int) : Nat :=
  let d := min (min (t - 440).natAbs (t - 460).natAbs) (t - 500).natAbs
  if 40 < d then 0 else if 12 < d then 1 else 2

/-- The sensors that have not failed, among `ns`. -/
def State.dieGood (s : State) (ns : List Nat) : List Nat := ns.filter fun n => !s.dieFailed n

/-- The hottest of `ns`, the lowest-numbered at equality. -/
def State.dieMax (s : State) (ns : List Nat) : Option (Nat × Int) :=
  ns.foldl (fun b n => match b with
    | none => some (n, s.dieT n)
    | some (m, t) => if t < s.dieT n then some (n, s.dieT n) else some (m, t)) none

/-- What a channel's die temperature counts as (R443). -/
def State.dieChan (s : State) (n : Nat) : Int :=
  if !s.dieFailed n then s.dieT n
  else match s.dieMax (s.dieGood [12, 13, 14, 15]) with
    | some (_, t) => t
    | none => 500

/-- The reading enters THM_Tn, with the failure test and the recovery after 10 good readings (R443). -/
def State.dieRead (s : State) (n : Fin 16) (t : Int) : State :=
  let bad := decide (t < -220) || decide (600 < t) || (s.die.seen.getLsbD n.val && decide (80 < (t - s.dieT n.val).natAbs))
  let was := s.dieFailed n.val
  let run := if bad then 0 else s.die.good[n] + 1
  let fail := bad || (was && run < 10)
  let s := { s with die := { s.die with good := s.die.good.set n run, seen := s.die.seen ||| (1#16 <<< n.val) } }
  let s := s.gput (Reg.THM_T n.val) (BitVec.ofNat 32 ((BitVec.ofInt 12 t).toNat + (if fail then 4096 else 0) +
    8192 * dieRate t))
  let m := 1#16 <<< n.val
  let f := (s.gget Reg.THM_STAT).extractLsb' 16 16
  let s := s.gset Reg.THM_STAT Fld.THM_STAT_SFAIL (if fail then f ||| m else f &&& ~~~m).toNat
  if fail && !was then s.record 0x0A 0xF 4 2 (recData [(0, 1, n.val), (2, 2, (BitVec.ofInt 16 t).toNat)]) else s

/-- Warn and throttle, each with its hysteresis (R444). -/
def State.dieLimit (s : State) (bit seen : BitField) (code sev : Nat) (on off : Int) (m : Nat) (t : Int) : State :=
  if s.gbit Reg.THM_STAT bit then (if t < off then s.gset Reg.THM_STAT bit 0 else s)
  else if on ≤ t then
    (((s.gset Reg.THM_STAT bit 1).gset Reg.THM_STAT seen 1).irq 1).record 0x0A 0xF code sev
      (recData [(0, 1, m), (2, 2, (BitVec.ofInt 16 t).toNat)])
  else s

/-- A die trip's record and counts (R444). -/
def State.dieTripSeen (s : State) (n : Nat) : State :=
  let s := ((s.gset Reg.THM_STAT Fld.THM_STAT_TRIP_SEEN 1).countG Reg.THM_CNT true true).irq 1
  s.record 0x0A 0xF 3 3 (recData [(0, 1, n), (2, 2, (BitVec.ofInt 16 (s.dieT n)).toNat)])

/-- What a trip does to a channel: its DIE bits, and in a pair member that holds it, a give-up (R444). -/
def State.dieTripChan (s : State) (ch : ChId) : State :=
  let s := s.raiseSafe ch 8
  if s.isPair && s.holds ch then s.giveUp ch 10 else s

/-- The trips of the channel sensors, each with its hysteresis. -/
def State.dieChanTrips (s : State) : State :=
  (List.finRange 12).foldl (fun s ch =>
    let t := s.dieChan ch.val
    let m := 1#12 <<< ch.val
    if s.die.chTrip.getLsbD ch.val then
      if t < 480 then { s with die := { s.die with chTrip := s.die.chTrip &&& ~~~m } } else s
    else if 500 ≤ t then
      let s := { s with die := { s.die with chTrip := s.die.chTrip ||| m } }
      (s.dieTripSeen ch.val).dieTripChan ch
    else s) s

/-- The central trip. -/
def State.dieCentTrip (s : State) : State :=
  match s.dieMax (s.dieGood [12, 13, 14, 15]) with
  | none => s
  | some (n, t) =>
    if s.die.cent then (if t < 480 then { s with die := { s.die with cent := false } } else s)
    else if 500 ≤ t then
      (List.finRange 12).foldl State.dieTripChan ({ s with die := { s.die with cent := true } }.dieTripSeen n)
    else s

/-- DIE LIVE and TRIPANY follow the trips. -/
def State.dieShow (s : State) : State :=
  let s := s.gset Reg.THM_STAT Fld.THM_STAT_TRIPANY (if s.die.cent || s.die.chTrip != 0 then 1 else 0)
  (List.finRange 12).foldl (fun s ch => s.setLive ch 8 (s.die.cent || s.die.chTrip.getLsbD ch.val)) s

/-- The background operations pause or go on; CAP_STAT.THR of every set with post-processing pending (R412, R445). -/
def State.capThrottle (s : State) (on : Bool) : State :=
  let s := { s with die := { s.die with paused := on } }
  (List.finRange 12).foldl (fun s ch => (List.finRange 4).foldl (fun s k => s.onChan ch fun c =>
    c.setFld (Reg.CAP_STAT k.val) Fld.CAP_STAT_THR
      (if on && c.bit (Reg.CAP_STAT k.val) Fld.CAP_STAT_PPEND then 1 else 0)) s) s

/-- DIE_SENSOR_CONVERSION: a reading in 0.25 °C, signed (R442 to R444). -/
def execDieSensorConversion (n : Fin 16) (reading : BitVec 12) (s : State) : Host.Outcome State Fault Refusal :=
  let s := s.dieRead n reading.toInt
  let s := match s.dieMax (s.dieGood (List.range 16)) with
    | none => s
    | some (m, t) =>
      let s := s.gset Reg.THM_STAT Fld.THM_STAT_HOT m
      let s := s.dieLimit Fld.THM_STAT_WARN Fld.THM_STAT_WARN_SEEN 1 1 440 428 m t
      let was := s.gbit Reg.THM_STAT Fld.THM_STAT_THROT
      let s := s.dieLimit Fld.THM_STAT_THROT Fld.THM_STAT_THR_SEEN 2 2 460 448 m t
      let now := s.gbit Reg.THM_STAT Fld.THM_STAT_THROT
      if now && !was then s.countG Reg.THM_CNT false false else if was && !now then s.capThrottle false else s
  .next s.dieChanTrips.dieCentTrip.dieShow

/-- THROTTLE_WINDOW: while THROT is set, background operations run in the first part of the window and then pause (R445). -/
def execThrottleWindow (runPart : Bool) (s : State) : Host.Outcome State Fault Refusal :=
  if s.gbit Reg.THM_STAT Fld.THM_STAT_THROT then .next (s.capThrottle (!runPart)) else .next s

/-! ## The power-module model (R447 to R451) -/

/-- Whether a switch, on, carries current of this sign in its transistor. -/
def switchCarries (three pos : Bool) (l : Nat) : Bool :=
  if three then pos == (l % 4 == 0 || l % 4 == 1) else pos == (l % 4 == 0)

/-- The device type of a switch's transistor or diode (R447): two-level 0 transistor, 1 diode; three-level 0 outer and
1 inner transistor, 2 outer and 3 inner diode. -/
def deviceType (three transistor : Bool) (l : Nat) : Nat :=
  if !three then (if transistor then 0 else 1)
  else
    let outer := l % 4 == 0 || l % 4 == 3
    (if transistor then 0 else 2) + (if outer then 0 else 1)

/-- A word of the parameters of device type `k`. -/
def Chan.dev (c : Chan) (k w : Nat) : Nat := (c.get (Reg.TMOD_DEV k w)).toNat

/-- The tick's length as numerator and denominator in seconds: CYCLES / f_lock × PW. -/
def Chan.tickSeconds (c : Chan) : Nat × Nat :=
  (c.fld Reg.CH_TICK_DIV Fld.CH_TICK_DIV_CYCLES * c.fLock.2 * (c.get Reg.CH_PERIOD).toNat, max 1 (c.fLock.1 * 2 ^ 30))

/-- The mean power of device type `k` of a leg over the tick, in 2^-32 W (R447). A switch that is on and lies in the
current's direction conducts in its transistor, another that is on in its diode; the edges are the turn-offs of a conducting
transistor and the reverse recoveries of a conducting diode (log 61). -/
def Chan.devPower (c : Chan) (leg : Fin 3) (k : Nat) : Nat :=
  let three := c.threeLevel
  let x := c.fe.slots[leg.val]
  let pos := !x.data.msb
  let i := x.data.toInt.natAbs * (c.get Reg.LAW_FS_I).toNat
  let v := (c.fe.slots[6]).data.toInt.natAbs * (c.get Reg.LAW_FS_DC).toNat
  let h := max 1 c.pwm.h
  let ls := (List.finRange 4).map fun j => (⟨4 * leg.val + j.val, by omega⟩ : Fin 12)
  let mine := ls.filter fun l => deviceType three (switchCarries three pos l.val) l.val == k &&
    (three || l.val % 4 == 0 || l.val % 4 == 3)
  let on := mine.foldl (fun n l => n + c.onSteps l) 0
  let edges := mine.foldl (fun n l => n + c.offEdges l) 0
  let cond := quantFloor 30 ((c.dev k 0 * i * on * 2 ^ 32 : Nat) : Int) (h * 2 ^ 71) +
    quantFloor 31 ((c.dev k 1 * i * i * on * 2 ^ 32 : Nat) : Int) (h * 1000 * 2 ^ 118)
  let t := c.tickSeconds
  let vv := if three then 2 else 1
  let iref := c.dev k 3
  let vref := c.dev k 4
  let sw := if iref = 0 || vref = 0 then 0
    else quantFloor 32 ((c.dev k 2 * edges * i * v * t.2 * 2 ^ 32 : Nat) : Int)
      (1000 * 2 ^ 24 * 2 ^ 31 * iref * 2 ^ 31 * vref * vv * max 1 t.1)
  (cond + sw).toNat

/-- One Foster pair over a tick (R447): ΔT + (P × RTH − ΔT) × min(T / TAU, 1). -/
def fosterStep (p rth tau : Nat) (t : Nat × Nat) (dT : Int) : Int :=
  let rest := quantFloor 33 ((p * rth : Nat) : Int) (2 ^ 24)
  let num := t.1 * 1000 * 65536
  let den := t.2 * tau
  if den ≤ num then rest else dT + quantFloor 34 ((rest - dT) * num) (max 1 den)

/-- The junction estimate e, in 2^-32 °C. -/
def ThermalModel.junction (m : ThermalModel) (e : Fin 12) : Int :=
  m.tref + (m.dT[e])[0] + (m.dT[e])[1] + (m.dT[e])[2] + (m.dT[e])[3]

/-- The estimates with their indices. -/
def ThermalModel.junctions (m : ThermalModel) : List (Nat × Int) :=
  (List.finRange 12).map fun e => (e.val, m.junction e)

/-- The hottest of some estimates. -/
def hottest (js : List (Nat × Int)) : Nat × Int :=
  js.foldl (fun b j => if b.2 < j.2 then j else b) (js.getD 0 (0, 0))

/-- T_ref of a tick, in 2^-32 °C (R448). -/
def Chan.trefNow (c : Chan) : Int :=
  let q := c.fld Reg.TMOD_CFG Fld.TMOD_CFG_TQTY
  if q < 16 then
    let w := c.latched.getD q FabWord.blank
    if w.tag.getLsbD 0 || w.tag.getLsbD 3 then c.tmod.tref else w.data.toInt * 2 ^ 9
  else ((c.get Reg.TMOD_TREF).setWidth 16).toInt * 2 ^ 28

/-- k of R449 as numerator and denominator, before the clamp to KMIN, at T_hot in 2^-32 °C. -/
def Chan.derating (c : Chan) (thot : Int) : Int × Nat :=
  let tder := c.fld Reg.TMOD_LIM Fld.TMOD_LIM_TDER
  let ttrip := c.fld Reg.TMOD_LIM Fld.TMOD_LIM_TTRIP
  let den : Nat := (ttrip - tder) * 2 ^ 30
  let num : Int := (ttrip : Int) * 2 ^ 30 - thot
  let kmin := c.fld Reg.TMOD_CFG Fld.TMOD_CFG_KMIN
  if num * 256 < ((kmin * den : Nat) : Int) then ((kmin : Int), 256) else if (den : Int) ≤ num then (1, 1) else (num, max 1 den)

/-- A rise after `off` ns at exp(−off / TAU), TAU in 2^-16 ms (R450, R452). -/
def thermalDecay (tau off : Nat) (dT : Int) : Int :=
  quantFloor 39 (dT * expNeg (realOne.toNat * off * 65536 / (1000000 * max 1 tau))) (2 ^ 96)

/-- The model's rises after a frozen interval of `off` ns (R450). -/
def Chan.thaw (c : Chan) (off : Nat) : Vector (Vector Int 4) 12 :=
  Vector.ofFn fun e => Vector.ofFn fun j =>
    if 3600000000000 ≤ off then 0
    else thermalDecay (c.dev (e.val % 4) (9 + j.val)) off (c.tmod.dT[e])[j]

/-- A temperature in 2^-32 °C as a word of Q12.20. -/
def q1220 (t : Int) : Word := BitVec.ofInt 32 (quantFloor 35 t (2 ^ 12))

/-- A temperature in 0.25 °C. -/
def quarter (t : Int) : Int := quantFloor 36 t (2 ^ 30)

/-- Whether the model sees the pads as driving (R447). -/
def State.thermalDriving (s : State) (ch : ChId) : Bool := s.padsShown ch = 0 || (s.chan ch).mode = 8

/-- The rises at the tick: after a frozen interval as it leaves them (R450). -/
def State.thermalRises (s : State) (ch : ChId) : Vector (Vector Int 4) 12 :=
  let c := s.chan ch
  match c.tmod.frozenAt with
  | some t => c.thaw (s.time.refNs - t)
  | none => c.tmod.dT

/-- The mean power of every estimate over the tick; 0 where the pads are not DRIVE and for types that the topology does not
use (R447). -/
def State.thermalPower (s : State) (ch : ChId) : Vector Nat 12 :=
  let c := s.chan ch
  Vector.ofFn fun e : Fin 12 =>
    if s.thermalDriving ch && e.val % 4 < (if c.threeLevel then 4 else 2) then
      c.devPower ⟨e.val / 4, by omega⟩ (e.val % 4) else 0

/-- The rises after the tick's losses (R447); indices of types that the topology does not use stay at T_ref. -/
def Chan.thermalHeat (c : Chan) (pw : Vector Nat 12) (dT : Vector (Vector Int 4) 12) : Vector (Vector Int 4) 12 :=
  Vector.ofFn fun e : Fin 12 => Vector.ofFn fun j : Fin 4 =>
    if (if c.threeLevel then 4 else 2) ≤ e.val % 4 then 0
    else fosterStep pw[e] (c.dev (e.val % 4) (5 + j.val)) (c.dev (e.val % 4) (9 + j.val)) c.tickSeconds (dT[e])[j]

/-- The limits as the model shows them (R449, R454): DER, MTHERM and KD at the factor `d`. -/
def Chan.thermalLimits (c : Chan) (d : Int × Nat) (der trip : Bool) : Chan :=
  let bit := fun b : Bool => if b then 1 else 0
  let c := (c.setFld Reg.TMOD_STAT Fld.TMOD_STAT_DER (bit der)).setFld Reg.TMOD_STAT Fld.TMOD_STAT_TRIP (bit trip)
  (c.setFld Reg.TMOD_STAT Fld.TMOD_STAT_FROZEN 0).setFld Reg.TMOD_STAT Fld.TMOD_STAT_KD
    (min 255 (d.1 * 256 / d.2).toNat)

/-- The estimates as the model shows and posts them (R448, R451, R454). -/
def Chan.thermalShow (c : Chan) (hot : Nat × Int) (loss : Nat) : Chan :=
  let m := c.tmod
  let c := (c.setFld Reg.TMOD_STAT Fld.TMOD_STAT_THOT (BitVec.ofInt 12 (quarter hot.2)).toNat).setFld Reg.TMOD_STAT
    Fld.TMOD_STAT_HDEV hot.1
  let c : Chan := if c.fld Reg.TMOD_CFG Fld.TMOD_CFG_TQTY < 16
    then c.put Reg.TMOD_TREF (BitVec.ofNat 32 (BitVec.ofInt 16 (quantFloor 38 m.tref (2 ^ 28))).toNat) else c
  let tj := fun i : Nat => if h : i < 12 then (BitVec.ofInt 16 (quarter (m.junction ⟨i, h⟩))).toNat else 0
  let c := (List.range 6).foldl (fun c i =>
    c.put (Reg.TMOD_TJ i) (BitVec.ofNat 32 (tj (2 * i) + 65536 * tj (2 * i + 1)))) c
  let legHot := fun leg : Nat => (hottest (m.junctions.filter fun j => j.1 / 4 == leg)).2
  let c := ((c.post 0xB0 (q1220 hot.2) 0).post 0xB1 (BitVec.ofNat 32 m.k) 0).post 0xB2 (q1220 (legHot 0)) 0
  let c := ((c.post 0xB3 (q1220 (legHot 1)) 0).post 0xB4 (q1220 (legHot 2)) 0).post 0xB5
    (BitVec.ofInt 32 (quantFloor 39 (loss : Nat) (2 ^ 20))) 0
  c.post 0xB6 (q1220 m.tref) 0

/-- Whether MTHERM is LIVE at T_hot, with its hysteresis (R449). -/
def Chan.thermalTrips (c : Chan) (thot : Int) : Bool :=
  let ttrip : Int := c.fld Reg.TMOD_LIM Fld.TMOD_LIM_TTRIP
  let thys : Int := c.fld Reg.TMOD_LIM Fld.TMOD_LIM_THYS
  if c.bit Reg.TMOD_STAT Fld.TMOD_STAT_TRIP then (ttrip - thys) * 2 ^ 30 ≤ thot else ttrip * 2 ^ 30 ≤ thot

/-- The model in a tick in which EN is 1 (R447 to R451). -/
def State.thermalRun (s : State) (ch : ChId) : State :=
  let c := s.chan ch
  let pw := s.thermalPower ch
  let m : ThermalModel := { c.tmod with
    dT := c.thermalHeat pw (s.thermalRises ch), tref := c.trefNow, frozenAt := none }
  let hot := hottest m.junctions
  let d := c.derating hot.2
  let m := { m with k := (quantFloor 37 (d.1 * 2 ^ 31) d.2).toNat }
  let der : Bool := decide (d.1 < d.2)
  let wasDer := c.bit Reg.TMOD_STAT Fld.TMOD_STAT_DER
  let wasTrip := c.bit Reg.TMOD_STAT Fld.TMOD_STAT_TRIP
  let trip := c.thermalTrips hot.2
  let s := s.putChan ch (({ c with tmod := m }.thermalLimits d der trip).thermalShow hot (pw.toList.foldl (· + ·) 0))
  let s := if der && !wasDer then s.countCh ch Reg.TMOD_CNT false false else s
  let s := if trip && !wasTrip then
      (((s.countCh ch Reg.TMOD_CNT true true).irq 1).raiseSafe ch 7).record 0x0A ch.val 5 3
        (recData [(0, 1, hot.1), (2, 2, (BitVec.ofInt 16 (quarter hot.2)).toNat)])
    else s
  s.setLive ch 7 trip

/-- The model in a tick: with EN = 0 it does not run, k is 1 and MTHERM 0 (R449, log 75). -/
def State.thermalTick (s : State) (ch : ChId) : State :=
  let c := s.chan ch
  if c.bit Reg.TMOD_CFG Fld.TMOD_CFG_EN then s.thermalRun ch
  else
    let m : ThermalModel := { c.tmod with dT := s.thermalRises ch, frozenAt := none, k := 2 ^ 31 }
    (s.putChan ch ({ c with tmod := m }.thermalLimits (1, 1) false false)).setLive ch 7 false

/-! ## Writes (R452 to R455) -/

/-- The range of word `w` of TMOD_DEVk (R455). -/
def devRangeOk (w : Nat) (v : Word) : Bool :=
  let n := v.toNat
  match w with
  | 0 => n ≤ 10 * 2 ^ 24
  | 1 => n ≤ 100 * 2 ^ 24
  | 2 => n ≤ 200 * 2 ^ 24
  | 3 => n = 0 || (2 ^ 16 ≤ n && n ≤ 10000 * 2 ^ 16)
  | 4 => n = 0 || (2 ^ 16 ≤ n && n ≤ 5000 * 2 ^ 16)
  | 5 | 6 | 7 | 8 => n ≤ 100 * 2 ^ 24
  | _ => n = 0 || (65536 ≤ 100 * n && n ≤ 60000 * 2 ^ 16)

/-- Whether a write of a TMOD register is rejected (R452). -/
def Chan.tmodWriteBad (c : Chan) (off : Nat) (v : Word) : Bool :=
  if c.mode = 0 || c.mode = 11 then true
  else if off = Reg.TMOD_CFG then
    let q := getField v Fld.TMOD_CFG_TQTY
    (16 ≤ q && q != 255) || (v.getLsbD 0 != (c.peek Reg.TMOD_CFG).getLsbD 0 && c.mode != 1)
  else if off = Reg.TMOD_LIM then
    let a := getField v Fld.TMOD_LIM_TDER
    let b := getField v Fld.TMOD_LIM_TTRIP
    1000 < a || 1000 < b || getField v Fld.TMOD_LIM_THYS < 4 || b ≤ a
  else if off = Reg.TMOD_TREF then
    let t := (v.setWidth 16).toInt
    decide (t < -640) || decide (2400 < t)
  else if Reg.TMOD_DEV 0 0 ≤ off then c.mode != 1 || !devRangeOk ((off - Reg.TMOD_DEV 0 0) % 64 / 4) v
  else false

/-- A rejection of THM_CFG (R452, R453). -/
def thmCfgOk (v : Word) : Bool := 1 ≤ getField v Fld.THM_CFG_DUTY

end Sys2Proof.Machine
end

