-- ==== Sys2Proof/Machine/Law.lean ====
section
/-! DEFINITION. Machine/Law.lean: the reference grid-forming law (05_grid_forming_law.md R141 to R162), as what the block
library's programs do in a tick, for an image whose programs are the library's (log 9). Values are in 2^-30 per unit,
angles in 2^-31 of pi. Every quotient and root is taken to that grid with an open rounding (log 2). Where the spec names a
loop or a filter by its inputs, gains, states and limits and gives no equation, what is open is one uninterpreted term of
it (`lawTerm`, log 4). -/

namespace Sys2Proof.Machine

/-- One per unit. -/
def one30 : Int := 2 ^ 30

/-- `x` times the root of `num / den`. -/
def timesRoot (site : Nat) (x : Int) (num den : Nat) : Int :=
  let r : Int := rootOf site (x.natAbs * x.natAbs * num) den
  if x < 0 then -r else r

/-- A vector in the stationary or the synchronous frame. -/
abbrev Vec := Int × Int

def Vec.add (a b : Vec) : Vec := (a.1 + b.1, a.2 + b.2)

def Vec.sub (a b : Vec) : Vec := (a.1 - b.1, a.2 - b.2)

def Vec.norm (v : Vec) : Nat := rootOf 50 (v.1.natAbs * v.1.natAbs + v.2.natAbs * v.2.natAbs) 1

/-- A vector scaled by `num / den`. -/
def Vec.scale (v : Vec) (num den : Nat) : Vec :=
  (quantFloor 51 (v.1 * num) (max 1 den), quantFloor 51 (v.2 * num) (max 1 den))

/-- Into the frame at `th`. -/
def Vec.park (th : Int) (v : Vec) : Vec :=
  let c := cosPi th
  let s := sinPi th
  (quantFloor 52 (v.1 * c + v.2 * s) (2 ^ 30), quantFloor 52 (v.2 * c - v.1 * s) (2 ^ 30))

/-- Out of the frame at `th`. -/
def Vec.unpark (th : Int) (v : Vec) : Vec := v.park (-th)

/-- A coefficient times a value. -/
def Coef.times (k : Coef) (x : Int) : Int :=
  let p := scaled (x * k.mant.toInt) (k.shift.toInt - 31)
  quantFloor 53 p.1 p.2

def Coef.timesV (k : Coef) (v : Vec) : Vec := (k.times v.1, k.times v.2)

/-- dead(x, b) of R144. -/
def deadband (x b : Int) : Int := if b < x then x - b else if x < -b then x + b else 0

def clampTo2 (lo hi x : Int) : Int := min (max x lo) hi

/-- An integrator in its value register, with the saturate mode (R153). -/
def satWord (x : Int) : Int := clampTo2 (-2 ^ 31) (2 ^ 31 - 1) x

def Vec.sat (v : Vec) : Vec := (satWord v.1, satWord v.2)

/-- A vector bounded to a length, and whether the bound acted (R149, R156, R157). -/
def Vec.bound (v : Vec) (len : Nat) : Vec × Bool :=
  if len < v.norm then (v.scale len v.norm, true) else (v, false)

/-- A first-order step toward `target` by `num / den`, limited to 1. -/
def lagStep (site : Nat) (x target : Int) (num den : Nat) : Int :=
  if den ≤ num then target else x + quantFloor site ((target - x) * num) (max 1 den)

/-! ## Measurements (R141 to R143, R163) -/

def Chan.word (c : Chan) (off : Nat) : Nat := (c.get off).toNat

/-- A voltage slot in per unit of the peak phase voltage (R141, R142). -/
def Chan.puVolt (c : Chan) (fs : Nat) (slot : Fin 64) : Int :=
  let vb := max 1 (c.word Reg.LAW_VBASE)
  timesRoot 54 (c.fe.slots[slot]).data.toInt (fs * fs * 3) (8 * vb * vb)

/-- A current slot in per unit of the peak rated phase current. -/
def Chan.puAmp (c : Chan) (slot : Fin 64) : Int :=
  let fs := c.word Reg.LAW_FS_I
  let vb := c.word Reg.LAW_VBASE
  let sb := max 1 (c.word Reg.LAW_SBASE)
  timesRoot 55 (c.fe.slots[slot]).data.toInt (fs * fs * vb * vb * 3) (2 ^ 67 * sb * sb)

/-- The amplitude-invariant Clarke transform of three phases. -/
def clarke (a b d : Int) : Vec := (quantFloor 56 (2 * a - b - d) 3, timesRoot 57 (b - d) 1 3)

/-- The slots of a group: 0 i_L, 1 v_C, 2 i_o, 3 the DC pair (R163). -/
def Chan.groupSlots (c : Chan) : Nat → List (Fin 64)
  | 0 => [0, 1, 2]
  | 1 => [3, 4, 5]
  | 2 => [8, 9]
  | _ => if c.threeLevel then [6, 7] else [6]

def Chan.groupHas (c : Chan) (g : Nat) (mask : BitVec 4) : Bool :=
  (c.groupSlots g).any fun k => (c.fe.slots[k]).tag &&& mask != 0

/-- A group is held: a slot of it is UNSETTLED or SUBSTITUTED. -/
def Chan.groupHeld (c : Chan) (g : Nat) : Bool := c.groupHas g 9

/-- The integrators that consume a group rest: it is held, or SATURATED. -/
def Chan.groupRests (c : Chan) (g : Nat) : Bool := c.groupHas g 0xB

/-- An AC group in the stationary frame, as sampled; 4 is the grid side of K1, from its line voltages (slots 10, 11). -/
def Chan.acVec (c : Chan) (g : Nat) : Vec :=
  let v := fun k => c.puVolt (c.word Reg.LAW_FS_V) k
  match g with
  | 0 => clarke (c.puAmp 0) (c.puAmp 1) (c.puAmp 2)
  | 1 => clarke (v 3) (v 4) (v 5)
  | 2 => (c.puAmp 8, timesRoot 58 (c.puAmp 8 + 2 * c.puAmp 9) 1 3)
  | _ => (quantFloor 56 (2 * v 10 + v 11) 3, timesRoot 58 (v 11) 1 3)

def LawState.goodAt (l : LawState) (k : Nat) : Int := sget (fun _ => 0) l.good k

def LawState.keepGood (l : LawState) (k : Nat) (x : Int) : LawState := { l with good := sset (fun _ => 0) l.good k x }

/-- An AC group at angle `th`: the samples, or while held the last good synchronous-frame value rotated with the angle; and
the law with the last good value kept. -/
def Chan.takeAc (c : Chan) (th : Int) (g : Nat) (l : LawState) : Vec × LawState :=
  if c.groupHeld g then (Vec.unpark th (l.goodAt (2 * g), l.goodAt (2 * g + 1)), l)
  else
    let v := c.acVec g
    let d := v.park th
    (v, (l.keepGood (2 * g) d.1).keepGood (2 * g + 1) d.2)

/-- The DC link and the lower half. -/
def Chan.takeDc (c : Chan) (l : LawState) : Int × Int × LawState :=
  if c.groupHeld 3 then (l.goodAt 6, l.goodAt 7, l)
  else
    let fs := c.word Reg.LAW_FS_DC
    let v := c.puVolt fs 6
    let m := c.puVolt fs 7
    (v, m, (l.keepGood 6 v).keepGood 7 m)

/-! ## The separated sequences (R146, R155) -/

/-- The sequence separators' axes: one second-order generalised integrator each, with its in-phase and its quadrature
state. -/
def Separator.ofVec (v : Vec) : Separator := ⟨(v.1, v.2), (v.2, -v.1)⟩

/-- A term of a loop or a filter for which the spec gives no equation, by the term and the values that it uses (log 4). -/
def lawTerm (site : Nat) (x : List Int) : Int := Config.lawTerm site x

/-- A tick of a second-order generalised integrator of gain `k`, whose centre turns by `ang` in the tick, on the input `u`:
v' = ω(k(u − v) − q), q' = ω v. PRESUMED (log 4): the equations of the named filter; how they are taken to ticks is open. -/
def sogi (k : Coef) (ang : Int) (x : Int × Int) (u : Int) : Int × Int :=
  let turn := fun y : Int => quantFloor 99 (ang * y * realPi) (2 ^ 127)
  let ops := [k.mant.toInt, k.shift.toInt, ang, x.1, x.2, u]
  (x.1 + turn (k.times (u - x.1) - x.2) + lawTerm 0 ops, x.2 + turn x.1 + lawTerm 1 ops)

def Separator.step (x : Separator) (k : Coef) (ang : Int) (u : Vec) : Separator :=
  ⟨sogi k ang x.a u.1, sogi k ang x.b u.2⟩

/-- The positive sequence of a separator's input, in the stationary frame. -/
def Separator.pos (x : Separator) : Vec := (quantFloor 96 (x.a.1 - x.b.2) 2, quantFloor 96 (x.a.2 + x.b.1) 2)

/-- The negative sequence. -/
def Separator.neg (x : Separator) : Vec := (quantFloor 97 (x.a.1 + x.b.2) 2, quantFloor 97 (x.b.1 - x.a.2) 2)

/-! ## What drives (R160) -/

/-- The FE loops that drive in a mode. -/
def feDriving (m : Nat) : List Nat :=
  if m = 3 || m = 4 || m = 6 then [0, 1, 2, 4, 5] else if m = 5 then [0, 2, 3, 5]
  else if m = 7 then [0, 1, 2, 3, 4, 5] else []

/-- The ME loops that drive in a mode; `pack`: PACK is enabled. -/
def meDriving (m : Nat) (pack : Bool) : List Nat :=
  if m = 3 then [0, 1, 2] else if m = 4 then (if pack then [0, 1, 2, 4] else [0, 1, 2]) else if m = 6 then [0]
  else if m = 5 then [3] else if m = 7 then [0, 1, 2, 5] else []

/-- The loops declared tracking: the rest of R160's row. -/
def meTracking (m : Nat) (pack : Bool) : List Nat :=
  let all := if m = 3 || m = 6 || m = 5 || m = 8 || m = 10 || m = 2 || m = 4 then [0, 1, 2, 3, 4, 5] else [3, 4]
  all.filter fun k => !(meDriving m pack).contains k

/-- In two-level topologies loop 5 is inactive and tracks nothing (R158). -/
def feTracking (m : Nat) (three : Bool) : List Nat :=
  (if three then [0, 1, 2, 3, 4, 5] else [0, 1, 2, 3, 4]).filter fun k => !(feDriving m).contains k

def maskOf (l : List Nat) : Word := l.foldl (fun w k => w ||| (1#32 <<< k)) 0

def Chan.loopOpen (c : Chan) (e : Eng) (k : Nat) : Bool :=
  (c.get (match e with | .fe => Reg.ENG_LOOP_OPEN_FE | .me => Reg.ENG_LOOP_OPEN_ME)).getLsbD k

/-! ## The model engine (R144, R145, R151, R161, R162) -/

/-- What ME loop 5 adds to ω and E in RESYNC, from the synchronisation loop's frequency and angle and the magnitudes of both
sides; the spec gives no equation for it (log 4). An open loop holds what it adds (R162). -/
def Chan.steering (c : Chan) (eg ePos : Int) : Int × Int :=
  let l := c.law
  if c.mode != 7 then (0, 0)
  else if c.loopOpen .me 5 then l.steer
  else
    let ops := [l.wPll, l.thPll, l.w, l.theta, eg, ePos, l.ee]
    (lawTerm 9 ops, lawTerm 10 ops)

/-- The ME's step in an outer tick; `ePos` and `eg` are the positive-sequence magnitudes of the capacitor voltage and of the
grid side. The status bits PLIM, FLIM and ELIM go to the law's status. -/
def Chan.lawMachine (c : Chan) (fst : Bool) (pAvg qAvg ePos eg : Int) : Chan :=
  let l := c.law
  let add := c.steering eg ePos
  let h := c.outerSeconds
  let m := c.mode
  let hold := fun k (old new : Int) => if c.loopOpen .me k then old else new
  let tau := fun off => (h.1 * 2 ^ 24, h.2 * c.word off)
  let pf := if fst then pAvg else lagStep 60 l.pf pAvg (tau Reg.LAW_TPQ).1 (tau Reg.LAW_TPQ).2
  let qf := if fst then qAvg else lagStep 60 l.qf qAvg (tau Reg.LAW_TPQ).1 (tau Reg.LAW_TPQ).2
  let w0 := if fst then one30 else l.w
  let wd0 := if fst then one30 else l.wd
  let drives := (meDriving m false).contains 0
  if !drives then
    let w := hold 0 l.w (if fst then one30 else l.wPll)
    let pm := hold 1 l.pm pf
    let ee := hold 2 l.ee ePos
    { c with law := { l with pf := pf, qf := qf, w := w, wd := w, pm := pm, ee := ee, pmHeld := pm, eHeld := ee, steer := add,
                             status := l.status &&& ~~~0x1C0 } }
  else
    let ride := m = 6
    let ws := quantFloor 61 ((c.word (Reg.SP_OUT 3) * 2 ^ 30 : Nat) : Int) (max 1 (c.word Reg.LAW_FBASE)) +
      quantFloor 62 (c.get (Reg.SP_OUT 4)).toInt 2
    let edb := deadband (2 * (ws - w0)) (c.word Reg.LAW_FDB)
    let p := (c.get (Reg.SP_OUT 0)).toInt + quantFloor 63 (edb * 2 ^ 30) (max 1 (c.word Reg.LAW_FDROOP))
    let pc := clampTo2 (c.get Reg.LAW_PMIN).toInt (c.get Reg.LAW_PMAX).toInt p
    let pm := if ride then l.pm else hold 1 l.pm pc
    let wd := if ride then wd0 else lagStep 64 wd0 w0 (tau Reg.LAW_TFD).1 (tau Reg.LAW_TFD).2
    let acc := (pm - pf) * 2 ^ 16 - (c.word Reg.LAW_D : Int) * (w0 - wd)
    let w := w0 + quantFloor 65 (acc * h.1 * 2 ^ 24) (max 1 (2 ^ 17 * h.2 * c.word Reg.LAW_H)) + add.1
    let mid : Int := if ride then 2 * wd else 2 * one30
    let band : Int := if ride then c.word Reg.LAW_RIDE_DW else c.word Reg.LAW_FLIM
    let w2 := clampTo2 (mid - band) (mid + band) (2 * w)
    let wc := if w2 = 2 * w then w else quantFloor 66 w2 2
    let w' := hold 0 l.w wc
    let eq := deadband (2 * ((c.get (Reg.SP_OUT 1)).toInt - qf)) (c.word Reg.LAW_QDB)
    let e := (c.get (Reg.SP_OUT 2)).toInt + quantFloor 67 ((c.word Reg.LAW_VDROOP : Int) * eq) (2 ^ 32) + add.2
    let ec := clampTo2 (c.get Reg.LAW_VMIN).toInt (c.get Reg.LAW_VMAX).toInt e
    let ee := if ride then l.ee else hold 2 l.ee ec
    let st := (if w2 = 2 * w then 0 else 0x40#32) ||| (if ride || ec = e then 0 else 0x80#32) |||
      (if ride || pc = p then 0 else 0x100#32)
    { c with law := { l with
      pf := pf, qf := qf, w := w', wd := wd, pm := pm, ee := ee, pmHeld := if ride then l.pmHeld else pm,
      eHeld := if ride then l.eHeld else ee, steer := add, status := (l.status &&& ~~~0x1C0) ||| st } }

/-! ## The fast engine -/

/-- omega_b × omega × `seconds` in 2^-31 of pi, for a time of `num / den` s (R146, R154). -/
def Chan.angleStep (c : Chan) (w : Int) (num den : Nat) : Int :=
  quantFloor 70 (w * (c.word Reg.LAW_FBASE * num : Nat)) (max 1 (2 ^ 22 * den))

/-- The threshold impedance R_t and X_t for a current magnitude (R148). -/
def Chan.threshold (c : Chan) (io : Nat) : Int × Int :=
  let ith := (c.lawPort Reg.LAW_TVI_ITH).toNat
  let rt := quantFloor 71 ((c.word Reg.LAW_TVI_KR * (io - ith) : Nat) : Int) (2 ^ 28)
  (rt, quantFloor 72 ((c.word Reg.LAW_TVI_SIG : Int) * rt) (2 ^ 24))

/-- The capacitor-voltage reference of R147. -/
def Chan.voltageRef (c : Chan) (e : Int) (io : Vec) (rt xt : Int) : Vec :=
  let r := (c.word Reg.LAW_RV : Int) + 2 * rt
  let x := (c.word Reg.LAW_XV : Int) + 2 * xt
  (e + quantFloor 73 (x * io.2 - r * io.1) (2 ^ 31), quantFloor 73 (-(r * io.2) - x * io.1) (2 ^ 31))

/-- The feed-forward of a loop: K × f plus j × omega × L × y, with L a UQ1.31 parameter (R152, R153). -/
def feedForward (k : Coef) (f y : Vec) (w : Int) (l : Nat) : Vec :=
  let cr := fun x : Int => quantFloor 74 (w * l * x) (2 ^ 61)
  Vec.add (k.timesV f) (-(cr y.2), cr y.1)

/-- An integrator's step Ki × T_nom × PW × e (R152, R153). -/
def Chan.integrate (c : Chan) (k : Coef) (e : Vec) : Vec :=
  let pw : Int := c.word Reg.CH_PERIOD
  let s := k.timesV e
  (quantFloor 75 (s.1 * pw) (2 ^ 30), quantFloor 75 (s.2 * pw) (2 ^ 30))

/-- The blend of R196: at its first tick the difference, then q_new + Δ × (1 − k/L), with L as it stood at the boundary. -/
def Chan.blend (c : Chan) (qty : Nat) (start : Bool) (last new : Vec) : Vec × Vec :=
  let st := c.get Reg.HO_STAT
  if getField st Fld.HO_STAT_ACT = 0 || getField st Fld.HO_STAT_QTY != qty then (new, c.law.delta)
  else
    let d := if start then Vec.sub last new else c.law.delta
    (Vec.add new (d.scale (getField st Fld.HO_STAT_REM) (max 1 c.ctl.blendLen)), d)

/-- The midpoint term of R158 in modulation values, which loop 5 holds while it is open (R162). DEDUCED (log 59): u and K_mb
have no unit, so that the term adds to the modulation value, not to volts. -/
def Chan.midpoint (c : Chan) (vdc vmid pAvg : Int) : Int :=
  if !c.threeLevel then 0
  else if c.loopOpen .fe 5 then c.law.mb
  else
    let u := quantFloor 80 ((2 * vmid - vdc) * 2 ^ 30) vdc.natAbs
    (c.fe.getCoef 13).times u * (if 0 ≤ pAvg then -1 else 1)

/-- The bound v_dc / √3 on a voltage vector (R157). -/
def dcBound (vdc : Int) : Nat := rootOf 76 (vdc.toNat * vdc.toNat) 3

/-- The duty words from the stationary-frame voltage (R157, R158): the bound by the DC link, the zero sequence, the midpoint
term, and the division by v_dc / 2; no words on a DC link that is not positive, where the spec states none; and OVM. -/
def modulate (v : Vec) (vdc mb : Int) : Option (List Word) × Bool :=
  if vdc ≤ 0 then (none, vdc < 0 || v.norm != 0)
  else
    let b := v.bound (dcBound vdc)
    let r3 := timesRoot 77 b.1.2 3 4
    let ph := [b.1.1, quantFloor 78 (-b.1.1) 2 + r3, quantFloor 78 (-b.1.1) 2 - r3]
    let hi := max (max (ph.getD 0 0) (ph.getD 1 0)) (ph.getD 2 0)
    let lo := min (min (ph.getD 0 0) (ph.getD 1 0)) (ph.getD 2 0)
    let m := ph.map fun x => quantFloor 79 ((2 * x - hi - lo) * 2 ^ 30) vdc.natAbs
    let t := clampTo2 (min 0 (-one30 - m.foldl min one30)) (max 0 (one30 - m.foldl max (-one30))) mb
    (some (m.map fun x => BitVec.ofInt 32 (clampTo2 (-2 ^ 31) (2 ^ 31 - 1) (2 * (x + t)))), b.2)

/-- How many free values a tick of the law draws: the engines' ends and the duties on a DC link that is not positive. -/
def lawDraws : Nat := 5

/-! ## The synchronisation loop (R161, R162, R562) -/

/-- The machine tracks in this mode, and theta and omega are the synchronisation loop's (R161, R562). -/
def followsSync (m : Nat) : Bool := m = 2 || m = 5 || m = 8 || m = 10

/-- A tick of the synchronisation loop on the positive sequence `u`, in the stationary frame; in BLACKSTART, FORM and RIDE
it tracks the machine's `w` and `th`. It coasts below 0.1 pu, on a bad tag of slots 10 and 11 in RESYNC (R163), and while it
is open (R162). DEDUCED (log 4): a PI loop of the form of R152 on an error in its own frame, which is open; where it follows
the capacitor voltage, tags of its slots rest its integrator. -/
def Chan.syncLoop (c : Chan) (u : Vec) (w th : Int) : Chan :=
  let l := c.law
  let m := c.mode
  let sec := c.tickSeconds
  if c.fe.fst then { c with law := { l with wPll := one30, thPll := th, xPll := 0 } }
  else if m = 3 || m = 4 || m = 6 then { c with law := { l with wPll := w, thPll := th, xPll := satWord (w - one30) } }
  else
    let th' := wrapPi (l.thPll + c.angleStep l.wPll sec.1 sec.2)
    let d := u.park th'
    let e := lawTerm 2 [d.1, d.2]
    let p := one30 + (c.fe.getCoef 11).times e
    if c.loopOpen .fe 3 then { c with law := { l with thPll := th', xPll := satWord (l.wPll - p) } }
    else if u.norm * 10 < 2 ^ 30 || (m = 7 && [10, 11].any fun k : Fin 64 => (c.fe.slots[k]).tag &&& 0xB != 0) then
      { c with law := { l with thPll := th' } }
    else
      let x := if m != 7 && c.groupRests 1 then l.xPll
        else satWord (l.xPll + quantFloor 75 ((c.fe.getCoef 12).times e * c.word Reg.CH_PERIOD) (2 ^ 30))
      { c with law := { l with wPll := satWord (p + l.xPll), thPll := th', xPll := x } }

/-! ## The fast engine's tick -/

/-- What the FE takes from its slots in a tick: the angle and frequency, the positive sequences of i_L and v_C and i_o in the
frame at θ, the negative sequences in the frame at −θ, |i_o|, the magnitudes of the positive sequences of v_C and of the
grid side, and p and q. -/
structure FeTick where
  th : Int
  w : Int
  iL : Vec
  vC : Vec
  io : Vec
  iLN : Vec
  vCN : Vec
  ioN : Vec
  ioMag : Nat
  vMag : Nat
  gMag : Nat
  p : Int
  q : Int
  deriving DecidableEq, Repr

/-- ω and E as the FST tick sets them, until the ME's first outputs come (R146). -/
def Chan.startSlots (c : Chan) (e : Nat) : Chan :=
  let w := BitVec.ofInt 32 one30
  let x := BitVec.ofNat 32 e
  { c with sp := (c.sp.set 0 w).set 1 x, spNext := (c.spNext.set 0 w).set 1 x }

/-- The FE's frame and measurements of a tick (R146, R155, R163): the law with its angle, separators and synchronisation
loop advanced. DEDUCED (log 4): the positive-sequence loops use the separated i_L and v_C; i_o is used whole, as R147 and
R148 have it; the currents' separators start from their own vectors, and the grid side of K1 has a separator as the others
have. -/
def Chan.lawFrame (c : Chan) : FeTick × Chan :=
  let m := c.mode
  let fst := c.fe.fst
  let sec := c.tickSeconds
  let raw := c.acVec 1
  let live := one30 ≤ 10 * (raw.norm : Int)
  let c := if fst then c.startSlots (if live then raw.norm else 0) else c
  let follows := followsSync m && !fst
  let w := if fst then one30 else if follows then c.law.wPll else (c.sp[0]).toInt + c.packDev
  let th := if fst then (if live then anglePi raw.1 raw.2 else 0)
    else if follows then wrapPi (c.law.thPll + c.angleStep c.law.wPll sec.1 sec.2)
    else wrapPi (c.law.theta + c.angleStep w sec.1 sec.2)
  let a := c.takeAc th 0 c.law
  let b := c.takeAc th 1 a.2
  let d := c.takeAc th 2 b.2
  let u : Vector Vec 4 := #v[a.1, if fst then raw else b.1, d.1, c.acVec 4]
  let ang := c.angleStep w sec.1 sec.2
  let seps := Vector.ofFn fun g : Fin 4 =>
    if fst then Separator.ofVec u[g] else (d.2.seps[g]).step (c.fe.getCoef 10) ang u[g]
  let c := { c with law := { d.2 with theta := th, seps := seps } }
  let c := c.syncLoop (if m = 7 then (seps[3]).pos else (seps[1]).pos) w th
  (⟨th, w, (seps[0]).pos.park th, (seps[1]).pos.park th, d.1.park th, (seps[0]).neg.park (-th), (seps[1]).neg.park (-th),
    (seps[2]).neg.park (-th), d.1.norm, (seps[1]).pos.norm, (seps[3]).pos.norm,
    quantFloor 83 (b.1.1 * d.1.1 + b.1.2 * d.1.2) (2 ^ 30), quantFloor 83 (b.1.2 * d.1.1 - b.1.1 * d.1.2) (2 ^ 30)⟩, c)

/-- The capacitor-voltage reference that applies: loop 4's output, in BLACKSTART with E ramped by r, and its blend (R147,
R162, R184, R196). -/
def Chan.lawVoltageRef (c : Chan) (start : Bool) (t : FeTick) : Vec × Chan :=
  let z := c.threshold t.ioMag
  let e := if c.mode = 3 then quantFloor 81 ((c.sp[1]).toInt * c.ctl.ramp) (2 ^ 48) else (c.sp[1]).toInt
  let out := if c.loopOpen .fe 4 then c.law.vz else c.voltageRef e t.io z.1 z.2
  let b := c.blend 1 start c.law.vcRef out
  (b.1, { c with law := { c.law with vz := out, vcRef := b.1, delta := b.2 } })

/-- The voltage loop's output without its integrator (R152). -/
def Chan.voltageRest (c : Chan) (t : FeTick) (ev : Vec) : Vec :=
  Vec.add ((c.fe.getCoef 3).timesV ev) (feedForward (c.fe.getCoef 5) t.io t.vC t.w (c.word Reg.LAW_CF))

/-- The inductor-current reference before the limiter: the voltage loop's, in FOLLOW the grid-following loops', the
measurement where no path drives, and its blend (R152, R161, R162, R196). -/
def Chan.lawCurrentRef (c : Chan) (start : Bool) (t : FeTick) (rest : Vec) : Vec × Chan :=
  let m := c.mode
  let path := if m = 5 then c.law.follow else if (feDriving m).isEmpty then t.iL
    else if c.loopOpen .fe 1 then c.law.iv else Vec.add rest c.law.xv
  let b := c.blend 2 start c.law.ilRef path
  (b.1, { c with law := { c.law with ilRef := b.1, delta := b.2 } })

/-! ### The negative sequence (R155, R156) -/

/-- Whether the negative-sequence voltage loop gives the reference: MODE 1, and MODE 2 outside RIDE. -/
def Chan.negLoopDrives (c : Chan) : Bool :=
  let k := c.fld Reg.LAW_NEG_CFG Fld.LAW_NEG_CFG_MODE
  !(feDriving c.mode).isEmpty && !c.loopOpen .fe 2 && (k = 1 || (k = 2 && c.mode != 6))

/-- The negative-sequence voltage loop's output without its integrator; it has the open terms of log 4. -/
def Chan.negVoltageRest (c : Chan) (t : FeTick) : Vec :=
  let ops := [t.w, t.vCN.1, t.vCN.2, t.ioN.1, t.ioN.2]
  Vec.add ((c.fe.getCoef 8).timesV (-t.vCN.1, -t.vCN.2)) (lawTerm 3 ops, lawTerm 4 ops)

/-- The reference of MODE 2 in RIDE: K_NEG × |v_C−|, leading v_C− by 90°. DEDUCED (log 59): each phase current leads its
phase voltage, so that the vector, which turns backward, is a quarter turn behind. -/
def Chan.negInjection (c : Chan) (t : FeTick) : Vec :=
  let k := c.fld Reg.LAW_NEG_CFG Fld.LAW_NEG_CFG_K_NEG
  Vec.scale (t.vCN.2, -t.vCN.1) k 16

/-- The limit of the negative-sequence reference beside a positive one of magnitude `iPos` (R156). -/
def Chan.negCap (c : Chan) (iPos : Nat) : Nat :=
  min (c.fld Reg.LAW_NEG_CFG Fld.LAW_NEG_CFG_I_NEG_MAX * 2 ^ 14) ((c.lawPort Reg.LAW_IMAX).toNat - iPos)

/-- The negative-sequence reference within its clamp, and whether the clamp acted. -/
def Chan.lawNegative (c : Chan) (t : FeTick) (rest : Vec) (iPos : Nat) : Vec × Bool :=
  let ref : Vec :=
    if c.loopOpen .fe 2 then c.law.inRef
    else if (feDriving c.mode).isEmpty then t.iLN
    else if c.negLoopDrives then Vec.add rest c.law.xvn
    else if c.fld Reg.LAW_NEG_CFG Fld.LAW_NEG_CFG_MODE = 2 then c.negInjection t
    else (0, 0)
  ref.bound (c.negCap iPos)

/-! ### Status and outputs -/

/-- The law's status bits of a tick that the FE sets (R149, R150, R156, R157, R163, R172). -/
def Chan.lawStatus (c : Chan) (io : Nat) (hard ovm hold neg : Bool) : Chan :=
  let l := c.law
  let b := fun (x : Bool) (w : Word) => if x then w else 0
  let ith := (c.lawPort Reg.LAW_TVI_ITH).toNat
  let lim := l.status.getLsbD 0 || hard || ith < io
  let below := !hard && io + c.fld Reg.LAW_TVI_REL Fld.LAW_TVI_REL_HYS * 2 ^ 14 < ith
  let w := (l.status &&& 0x1C0) ||| b lim 1 ||| b hard 2 ||| b ovm 4 ||| b hold 0x20 ||| b neg 0x200
  let c := { c with law := { l with status := w, relRun := if below then l.relRun + 1 else 0 } }
  c.post 0x20 w 0

/-- The references after the limiter of R149, which scales both sequences together. -/
structure LimitedRef where
  iL : Vec
  iN : Vec
  hard : Bool
  neg : Bool
  deriving DecidableEq, Repr

def Chan.lawLimit (c : Chan) (t : FeTick) (i restN : Vec) : LimitedRef :=
  let neg := c.lawNegative t restN i.norm
  let imax := (c.lawPort Reg.LAW_IMAX).toNat
  let n := (Vec.add (i.unpark t.th) (neg.1.unpark (-t.th))).norm
  if imax < n then ⟨i.scale imax n, neg.1.scale imax n, true, neg.2⟩ else ⟨i, neg.1, false, neg.2⟩

/-- A PI loop's integrator after a tick: where the loop drives, its step, unless it rests; elsewhere the target less the
loop's other terms, clamped like the output (R152, R153, R161, R162). -/
def Chan.integrator (c : Chan) (k : Coef) (x e : Vec) (drives rests : Bool) (target rest : Vec) (limit : Nat) : Vec :=
  if !drives then ((Vec.sub target rest).bound limit).1.sat
  else if rests then x
  else (Vec.add x (c.integrate k e)).sat

/-- The converter voltages that apply, of the positive sequence in the frame at θ and of the negative one at −θ, before
modulation: the current loops', the held ones of an open loop, or the measurement where no path drives. -/
def Chan.lawVoltages (c : Chan) (t : FeTick) (part partN : Vec) : Vec × Vec :=
  let none' := (feDriving c.mode).isEmpty
  (if c.loopOpen .fe 0 then c.law.vRef else if none' then t.vC else Vec.add part c.law.xi,
    if c.loopOpen .fe 2 then c.law.vNeg else if none' then t.vCN else Vec.add partN c.law.xin)

/-- The angle of the inverse transform (R154), at the present channel clock. -/
def Chan.outAngle (c : Chan) (t : FeTick) : Int :=
  let lead := c.fld Reg.CH_TICK_DIV Fld.CH_TICK_DIV_LEAD
  let sec := c.tickSeconds
  let f := c.clockHz
  t.th + c.angleStep t.w (lead * f.2) (max 1 f.1) + c.angleStep t.w sec.1 (2 * sec.2)

/-- The FE's work in a tick from the current reference `i` on: the limiter, the current loops, the modulation, the
integrators and the status word (R149, R153 to R158, R161 to R163). -/
def Chan.lawOutputs (c : Chan) (n : Nat) (t : FeTick) (i ev rest : Vec) (vdc vmid : Int) : Chan :=
  let drives := !(feDriving c.mode).isEmpty
  let restN := c.negVoltageRest t
  let r := c.lawLimit t i restN
  let ei := Vec.sub r.iL t.iL
  let part := Vec.add ((c.fe.getCoef 0).timesV ei) (feedForward (c.fe.getCoef 2) t.vC t.iL t.w (c.word Reg.LAW_LF))
  let en := Vec.sub r.iN t.iLN
  let ops := [t.w, t.iLN.1, t.iLN.2, t.vCN.1, t.vCN.2]
  let partN := Vec.add ((c.fe.getCoef 6).timesV en) (lawTerm 5 ops, lawTerm 6 ops)
  let v := c.lawVoltages t part partN
  let adv := c.outAngle t
  let mb := c.midpoint vdc vmid c.law.pAvg
  let d := modulate (Vec.add (v.1.unpark adv) (v.2.unpark (-adv))) vdc mb
  let words : List Word := d.1.getD [Config.freeWord (n + 2), Config.freeWord (n + 3), Config.freeWord (n + 4)]
  let duty := ((c.duty.words.set 0 (words.getD 0 0)).set 1 (words.getD 1 0)).set 2 (words.getD 2 0)
  let imax := (c.lawPort Reg.LAW_IMAX).toNat
  let own := drives && c.mode != 5 && !c.loopOpen .fe 1
  let iv := if c.loopOpen .fe 1 then c.law.iv else if own then Vec.add rest c.law.xv else r.iL
  let l := { c.law with
    iv := iv, iLim := r.iL, inRef := r.iN, vRef := v.1, vNeg := v.2, mb := mb,
    xv := c.integrator (c.fe.getCoef 4) c.law.xv ev own (r.hard || d.2 || c.groupRests 1 || c.groupRests 2) iv rest imax,
    xi := c.integrator (c.fe.getCoef 1) c.law.xi ei (drives && !c.loopOpen .fe 0)
      (d.2 || c.groupRests 0 || c.groupRests 1) v.1 part (dcBound vdc),
    xvn := c.integrator (c.fe.getCoef 9) c.law.xvn (-t.vCN.1, -t.vCN.2) c.negLoopDrives
      (r.neg || r.hard || c.groupRests 1) r.iN restN (c.negCap i.norm),
    xin := c.integrator (c.fe.getCoef 7) c.law.xin en (drives && !c.loopOpen .fe 2) (r.neg || c.groupRests 0) v.2 partN
      (dcBound vdc) }
  ({ c with duty := ⟨duty, duty, true⟩, law := l } : Chan).lawStatus t.ioMag r.hard d.2
    (c.groupHeld 0 || c.groupHeld 1 || c.groupHeld 2 || c.groupHeld 3) r.neg

/-! ## Power, and the grid-following loops -/

/-- The sums of p and q over the outer period, and at an outer tick their means (R144). -/
def Chan.lawPower (c : Chan) (p q : Int) : Chan :=
  let l := { c.law with sumP := c.law.sumP + p, sumQ := c.law.sumQ + q, sumN := c.law.sumN + 1 }
  if c.outer then
    { c with law := { l with pAvg := quantFloor 82 l.sumP (max 1 l.sumN), qAvg := quantFloor 82 l.sumQ (max 1 l.sumN),
                             sumP := 0, sumQ := 0, sumN := 0 } }
  else { c with law := l }

/-- The P and Q loops of ME loop 3 in an outer tick: in FOLLOW they drive i*_L, elsewhere they track the reference that
applies (R159 to R162, R168). DEDUCED (log 4): PI loops of the form of R152 on P* − P_f and Q* − Q_f, with open further
terms; their output reaches the FE as ω and E do (R124). -/
def Chan.lawFollow (c : Chan) : Chan :=
  let l := c.law
  let e : Vec := ((c.get (Reg.SP_OUT 0)).toInt - l.pf, (c.get (Reg.SP_OUT 1)).toInt - l.qf)
  let ops := [l.pf, l.qf, e.1, e.2, l.ee]
  let rest : Vec := ((c.me.getCoef 0).times e.1 + lawTerm 7 ops, (c.me.getCoef 2).times e.2 + lawTerm 8 ops)
  let drives := c.mode = 5 && !c.loopOpen .me 3
  let out := if c.loopOpen .me 3 then l.followNext else if drives then Vec.add rest (l.ip, l.iq) else l.iLim
  let step := fun (k : Coef) (y : Int) => quantFloor 75 (k.times y * c.word Reg.CH_PERIOD_OUT) (2 ^ 30)
  let x : Vec :=
    if !drives then ((Vec.sub out rest).bound (c.lawPort Reg.LAW_IMAX).toNat).1.sat
    else if c.groupRests 1 || c.groupRests 2 then (l.ip, l.iq)
    else Vec.sat (l.ip + step (c.me.getCoef 1) e.1, l.iq + step (c.me.getCoef 3) e.2)
  { c with law := { l with ip := x.1, iq := x.2, followNext := out } }

/-- The ME's work in an outer tick: the machine, the grid-following loops, its set-point slots and its end. -/
def Chan.lawModel (c : Chan) (n : Nat) (fst : Bool) (t : FeTick) : Chan :=
  if !c.outer then c
  else
    let c := (c.lawMachine fst c.law.pAvg c.law.qAvg t.vMag t.gMag).lawFollow
    { c with spNext := (c.spNext.set 0 (BitVec.ofInt 32 c.law.w)).set 1 (BitVec.ofInt 32 c.law.ee),
             me := { c.me with track := maskOf (meTracking c.mode (c.bit Reg.PACK_CFG Fld.PACK_CFG_EN)), run := .idle,
                               cycle := Config.freeNat (n + 1) % (c.budget + 1) } }

/-- A tick of the reference law, from the slots as latched to both engines' TEND: `n` is the first of its free values,
`start` whether a blend begins. The cycles at which the engines end are free values within the budget. -/
def Chan.lawTick (c : Chan) (n : Nat) (start : Bool) : Chan :=
  let meFst := c.me.fst
  let c := if c.outer then { c with law := { c.law with follow := c.law.followNext } } else c
  let f := c.lawFrame
  let t := f.1
  let c := (f.2.lawPower t.p t.q).lawModel n meFst t
  let dc := c.takeDc c.law
  let v := ({ c with law := dc.2.2 } : Chan).lawVoltageRef start t
  let ev := Vec.sub v.1 t.vC
  let rest := v.2.voltageRest t ev
  let i := v.2.lawCurrentRef start t rest
  let c := i.2.lawOutputs n t i.1 ev rest dc.1 dc.2.1
  let c := { c with fe := { c.fe with track := maskOf (feTracking c.mode c.threeLevel),
                                      cycle := Config.freeNat n % (c.budget + 1) } }
  let c := c.endTick .fe
  (if c.outer then c.endTick .me else c).tickUsed

/-- Run the law for the tick that begins, where the image's programs are the library's and the engines execute (R39). -/
def State.lawRun (s : State) (ch : ChId) (start : Bool) : State :=
  let c := s.chan ch
  if c.law.on && engineMode c.mode then
    { s.putChan ch (c.lawTick s.free start) with free := s.free + lawDraws }
  else s

/-! ## Law events (R150, R164) -/

/-- LIM_RELEASE: after TREL consecutive ticks below the release level, LIM clears at the end of the tick (R150). -/
def execLimRelease (ch : ChId) (s : State) : Result :=
  let c := s.chan ch
  if c.law.on && c.law.status.getLsbD 0 && c.fld Reg.LAW_TVI_REL Fld.LAW_TVI_REL_TREL ≤ c.law.relRun then
    let w := c.law.status &&& ~~~1
    .next (s.putChan ch (({ c with law := { c.law with status := w } } : Chan).post 0x20 w 0))
  else .next s

end Sys2Proof.Machine
end

