-- ==== Sys2Proof/Machine/Mirror.lean ====
section
/-! DEFINITION. Machine/Mirror.lean: write mirroring in a pair (16_host_interface.md R475 to R477): which registers are
mirrored, the packets sent and their answers, and resynchronisation. -/

namespace Sys2Proof.Machine

/-- Whether a channel register is mirrored (R475): it has a field that a write sets, in the listed blocks and registers. -/
def mirrored (off : Nat) : Bool :=
  ((0x1400 ≤ off && off < 0x2000) || (0x2400 ≤ off && off < 0x2C00) || (0x0800 ≤ off && off < 0x0C00) ||
    off == Reg.CH_MODE_CFG || (Reg.CH_RIDE ≤ off && off ≤ Reg.CH_RSY_CFG3)) &&
  match findRow chanRows off with
  | some r => r.rw != 0 || r.rwl != 0
  | none => false

/-- A mirrored write fails on the holder's side (R476): STALE, MIR_CNT.FAIL and the record, with the reason in R476's
order. -/
def State.mirrorFail (s : State) (ch : ChId) (off reason : Nat) (resync : Bool) : State :=
  let s := (s.setCs ch Fld.PAIR_CHSTAT_STALE 1).countG Reg.MIR_CNT false true
  let s := s.record 0x10 0xF 0x11 1 (recData [(0, 1, ch.val), (4, 4, off), (8, 1, reason)])
  if resync then { s with mir := { s.mir with failed := s.mir.failed ||| (1#12 <<< ch.val) } } else s

/-- Send a packet for a landed write, or one of a resynchronisation, which the sender paces so that it finds room in the
queue (log 12). -/
def State.mirrorSend (s : State) (ch : ChId) (off : Nat) (v : Word) (coef : Option CoefRef) (resync : Bool) : State :=
  if s.gfld Reg.PAIR_STAT Fld.PAIR_STAT_LINK != 2 then s.mirrorFail ch off 1 resync
  else if !resync && 256 ≤ (s.mir.queue.filter fun p => !p.resync).length then s.mirrorFail ch off 2 resync
  else { s with mir := { s.mir with
    queue := s.mir.queue ++ [⟨⟨s.mir.next, ch, BitVec.ofNat 14 off, v, coef⟩, resync⟩], next := s.mir.next + 1 } }

/-- After a write has landed: the holder of the channel mirrors it (R475). -/
def State.mirrorLanded (s : State) (ch : ChId) (off : Nat) (v : Word) : State :=
  if s.isPair && s.holds ch && mirrored off then s.mirrorSend ch off v none false else s

/-- An accepted ENG_CDAT write. -/
def State.mirrorCoef (s : State) (ch : ChId) (e : Eng) (w : CoefWrite) : State :=
  if s.isPair && s.holds ch then s.mirrorSend ch Reg.ENG_CDAT w.mant (some ⟨e, w.idx, w.shift⟩) false else s

/-- A resynchronisation ends when no packet of it waits: STALE clears if none failed, which RESYNCN counts (R477, R484). -/
def State.resyncEnds (s : State) (ch : ChId) : State :=
  let b := s.gfld Reg.MIR_CTL Fld.MIR_CTL_RSBUSY
  if !b.testBit ch.val || s.mir.queue.any (fun p => p.resync && p.w.ch == ch) then s
  else
    let bad := s.mir.failed.getLsbD ch.val
    let s := { s.gset Reg.MIR_CTL Fld.MIR_CTL_RSBUSY (b - 2 ^ ch.val) with
      mir := { s.mir with failed := s.mir.failed &&& ~~~(1#12 <<< ch.val) } }
    if bad then s else (s.setCs ch Fld.PAIR_CHSTAT_STALE 0).countG Reg.MIR_CNT true false

/-- The words of a channel's mirrored registers. -/
def Chan.mirroredWords (c : Chan) : List (Nat × Word) :=
  chanRows.flatMap fun r =>
    let os := (List.range r.n1).flatMap fun i => (List.range r.n2).map fun j => r.base + i * r.s1 + j * r.s2
    (os.filter mirrored).map fun o => (o, c.get o)

/-- The coefficients of an engine that the image has placed, with their present values. -/
def Engine.mirroredCoefs (e : Engine) (g : Eng) : List (CoefRef × Word) :=
  (List.range 1024).filterMap fun i =>
    let k := e.getCoef i
    if k.owner = 63 then none else some (⟨g, BitVec.ofNat 10 i, k.shift⟩, k.mant)

/-- The packets of a resynchronisation (R477): every mirrored register, and behind ENG_CDAT every coefficient (log 12). -/
def Chan.resyncWrites (c : Chan) : List (Nat × Word × Option CoefRef) :=
  (c.mirroredWords.map fun ow => (ow.1, ow.2, none)) ++
    (c.fe.mirroredCoefs .fe ++ c.me.mirroredCoefs .me).map fun kv => (Reg.ENG_CDAT, kv.2, some kv.1)

/-- A resynchronisation of a channel: the present value of every mirrored register is sent again, by the holder (R477). -/
def State.resync (s : State) (ch : ChId) : State :=
  if !(s.isPair && s.holds ch) then s
  else
    let b := s.gfld Reg.MIR_CTL Fld.MIR_CTL_RSBUSY
    let s := if b.testBit ch.val then s else s.gset Reg.MIR_CTL Fld.MIR_CTL_RSBUSY (b + 2 ^ ch.val)
    ((s.chan ch).resyncWrites.foldl (fun s w => s.mirrorSend ch w.1 w.2.1 w.2.2 true) s).resyncEnds ch

/-- A write of MIR_CTL.RESYNC. -/
def State.writeMirCtl (s : State) (v : Word) : State :=
  (List.finRange 12).foldl (fun s ch => if v.getLsbD ch.val then s.resync ch else s) s

/-- The packet with a number leaves the queue, applied or failed with a reason. -/
def State.mirrorDone (s : State) (seq : Nat) (reason : Nat) : State :=
  match s.mir.queue.find? fun p => p.w.seq == seq with
  | none => s
  | some p =>
    let s := { s with mir := { s.mir with queue := s.mir.queue.filter fun q => q.w.seq != seq } }
    let s := if reason = 0 then s else s.mirrorFail p.w.ch p.w.off.toNat reason p.resync
    s.resyncEnds p.w.ch

/-- MIRROR_WRITE_ANSWER: the partner has applied the packet, or gives the reason for which it failed, 3 or 4 (R476). -/
def execMirrorWriteAnswer (seq : Nat) (ok : Bool) (reason : BitVec 8) (s : State) : Result :=
  .next (s.mirrorDone seq (if ok then 0 else max 1 reason.toNat))

/-- MIRROR_WRITE_TIMEOUT: no answer within 500 µs (R476). -/
def execMirrorWriteTimeout (seq : Nat) (s : State) : Result := .next (s.mirrorDone seq 5)

end Sys2Proof.Machine
end

