-- ==== Sys2Proof/Machine/Regs.lean ====
section
/-! DEFINITION. Machine/Regs.lean: the checks that a channel's blocks make when a write arrives (R49, R98, R167, R177, R195,
R207 to R209, R230, R268, R297, R413, R452) and how each block answers a write that it rejects (R537). -/

namespace Sys2Proof.Machine

/-! ## Field tests -/

def fieldIn (v : Word) (f : BitField) (lo hi : Nat) : Bool := lo ≤ getField v f && getField v f ≤ hi

def fieldSame (a b : Word) (f : BitField) : Bool := getField a f == getField b f

/-- A whole-word value in its range, in the register's steps: a limit stands for the step nearest to it (log 7). -/
def wordIn (v : Word) (signed : Bool) (lo hi : Int) : Bool :=
  let x : Int := if signed then v.toInt else v.toNat
  lo ≤ x && x ≤ hi

/-- Whether a context-window offset lies in an array of one register, with its index. -/
def arrayIndex (off base stride n : Nat) : Option Nat :=
  if base ≤ off && off < base + stride * n && (off - base) % stride = 0 then some ((off - base) / stride) else none

/-! ## Mode, tick and set-point registers -/

/-- The fields of the mode block within their ranges (R204, R205). -/
def modeFieldsOk (off : Nat) (v : Word) : Bool :=
  if off = Reg.CH_RIDE then fieldIn v Fld.CH_RIDE_DWELL 1 65535
  else if off = Reg.CH_PRE_CFG then fieldIn v Fld.CH_PRE_CFG_VDONE 1 65535 && fieldIn v Fld.CH_PRE_CFG_TMAX 10 60000
  else if off = Reg.CH_BS_CFG then fieldIn v Fld.CH_BS_CFG_VDEAD 655 32768 && fieldIn v Fld.CH_BS_CFG_TDEAD 10 10000
  else if off = Reg.CH_BS_RAMP then fieldIn v Fld.CH_BS_RAMP_TRAMP 10 60000
  else if off = Reg.CH_RSY_CFG1 then fieldIn v Fld.CH_RSY_CFG1_DF 1 500 && fieldIn v Fld.CH_RSY_CFG1_DV 328 13107
  else if off = Reg.CH_RSY_CFG2 then fieldIn v Fld.CH_RSY_CFG2_DTH 10 3000 && fieldIn v Fld.CH_RSY_CFG2_NMATCH 1 65535
  else if off = Reg.CH_RSY_CFG3 then fieldIn v Fld.CH_RSY_CFG3_TMAX 1 3600
  else if off = Reg.HO_CFG then fieldIn v Fld.HO_CFG_LEN 1 4096
  else true

/-- The lock point against which a tick length is judged (R49): the present one, or in OFF the stored settings'. -/
def State.tickClock (s : State) (ch : ChId) : Nat × Nat :=
  let c := s.chan ch
  if c.mode = 0 then
    lockFreq s.fnom (c.fld Reg.PLL_CFG Fld.PLL_CFG_NINT) (c.fld Reg.PLL_FRAC Fld.PLL_FRAC_FRAC)
      (max 1 (c.fld Reg.PLL_CFG Fld.PLL_CFG_POST))
  else c.fLock

/-- Whether CYCLES and LEAD are in range and keep R40, R43 and R46. -/
def State.tickDivOk (s : State) (ch : ChId) (v : Word) : Bool :=
  let c := s.chan ch
  let n := getField v Fld.CH_TICK_DIV_CYCLES
  let lead := getField v Fld.CH_TICK_DIV_LEAD
  let f := s.tickClock ch
  fieldIn v Fld.CH_TICK_DIV_CYCLES 1250 26000 && fieldIn v Fld.CH_TICK_DIV_LEAD 32 300 &&
    20000 * n * f.2 ≤ f.1 && f.1 ≤ 400000 * n * f.2 &&
    c.fld Reg.CH_TICK_LIM Fld.CH_TICK_LIM_MIN_CYCLES ≤ n && c.fld Reg.CH_TICK_LIM Fld.CH_TICK_LIM_MIN_LEAD ≤ lead &&
    (c.minClock = 0 || lead * 10000000 ≤ 6 * c.minClock)

/-- A write of CH_TICK_DIV or CH_OUTER_DIV is rejected (R49). -/
def State.tickWriteBad (s : State) (ch : ChId) (off : Nat) (v : Word) : Bool :=
  let c := s.chan ch
  1 < c.mode || (if off = Reg.CH_TICK_DIV then !s.tickDivOk ch v else !fieldIn v Fld.CH_OUTER_DIV_DIV 1 64)

/-- The range of a set-point's values, and whether its words are signed (R207). -/
def spRange (i : Nat) : Bool × Int × Int :=
  match i with
  | 0 | 1 => (true, -1610612736, 1610612736)
  | 2 => (true, 536870912, 1288490189)
  | 3 => (false, 754974720, 1090519040)
  | _ => (true, -21474836, 21474836)

/-- A set-point word as its number. -/
def spVal (i : Nat) (w : Word) : Int := if (spRange i).1 then w.toInt else w.toNat

/-- A write of slot `i`, word `r` of the slot, is rejected (R195, R207, R208). -/
def Chan.spWriteBad (c : Chan) (i r : Nat) (v : Word) : Bool :=
  let g := spRange i
  if r = 0x00 then !wordIn v g.1 g.2.1 g.2.2 || (i = 4 && c.bit Reg.PACK_CFG Fld.PACK_CFG_EN)
  else if r = 0x04 then !wordIn v g.1 g.2.1 g.2.2 || spVal i (c.peek (Reg.SP_MAX i)) ≤ spVal i v
  else if r = 0x08 then !wordIn v g.1 g.2.1 g.2.2 || spVal i v ≤ spVal i (c.peek (Reg.SP_MIN i))
  else if r = 0x0C || r = 0x10 then !(1 ≤ v.toNat && v.toNat ≤ 255 * 2 ^ 24)
  else false

/-! ## Law parameters (R166, R167) -/

/-- The ranges of R166 in register steps. -/
def lawRanges : List (Nat × Int × Int) :=
  [(0x1400, 1000, 10000000), (0x1404, 3276800, 216268800), (0x1408, 754974720, 1090519040),
   (0x140C, 65536, 4294901760), (0x1410, 65536, 4294901760), (0x1414, 65536, 4294901760),
   (0x1418, 21474836, 1073741824), (0x141C, 10737418, 644245094), (0x1440, 1677722, 335544320), (0x1444, 0, 26214400),
   (0x1448, 167772, 167772160), (0x144C, 1678, 1677722), (0x1450, 10737418, 429496730), (0x1454, 0, 21474836),
   (0x1458, -1610612736, 1610612736), (0x145C, -1610612736, 1610612736), (0x1460, 21474836, 214748365)] ++
  [(0x1464, 0, 429496730), (0x1468, 0, 214748365), (0x146C, 858993459, 1288490189), (0x1470, 536870912, 1073741824),
   (0x1474, 2147484, 107374182), (0x1480, 0, 1073741824), (0x1484, 0, 1073741824), (0x1488, 858993459, 1610612736),
   (0x148C, 0, 1342177280), (0x1490, 0, 335544320), (0x1494, 1073741824, 2147483648)]

/-- The parameters with a signed format. -/
def lawSigned (off : Nat) : Bool :=
  off = Reg.LAW_PMAX || off = Reg.LAW_PMIN || off = Reg.LAW_VMAX || off = Reg.LAW_VMIN

/-- Writable in HALT only (R166). -/
def lawHaltOnly (off : Nat) : Bool := Reg.LAW_SBASE ≤ off && off ≤ Reg.LAW_CF

/-- The owner loop of an RWL register (R166). -/
def lawOwner (off : Nat) : Option (Eng × Nat) :=
  if off = Reg.LAW_H || off = Reg.LAW_D || off = Reg.LAW_TFD || off = Reg.LAW_TPQ then some (.me, 0)
  else if off = Reg.LAW_FDROOP then some (.me, 1)
  else if off = Reg.LAW_VDROOP then some (.me, 2)
  else if off = Reg.LAW_RV || off = Reg.LAW_XV || off = Reg.LAW_TVI_KR || off = Reg.LAW_TVI_SIG then some (.fe, 4)
  else if off = Reg.LAW_NEG_CFG then some (.fe, 2)
  else none

/-- The order of three pairs of limits (R167). -/
def Chan.lawOrderBad (c : Chan) (off : Nat) (v : Word) : Bool :=
  if off = Reg.LAW_PMAX then v.toInt ≤ (c.peek Reg.LAW_PMIN).toInt
  else if off = Reg.LAW_PMIN then (c.peek Reg.LAW_PMAX).toInt ≤ v.toInt
  else if off = Reg.LAW_VMAX then v.toInt ≤ (c.peek Reg.LAW_VMIN).toInt
  else if off = Reg.LAW_VMIN then (c.peek Reg.LAW_VMAX).toInt ≤ v.toInt
  else if off = Reg.LAW_IMAX then v.toNat < (c.peek Reg.LAW_TVI_ITH).toNat
  else if off = Reg.LAW_TVI_ITH then (c.peek Reg.LAW_IMAX).toNat < v.toNat
  else false

/-- A write of a law parameter is rejected on arrival (R167, R169 to R171). -/
def Chan.lawWriteBad (c : Chan) (off : Nat) (v : Word) : Bool :=
  match lawRanges.find? fun r => r.1 == off with
  | some (_, lo, hi) => !wordIn v (lawSigned off) lo hi || (lawHaltOnly off && c.mode != 1) || c.lawOrderBad off v
  | none =>
    if off = Reg.LAW_TVI_REL then !(fieldIn v Fld.LAW_TVI_REL_TREL 1 65535 && fieldIn v Fld.LAW_TVI_REL_HYS 0 13107)
    else if off = Reg.LAW_NEG_CFG then !(fieldIn v Fld.LAW_NEG_CFG_MODE 0 2 && fieldIn v Fld.LAW_NEG_CFG_K_NEG 0 96)
    else if off = Reg.LAW_TAG then
      !(fieldIn v Fld.LAW_TAG_STALE_MAX 1 15 && fieldIn v Fld.LAW_TAG_SAT_MAX 1 15 && fieldIn v Fld.LAW_TAG_BAD_MAX 1 15)
    else false

/-! ## Sample chain (R76, R78, R80, R95, R97, R99 to R109) -/

/-- A write of input `i`'s slot, offset `r`, is rejected. DESIGN CHOICE (log 58): a value out of a field's range in R101,
R103, R104, R105 and R108, as SKWIN outside 1 to 40, is a reason too, and rejects the whole write. -/
def Chan.sdiWriteBad (c : Chan) (i : InId) (r : Nat) (v : Word) : Bool :=
  let old := c.peek (0x400 + 0x40 * i.val + r)
  let halt := c.mode = 1
  let haltOff := c.mode ≤ 1
  let busy := c.bit (Reg.FIR_XF i) Fld.FIR_XF_BUSY
  if r = 0x00 then
    1 < getField v Fld.SDI_CFG_SRC || (!fieldSame v old Fld.SDI_CFG_SRC && !(halt || c.mode = 9))
  else if r = 0x08 then !fieldSame v old Fld.FIR_CFG_BANK && (!haltOff || busy)
  else if r = 0x0C then !fieldIn v Fld.FIR_XF_LEN 1 1024 || (getField v Fld.FIR_XF_GO = 1 && busy)
  else if r = 0x14 then c.firCdatBad i
  else if r = 0x18 then
    !fieldIn v Fld.DCB_CFG_CORNER 1 10000 || (!fieldSame v old Fld.DCB_CFG_EN && !haltOff)
  else if r = 0x1C then !(halt || c.bit (Reg.DCB_CFG i) Fld.DCB_CFG_FREEZE)
  else if r = 0x20 then getField v Fld.DEC_CFG_SAT_RUN != 0 && getField v Fld.DEC_CFG_SAT_RUN < 8
  else if r = 0x24 then !halt
  else if r = 0x28 then
    getField v Fld.FAST_CFG_CLASS = 3 || !fieldIn v Fld.FAST_CFG_OSR 8 32 ||
      (!(fieldSame v old Fld.FAST_CFG_EN && fieldSame v old Fld.FAST_CFG_OSR && fieldSame v old Fld.FAST_CFG_CLASS) &&
        !haltOff)
  else if r = 0x2C then (v.extractLsb' 16 16).toInt ≤ (v.extractLsb' 0 16).toInt
  else if r = 0x3C then
    !fieldIn v Fld.SDI_CHCTL_SKWIN 1 40 ||
      (getField v Fld.SDI_CHCTL_SKARM = 1 && (!halt || c.bit Reg.SDI_CHCTL Fld.SDI_CHCTL_SKBUSY))
  else false

/-! ## PWM (R248, R250, R268 to R273) -/

/-- No blanking time shorter than FILT would be left (R268). -/
def Chan.blankingOk (c : Chan) (off : Nat) (v : Word) : Bool :=
  let w := fun o => if o = off then v else c.peek o
  let filt := 2 * getField (w Reg.FLT_CFG) Fld.FLT_CFG_FILT
  (List.range 6).all fun i =>
    filt ≤ 10 * getField (w (Reg.DSAT_BLK i)) Fld.DSAT_BLK_BLK_LO &&
      filt ≤ 10 * getField (w (Reg.DSAT_BLK i)) Fld.DSAT_BLK_BLK_HI

/-- The bootstrap bound would hold (R250). -/
def Chan.bootstrapKept (c : Chan) (off : Nat) (v : Word) : Bool :=
  let w := fun o => if o = off then v else c.peek o
  bootstrapOk (getField (c.peek Reg.CH_TICK_DIV) Fld.CH_TICK_DIV_CYCLES) (w Reg.BST_CFG).toNat (w Reg.BST_MASK).toNat
    (w Reg.PWM_DT).toNat c.fLock.1 c.fLock.2

/-- A write of the PWM and gate block is rejected; PWM_TRIP is judged on its own (R256). -/
def Chan.pwmWriteBad (c : Chan) (off : Nat) (v : Word) : Bool :=
  let old := c.peek off
  let halt := c.mode = 1
  if c.mode = 0 || c.mode = 11 then true
  else if off = Reg.PWM_CFG then !fieldIn v Fld.PWM_CFG_MINP 0 200
  else if off = Reg.PWM_DT then
    !(fieldIn v Fld.PWM_DT_DT13 80 20000 && fieldIn v Fld.PWM_DT_DT24 80 20000) || !c.bootstrapKept off v
  else if off = Reg.PWM_DIR then !(halt && c.bit Reg.PWM_TOPO Fld.PWM_TOPO_DIRECT)
  else if off = Reg.BST_CFG then
    !(fieldIn v Fld.BST_CFG_NPER 1 64 && fieldIn v Fld.BST_CFG_TRP 50 2000 && fieldIn v Fld.BST_CFG_UVMAX 1 15) ||
      (!fieldSame v old Fld.BST_CFG_EN && !halt) || !c.bootstrapKept off v
  else if off = Reg.BST_MASK then
    (v.extractLsb' 0 12 &&& ~~~(if c.threeLevel then 0x333#12 else 0x111#12)) != 0 || !halt
  else if off = Reg.FLT_CFG then
    !fieldIn v Fld.FLT_CFG_FILT 10 250 || (!fieldSame v old Fld.FLT_CFG_EN && !halt) || !c.blankingOk off v
  else if off = Reg.FLT_TIM then
    !(fieldIn v Fld.FLT_TIM_TSOFT 0 1000 && fieldIn v Fld.FLT_TIM_TOFF 0 1000 && fieldIn v Fld.FLT_TIM_TORD 10 500)
  else if (arrayIndex off (Reg.DSAT_BLK 0) 4 6).isSome then
    !(fieldIn v Fld.DSAT_BLK_BLK_LO 20 1000 && fieldIn v Fld.DSAT_BLK_BLK_HI 20 1000) || !c.blankingOk off v
  else if off = Reg.BRK_CFG then !(fieldIn v Fld.BRK_CFG_MINON 50 10000 && fieldIn v Fld.BRK_CFG_MINOFF 50 10000)
  else false

/-! ## PLL (R281, R283, R289, R291, R299, R302) -/

/-- Why the generator takes no profile: the channel in OFF or REPAIR (10), or owned by the alignment loop (8). -/
def Chan.generatorCause (c : Chan) : Nat :=
  if c.mode = 0 || c.mode = 11 then 10 else if c.mode = 8 then 8 else 0

/-- The RCAUSE for which a write of the PLL block is rejected, or 0. -/
def Chan.pllWriteCause (c : Chan) (fnom off : Nat) (v : Word) : Nat :=
  let go := fun p => if c.generatorCause != 0 then c.generatorCause else c.profileCause p
  if off = Reg.PLL_CFG then
    (if fieldIn v Fld.PLL_CFG_NINT 80 560 && fieldIn v Fld.PLL_CFG_POST 8 32 then 0 else 9)
  else if off = Reg.PLL_CTL then
    if v.getLsbD 0 then (if c.mode != 1 || c.faulted then 1 else c.lockCause fnom) else 0
  else if off = Reg.PLL_RAMP then
    if !fieldIn v Fld.PLL_RAMP_NSEG 1 16 then 9
    else if getField v Fld.PLL_RAMP_GO = 1 then go (c.copyProfile (getField v Fld.PLL_RAMP_NSEG)) else 0
  else if off = Reg.PLL_LEVEL then
    if !fieldIn v Fld.PLL_LEVEL_SLOPE 1 10000 then 9 else go (levelProfile v)
  else if Reg.PLL_SEG_TGT 0 ≤ off then
    if off % 8 = 0 then (if 8000000 < ((v.setWidth 24).toInt).natAbs then 9 else 0)
    else (if fieldIn v Fld.PLL_SEG_SLP_SLOPE 1 10000 then 0 else 9)
  else 0

/-! ## PACK (R225, R230, R231) -/

/-- A write of the PACK block is rejected; OFF and REPAIR accept none (R231). -/
def Chan.packWriteBad (c : Chan) (off : Nat) (v : Word) : Bool :=
  if c.mode = 0 || c.mode = 11 then true
  else if off = Reg.PACK_CFG then
    !(fieldIn v Fld.PACK_CFG_KC 1 255 && fieldIn v Fld.PACK_CFG_QACQ 16 255 && 8 ≤ getField v Fld.PACK_CFG_QLOSE) ||
      getField v Fld.PACK_CFG_QACQ ≤ getField v Fld.PACK_CFG_QLOSE
  else if off = Reg.PACK_ID then getField (c.peek Reg.PACK_CFG) Fld.PACK_CFG_EN = 1
  else if off = Reg.PACK_W then !(fieldIn v Fld.PACK_W_W 0 32768 && fieldIn v Fld.PACK_W_WMIN 33 32768)
  else if off = Reg.PACK_TR then !fieldIn v Fld.PACK_TR_TR 30 600
  else false

/-! ## The blocks together -/

/-- Whether a register has only hardware-set fields, counters and sticky bits: its block checks no value of a write. -/
def stickyOnly (off : Nat) : Bool :=
  match findRow chanRows off with
  | some r => r.counter || (r.rw == 0 && r.rwl == 0 && r.wo == 0)
  | none => true

/-- A write of any register of the PWM block, the thermal model and the capture block in OFF or REPAIR is rejected, its
sticky bits and counters too (R268, R413, R452, R559; log 68). -/
def Chan.blockShut (c : Chan) (off : Nat) : Bool :=
  (c.mode = 0 || c.mode = 11) && ((0x0800 ≤ off && off < 0x0C00) || (0x2800 ≤ off && off < 0x3000))

/-- Why a channel's block rejects a write on its arrival: `none`, or the block's cause field (0 where it has none). The
mode request, PWM_TRIP, the engine ports and the safety view are judged where they act. -/
def State.arrivalCause (s : State) (ch : ChId) (off : Nat) (v : Word) : Option Nat :=
  let c := s.chan ch
  let bad := fun (b : Bool) (n : Nat) => if b then some n else none
  if c.blockShut off then some 0
  else if stickyOnly off then none
  else if off = Reg.CH_TICK_DIV || off = Reg.CH_OUTER_DIV then bad (s.tickWriteBad ch off v) 0
  else if off < 0x0400 then bad (!modeFieldsOk off v) 3
  else if off < 0x0800 then bad (c.sdiWriteBad (Fin.ofNat 16 ((off - 0x400) / 0x40)) ((off - 0x400) % 0x40) v) 0
  else if off < 0x0C00 then bad (c.pwmWriteBad off v) 0
  else if off < 0x1400 then none
  else if off < 0x1C00 then bad (c.lawWriteBad off v) 0
  else if off < 0x1CA0 then bad (c.spWriteBad ((off - 0x1C00) / 0x20) ((off - 0x1C00) % 0x20) v) 3
  else if off < 0x2000 then bad (!modeFieldsOk off v) 3
  else if off < 0x2400 then
    let n := c.pllWriteCause s.fnom off v
    bad (n != 0) n
  else if off < 0x2800 then bad (c.packWriteBad off v) 0
  else if off < 0x2C00 then bad (c.tmodWriteBad off v) 0
  else if off < 0x3000 then
    let k : SetId := Fin.ofNat 4 ((off - 0x2C00) / 0x100)
    let r := (off - 0x2C00) % 0x100
    bad (if r = 0 then c.capCtlBad k v else c.capWriteBad k r v) 0
  else none

/-- The REJ and cause fields of the block that owns a channel register. -/
def Chan.markRejected (c : Chan) (off cause : Nat) : Chan :=
  if off = Reg.CH_TICK_DIV || off = Reg.CH_OUTER_DIV then c.setFld Reg.CH_TICK_STAT Fld.CH_TICK_STAT_REJ 1
  else if off < 0x0400 then
    (c.setFld Reg.CH_MODE_STAT Fld.CH_MODE_STAT_REJ 1).setFld Reg.CH_MODE_STAT Fld.CH_MODE_STAT_RCAUSE cause
  else if off < 0x0800 then
    c.setFld (Reg.SDI_STAT ((off - 0x400) / 0x40)) Fld.SDI_STAT_REJ 1
  else if off < 0x0C00 then c.setFld Reg.PWM_STAT Fld.PWM_STAT_REJ 1
  else if off < 0x1C00 then c.setFld Reg.LAW_STAT Fld.LAW_STAT_REJ 1
  else if off < 0x2000 then
    let c := (c.setFld Reg.CH_MODE_STAT Fld.CH_MODE_STAT_REJ 1).setFld Reg.CH_MODE_STAT Fld.CH_MODE_STAT_RCAUSE cause
    if off < 0x1CA0 then c.setFld (Reg.SP_STAT ((off - 0x1C00) / 0x20)) Fld.SP_STAT_REJ 1 else c
  else if off < 0x2400 then
    (c.setFld Reg.PLL_STAT Fld.PLL_STAT_REJ 1).setFld Reg.PLL_STAT Fld.PLL_STAT_RCAUSE cause
  else if off < 0x2800 then c.setFld Reg.PACK_STAT Fld.PACK_STAT_REJ 1
  else if off < 0x2C00 then c.setFld Reg.TMOD_STAT Fld.TMOD_STAT_REJ 1
  else c.setFld (Reg.CAP_STAT ((off - 0x2C00) / 0x100)) Fld.CAP_STAT_REJ 1

/-- A block's answer to a write of a channel register that it rejects: its fields, for the mode controller its count, and
the write-rejected record (R537). -/
def State.rejectChan (s : State) (ch : ChId) (off : Nat) (v : Word) (src : WriteSrc) (cause : Nat) : State :=
  let s := s.onChan ch fun c => c.markRejected off cause
  let mode := (off < 0x0400 && off != Reg.CH_TICK_DIV && off != Reg.CH_OUTER_DIV) || (0x1C00 ≤ off && off < 0x2000)
  let s := if mode then s.countCh ch Reg.CH_MODE_CNT true false else s
  s.rejectRecord (chanBlock off) ch.val off v (s.srcNum src) cause

end Sys2Proof.Machine
end

