-- ==== Sys2Proof/Machine/Modes.lean ====
section
/-! DEFINITION. Machine/Modes.lean: the mode controller (06_modes_and_handover.md R174 to R197): how a request is judged, which
transition a boundary takes, what entering each mode does, and the events that the controller awaits. -/

namespace Sys2Proof.Machine

/-! ## The graph (R176) -/

/-- K1 is confirmed open (R181). -/
def Chan.k1Open (c : Chan) : Bool := !c.bit Reg.SAF_CH_STAT Fld.SAF_CH_STAT_K1CMD && c.saf.k1.confirmed

/-- The targets that a host may request from a mode (R176). -/
def hostTargets : Nat → List Nat
  | 1 => [0, 2, 8, 9, 10, 11]
  | 2 => [1, 3, 4, 7, 8, 10]
  | 3 => [1, 4, 7, 8, 10]
  | 4 => [1, 5, 7, 8, 10]
  | 5 | 6 | 7 => [1, 4, 8, 10]
  | 8 | 9 | 10 => [1]
  | _ => []

/-- The quantity that a transition blends: 0 none, 1 v*_C, 2 i*_L (R176, R196). -/
def blendQty (old new : Nat) : Nat :=
  match old, new with
  | 2, 4 | 2, 7 | 3, 4 | 3, 7 | 4, 7 | 6, 4 | 7, 4 => 1
  | 4, 5 | 5, 4 => 2
  | _, _ => 0

/-- Bit `m` of CH_MODE_CFG.ALLOW (R202). -/
def Chan.allows (c : Chan) (m : Nat) : Bool := (c.fld Reg.CH_MODE_CFG Fld.CH_MODE_CFG_ALLOW).testBit m

/-- The condition of a transition that the host requests, beyond the common checks, holds (R176, R182 to R188, R495): the
edges to RESYNC from BLACKSTART and to FORM from RIDE are the host's only where LIVE_ACT and RIDE_RET do not make them
automatic. -/
def Chan.edgeOpen (c : Chan) (m : Nat) : Bool :=
  let st := fun f => c.bit Reg.CH_MODE_STAT f
  match c.mode, m with
  | 2, 3 => st Fld.CH_MODE_STAT_PRE_DONE && c.k1Open
  | 2, 4 => st Fld.CH_MODE_STAT_PRE_DONE
  | 2, 7 => st Fld.CH_MODE_STAT_PRE_DONE && c.k1Open
  | 3, 4 => st Fld.CH_MODE_STAT_BS_DONE
  | 3, 7 => c.ctl.busLive && !st Fld.CH_MODE_STAT_K1_REQ && !c.bit Reg.CH_MODE_CFG Fld.CH_MODE_CFG_LIVE_ACT
  | 4, 5 => c.k1Closed
  | 4, 7 => c.k1Open
  | 6, 4 => c.fld Reg.CH_RIDE Fld.CH_RIDE_DWELL ≤ c.ctl.dwell && !c.bit Reg.CH_MODE_CFG Fld.CH_MODE_CFG_RIDE_RET
  | _, _ => true

/-- A REPAIR request finds its section staged (R495). -/
def State.repairReady (s : State) (ch : ChId) : Bool :=
  s.gfld Reg.IMG_STAT Fld.IMG_STAT_STATE = 2 && s.gfld Reg.IMG_STAT Fld.IMG_STAT_STGCH = ch.val && !(s.isPair && s.holds ch)

/-- The LIVE and LATCH bits together (R189). -/
def Chan.safeBits (c : Chan) : BitVec 12 := (c.get Reg.CH_SAFE_LIVE ||| c.get Reg.CH_SAFE_LATCH).extractLsb' 0 12

/-- Whether a SAFE cause blocks a request (R191): for PRECHARGE, TEST, a driving mode, and HALT from SAFE. -/
def Chan.safeBlocks (c : Chan) (v : Nat) : Bool :=
  ((2 ≤ v && v ≤ 7) || v = 9 || (c.mode = 10 && v = 1)) && c.safeBits != 0

/-- The RCAUSE with which a request for `v`, not the present mode, is rejected, in the order of R177; 0: it passes. -/
def State.requestCause (s : State) (ch : ChId) (v : Nat) : Nat :=
  let c := s.chan ch
  if 12 ≤ v then 1
  else if c.mode = 11 then 9
  else if c.faulted && v != 0 then 4
  else if !(hostTargets c.mode).contains v then 1
  else if !c.allows v then 2
  else if v = 8 && !s.isPair then 7
  else if (v = 3 || v = 4 || v = 5 || v = 7) && s.inhibited ch then 10
  else if c.safeBlocks v then (if c.safeBits = 0x010 then 6 else 5)
  else if s.isPair && 2 ≤ v && v ≤ 7 && !s.holds ch then 3
  else if v = 11 && !s.repairReady ch then 3
  else if c.edgeOpen v then 0 else 3

/-- A rejected request (R177, R179, R537): REJ, RCAUSE, the count, the record; a violation but for pre-emption. -/
def State.rejectRequest (s : State) (ch : ChId) (v : Word) (src : WriteSrc) (cause : Nat) : State :=
  let s := s.rejectChan ch Reg.CH_MODE_REQ v src cause
  if cause = 8 then
    match src with
    | .group _ => s.groupOutcome ch 2
    | .host _ | .mirror _ => s
  else s.landingRejected ch src 5 Reg.CH_MODE_REQ

/-! ## Entering a mode -/

/-- The channel clock stops (R176, R281, R450): engines, ramps, capture and the thermal model rest. -/
def State.enterOff (s : State) (ch : ChId) : State :=
  let s := s.onChan ch fun c =>
    let c := c.stopEngines.dropProfile
    let c := (c.setFld Reg.PLL_STAT Fld.PLL_STAT_LOCK 0).setFld Reg.PLL_STAT Fld.PLL_STAT_BYPASS 1
    { (c.setFld Reg.PLL_STAT Fld.PLL_STAT_GATED 1).freezeThermal s.time.refNs with pll := { c.pll with phase := .idle } }
  s.capStop ch

/-- REPAIR begins (R496): the engines stop, capture sets close, the load runs. -/
def State.enterRepair (s : State) (ch : ChId) : State :=
  let s := s.onChan ch fun c => c.stopEngines.freezeThermal s.time.refNs
  ((s.capStop ch).gset Reg.IMG_STAT Fld.IMG_STAT_STATE 3).gset Reg.IMG_STAT Fld.IMG_STAT_BUSY 1

/-- SHADOW begins (R63, R291, R310): the alignment loop owns the ramp generator; a profile that runs is abandoned, with a
record. -/
def State.enterShadow (s : State) (ch : ChId) (guard : Bool) : State :=
  let c := s.chan ch
  let s := if c.pll.profile.isEmpty then s
    else (s.putChan ch c.dropProfile).record 0x08 ch.val 4 1 (recData [(0, 4, (c.get Reg.PLL_OFS).toNat)])
  let s := s.onChan ch fun c => c.setFld Reg.PLL_STAT Fld.PLL_STAT_RAMPOWN 1
  s.pairEnterShadow ch guard

/-- A blend begins (R196, R209): L as it stands; in its first tick L − 1 ticks remain. -/
def Chan.startBlend (c : Chan) (qty : Nat) : Chan :=
  let l := max 1 (c.fld Reg.HO_CFG Fld.HO_CFG_LEN)
  let c := { c with ctl := { c.ctl with blendLen := l } }
  ((c.setFld Reg.HO_STAT Fld.HO_STAT_ACT 1).setFld Reg.HO_STAT Fld.HO_STAT_QTY qty).setFld Reg.HO_STAT Fld.HO_STAT_REM (l - 1)

/-- Take a transition at a boundary (R174, R176): the mode's registers, then what the target mode does. -/
def State.transition (s : State) (ch : ChId) (m tc : Nat) : State :=
  let q := blendQty (s.chan ch).mode m
  let s := s.enterMode ch m tc
  let s := if q = 0 then s else s.onChan ch fun c => c.startBlend q
  if m = 0 then s.enterOff ch
  else if m = 8 then s.enterShadow ch false
  else if m = 11 then s.enterRepair ch
  else s

/-- A LEASH claim that is ready: the mode entered (R192). -/
def Chan.claimedMode (c : Chan) : Nat :=
  if c.safeBits != 0 then 10
  else match c.pair.mode with
    | some m => if drivingCode m.toNat then m.toNat else 1
    | none => 1

/-- The takeover of a claimed channel (R192, R322, R353). -/
def State.takeover (s : State) (ch : ChId) : State :=
  let m := (s.chan ch).claimedMode
  ((s.taken ch m).transition ch m 10).restartSettle ch

/-- The holder's SHADOW request, at the boundary after the one that accepted it (R192, R323). -/
def State.releaseToShadow (s : State) (ch : ChId) : State :=
  let s := (s.hostRelease ch).enterMode ch 8 1
  s.enterShadow ch true

/-- A request that passed and was selected (R176, R192): the holder's SHADOW first releases the LEASH; SAFE latches HOST. -/
def State.takeRequest (s : State) (ch : ChId) (v : Nat) : State :=
  if v = 8 && s.holds ch then s.onChan ch fun c => { c with ctl := { c.ctl with releasing := true } }
  else s.transition ch v 1

/-! ## The choice of a boundary (R174, R179) -/

/-- The automatic transition of the lowest rank that is due: target and TCAUSE (R176, R182 to R188). -/
def Chan.autoTarget (c : Chan) : Option (Nat × Nat) :=
  let cfg := fun f => c.bit Reg.CH_MODE_CFG f
  let r : Option (Nat × Nat) := match c.mode with
    | 2 => if c.ctl.preFail then some (1, 11) else none
    | 3 => if c.ctl.busLive && cfg Fld.CH_MODE_CFG_LIVE_ACT && !c.bit Reg.CH_MODE_STAT Fld.CH_MODE_STAT_K1_REQ
        then some (7, 7) else none
    | 6 => if cfg Fld.CH_MODE_CFG_RIDE_RET && c.ctl.rideReturn && c.fld Reg.CH_RIDE Fld.CH_RIDE_DWELL ≤ c.ctl.dwell
        then some (4, 4) else none
    | 7 => if c.k1Closed then some (4, 5) else if c.ctl.rsyTimeout then some (4, 6) else none
    | 9 => if c.ctl.testDone then some (1, 12) else none
    | _ => none
  r.filter fun x => c.allows x.1

/-- Automatic entry into RIDE is due (R187). -/
def Chan.rideDue (c : Chan) : Bool :=
  (c.mode = 4 || c.mode = 7) && c.bit Reg.CH_MODE_CFG Fld.CH_MODE_CFG_RIDE_EN &&
    c.bit Reg.LAW_STAT Fld.LAW_STAT_LIM && c.allows 6

/-- Entry into SAFE is due on a cause (R189). -/
def Chan.safeDue (c : Chan) : Bool := 2 ≤ c.mode && c.mode ≤ 7 && c.safeBits != 0

/-- What a boundary selects: nothing, the host's request, or another transition. -/
inductive Choice where
  | none
  | host
  | claim
  | auto (m tc : Nat)
  deriving DecidableEq, Repr

/-- The first of R179's ranks that is due; `v`: a request that passed every check. -/
def Chan.choose (c : Chan) (v : Option Nat) : Choice :=
  let req := fun l : List Nat => match v with
    | some n => l.contains n
    | none => false
  if c.mode = 8 && c.pair.claim = some .ready then .claim
  else if c.safeDue then .auto 10 9
  else if req [10] then .host
  else if req [1, 8] then .host
  else if c.rideDue then .auto 6 3
  else if v.isSome then .host
  else match c.autoTarget with
    | some (m, tc) => .auto m tc
    | none => .none

/-- A request for SAFE that passes latches HOST (R189); SAFE is then due from PRECHARGE and the driving modes. -/
def State.hostSafe (s : State) (ch : ChId) (v : Option Nat) : State :=
  match v with
  | some 10 => s.latchSafe ch 11
  | _ => s

/-- The mode controller at a boundary (R174 to R179, R192): the landing request and its writer, if any, is judged; at most
one transition is taken. -/
def State.modeBoundary (s : State) (ch : ChId) (req : Option (Word × WriteSrc)) : State :=
  let c := s.chan ch
  match req with
  | none =>
    if c.ctl.releasing then s.releaseToShadow ch
    else match c.choose none with
      | .claim => s.takeover ch
      | .auto m tc => s.transition ch m tc
      | .host | .none => s
  | some (w, src) =>
    let v := getField w Fld.CH_MODE_REQ_MODE
    let same := v = c.mode
    let cause := if same then 0 else s.requestCause ch v
    if c.ctl.releasing then
      let s := if same then s else s.rejectRequest ch w src (if cause = 0 then 8 else cause)
      s.releaseToShadow ch
    else
      let pass := !same && cause = 0
      let s := if same || pass then s else s.rejectRequest ch w src cause
      let s := s.hostSafe ch (if pass then some v else none)
      match (s.chan ch).choose (if pass then some v else none) with
      | .host => s.takeRequest ch v
      | .claim => (if pass then s.rejectRequest ch w src 8 else s).takeover ch
      | .auto m tc => (if pass && !(m = 10 && v = 10) then s.rejectRequest ch w src 8 else s).transition ch m tc
      | .none => s

/-- A request judged where no boundary comes: with FAULT latched and no tick running (R180). Only OFF acts. -/
def State.faultedRequest (s : State) (ch : ChId) (w : Word) (src : WriteSrc) : State :=
  let v := getField w Fld.CH_MODE_REQ_MODE
  if v = (s.chan ch).mode then s
  else
    let cause := s.requestCause ch v
    if cause = 0 then s.transition ch v 1 else s.rejectRequest ch w src cause

/-! ## Events that the controller awaits -/

/-- PRE_DONE (R182). -/
def execPreDone (ch : ChId) (s : State) : Result :=
  let c := s.chan ch
  if c.mode = 2 && 100 ≤ c.ctl.preRun && c.k2Closed then
    .next (s.putChan ch (c.setFld Reg.CH_MODE_STAT Fld.CH_MODE_STAT_PRE_DONE 1))
  else .next s

/-- PRECHARGE_TIMEOUT: TMAX passes without PRE_DONE (R182). -/
def execPrechargeTimeout (ch : ChId) (s : State) : Result :=
  let c := s.chan ch
  if c.mode = 2 && !c.bit Reg.CH_MODE_STAT Fld.CH_MODE_STAT_PRE_DONE then
    let c := (c.setFld Reg.CH_MODE_STAT Fld.CH_MODE_STAT_PRE_FAIL 1).setFld Reg.CH_MODE_STAT Fld.CH_MODE_STAT_K2_REQ 0
    let s := (s.putChan ch { c with ctl := { c.ctl with preFail := true } }).contactors ch
    .next (s.record 0x01 ch.val 3 2 (recData [(0, 4, (c.fe.slots[6]).data.toNat)]))
  else .next s

/-- DEAD_BUS_TIMEOUT: every tick has been dead for TDEAD (R183). -/
def execDeadBusTimeout (ch : ChId) (s : State) : Result :=
  let c := s.chan ch
  if c.mode = 3 && c.ctl.bsCheck && 1 ≤ c.ctl.deadRun then
    let c := { c with ctl := { c.ctl with bsCheck := false } }.setFld Reg.CH_MODE_STAT Fld.CH_MODE_STAT_K1_REQ 1
    .next ((s.putChan ch c).contactors ch)
  else .next s

/-- Three times the squared magnitude of the line-voltage space vector, from two line voltages (R183). -/
def lineSquare (a b : Int) : Nat := 4 * (a * a + a * b + b * b).natAbs

/-- The bus magnitude as UQ0.16 pu, from slots 10 and 11 (R183). -/
def Chan.busMagnitude (c : Chan) : Nat :=
  let fs := (c.get Reg.LAW_FS_V).toNat
  let vb := (c.get Reg.LAW_VBASE).toNat
  min 65535 (rootOf 84 (lineSquare (c.fe.slots[10]).data.toInt (c.fe.slots[11]).data.toInt * (fs * fs))
    (6 * 2 ^ 30 * (vb * vb)))

/-- BUS_FOUND_LIVE: ten consecutive live ticks before K1 is requested (R183). -/
def execBusFoundLive (ch : ChId) (s : State) : Result :=
  let c := s.chan ch
  if c.mode = 3 && c.ctl.bsCheck && 10 ≤ c.ctl.liveRun then
    let c := { c with ctl := { c.ctl with bsCheck := false, busLive := true } }.setFld Reg.CH_MODE_STAT
      Fld.CH_MODE_STAT_BS_LIVE 1
    .next ((s.putChan ch c).record 0x01 ch.val 4 0 (recData [(0, 2, c.busMagnitude)]))
  else .next s

/-- The ramp factor of one, in units of 2^-48 (R184). -/
def rampOne : Nat := 2 ^ 48

/-- BS_DONE: r has reached 1 (R184). -/
def execBsDone (ch : ChId) (s : State) : Result :=
  let c := s.chan ch
  if c.mode = 3 && c.ctl.ramp = rampOne then .next (s.putChan ch (c.setFld Reg.CH_MODE_STAT Fld.CH_MODE_STAT_BS_DONE 1))
  else .next s

/-- RSY_MATCH_COMPLETE: NMATCH consecutive matched ticks (R185). -/
def execRsyMatchComplete (ch : ChId) (s : State) : Result :=
  let c := s.chan ch
  if c.mode = 7 && c.fld Reg.CH_RSY_CFG2 Fld.CH_RSY_CFG2_NMATCH ≤ c.ctl.matched then
    .next ((s.putChan ch (c.setFld Reg.CH_MODE_STAT Fld.CH_MODE_STAT_K1_REQ 1)).contactors ch)
  else .next s

/-- The last differences of R185 as a record gives them: Δf in mHz, ΔV in 2^-16 pu, Δθ in 0.01° (R538). -/
def Chan.lastDifferences (c : Chan) : RecData :=
  recData [(0, 4, (BitVec.ofInt 32 (quantFloor 100 (c.ctl.df * 1000) (2 ^ 54))).toNat),
    (4, 2, (BitVec.ofInt 16 (quantFloor 101 c.ctl.dv (2 ^ 14))).toNat),
    (6, 2, (BitVec.ofInt 16 (quantFloor 102 (c.ctl.dth * 36000) (2 ^ 32))).toNat)]

/-- RESYNC_TIMEOUT: K1_REQ has not been set within TMAX (R186). -/
def execResyncTimeout (ch : ChId) (s : State) : Result :=
  let c := s.chan ch
  if c.mode = 7 && !c.bit Reg.CH_MODE_STAT Fld.CH_MODE_STAT_K1_REQ then
    let c := { c with ctl := { c.ctl with rsyTimeout := true } }.setFld Reg.CH_MODE_STAT Fld.CH_MODE_STAT_RSY_TMO 1
    .next ((s.putChan ch c).record 0x01 ch.val 5 1 (c.lastDifferences))
  else .next s

/-- RIDE_RETURN: LIM has been 0 in DWELL consecutive ticks (R188). -/
def execRideReturn (ch : ChId) (s : State) : Result :=
  let c := s.chan ch
  if c.mode = 6 && c.fld Reg.CH_RIDE Fld.CH_RIDE_DWELL ≤ c.ctl.dwell && c.bit Reg.CH_MODE_CFG Fld.CH_MODE_CFG_RIDE_RET then
    .next (s.putChan ch { c with ctl := { c.ctl with rideReturn := true } })
  else .next s

/-- RIDE_TIMEOUT: still in RIDE after a TMAX that is not 0 (R188): the cause RIDET. -/
def execRideTimeout (ch : ChId) (s : State) : Result :=
  let c := s.chan ch
  if c.mode = 6 && c.fld Reg.CH_RIDE Fld.CH_RIDE_TMAX != 0 then .next (s.latchSafe ch 10) else .next s

/-- HANDOVER_BLEND_END (R196). -/
def execHandoverBlendEnd (ch : ChId) (s : State) : Result :=
  let c := s.chan ch
  if c.bit Reg.HO_STAT Fld.HO_STAT_ACT && c.fld Reg.HO_STAT Fld.HO_STAT_REM = 0 then
    .next (s.putChan ch (c.put Reg.HO_STAT 0))
  else .next s

/-- The class C slots: 0 to 9, slot 7 in three-level topologies only (R163). -/
def Chan.classC (c : Chan) (k : Nat) : Bool := k < 10 && (k != 7 || c.threeLevel)

/-- Whether a slot's tags exceed their tolerance (R164). -/
def Chan.tagsExceed (c : Chan) (k : Fin 64) : Bool :=
  let t := c.tags[k]
  c.fld Reg.LAW_TAG Fld.LAW_TAG_STALE_MAX + 1 ≤ t.stale || c.fld Reg.LAW_TAG Fld.LAW_TAG_SAT_MAX + 1 ≤ t.sat ||
    c.fld Reg.LAW_TAG Fld.LAW_TAG_BAD_MAX + 1 ≤ t.bad

/-- MEAS_LOST: a class C slot exceeds its tolerance in this tick; the FE's status word, which is published, shows it with the
slot, and LAW_STAT at the end of the tick (R164, R172). -/
def execMeasLost (ch : ChId) (slot : BitVec 6) (s : State) : Result :=
  let c := s.chan ch
  if c.classC slot.toNat && c.tagsExceed (Fin.ofNat 64 slot.toNat) then
    let w := setField (setField c.law.status Fld.LAW_STAT_MEAS_LOST 1) Fld.LAW_STAT_LOST_SLOT slot.toNat
    .next (s.putChan ch ((({ c with law := { c.law with status := w } } : Chan).post 0x20 w 0).capEvent 5))
  else .next s

end Sys2Proof.Machine
end

