-- ==== Sys2Proof/Machine/Param.lean ====
section
/-! DEFINITION. Machine/Param.lean: the parameter store (17_configuration_image.md R501 to R505): which registers a channel
record holds, snapshots, saves and their end. -/

namespace Sys2Proof.Machine

/-! ## What a channel record holds (R502) -/

/-- The words of a row. -/
def RegRow.offsets (r : RegRow) : List Nat :=
  (List.range r.n1).flatMap fun i => (List.range r.n2).map fun j => r.base + i * r.s1 + j * r.s2

/-- The bits that a write sets: RW and RWL (R10). -/
def RegRow.settable (r : RegRow) : Word := bitsOf r.rw ||| bitsOf r.rwl

/-- Whether a channel register belongs to the record: the blocks and registers that R502 names, without SP_TGT and the
coefficient port FIR_CDAT. The RWL law parameters are among the law parameter block's (R166). -/
def persistent (off : Nat) : Bool :=
  (0x0400 ≤ off && off < 0x0800 && off % 0x40 != 0x14) || (0x0800 ≤ off && off < 0x0C00) ||
    (0x1400 ≤ off && off < 0x1800) || (0x1C00 ≤ off && off < 0x2000 && !(off < 0x1CA0 && off % 0x20 == 0)) ||
    (0x2400 ≤ off && off < 0x2800) || (0x2800 ≤ off && off < 0x2C00) || (0x010C ≤ off && off ≤ 0x0130 && off != 0x0110
      && off != 0x0114) || off == Reg.CH_TICK_DIV || off == Reg.CH_OUTER_DIV || off == Reg.PLL_CFG || off == Reg.PLL_FRAC

/-- The record's registers with their settable bits. -/
def persistentRegs : List (Nat × Word) :=
  chanRows.flatMap fun r =>
    if r.settable = 0 || r.counter then [] else (r.offsets.filter persistent).map fun o => (o, r.settable)

/-- The coefficients of owner 0 to 62. -/
def Engine.savedCoefs (e : Engine) : List (Nat × Word × BitVec 6) :=
  e.coef.filterMap fun kc => if kc.2.owner.toNat = 63 then none else some (kc.1, kc.2.mant, kc.2.shift)

/-- The snapshot of a channel (R502, R504). -/
def Chan.snapshot (c : Chan) : ParamRec where
  ident := match c.img with
    | some g => g.ident
    | none => 0
  regs := persistentRegs.map fun om => (om.1, c.get om.1 &&& om.2)
  fe := c.fe.savedCoefs
  me := c.me.savedCoefs

/-! ## Saves (R504, R505) -/

/-- Take the snapshot of a channel into a job that awaits it. -/
def SaveJob.snap (j : SaveJob) (ch : ChId) (c : Chan) : SaveJob :=
  if j.due.getLsbD ch.val then { j with due := j.due &&& ~~~(1#12 <<< ch.val), snaps := (ch, c.snapshot) :: j.snaps } else j

/-- PAR_STAT shows the saves: 1 while a snapshot is due, 2 while the bank is written (R511). -/
def State.showSaves (s : State) : State :=
  let st := match s.ldr.save with
    | none => 0
    | some j => if j.due = 0 then 2 else 1
  (s.gset Reg.PAR_STAT Fld.PAR_STAT_STATE st).gset Reg.PAR_STAT Fld.PAR_STAT_QUEUED (if s.ldr.queued.isEmpty then 0 else 1)

/-- At a channel's boundary, after the writes that land there, every job that awaits its snapshot takes it (R504). -/
def State.snapshotDue (s : State) (ch : ChId) : State :=
  let c := s.chan ch
  let waits := fun j : SaveJob => j.due.getLsbD ch.val
  if (match s.ldr.save with
      | some j => waits j
      | none => false) || s.ldr.queued.any waits then
    { s with ldr := { s.ldr with
      save := s.ldr.save.map fun (j : SaveJob) => j.snap ch c, queued := s.ldr.queued.map fun (j : SaveJob) => j.snap ch c } }.showSaves
  else s

/-- Start a save, or let it wait: a confirmation goes ahead of a queued host save (R504). -/
def State.startSave (s : State) (j : SaveJob) : State :=
  match s.ldr.save with
  | none => { s with ldr := { s.ldr with save := some j } }.showSaves
  | some _ =>
    { s with ldr := { s.ldr with
      queued := if j.safety.isSome then j :: s.ldr.queued else s.ldr.queued ++ [j] } }.showSaves

/-- A host save of the channels in `mask`: a channel in OFF, or in HALT with no tick running, is taken at once (R504). -/
def State.hostSave (s : State) (mask : BitVec 12) : State :=
  let j : SaveJob := ⟨mask, [], none⟩
  s.startSave ((List.finRange 12).foldl (fun j ch =>
    if (s.chan ch).ticking then j else j.snap ch (s.chan ch)) j)

/-- A write of PAR_CTL: the RCAUSE of its rejection (R506), or the save. -/
def State.writeParCtl (s : State) (v : Word) : Nat ⊕ State :=
  let m : BitVec 12 := v.extractLsb' 0 12
  if m = 0 then .inr s
  else if !s.ldr.queued.isEmpty then .inl 1
  else if (List.finRange 12).any fun ch => m.getLsbD ch.val && (s.chan ch).mode = 11 then .inl 7
  else .inr (s.hostSave m)

/-- The active bank, if one is valid (R501). -/
def State.parActive (s : State) : Option ParBank :=
  if s.gbit Reg.PAR_STAT Fld.PAR_STAT_VALID && s.store.parOk then
    some (s.store.par[s.gfld Reg.PAR_STAT Fld.PAR_STAT_BANK % 2]'(Nat.mod_lt _ (by decide)))
  else none

/-- The next waiting save starts. -/
def State.nextSave (s : State) : State :=
  match s.ldr.queued with
  | [] => { s with ldr := { s.ldr with save := none } }.showSaves
  | j :: t => { s with ldr := { s.ldr with save := some j, queued := t } }.showSaves

/-- The bank that a save writes: the inactive one; bank A where none is active (DEDUCED, log 71). -/
def State.parTarget (s : State) : Fin 2 :=
  if s.gbit Reg.PAR_STAT Fld.PAR_STAT_VALID then Fin.ofNat 2 (s.gfld Reg.PAR_STAT Fld.PAR_STAT_BANK + 1) else 0

/-- The written bank is committed and becomes the active one (R504). -/
def State.commitSave (s : State) (j : SaveJob) : State :=
  let b := s.parTarget
  let old := s.parActive
  let gen := (match old with
    | some a => a.gen
    | none => 0) + 1
  let base : Vector (Option ParamRec) 12 := match old with
    | some a => a.recs
    | none => Vector.replicate 12 none
  let recs := j.snaps.foldr (fun cr (r : Vector (Option ParamRec) 12) => r.set cr.1 (some cr.2)) base
  let saf := match j.safety with
    | some x => some x
    | none => old.bind (·.safety)
  let s := { s with store := { s.store with par := s.store.par.set b ⟨true, gen, recs, saf⟩ } }
  let s := (s.gset Reg.PAR_STAT Fld.PAR_STAT_BANK b.val).gset Reg.PAR_STAT Fld.PAR_STAT_VALID 1
  s.record 0x15 0xF 8 0 (recData [(0, 1, b.val), (4, 4, gen)])

/-- The channels of a job, as the record's mask. -/
def SaveJob.mask (j : SaveJob) : Nat := chMask fun ch => j.due.getLsbD ch.val || j.snaps.any fun cr => cr.1 == ch

/-- A save that failed after its retries (R505): the inactive bank is left not committed. -/
def State.failSave (s : State) (j : SaveJob) (err : Nat) : State :=
  let b := s.parTarget
  let s := { s with store := { s.store with par := s.store.par.set b { s.store.par[b] with commit := false } } }
  ((s.gset Reg.PAR_STAT Fld.PAR_STAT_ERR err).countG Reg.IMG_CNT true true).record 0x15 0xF 7 2
    (recData [(0, 1, err), (1, 2, j.mask)])

/-- PARAM_SAVE_DONE: the running save ends; the next one that waits starts (R504, R505). -/
def execParamSaveDone (res : SaveObs) (s : State) : Result :=
  match s.ldr.save with
  | none => .next s
  | some j =>
    if j.due != 0 then .next s
    else match res with
      | .ok => .next ((s.commitSave j).nextSave)
      | .noResponse => .next ((s.failSave j 1).nextSave)
      | .mismatch => .next ((s.failSave j 2).nextSave)

end Sys2Proof.Machine
end

