-- ==== Sys2Proof/Machine/Landing.lean ====
section
/-! DEFINITION. Machine/Landing.lean: how writes land at a tick boundary (R10, R32, R131, R132, R167, R473, R475): which land,
what a register's landing does beside its fields, and the judgement of RWL and coefficient writes. -/

namespace Sys2Proof.Machine

/-! ## What lands -/

/-- Whether a committed group applies to the channel at this boundary (R473). -/
def State.groupDue (s : State) (ch : ChId) : Bool :=
  s.grp.waiting.getLsbD ch.val && match s.grp.commitAt with
    | some t => decide (t ≤ s.time.refNs)
    | none => false

/-- The group's writes for the channel, in staging order. -/
def State.groupWrites (s : State) (ch : ChId) : List ChanWrite :=
  if s.groupDue ch then s.grp.staged.filterMap fun w => if w.1 = ch then some w.2 else none else []

/-- The writes that land: the group's ahead of ordinary ones (R473). -/
def State.landing (s : State) (ch : ChId) : List ChanWrite := s.groupWrites ch ++ (s.chan ch).writes

/-- The mode request that lands: the last one wins (R32, R175). -/
def requestOf (ws : List ChanWrite) : Option (Word × WriteSrc) :=
  (ws.filter fun w => w.off == Reg.CH_MODE_REQ).getLast?.map fun w => (w.v, w.src)

/-- The group has applied: outcome 1, which a rejection raises to 2, and the member no longer waits (R474). -/
def State.groupApplied (s : State) (ch : ChId) : State :=
  if s.groupDue ch then
    ({ s with grp := { s.grp with waiting := s.grp.waiting &&& ~~~(1#12 <<< ch.val),
                                  staged := s.grp.staged.filter fun w => w.1 != ch } }).groupOutcome ch 1
  else s

/-! ## Landing of one write -/

/-- A data word written in HALT (R138): the word and what reads see. -/
def Engine.landData (e : Engine) (a : Nat) (v : Word) : Engine :=
  { e.setData a v with atEnd := sset (fun _ => 0) e.atEnd a v }

/-- What the landing of `v` does beside the register's fields; `old` is the register before (R76 to R97, R138, R225, R258,
R288, R406). -/
def State.landed (s : State) (ch : ChId) (w : ChanWrite) (old : Word) : State :=
  let off := w.off
  if 0x0400 ≤ off && off < 0x0800 then
    let i : InId := Fin.ofNat 16 ((off - 0x0400) / 0x40)
    let r := (off - 0x0400) % 0x40
    if r = 0x0C then (if getField w.v Fld.FIR_XF_GO = 1 then s.onChan ch fun c => c.fadeGo i else s)
    else s.chainLanded ch i r old
  else if off = Reg.BRK_CFG then s.brakeFollow ch
  else if off = Reg.PLL_LEVEL || (off = Reg.PLL_RAMP && getField w.v Fld.PLL_RAMP_GO = 1) then
    s.onChan ch fun c => c.loadProfile w.prof
  else if off = Reg.PACK_CFG then
    { s with free := s.free + 1 }.onChan ch fun c => c.packEnableEdge (Config.freeNat s.free % 255)
  else if 0x2C00 ≤ off && off < 0x3000 then s.onChan ch Chan.capRefresh
  else if off = Reg.ENG_DDAT then
    match w.coef with
    | some k => s.onChan ch fun c =>
        c.setEngine k.eng ((c.engine k.eng).landData (k.idx.toNat + 1024 * (k.shift.toNat % 2)) w.v)
    | none => s
  else s

/-- Whether a register is judged at the boundary under the loop-open rule (R10, R167). -/
def judged (off : Nat) : Bool :=
  match findRow chanRows off with
  | some r => r.rwl != 0
  | none => false

/-- Land a write that is not judged, and mirror it. A group's coefficient write is left to the coefficients' turn. -/
def State.landPlain (s : State) (ch : ChId) (w : ChanWrite) : State :=
  if judged w.off then s
  else
    let old := (s.chan ch).get w.off
    let s := s.onChan ch fun c => c.put w.off (c.plainWord w.off w.v)
    (s.landed ch w old).mirrorLanded ch w.off w.v

/-- A law parameter rejected at its boundary (R167). -/
def State.rejectRwl (s : State) (ch : ChId) (w : ChanWrite) : State :=
  let s := s.onChan ch fun c =>
    ((c.setFld Reg.LAW_STAT Fld.LAW_STAT_REJ 1).setFld Reg.ENG_CSTAT Fld.ENG_CSTAT_REJ 1).setFld Reg.ENG_CSTAT
      Fld.ENG_CSTAT_CAUSE 1
  let s := s.countCh ch Reg.ENG_CNT false false
  (s.rejectRecord 0x05 ch.val w.off w.v (s.srcNum w.src) 1).landingRejected ch w.src 6 w.off

/-- Judge an RWL law parameter (R167); `change`: a mode change lands at this boundary. -/
def State.landJudged (s : State) (ch : ChId) (change : Bool) (w : ChanWrite) : State :=
  match lawOwner w.off with
  | none => s
  | some (e, k) =>
    let c := s.chan ch
    if c.loopAdmits e k change then
      (s.putChan ch (c.put w.off (c.plainWord w.off w.v))).mirrorLanded ch w.off w.v
    else s.rejectRwl ch w

/-- Judge a staged coefficient write (R132, R133). -/
def State.landCoef (s : State) (ch : ChId) (change : Bool) (e : Eng) (w : CoefWrite) : State :=
  let c := s.chan ch
  let owner := ((c.engine e).getCoef w.idx.toNat).owner.toNat
  if c.loopAdmits e owner change then (s.putChan ch (c.applyCoef e w)).mirrorCoef ch e w
  else (s.rejectCoef ch e w.idx.toNat 1 w.mant).landingRejected ch w.src 6 Reg.ENG_CDAT

/-- A group's coefficient writes, in their order. -/
def groupCoefs (ws : List ChanWrite) : List (Eng × CoefWrite) :=
  ws.filterMap fun w => match w.coef with
    | some k => if w.off = Reg.ENG_CDAT then some (k.eng, ⟨k.idx, w.v, k.shift, w.src, 0⟩) else none
    | none => none

/-- Both engines' staged writes in their order of arrival: each list is in order already. -/
def arrivalOrder : List CoefWrite → List CoefWrite → List (Eng × CoefWrite)
  | [], ms => ms.map fun w => (.me, w)
  | f :: fs, ms =>
    ((ms.filter fun w => w.num < f.num).map fun w => (.me, w)) ++
      (.fe, f) :: arrivalOrder fs (ms.filter fun w => f.num ≤ w.num)

/-- The staging buffers of both engines are empty. -/
def Chan.unstage (c : Chan) : Chan :=
  { c with fe := { c.fe with staged := [] }, me := { c.me with staged := [] } }.showStaged

/-- The coefficient writes at a boundary, a group's first, then in the order of arrival (R132, R473); the staging buffers
are then empty. -/
def State.landCoefs (s : State) (ch : ChId) (ws : List ChanWrite) (change : Bool) : State :=
  let c := s.chan ch
  (groupCoefs ws ++ arrivalOrder c.fe.staged c.me.staged).foldl (fun s ew => s.landCoef ch change ew.1 ew.2)
    (s.putChan ch c.unstage)

/-! ## Landing outside a tick -/

/-- The writes that wait take effect where no tick runs, as after a hard fault (R48): the judged ones by the rule of HALT.
The mode request among them is judged at once. -/
def State.landAll (s : State) (ch : ChId) : State :=
  let ws := s.landing ch
  let s := (s.groupApplied ch).onChan ch fun c => { c with writes := [] }
  let s := ws.foldl (fun s w => s.landPlain ch w) s
  let s := ws.foldl (fun s w => s.landJudged ch true w) s
  let s := (s.landCoefs ch ws true).snapshotDue ch
  match requestOf ws with
  | some (v, src) => s.faultedRequest ch v src
  | none => s

end Sys2Proof.Machine
end

