-- ==== Sys2Proof/Machine/ClockLoss.lean ====
section
/-! DEFINITION. Machine/ClockLoss.lean: the lock detector, missing reference edges, the ceiling guard, and the losses that
they declare (09_clocking.md R282, R283, R286, R292 to R294). -/

namespace Sys2Proof.Machine

/-! ## Losses (R293, R294) -/

/-- A loss of lock or of reference while running: a hard channel fault on the bypass clock, on which the writes accepted
before it complete and the thermal model is frozen (R293, R294, R450). -/
def State.clockLoss (s : State) (ch : ChId) (lor ceil : Bool) : State :=
  let c := s.chan ch
  let c := c.setFld Reg.PLL_STAT (if lor then Fld.PLL_STAT_LOR else Fld.PLL_STAT_LOL) 1
  let c := if ceil then c.setFld Reg.PLL_STAT Fld.PLL_STAT_CEIL 1 else c
  let c := (c.setFld Reg.PLL_STAT Fld.PLL_STAT_LOCK 0).setFld Reg.PLL_STAT Fld.PLL_STAT_BYPASS 1
  let c := { c with pll := { c.pll with phase := .idle } }.freezeThermal s.time.refNs
  let s := ((s.putChan ch c).holdFastPaths ch).hardFault ch 3
  let s := s.countCh ch Reg.PLL_CNT false true
  let s := s.record 0x08 ch.val 1 3 (recData [(0, 4, (c.get Reg.PLL_FMEAS).toNat), (4, 1, c.fld Reg.PLL_STAT Fld.PLL_STAT_BAND),
    (5, 1, (if lor then 2 else 1) + (if ceil then 4 else 0))])
  s.landAll ch

/-- Whether the channel runs outside a relock, so that a loss can be declared (R293). -/
def Chan.lockHeld (c : Chan) : Bool := c.bit Reg.PLL_STAT Fld.PLL_STAT_LOCK && c.mode != 0

/-- The count that a window of 1,024 reference cycles is to give, from the lock point and the offset integrated over it
(R282, R290): numerator and denominator. -/
def Chan.windowExpected (c : Chan) : Nat × Nat :=
  (c.fLock.1 * (1024 * 65536 * 100000000 + c.pll.area).toNat, c.fLock.2 * c.pll.fnom * 1000 * 65536 * 100000000)

/-- Whether a window's count lies within `ppm` of the expected count. -/
def withinPpm (count : Nat) (expected : Nat × Nat) (ppm : Nat) : Bool :=
  (((count * expected.2 : Nat) : Int) - expected.1).natAbs * 1000000 ≤ ppm * expected.1

/-- A relock in HALT ends: the delay line is calibrated, the inputs restart, and ticks resume (R240, R283). -/
def State.relocked (s : State) (ch : ChId) (c : Chan) : State :=
  let c := { c with pll := { c.pll with phase := .idle, pwHold := false }, ctl := { c.ctl with starting := true } }
  let c := c.setFld Reg.PWM_STAT Fld.PWM_STAT_CAL_OK 1
  (s.putChan ch c).chainRelock ch

/-- LOCK_WINDOW: `count` channel-clock cycles over the 1,024 reference cycles that end `since` 2^-16 reference cycles after
the latest input latch (R282, R290, R293). -/
def execLockWindow (ch : ChId) (count since : Nat) (s : State) : Host.Outcome State Fault Refusal :=
  let c := (s.chan ch).rampTo since
  let expected := c.windowExpected
  let fm := BitVec.ofInt 32 (quantFloor 11 ((count * c.pll.fnom * 65536 : Nat) : Int) (1024 * 1000))
  let c : Chan := { c.put Reg.PLL_FMEAS fm with pll := { c.pll with area := 0 } }
  if c.pll.phase = .windows then
    let good := if withinPpm count expected 100 then c.pll.good + 1 else 0
    if good < 3 then .next (s.putChan ch { c with pll := { c.pll with good := good } })
    else
      let c := ((c.setFld Reg.PLL_STAT Fld.PLL_STAT_LOCK 1).setFld Reg.PLL_STAT Fld.PLL_STAT_BYPASS 0).setFld
        Reg.PLL_STAT Fld.PLL_STAT_GATED 0
      let c := { c with pll := { c.pll with good := good, phase := .calibrate } }
      .next (if c.pll.start = .relock then s.relocked ch c else s.putChan ch c)
  else if c.lockHeld then
    let s := s.putChan ch c
    .next (if withinPpm count expected 1000 then s else s.clockLoss ch false false)
  else .next s

/-- A lock that is not declared: LFAIL, and a hard channel fault on the bypass clock (R282, R283). -/
def State.lockFail (s : State) (ch : ChId) : State :=
  let c := s.chan ch
  let c := { c with pll := { c.pll with phase := .idle } }.setFld Reg.PLL_STAT Fld.PLL_STAT_LFAIL 1
  ((((s.putChan ch c).hardFault ch 3).record 0x08 ch.val 2 3
    (recData [(0, 4, (c.get Reg.PLL_FMEAS).toNat), (4, 1, c.fld Reg.PLL_STAT Fld.PLL_STAT_BAND)])).landAll ch).bootSettled

/-- LOCK_TIMEOUT: 1 ms has passed without lock (R282). -/
def execLockTimeout (ch : ChId) (s : State) : Host.Outcome State Fault Refusal :=
  let p := (s.chan ch).pll.phase
  if p = .search || p = .windows then .next (s.lockFail ch) else .next s

/-- Whether the PLL may switch to the other reference, with AUTO as it stood at the lock (R281, R286). -/
def State.otherRefUsable (s : State) (ch : ChId) : Bool :=
  let c := s.chan ch
  c.pll.auto && !s.gbit Reg.REF_STAT Fld.REF_STAT_MISMATCH &&
    s.gbit Reg.REF_STAT (if c.bit Reg.PLL_STAT Fld.PLL_STAT_ACTREF then Fld.REF_STAT_A_ACT else Fld.REF_STAT_B_ACT)

/-- REF_EDGE_MISSING: the first missing edge of the channel's active reference after one that came, or a `further` one with
no edge between (R286): a switch, holdover, or at the fourth consecutive one a loss of reference; a lock under way
restarts its windows or fails. A tick in which it falls has its period word held (R57). -/
def execRefEdgeMissing (ch : ChId) (further : Bool) (s : State) : Host.Outcome State Fault Refusal :=
  let c := s.chan ch
  let locking := c.pll.phase = .search || c.pll.phase = .windows
  if !(c.lockHeld || locking) then .next s
  else if s.otherRefUsable ch then
    let act := if c.bit Reg.PLL_STAT Fld.PLL_STAT_ACTREF then 0 else 1
    let c := (c.setFld Reg.PLL_STAT Fld.PLL_STAT_ACTREF act).setFld Reg.PLL_STAT Fld.PLL_STAT_REFSW 1
    let c := { c with pll := { c.pll with missing := 0, good := 0, pwHold := c.ticking } }
    .next (((s.putChan ch c).countCh ch Reg.PLL_CNT true false).record 0x08 ch.val 3 1 (recData [(0, 1, act)]))
  else
    let n := if further then c.pll.missing + 1 else 1
    let s := s.putChan ch { c with pll := { c.pll with missing := n, pwHold := c.ticking } }
    if n < 4 then .next s else if locking then .next (s.lockFail ch) else .next (s.clockLoss ch true false)

/-- CEILING_GUARD: a count over 16 reference cycles, or one period, beyond the ceiling (R292). -/
def execCeilingGuard (ch : ChId) (what : CeilObs) (s : State) : Host.Outcome State Fault Refusal :=
  let c := s.chan ch
  let acts := match what with
    | .count n => ceilDiv (550000 * 16) c.pll.fnom ≤ n
    | .period ps => ps < 1700
  if acts && c.lockHeld then .next (s.clockLoss ch false true) else .next s

end Sys2Proof.Machine
end

