-- ==== Sys2Proof/Machine/Group.lean ====
section
/-! DEFINITION. Machine/Group.lean: group operations (16_host_interface.md R471 to R474, R483): opening, committing, discarding and
completing a group. -/

namespace Sys2Proof.Machine

def State.grpOpen (s : State) : Bool := s.gbit Reg.GRP_STAT Fld.GRP_STAT_OPEN

/-- The open group belongs to the context. -/
def State.grpOwner (s : State) (k : Ctx) : Bool := s.grpOpen && s.gfld Reg.GRP_STAT Fld.GRP_STAT_OWNER = k.val

/-- The channels with staged writes, as GRP_STAT.MEMBERS shows them. -/
def State.grpMembers (s : State) : Nat := chMask fun ch => s.grp.staged.any fun w => w.1 == ch

/-- The open group's staging is discarded (R471, R474, R483). -/
def State.discardGroup (s : State) : State :=
  if s.grpOpen then { s with grp := Group.reset }.gset Reg.GRP_STAT Fld.GRP_STAT_OPEN 0 else s

/-- A group opens: no result, no staging rejection (log 18). -/
def State.openGroup (s : State) (k : Ctx) : State :=
  let st := setField (setField (s.gget Reg.GRP_STAT) Fld.GRP_STAT_OPEN 1) Fld.GRP_STAT_OWNER k.val
  ({ s with grp := Group.reset }.gput Reg.GRP_STAT (setField st Fld.GRP_STAT_SREJ 0)).gput Reg.GRP_RESULT 0

/-- A write of GRP_CTL; true: rejected (R471, R483; log 18). -/
def State.writeGrpCtl (s : State) (k : Ctx) (v : Word) : State × Bool :=
  let r := if !v.getLsbD 0 then (s, false)
    else if s.grpOpen || s.gbit Reg.GRP_STAT Fld.GRP_STAT_PEND then (s, true)
    else (s.openGroup k, false)
  if !v.getLsbD 1 then r
  else if r.1.grpOwner k then (r.1.discardGroup, r.2) else (r.1, true)

/-- D of R473: GRP_TIME − CAL_TIME in ns. -/
def State.groupDelay (s : State) : Int :=
  ((s.gget Reg.GRP_TIME_LO).toNat + 2 ^ 32 * (s.gget Reg.GRP_TIME_HI).toNat : Nat) - (s.calNow : Int)

/-- The group completes (R473, R474). -/
def State.groupComplete (s : State) : State :=
  let st := setField (setField (setField (s.gget Reg.GRP_STAT) Fld.GRP_STAT_OPEN 0) Fld.GRP_STAT_PEND 0) Fld.GRP_STAT_DONE 1
  ({ s with grp := Group.reset }.gput Reg.GRP_STAT st).irq 5

/-- A write of GRP_GO; true: rejected (R473). -/
def State.writeGrpGo (s : State) (k : Ctx) (v : Word) : State × Bool :=
  if !v.getLsbD 0 then (s, false)
  else if !s.grpOwner k || 60000000000 < s.groupDelay then (s, true)
  else if s.gbit Reg.GRP_STAT Fld.GRP_STAT_SREJ then ((s.gput Reg.GRP_RESULT 0).groupComplete, false)
  else
    let st := setField (setField (s.gget Reg.GRP_STAT) Fld.GRP_STAT_OPEN 0) Fld.GRP_STAT_PEND 1
    ({ s with grp := { s.grp with
      commitAt := some (s.time.refNs + s.groupDelay.toNat), waiting := BitVec.ofNat 12 s.grpMembers } }.gput
        Reg.GRP_STAT st, false)

/-- GROUP_DONE: every member has its outcome (R474). -/
def execGroupDone (s : State) : Result :=
  if s.gbit Reg.GRP_STAT Fld.GRP_STAT_PEND && s.grp.waiting = 0 then .next s.groupComplete else .next s

end Sys2Proof.Machine
end

