-- ==== Sys2Proof/Machine/Recorder.lean ====
section
/-! DEFINITION. Machine/Recorder.lean: the record writer, the ring, the persistent store and the calendar
(14_event_recorder.md R418 to R441). Requests are entered by `State.record` of Ops. -/

namespace Sys2Proof.Machine

/-! ## Records as words (R418) -/

/-- The bytes 0x00 to 0x3B of a record. -/
def RecRec.body (r : RecRec) : List Byte :=
  natBytes 8 r.seq ++ natBytes 8 r.time ++ natBytes 2 r.epoch ++ natBytes 2 r.rep ++ natBytes 2 r.src.toNat ++
    natBytes 2 r.code.toNat ++ natBytes 1 r.sev.toNat ++ natBytes 1 r.flags.toNat ++ natBytes 2 r.tlast ++
    natBytes 32 r.data.toNat

/-- The 64 bytes with CRC and the STORE byte. -/
def RecRec.bytes (r : RecRec) (st : Byte) : List Byte :=
  r.body ++ natBytes 2 (crc16 r.body).toNat ++ [st, 0]

/-- The sixteen words of 64 bytes. -/
def wordsOf (bs : List Byte) : List Word := (List.range 16).map fun i => byteWord ((bs.drop (4 * i)).take 4)

/-! ## The writer (R421 to R425) -/

/-- Close the newest record (R425, R429). -/
def State.closeOpen (s : State) : State :=
  let k := s.rcd.seq % 8192
  let r := sget ringDefault s.rcd.ring k
  { s with rcd := { s.rcd with ring := sset ringDefault s.rcd.ring k { r with flags := r.flags &&& 0xFB } } }

/-- A record enters the ring with the next SEQ, open unless its REPEAT has saturated; the newest before it closes (R422,
R423, R425). -/
def State.ringPut (s : State) (r : RecRec) : State :=
  let s := s.closeOpen
  let n := s.rcd.seq + 1
  let k := n % 8192
  let ring := sset ringDefault s.rcd.ring k { r with
    seq := n, flags := if r.flags.getLsbD 3 then r.flags else r.flags ||| 4 }
  let old := if s.rcd.old = 0 then n else if s.rcd.old + 8192 ≤ n then n - 8191 else s.rcd.old
  { s with rcd := { s.rcd with seq := n, old := old, ring := ring, bad := s.rcd.bad.filter fun b => b != k } }.irq 0

/-- Whether the start search runs (R424). -/
def State.searching (s : State) : Bool := s.gbit Reg.REC_STAT Fld.REC_STAT_SEARCH

/-- EPOCH takes a value: at 65,535 it has saturated, with its flag, and the first time the record of R437 is requested
(R12, R13, R430, R441). -/
def State.setEpoch (s : State) (ep : Nat) : State :=
  let fresh := ep = 65535 && !s.gbit Reg.CAL_STAT Fld.CAL_STAT_EPSAT
  let s := (s.gset Reg.CAL_STAT Fld.CAL_STAT_EPOCH ep).gset Reg.CAL_STAT Fld.CAL_STAT_EPSAT (if ep = 65535 then 1 else 0)
  if fresh then s.requestRecord (s.saturated 0x13 0xF Reg.CAL_STAT Fld.CAL_STAT_EPSAT.lo) true else s

/-- The calendar takes a new time (R429, R430): EPOCH rises at a set back, and the calendar is valid. -/
def State.calApply (s : State) (new : Nat) : State :=
  let s := if new < s.cal.ns then s.setEpoch (min 65535 (s.calEpoch + 1)) else s
  let s := { s with cal := { s.cal with ns := new, frac := 0, waiting := none } }
  s.gset Reg.CAL_STAT Fld.CAL_STAT_VALID 1

/-- The epoch after a set to `new`. -/
def State.epochAfter (s : State) (new : Nat) : Nat :=
  if new < s.cal.ns then min 65535 (s.calEpoch + 1) else s.calEpoch

/-- Set the time (R429): its record enters the queue first; with no entry free at all, the set waits for one. The open
record closes. `cause`: 1 SET, 2 SETPPS, 3 PPS step. -/
def State.calSet (s : State) (new cause : Nat) : State :=
  let s := s.closeOpen
  if 64 ≤ s.rcd.queue.length then { s with cal := { s.cal with waiting := some (new, cause) } }
  else
    let d := recData [(0, 8, s.cal.ns), (8, 8, new), (16, 2, s.calEpoch), (18, 2, s.epochAfter new), (20, 1, cause)]
    (s.recordReserved 0x13 0xF 2 1 d).calApply new

/-- RECORD_WRITE: the writer takes the oldest queued request; a waiting time set and the report of dropped requests use
the entry that becomes free (R421, R429). -/
def execRecordWrite (s : State) : Host.Outcome State Fault Refusal :=
  match s.rcd.queue with
  | [] => .next s
  | r :: t =>
    if s.searching then .next s
    else
      let s := { s with rcd := { s.rcd with queue := t } }.ringPut r
      let s := match s.cal.waiting with
        | some (new, cause) => s.calSet new cause
        | none => s
      if s.rcd.drops = 0 || 64 ≤ s.rcd.queue.length then .next s
      else .next { s.recordReserved 0x13 0xF 3 2 (recData [(0, 4, s.rcd.drops)]) with
        rcd := { (s.recordReserved 0x13 0xF 3 2 (recData [(0, 4, s.rcd.drops)])).rcd with drops := 0 } }

/-- RECORD_REQUEST: a block requests a record (R421). -/
def execRecordRequest (req : RecReq) (s : State) : Host.Outcome State Fault Refusal :=
  .next (s.record req.block.toNat req.chan.toNat req.code.toNat req.sev.toNat req.data)

/-- RECORD_CLOSE_TIMEOUT: RCLOSE has passed since the newest record was written (R425). -/
def execRecordCloseTimeout (s : State) : Host.Outcome State Fault Refusal := .next s.closeOpen

/-! ## The persistent store (R424, R432 to R436) -/

/-- The number of record slots of the store (R432). -/
def State.storeSlots (s : State) : Nat :=
  let n := s.gfld Reg.REC_PCFG Fld.REC_PCFG_SIZE
  if n = 0 then 0 else 8192 * 2 ^ (n - 1)

/-- The slots that start a committed batch, with the batch's length (R433). -/
def State.batches (s : State) : List (Nat × Nat) :=
  s.store.mram.filterMap fun (k, e) =>
    if e.st.getLsbD 7 then some (k, (e.st.setWidth 4).toNat + 1) else none

/-- The newest record of a committed batch. The slots are those of the store as it was last written (log 74). -/
def State.newestCommitted (s : State) : Option RecRec :=
  let n := max 1 s.store.size
  (s.batches.flatMap fun (k, m) => (List.range m).map fun i => (sget storeDefault s.store.mram ((k + i) % n)).rcd).foldl
    (fun b r => match b with
      | none => some r
      | some x => if x.seq < r.seq then some r else b) none

/-- PERS: a store is configured and working (R432, R439). -/
def State.showPers (s : State) : State :=
  s.gset Reg.REC_STAT Fld.REC_STAT_PERS
    (if s.rcd.answers && s.storeSlots != 0 && !s.gbit Reg.REC_STAT Fld.REC_STAT_RECFAIL then 1 else 0)

/-- The image's global section sets the size of the store (R432). -/
def State.setStoreSize (s : State) (v : Word) : State :=
  let s := s.gset Reg.REC_PCFG Fld.REC_PCFG_SIZE (getField v Fld.REC_PCFG_SIZE)
  (if s.storeSlots = 0 then s else { s with store := { s.store with size := s.storeSlots } }).showPers

/-- RECORDER_START_SEARCH_END: SEQ starts at S + 2^32, EPOCH one above the newest committed, and the recorder-start record
is written first (R422, R424, R430). -/
def execRecorderStartSearchEnd (storeOk : Bool) (s : State) : Host.Outcome State Fault Refusal :=
  if !s.searching then .next s
  else
    let newest := if storeOk then s.newestCommitted else none
    let base := match newest with
      | some r => r.seq
      | none => 0
    let ep := match newest with
      | some r => min 65535 (r.epoch + 1)
      | none => 0
    let s := { s.gset Reg.REC_STAT Fld.REC_STAT_SEARCH 0 with rcd := { s.rcd with answers := storeOk } }
    let s := s.showPers.setEpoch ep
    let s := { s with
      rcd := { s.rcd with seq := base + 2 ^ 32 - 1, old := 0, base := base + 2 ^ 32 }, store := { s.store with pseq := base } }
    let d := recData [(0, 8, if newest.isSome then base else 2 ^ 64 - 1),
      (8, 1, s.gfld Reg.KNL_STAT Fld.KNL_STAT_LRST), (9, 2, s.knl.boots.toNat % 65536)]
    .next (s.ringPut (s.newRecord 0x13 0xF 1 0 d))

/-- Whether the ring still holds a record that can be copied: its slot has not been found failing (R423, R434). -/
def State.ringHolds (s : State) (q : Nat) : Bool := s.rcd.old ≤ q && !s.rcd.bad.contains (q % 8192)

/-- The first SEQ that has not been committed, among those of this start. -/
def State.nextPersist (s : State) : Nat := max (s.store.pseq + 1) s.rcd.base

/-- The number of closed records in the ring from SEQ `q` on. -/
def State.closedFrom (s : State) (q : Nat) : Nat :=
  (if (sget ringDefault s.rcd.ring (s.rcd.seq % 8192)).flags.getLsbD 2 then s.rcd.seq else s.rcd.seq + 1) - q

/-- The records that may be persisted next: the first SEQ and how many closed ones follow it without a skipped one. -/
def State.persistable (s : State) : Nat × Nat :=
  let first := max s.nextPersist s.rcd.old
  let n := min (s.closedFrom first) 8192
  (first, ((List.range n).takeWhile fun i => s.ringHolds (first + i)).length)

/-- Records that left the ring before they were committed, and records in slots found failing, are skipped: PLOST counts
them and one record names their range (R434). -/
def State.persistGap (s : State) : State :=
  let lo := s.nextPersist
  let first := max lo s.rcd.old
  let lost := ((List.range (min (s.closedFrom first) 8192)).takeWhile fun i => !s.ringHolds (first + i)).length
  let n := first - lo + lost
  if n = 0 then s
  else
    let s := { s with store := { s.store with pseq := lo + n - 1 } }
    (s.countGBy n Reg.REC_PCNT false true).record 0x13 0xF 5 2 (recData [(0, 8, lo), (8, 8, lo + n - 1)])

/-- The SVE finds an uncorrectable error in a slot of the ring (R423). -/
def State.ringError (s : State) (slot : Nat) : State :=
  if s.rcd.bad.contains slot then s
  else ({ s with rcd := { s.rcd with bad := slot :: s.rcd.bad } } : State).countG Reg.REC_CNT true false

/-- Step 1 of R433: a batch whose first slot is overwritten keeps its surviving records under a new COMMIT. -/
def State.keepSurvivors (s : State) (n : Nat) : State :=
  let m := max 1 s.storeSlots
  let h := s.store.head
  s.batches.foldl (fun s (k, len) =>
    let d := (k + m - h) % m
    if d < n && n < d + len then
      let a := (h + n) % m
      let e := sget storeDefault s.store.mram a
      { s with store := { s.store with
        mram := sset storeDefault s.store.mram a { e with st := 0x80#8 ||| BitVec.ofNat 8 (d + len - n - 1) } } }
    else s) s

/-- Step 2 of R433: the batch's records with STORE 0x00. -/
def State.storeRecords (s : State) (first : Nat) : Nat → State
  | 0 => s
  | n + 1 =>
    let s := s.storeRecords first n
    let r := sget ringDefault s.rcd.ring ((first + n) % 8192)
    let a := (s.store.head + n) % max 1 s.storeSlots
    { s with store := { s.store with mram := sset storeDefault s.store.mram a ⟨r, 0⟩ } }

/-- PERSIST_BATCH_START: BMAX closed records wait, or BTIME has passed since the oldest of them closed (R433). `failing`: a
slot of the ring in which the SVE's read finds an uncorrectable error (R423). -/
def execPersistBatchStart (byTime : Bool) (failing : Option (Fin 8192)) (s : State) : Host.Outcome State Fault Refusal :=
  let s := if s.gbit Reg.REC_STAT Fld.REC_STAT_PERS then (match failing with
    | some k => s.ringError k.val
    | none => s).persistGap else s
  let bmax := s.gfld Reg.REC_PCFG Fld.REC_PCFG_BMAX
  let p := s.persistable
  let n := min bmax p.2
  if !s.gbit Reg.REC_STAT Fld.REC_STAT_PERS || s.rcd.batch.isSome || n = 0 || (!byTime && n < bmax) then .next s
  else
    let s := (s.keepSurvivors n).storeRecords p.1 n
    .next { s with rcd := { s.rcd with batch := some (p.1, n) } }

/-- PERSIST_BATCH_COMMIT: the STORE byte of the batch's first record (R433). `retries`: the batch's writes that had to be
repeated (R435). -/
def execPersistBatchCommit (retries : Nat) (s : State) : Host.Outcome State Fault Refusal :=
  match s.rcd.batch with
  | none => .next s
  | some (first, n) =>
    let h := s.store.head
    let e := sget storeDefault s.store.mram h
    let mram := sset storeDefault s.store.mram h { e with st := 0x80#8 ||| BitVec.ofNat 8 (n - 1) }
    let s := s.countGBy retries Reg.REC_PCNT true false
    .next { s with
      store := { s.store with mram := mram, head := (h + n) % max 1 s.storeSlots, pseq := first + n - 1 },
      rcd := { s.rcd with batch := none } }

/-- STORE_FAIL: a fourth failed write (each retry counted) or a size mismatch (R435). -/
def execStoreFail (cause : BitVec 8) (slot : BitVec 24) (s : State) : Host.Outcome State Fault Refusal :=
  if s.storeSlots = 0 || s.gbit Reg.REC_STAT Fld.REC_STAT_RECFAIL then .next s
  else
    let w : Word := slot ++ cause
    let s := if cause = 3 then s else s.countGBy 3 Reg.REC_PCNT true false
    let s := (s.gput Reg.REC_PSTAT w).lastWord 6 0 w
    let s := (s.gset Reg.GSTAT Fld.GSTAT_RECFAIL 1).gset Reg.REC_STAT Fld.REC_STAT_RECFAIL 1
    let s := { s.gset Reg.REC_STAT Fld.REC_STAT_PERS 0 with rcd := { s.rcd with batch := none } }
    .next (s.record 0x13 0xF 4 3 (recData [(0, 4, w.toNat)]))

/-- STORE_PROBE_DONE (R436). -/
def execStoreProbeDone (ok : Bool) (s : State) : Host.Outcome State Fault Refusal :=
  if !s.rcd.probing then .next s
  else
    let s := { s with rcd := { s.rcd with probing := false } }
    if !ok then .next s
    else
      let s := (s.gset Reg.GSTAT Fld.GSTAT_RECFAIL 0).gset Reg.REC_STAT Fld.REC_STAT_RECFAIL 0
      let s := s.gset Reg.REC_STAT Fld.REC_STAT_PERS 1
      .next (s.record 0x13 0xF 6 1 (recData [(0, 8, s.persistable.1)]))

/-- A write of REC_CTL; true: rejected (R436, R438). -/
def State.writeRecCtl (s : State) (v : Word) : State × Bool :=
  if !v.getLsbD 0 then (s, false)
  else if s.gbit Reg.REC_STAT Fld.REC_STAT_RECFAIL && s.storeSlots != 0 then
    ({ s with rcd := { s.rcd with probing := true } }, false)
  else (s, true)

/-! ## Reading (R426) -/

/-- A write of REC_RPTR; true: rejected, the slot lies beyond what STORE selects (R438). -/
def State.writeRptr (s : State) (v : Word) : State × Bool :=
  let slot := getField v Fld.REC_RPTR_SLOT
  if (if v.getLsbD 31 then s.storeSlots else 8192) ≤ slot then (s, true)
  else
    let s := s.gput Reg.REC_RPTR (v &&& 0x8001FFFF)
    if v.getLsbD 31 then (s.gset Reg.REC_STAT Fld.REC_STAT_SBUSY 1, false)
    else (s.gset Reg.REC_STAT Fld.REC_STAT_SBUSY 0, false)

/-- STORE_FETCH_DONE: the store slot is in the window. -/
def execStoreFetchDone (s : State) : Host.Outcome State Fault Refusal :=
  if s.gbit Reg.REC_STAT Fld.REC_STAT_SBUSY then
    let e := sget storeDefault s.store.mram (s.gfld Reg.REC_RPTR Fld.REC_RPTR_SLOT)
    .next { s.gset Reg.REC_STAT Fld.REC_STAT_SBUSY 0 with rcd := { s.rcd with window := wordsOf (e.rcd.bytes e.st) } }
  else .next s

/-- A word of REC_RWIN. A slot with an uncorrectable error reads with a CRC that does not hold (R423, log 74). -/
def State.rwin (s : State) (i : Nat) : Word :=
  if s.gbit Reg.REC_RPTR Fld.REC_RPTR_STORE then
    if s.gbit Reg.REC_STAT Fld.REC_STAT_SBUSY then 0 else s.rcd.window.getD i 0
  else
    let k := s.gfld Reg.REC_RPTR Fld.REC_RPTR_SLOT
    let w := (wordsOf ((sget ringDefault s.rcd.ring k).bytes 0)).getD i 0
    if i = 15 && s.rcd.bad.contains k then w ^^^ BitVec.ofNat 32 (1 + Config.freeNat k % 65535) else w

/-! ## The calendar (R428 to R431) -/

/-- A write of CAL_CTL; true: rejected (R429, R438). -/
def State.writeCalCtl (s : State) (v : Word) : State × Bool :=
  let set := v.getLsbD 0
  let pps := v.getLsbD 1
  if !set && !pps then (s, false)
  else if (set && pps) || s.gbit Reg.CAL_STAT Fld.CAL_STAT_SETPEND then (s, true)
  else if set then
    (s.calSet ((s.gget Reg.CAL_SET_LO).toNat + 2 ^ 32 * (s.gget Reg.CAL_SET_HI).toNat) 1, false)
  else (s.gset Reg.CAL_STAT Fld.CAL_STAT_SETPEND 1, false)

/-- SETPPS_TIMEOUT: 2 s without an accepted edge (R429). -/
def execSetppsTimeout (s : State) : Host.Outcome State Fault Refusal :=
  if s.gbit Reg.CAL_STAT Fld.CAL_STAT_SETPEND then
    .next ((s.gset Reg.CAL_STAT Fld.CAL_STAT_SETPEND 0).gset Reg.CAL_STAT Fld.CAL_STAT_SETFAIL 1)
  else .next s

/-- The phase error of a captured time: minus the nearest whole second, in −0.5 s < e ≤ 0.5 s (R431). -/
def ppsError (ns : Nat) : Int :=
  let f := ns % 1000000000
  if f ≤ 500000000 then f else (f : Int) - 1000000000

/-- A signed value clamped to ±`m`. -/
def clampTo (m : Nat) (x : Int) : Int := min (max x (-(m : Int))) m

/-- PPSLOCK after an accepted edge with error `e` (R431). -/
def State.ppsLock (s : State) (e : Int) : State :=
  let n := if e.natAbs ≤ 1000 then s.cal.good + 1 else 0
  let s := { s with cal := { s.cal with good := n } }
  if 10000 < e.natAbs then s.gset Reg.CAL_STAT Fld.CAL_STAT_PPSLOCK 0
  else if 8 ≤ n then s.gset Reg.CAL_STAT Fld.CAL_STAT_PPSLOCK 1 else s

/-- PPS_EDGE (R429, R431). The rate that a slew takes is not stated: a free value within ±500 ppm (log 55). -/
def execPpsEdge (s : State) : Host.Outcome State Fault Refusal :=
  if !s.gbit Reg.PPS_CFG Fld.PPS_CFG_EN then .next s
  else if (match s.cal.lastEdge with
      | some t => decide (s.time.refNs < t + 900000000)
      | none => false) then .next (s.countG Reg.CAL_CNT true false)
  else
    let e := ppsError s.cal.ns
    let s := { s with cal := { s.cal with lastEdge := some s.time.refNs } }
    let s := s.gput Reg.PPS_STAT (BitVec.ofInt 32 e)
    let s := s.ppsLock e
    if s.gbit Reg.CAL_STAT Fld.CAL_STAT_SETPEND then
      .next ((s.gset Reg.CAL_STAT Fld.CAL_STAT_SETPEND 0).calSet
        ((s.gget Reg.CAL_SET_LO).toNat + 2 ^ 32 * (s.gget Reg.CAL_SET_HI).toNat) 2)
    else if s.gbit Reg.PPS_CFG Fld.PPS_CFG_STEP && s.gfld Reg.PPS_CFG Fld.PPS_CFG_STEPTH * 1000 < e.natAbs then
      .next ((s.countG Reg.CAL_CNT false false).calSet ((s.cal.ns : Int) - e).toNat 3)
    else
      let c := clampTo 500000 (Config.freeWord s.free).toInt
      .next { s.gput Reg.CAL_RATE (BitVec.ofInt 32 c) with free := s.free + 1 }

/-- PPS_LOST: 1.5 s without an accepted edge (R431). -/
def execPpsLost (s : State) : Host.Outcome State Fault Refusal :=
  if s.gbit Reg.PPS_CFG Fld.PPS_CFG_EN then
    let s := { s with cal := { s.cal with good := 0 } }
    .next ((s.gset Reg.CAL_STAT Fld.CAL_STAT_PPSLOCK 0).gset Reg.CAL_STAT Fld.CAL_STAT_PPSLOST 1)
  else .next s

/-- The calendar over 10 ns of its counting clock, with the rate correction (R428); HOLD while no reference is active. -/
def State.calAdvance (s : State) : State :=
  let c := (s.gget Reg.CAL_RATE).toInt
  let step := (10 * 2 ^ 32 * (1000000000 + c) / 1000000000).toNat
  let t := s.cal.frac + step
  let hold := !s.gbit Reg.REF_STAT Fld.REF_STAT_A_ACT && !s.gbit Reg.REF_STAT Fld.REF_STAT_B_ACT
  let s := { s with cal := { s.cal with ns := s.cal.ns + t / 2 ^ 32, frac := t % 2 ^ 32 } }
  s.gset Reg.CAL_STAT Fld.CAL_STAT_HOLD (if hold then 1 else 0)

/-- The range tests of this chapter's plain registers (R438 to R440). -/
def recRangeOk (off : Nat) (v : Word) : Bool :=
  if off = Reg.REC_CFG then 1 ≤ getField v Fld.REC_CFG_RCLOSE && getField v Fld.REC_CFG_RCLOSE ≤ 10000
  else if off = Reg.REC_PCFG then
    1 ≤ getField v Fld.REC_PCFG_BTIME && 1 ≤ getField v Fld.REC_PCFG_BMAX && getField v Fld.REC_PCFG_BMAX ≤ 16
  else if off = Reg.PPS_CFG then
    1 ≤ getField v Fld.PPS_CFG_SLEW && 1 ≤ getField v Fld.PPS_CFG_STEPTH && getField v Fld.PPS_CFG_STEPTH ≤ 500000
  else true

/-- A rejection of this chapter (R438, R537): REC_STAT.REJ, or CAL_STAT.REJ from 0x2040 on. -/
def State.recReject (s : State) (off : Nat) (v : Word) (src : Nat) : State :=
  let s := if off < 0x2040 then s.gset Reg.REC_STAT Fld.REC_STAT_REJ 1 else s.gset Reg.CAL_STAT Fld.CAL_STAT_REJ 1
  s.rejectRecord 0x13 0xF off v src 0

end Sys2Proof.Machine
end

