-- ==== Sys2Proof/Machine/Crypto.lean ====
section
/-! DEFINITION. Machine/Crypto.lean: SHA-256 and the verification of ECDSA signatures on P-256, by which the loader verifies an
image (17_configuration_image.md R487). PRESUMED (log 42): the functions are those of FIPS 180-4 and FIPS 186-5, which R487
names. -/

namespace Sys2Proof.Machine

/-! ## SHA-256 -/

/-- The eight words of the hash. -/
structure Sha where
  a : Nat
  b : Nat
  c : Nat
  d : Nat
  e : Nat
  f : Nat
  g : Nat
  h : Nat

def shaInit : Sha :=
  ⟨0x6a09e667, 0xbb67ae85, 0x3c6ef372, 0xa54ff53a,
   0x510e527f, 0x9b05688c, 0x1f83d9ab, 0x5be0cd19⟩

/-- The constants of the 64 rounds. -/
def shaK : List Nat :=
  [0x428a2f98, 0x71374491, 0xb5c0fbcf, 0xe9b5dba5, 0x3956c25b, 0x59f111f1, 0x923f82a4, 0xab1c5ed5,
   0xd807aa98, 0x12835b01, 0x243185be, 0x550c7dc3, 0x72be5d74, 0x80deb1fe, 0x9bdc06a7, 0xc19bf174] ++
  [0xe49b69c1, 0xefbe4786, 0x0fc19dc6, 0x240ca1cc, 0x2de92c6f, 0x4a7484aa, 0x5cb0a9dc, 0x76f988da,
   0x983e5152, 0xa831c66d, 0xb00327c8, 0xbf597fc7, 0xc6e00bf3, 0xd5a79147, 0x06ca6351, 0x14292967] ++
  [0x27b70a85, 0x2e1b2138, 0x4d2c6dfc, 0x53380d13, 0x650a7354, 0x766a0abb, 0x81c2c92e, 0x92722c85,
   0xa2bfe8a1, 0xa81a664b, 0xc24b8b70, 0xc76c51a3, 0xd192e819, 0xd6990624, 0xf40e3585, 0x106aa070] ++
  [0x19a4c116, 0x1e376c08, 0x2748774c, 0x34b0bcb5, 0x391c0cb3, 0x4ed8aa4a, 0x5b9cca4f, 0x682e6ff3,
   0x748f82ee, 0x78a5636f, 0x84c87814, 0x8cc70208, 0x90befffa, 0xa4506ceb, 0xbef9a3f7, 0xc67178f2]

def shaRotr (k x : Nat) : Nat := (x >>> k ||| x <<< (32 - k)) % 4294967296

/-- One round with its word of the schedule. -/
def Sha.round (s : Sha) (k w : Nat) : Sha :=
  let s1 := shaRotr 6 s.e ^^^ shaRotr 11 s.e ^^^ shaRotr 25 s.e
  let ch := (s.e &&& s.f) ^^^ ((4294967295 - s.e) &&& s.g)
  let t1 := s.h + s1 + ch + k + w
  let s0 := shaRotr 2 s.a ^^^ shaRotr 13 s.a ^^^ shaRotr 22 s.a
  let maj := (s.a &&& s.b) ^^^ (s.a &&& s.c) ^^^ (s.b &&& s.c)
  ⟨(t1 + s0 + maj) % 4294967296, s.a, s.b, s.c, (s.d + t1) % 4294967296, s.e, s.f, s.g⟩

/-- The word of the schedule that follows sixteen others. -/
def shaNext (w : List Nat) : Nat :=
  let x := w.getD 1 0
  let y := w.getD 14 0
  (w.getD 0 0 + w.getD 9 0 + (shaRotr 7 x ^^^ shaRotr 18 x ^^^ x >>> 3) + (shaRotr 17 y ^^^ shaRotr 19 y ^^^ y >>> 10)) % 4294967296

/-- The rounds, with sixteen words of the schedule in hand. -/
def shaRounds : List Nat → List Nat → Sha → Sha
  | [], _, s => s
  | k :: ks, w, s => shaRounds ks (w.drop 1 ++ [shaNext w]) (s.round k (w.getD 0 0))

/-- A block of sixteen words. -/
def Sha.block (s : Sha) (w : List Nat) : Sha :=
  let t := shaRounds shaK w s
  ⟨(s.a + t.a) % 4294967296, (s.b + t.b) % 4294967296, (s.c + t.c) % 4294967296, (s.d + t.d) % 4294967296,
   (s.e + t.e) % 4294967296, (s.f + t.f) % 4294967296, (s.g + t.g) % 4294967296, (s.h + t.h) % 4294967296⟩

/-- The number of big-endian bytes. -/
def bytesBig (bs : List Byte) : Nat := bs.foldl (fun n b => 256 * n + b.toNat) 0

/-- `n` big-endian bytes of a number. -/
def bigBytes (n v : Nat) : List Byte := (natBytes n v).reverse

/-- The 32-bit words of `n` words' bytes, most significant byte first. -/
def shaWords : Nat → List Byte → List Nat
  | 0, _ => []
  | n + 1, bs => bytesBig (bs.take 4) :: shaWords n (bs.drop 4)

def shaBlocks : Nat → List Byte → Sha → Sha
  | 0, _, s => s
  | n + 1, bs, s => shaBlocks n (bs.drop 64) (s.block (shaWords 16 (bs.take 64)))

/-- The 32 bytes of the digest of a byte string. -/
def sha256 (bs : List Byte) : List Byte :=
  let n := bs.length
  let pad := (119 - n % 64) % 64
  let m := bs ++ 0x80 :: (List.replicate pad 0 ++ bigBytes 8 (8 * n))
  let s := shaBlocks (m.length / 64) m shaInit
  [s.a, s.b, s.c, s.d, s.e, s.f, s.g, s.h].flatMap (bigBytes 4)

/-! ## P-256 -/

def p256 : Nat := 0xffffffff00000001000000000000000000000000ffffffffffffffffffffffff

/-- The order of the base point. -/
def p256n : Nat := 0xffffffff00000000ffffffffffffffffbce6faada7179e84f3b9cac2fc632551

def p256b : Nat := 0x5ac635d8aa3a93e7b3ebbd55769886bc651d06b0cc53b0f63bce3c3e27d2604b

def subMod (m a b : Nat) : Nat := (a + (m - b % m)) % m

/-- The bits of a number of 256, most significant first. -/
def bits256 (k : Nat) : List Bool := (List.range 256).map fun i => k / 2 ^ (255 - i) % 2 = 1

def powMod (m a k : Nat) : Nat := (bits256 k).foldl (fun r b => if b then r * r % m * a % m else r * r % m) 1

/-- A point of the curve as (x : y : z) with x = X / Z², y = Y / Z³; Z = 0 at infinity. -/
structure Point where
  x : Nat
  y : Nat
  z : Nat

def basePoint : Point :=
  ⟨0x6b17d1f2e12c4247f8bce6e563a440f277037d812deb33a0f4a13945d898c296,
   0x4fe342e2fe1a7f9b8ee7eb4a7c0f9e162bce33576b315ececbb6406837bf51f5, 1⟩

def Point.double (q : Point) : Point :=
  let yy := q.y * q.y % p256
  let s := 4 * q.x * yy % p256
  let zz := q.z * q.z % p256
  let m := 3 * (q.x + zz) * subMod p256 q.x zz % p256
  let x := subMod p256 (m * m) (2 * s)
  ⟨x, subMod p256 (m * subMod p256 s x) (8 * yy * yy), 2 * q.y * q.z % p256⟩

def Point.add (q r : Point) : Point :=
  if q.z = 0 then r
  else if r.z = 0 then q
  else
    let zq := q.z * q.z % p256
    let zr := r.z * r.z % p256
    let uq := q.x * zr % p256
    let ur := r.x * zq % p256
    let sq := q.y * zr % p256 * r.z % p256
    let sr := r.y * zq % p256 * q.z % p256
    if uq = ur then (if sq = sr then q.double else ⟨1, 1, 0⟩)
    else
      let h := subMod p256 ur uq
      let t := subMod p256 sr sq
      let hh := h * h % p256
      let hhh := hh * h % p256
      let v := uq * hh % p256
      let x := subMod p256 (t * t) (hhh + 2 * v)
      ⟨x, subMod p256 (t * subMod p256 v x) (sq * hhh), h * q.z % p256 * r.z % p256⟩

/-- The multiple of a point. -/
def Point.times (q : Point) (k : Nat) : Point :=
  (bits256 k).foldl (fun r b => if b then r.double.add q else r.double) ⟨1, 1, 0⟩

/-- Whether (r, s) is a signature over a digest, taken as a number, with the public key (x, y). -/
def ecdsaValid (x y e r s : Nat) : Bool :=
  let w := powMod p256n s (p256n - 2)
  let q := (basePoint.times (e * w % p256n)).add (Point.times ⟨x, y, 1⟩ (r * w % p256n))
  let z := powMod p256 q.z (p256 - 2)
  x < p256 && y < p256 && y * y % p256 = (x * x * x + (p256 - 3) * x + p256b) % p256 &&
    0 < r && r < p256n && 0 < s && s < p256n && q.z != 0 && q.x * z % p256 * z % p256 % p256n = r

end Sys2Proof.Machine
end

