-- ==== Sys2Proof/Machine/ImageFile.lean ====
section
/-! DEFINITION. Machine/ImageFile.lean: the bytes of a Clafin image (17_configuration_image.md R485 to R487): header, section
table, layout and the checks that depend on the bytes alone. -/

namespace Sys2Proof.Machine

/-- `n` bytes from `off` on. -/
def slice (bs : List Byte) (off n : Nat) : List Byte := (bs.drop off).take n

/-- A little-endian field. -/
def imgField (bs : List Byte) (off n : Nat) : Nat := bytesNat (slice bs off n)

/-- An entry of the section table, or of the global section (R486). -/
structure SectEntry where
  off : Nat
  len : Nat
  mlid : Nat
  present : Bool

def sectEntry (bs : List Byte) (ch : ChId) : SectEntry :=
  let o := 0x20 + 12 * ch.val
  ⟨imgField bs o 4, imgField bs (o + 4) 4, imgField bs (o + 8) 2, imgField bs (o + 10) 2 % 2 = 1⟩

/-- The bytes of a section. -/
def SectEntry.bytes (bs : List Byte) (e : SectEntry) : List Byte := slice bs e.off e.len

def globalEntry (bs : List Byte) : SectEntry := ⟨imgField bs 0x18 4, imgField bs 0x1C 4, 0, true⟩

/-- The channels with a PRESENT section. -/
def presentChans (bs : List Byte) : List ChId := (List.finRange 12).filter fun ch => (sectEntry bs ch).present

/-- The digest in the header, its first byte lowest. -/
def headerDigest (bs : List Byte) (off : Nat) : BitVec 256 := BitVec.ofNat 256 (imgField bs off 32)

/-- The digest of some bytes, its first byte lowest. -/
def digestOf (bs : List Byte) : BitVec 256 := BitVec.ofNat 256 (bytesNat (sha256 bs))

def sectDigest (bs : List Byte) (ch : ChId) : BitVec 256 := headerDigest bs (0xD0 + 32 * ch.val)

def allZero (bs : List Byte) (a b : Nat) : Bool := (slice bs a (b - a)).all (· = 0)

/-- Two sections share no byte. -/
def SectEntry.apart (a b : SectEntry) : Bool := a.off + a.len ≤ b.off || b.off + b.len ≤ a.off

/-- A channel section lies after the global one on a 4-KiB boundary, is at most 256 KiB long, and lies within `len` bytes (R485). -/
def SectEntry.placed (bs : List Byte) (len : Nat) (e : SectEntry) : Bool :=
  let g := globalEntry bs
  e.off % 0x1000 = 0 && e.len ≤ 0x40000 && g.off + g.len ≤ e.off && e.off + e.len ≤ len

/-- The first check of R487: MAGIC, FORMAT, the reserved bytes, lengths and alignment (R485, R486). `only`: the staged channel;
of its image only the header, the signature and its section count (R494). DEDUCED (log 17): the delivered bytes must hold the
whole image, or the staged section. -/
def layoutOk (bs : List Byte) (only : Option ChId) : Bool :=
  let len := imgField bs 8 4
  let g := globalEntry bs
  let cs := presentChans bs
  imgField bs 0 4 = 0x46414C43 && imgField bs 4 2 = 1 && imgField bs 0xD 1 < 2 && allZero bs 0xE 0x10 &&
    allZero bs 0x290 0x300 && (only.isSome || allZero bs 0x340 0x1000) &&
    len % 4 = 0 && len ≤ 0x400000 && 0x340 ≤ bs.length &&
    g.off = 0x1000 && g.off + g.len ≤ len && cs.all (fun ch => (sectEntry bs ch).placed bs len) &&
    cs.all (fun a => cs.all fun b => a == b || (sectEntry bs a).apart (sectEntry bs b)) &&
    match only with
    | none => len ≤ bs.length
    | some ch => !(sectEntry bs ch).present || (sectEntry bs ch).off + (sectEntry bs ch).len ≤ bs.length

/-- The fifth check of R487: the digests of the global section and of every PRESENT one, or of the staged one (R494). -/
def digestsOk (bs : List Byte) (only : Option ChId) : Bool :=
  let g := globalEntry bs
  let one := fun ch => digestOf ((sectEntry bs ch).bytes bs) == sectDigest bs ch
  match only with
  | none => digestOf (g.bytes bs) == headerDigest bs 0xB0 && (presentChans bs).all one
  | some ch => !(sectEntry bs ch).present || one ch

/-- The fourth check of R487: the signature, r then s, over the header, with PUBKEY, x then y. -/
def signatureOk (bs : List Byte) : Bool :=
  ecdsaValid (bytesBig (slice bs 0x250 32)) (bytesBig (slice bs 0x270 32)) (bytesBig (sha256 (bs.take 0x300)))
    (imgField bs 0x300 32) (imgField bs 0x320 32)

/-- The ERR code of the first check that the bytes fail, but for the state of the key slot; 0 where they pass (R487). -/
def imageErr (bs : List Byte) (only : Option ChId) : BitVec 4 :=
  if !layoutOk bs only then 4
  else if imgField bs 6 2 != 0x5C12 then 5
  else if 4 ≤ imgField bs 0xC 1 then 2
  else if !signatureOk bs then 1
  else if !digestsOk bs only then 3
  else 0

/-- What the header and the loader's observation of the sections' contents make of an image: each PRESENT section with its
digest's first bytes and its MLID (R486, R502; log 17). -/
def imageView (bs : List Byte) (only : Option ChId) (o : ImageObs) : ImageView where
  err := imageErr bs only
  len := imgField bs 8 4
  hdig := (digestOf (bs.take 0x300)).setWidth 64
  build := BitVec.ofNat 64 (imgField bs 0x10 8)
  keySlot := BitVec.ofNat 2 (imgField bs 0xC 1)
  keyHash := digestOf (slice bs 0x250 64)
  pair := imgField bs 0xD 1 % 2 = 1
  gdigest := headerDigest bs 0xB0
  gregs := o.gregs
  sections := (presentChans bs).filterMap fun ch => (o.contents.find? fun x => x.1 == ch).map fun x =>
    (ch, { x.2 with ident := (sectDigest bs ch).setWidth 64, mlid := BitVec.ofNat 16 (sectEntry bs ch).mlid })

/-- IMG_STAT.STATE (R507). -/
def State.imgState (s : State) : Nat := s.gfld Reg.IMG_STAT Fld.IMG_STAT_STATE

/-! ## The record of a flash slot (R498) -/

/-- Bytes 0x00 to 0x17: MAGIC, GEN, IMGLEN and HDIG. -/
def slotBody (gen len : Nat) (hdig : BitVec 64) : List Byte :=
  natBytes 4 0x544F4C53 ++ natBytes 4 gen ++ natBytes 4 len ++ natBytes 4 0 ++ natBytes 8 hdig.toNat

/-- The record, its COMMIT byte programmed or still erased. -/
def slotRecord (gen len : Nat) (hdig : BitVec 64) (commit : Bool) : List Byte :=
  let body := slotBody gen len hdig
  body ++ wordBytes (crc32c body) ++ [if commit then 0 else 0xFF] ++ List.replicate 3 0xFF

/-- GEN of a slot. -/
def FlashSlot.gen (f : FlashSlot) : Nat := imgField f.record 4 4

/-- A slot is committed when MAGIC and CRC hold and COMMIT reads 0x00. -/
def FlashSlot.commit (f : FlashSlot) : Bool :=
  imgField f.record 0 4 = 0x544F4C53 && imgField f.record 0x18 4 = (crc32c (f.record.take 0x18)).toNat &&
    f.record.getD 0x1C 0xFF = 0

/-- The slot with its record sector erased (R499). -/
def FlashSlot.erased (f : FlashSlot) : FlashSlot := { f with record := List.replicate 32 0xFF }

/-- The slot with the record of its image, committed or not yet (R499). -/
def FlashSlot.stamped (f : FlashSlot) (gen : Nat) (commit : Bool) : FlashSlot :=
  match f.image with
  | some v => { f with record := slotRecord gen v.len v.hdig commit }
  | none => f

/-- The committed slots, highest GEN first (R490). -/
def State.bootOrder (s : State) : List (Fin 2) :=
  let l := [0, 1].filter fun k : Fin 2 => s.store.flashOk && s.store.slots[k].commit
  if l.length = 2 && s.store.slots[0].gen < s.store.slots[1].gen then l.reverse else l

/-- The slot that an operation writes takes its record, with GEN one above the highest committed (R499). -/
def State.stampSlot (s : State) (commit : Bool) : Store :=
  let t := s.ldr.slot
  let gen := (match s.bootOrder with
    | k :: _ => s.store.slots[k].gen
    | [] => 0) + 1
  { s.store with slots := s.store.slots.set t (s.store.slots[t].stamped gen commit) }

end Sys2Proof.Machine
end

