-- ==== Sys2Proof/Machine/Kennel.lean ====
section
/-! DEFINITION. Machine/Kennel.lean: the KENNEL always-on island (12_kennel.md R374 to R395): inhibits, SAFE_N, the
watchdogs, supply give-up, the reset sequence, the last-word bank and the kennel port. -/

namespace Sys2Proof.Machine

/-- The accessor's number in a record: the context, or 4 for the port (R537). -/
def accNum : Accessor → Fin 5
  | .host k => ⟨k.val, by omega⟩
  | .port => 4

/-! ## Inhibits and SAFE_N (R380, R384) -/

/-- The channels' gates and claims follow a change of an inhibit (R263, R321). -/
def State.inhibitsFollow (s : State) : State :=
  (List.finRange 12).foldl (fun s ch => (s.gatesFollow ch).rearm ch) s

/-- The global inhibit (R380). -/
def State.setGinh (s : State) (n : Nat) : State :=
  ((s.gset Reg.KNL_STAT Fld.KNL_STAT_GINH n).gset Reg.GSTAT Fld.GSTAT_GLOBAL_INH n).inhibitsFollow

/-- KNL_STAT.CHINH from its three sources (R380): the channel in OFF, its reset, KNL_INH.CHSET. -/
def State.updateChinh (s : State) : State :=
  (s.gset Reg.KNL_STAT Fld.KNL_STAT_CHINH (chMask fun ch =>
    (s.chan ch).mode = 0 || (s.chan ch).resetting || (s.gget Reg.KNL_INH).getLsbD ch.val)).inhibitsFollow

/-- SAFE_N is low while any source holds it (R384); its fall is a source of the KENNEL vector (R469). -/
def State.updateSafeN (s : State) : State :=
  let low := s.knl.snReset || s.knl.snWd || s.knl.snSet || s.gbit Reg.KNL_STAT Fld.KNL_STAT_SSLOT ||
    s.gbit Reg.KNL_STAT Fld.KNL_STAT_SUPPLY
  let was := s.gbit Reg.KNL_STAT Fld.KNL_STAT_SAFEN
  let s := s.gset Reg.KNL_STAT Fld.KNL_STAT_SAFEN (if low then 1 else 0)
  if low && !was then s.irq 4 else s

/-! ## Resets (R385, R518 to R520) -/

/-- What a reset of the device leaves in the stores: a COMMIT byte being programmed may have reached its slot (R500); the
bank that a save was writing is not committed (R505). -/
def State.storeAfterReset (s : State) : Store :=
  let st := if s.imgState = 8 && Config.freeBool s.free then s.stampSlot true else s.store
  match s.ldr.save with
  | some j => if j.due = 0 then { st with par := st.par.set s.parTarget { st.par[s.parTarget] with commit := false } } else st
  | none => st

/-- The device outside the KENNEL as a kennel reset leaves it, and the KENNEL's own registers at their reset values; kept
are the retained contents, KNL_TIME, the straps, the pins' voltage classes, the non-volatile stores and the model's own
fields (R519, R520). -/
def State.clearDevice (s : State) (lrst : Nat) : State :=
  let r := State.reset
  let k := { r.knl with
    powered := true, up := false, boot := false, bank := s.knl.bank, lwSeq := s.knl.lwSeq, boots := s.knl.boots,
    time := s.knl.time }
  let n := { r with
    pending := s.pending, free := s.free + 1, time := s.time, knl := k, pins := s.pins, store := s.storeAfterReset }
  let n := n.gset Reg.PAIR_STAT Fld.PAIR_STAT_PRIO (s.gfld Reg.PAIR_STAT Fld.PAIR_STAT_PRIO)
  let n := n.gset Reg.HOST_STAT Fld.HOST_STAT_MODE (s.gfld Reg.HOST_STAT Fld.HOST_STAT_MODE)
  let n := n.gset Reg.KNL_STAT Fld.KNL_STAT_SUPV (s.gfld Reg.KNL_STAT Fld.KNL_STAT_SUPV)
  let n := n.gset Reg.KNL_STAT Fld.KNL_STAT_LWVALID (s.gfld Reg.KNL_STAT Fld.KNL_STAT_LWVALID)
  let n := n.gset Reg.KNL_STAT Fld.KNL_STAT_VBATOK (s.gfld Reg.KNL_STAT Fld.KNL_STAT_VBATOK)
  n.gset Reg.KNL_STAT Fld.KNL_STAT_LRST lrst

/-- The reset sequence of R385 with its last-word entry; the release is RESET_RELEASE. -/
def State.resetSequence (s : State) (lrst : Nat) : State :=
  (s.clearDevice lrst).lastWord 4 0 (BitVec.ofNat 32 lrst)

/-! ## The last-word bank (R386 to R389) -/

/-- KNL_LWSEL: copy the entry IDX places back from the newest for the accessor (R389). What an entry never written reads
as valid is open. -/
def State.selectLastWord (s : State) (a : Accessor) (idx : BitVec 5) : State :=
  let copy : LwCopy := match s.knl.bank[idx.toNat]? with
    | some w => ⟨idx, true, w⟩
    | none => ⟨idx, Config.freeBool s.free, Vector.replicate 4 0⟩
  { s with free := s.free + 1, knl := { s.knl with copies := s.knl.copies.set (accNum a) copy } }

/-- KNL_LWW: commit a host or port entry, at most one per ms and accessor (R388). -/
def State.commitLastWord (s : State) (a : Accessor) (code : Byte) : State :=
  let last := match a with
    | .host _ => s.knl.lwAtHost
    | .port => s.knl.lwAtPort
  let early := match last with
    | some t => decide (s.knl.time < t + 100000)
    | none => false
  if early then s.countG Reg.KNL_CNT true false
  else
    let s := s.lastWord (match a with | .host _ => 0xF0 | .port => 0xF1) code s.knl.lwd[accNum a]
    match a with
    | .host _ => { s with knl := { s.knl with lwAtHost := some s.knl.time } }
    | .port => { s with knl := { s.knl with lwAtPort := some s.knl.time } }

/-! ## Writes of kennel registers (R391, R393) -/

/-- A write of KNL_CTL, `none` where it is rejected (R378, R385, R391, R393): a set and a clear of the same source leave
it set. -/
def State.writeKnlCtl (s : State) (a : Accessor) (v : Word) : Option State :=
  let b := fun i : Nat => v.getLsbD i
  let key := getField v Fld.KNL_CTL_KEY = 0x4B4E
  let ready := !s.gbit Reg.KNL_STAT Fld.KNL_STAT_SSLOT && s.gbit Reg.KNL_STAT Fld.KNL_STAT_SSARM &&
    s.gbit Reg.KNL_STAT Fld.KNL_STAT_PADREL
  if (b 1 || b 3 || b 4) && !key then none
  else if b 1 && !ready then none
  else
    let s := if b 1 && !b 0 then s.setGinh 0 else s
    let s := if b 0 then s.setGinh 1 else s
    let s := if b 3 && !b 2 then { s with knl := { s.knl with snWd := false, snSet := false } } else s
    let s := if b 2 then { s with knl := { s.knl with snSet := true } } else s
    let s := s.updateSafeN
    some (if b 4 then s.resetSequence (match a with | .host _ => 1 | .port => 2) else s)

/-- A write of KNL_WDT, `none` where it is rejected (R382, R391). -/
def State.writeKnlWdt (s : State) (v : Word) : Option State :=
  let tmo := getField v Fld.KNL_WDT_TO
  let was := s.gbit Reg.KNL_WDT Fld.KNL_WDT_EN
  let on := v.getLsbD 14
  if tmo = 0 || 10000 < tmo || (was && !on) then none
  else
    let s := s.gput Reg.KNL_WDT (v &&& 0xFFFF)
    some (if on && !was then { s with knl := { s.knl with wdRun := true, wdTo := tmo } } else s)

/-- A write of KNL_WDKICK, `none` where it is rejected (R382, R391). -/
def State.writeKnlKick (s : State) (v : Word) : Option State :=
  if v != 0x0000A55A then none
  else if s.gbit Reg.KNL_WDT Fld.KNL_WDT_EN then
    some { s with knl := { s.knl with wdRun := true, wdTo := s.gfld Reg.KNL_WDT Fld.KNL_WDT_TO } }
  else some s

/-- A write of a kennel register by an accessor, `none` where it is rejected (R391). -/
def State.kennelWrite (s : State) (a : Accessor) (off : Nat) (v : Word) : Option State :=
  if off = Reg.KNL_CTL then s.writeKnlCtl a v
  else if off = Reg.KNL_INH then some ((s.gput Reg.KNL_INH (v &&& 0xFFF)).updateChinh)
  else if off = Reg.KNL_WDT then s.writeKnlWdt v
  else if off = Reg.KNL_WDKICK then s.writeKnlKick v
  else if off = Reg.KNL_LWSEL then some (s.selectLastWord a (v.setWidth 5))
  else if off = Reg.KNL_LWD then some { s with knl := { s.knl with lwd := s.knl.lwd.set (accNum a) v } }
  else if off = Reg.KNL_LWW then some (s.commitLastWord a (v.setWidth 8))
  else if off = Reg.KNL_BOOT then
    some (if v.getLsbD 15 then { s with knl := { s.knl with boots := 0 } } else s)
  else some (s.plainWriteG off v)

/-- What a kennel register reads for an accessor; the latch of R15 is a host context's, so that the port reads both words of
a counter as they stand. -/
def State.kennelRead (s : State) (a : Accessor) (off : Nat) : Word :=
  let c := s.knl.copies[accNum a]
  if off = Reg.KNL_LWSEL then BitVec.ofNat 32 (c.idx.toNat + if c.valid then 256 else 0)
  else if off = Reg.KNL_LW 0 then c.words[0]
  else if off = Reg.KNL_LW 1 then c.words[1]
  else if off = Reg.KNL_LW 2 then c.words[2]
  else if off = Reg.KNL_LW 3 then c.words[3]
  else if off = Reg.KNL_LWD then s.knl.lwd[accNum a]
  else if off = Reg.KNL_BOOT then s.knl.boots
  else if off = Reg.KNL_LWSEQ_LO then BitVec.ofNat 32 s.knl.lwSeq
  else if off = Reg.KNL_LWSEQ_HI then BitVec.ofNat 32 (s.knl.lwSeq / 2 ^ 32)
  else if off = Reg.KNL_TIME_LO then BitVec.ofNat 32 s.knl.time
  else if off = Reg.KNL_TIME_HI then BitVec.ofNat 32 (s.knl.time / 2 ^ 32)
  else if off = Reg.KNL_CTL || off = Reg.KNL_WDKICK || off = Reg.KNL_LWW then 0
  else s.gget off

/-- A rejected host write (R391, R537). -/
def State.knlReject (s : State) (off : Nat) (v : Word) (src : Nat) : State :=
  (s.gset Reg.KNL_STAT Fld.KNL_STAT_REJ 1).rejectRecord 0x12 0xF off v src 0

/-! ## The kennel port (R390) -/

/-- A NACK of the port. -/
def State.portNack (s : State) : State :=
  { s.countG Reg.KNL_CNT false false with knl := { (s.countG Reg.KNL_CNT false false).knl with portOut := [] } }

/-- A write through the port, without its framing. -/
def State.portWrite (s : State) (off : Nat) (v : Word) : State :=
  match s.kennelWrite .port off v with
  | some t => t
  | none => s.portNack

/-- The port's address byte for a write (R390). -/
def State.portAddr (s : State) : Byte :=
  if s.gbit Reg.PAIR_STAT Fld.PAIR_STAT_PRIO then 0xB6 else 0xB4

/-- KENNEL_PORT_WRITE: the bytes after the address byte: pointer, four data bytes, PEC. -/
def execKennelPortWrite (bytes : List Byte) (s : State) : Host.Outcome State Fault Refusal :=
  if !s.knl.powered then .next s
  else
    let p := (bytes.getD 0 0).toNat
    if bytes.length = 6 && p ≤ 0x11 && bytes.getD 5 0 = crc8 0x07 0 (s.portAddr :: bytes.take 5) then
      .next (s.portWrite (0x1000 + 4 * p) (byteWord ((bytes.drop 1).take 4)))
    else .next s.portNack

/-- KENNEL_PORT_READ: a snapshot of the register and a PEC over the whole transfer. -/
def execKennelPortRead (pointer : Byte) (s : State) : Host.Outcome State Fault Refusal :=
  if !s.knl.powered then .next s
  else if pointer.toNat ≤ 0x11 then
    let d := wordBytes (s.kennelRead .port (0x1000 + 4 * pointer.toNat))
    let pec := crc8 0x07 0 ([s.portAddr, pointer, s.portAddr ||| 1] ++ d)
    .next { s with knl := { s.knl with portOut := d ++ [pec] } }
  else .next s.portNack

/-- KENNEL_PORT_TIMEOUT: the transfer is abandoned. -/
def execKennelPortTimeout (s : State) : Host.Outcome State Fault Refusal :=
  .next { s with knl := { s.knl with portOut := [] } }

/-! ## Watchdogs and supplies (R381 to R383) -/

/-- HOST_WATCHDOG_EXPIRY (R382). -/
def execHostWatchdogExpiry (s : State) : Host.Outcome State Fault Refusal :=
  if s.gbit Reg.KNL_WDT Fld.KNL_WDT_EN && s.knl.wdRun then
    let tmo := s.knl.wdTo
    let s := { s with knl := { s.knl with
      wdRun := false, snWd := s.knl.snWd || s.gbit Reg.KNL_WDT Fld.KNL_WDT_ACT } }
    let s := (s.gset Reg.KNL_STAT Fld.KNL_STAT_HWDX 1).irq 4
    let s := s.lastWord 2 0 (BitVec.ofNat 32 tmo)
    .next ((s.record 0x12 0xF 1 2 (recData [(0, 2, tmo)])).updateSafeN)
  else .next s

/-- A device give-up for cause 5 or 6 (R37, R180, R331): every channel that the unit holds is given up, and every other one
out of OFF enters HALT with FAULT. -/
def State.deviceGiveUp (s : State) (cause : Nat) : State :=
  (List.finRange 12).foldl (fun s ch =>
    if s.isPair && s.holds ch then s.giveUp ch cause else if (s.chan ch).mode = 0 then s else s.faultHalt ch) s

/-- SAFETY_SLOT_EXPIRY: an armed slot with a missing refresh, or a slot not armed within 10 ms of the reset release (R381). -/
def execSafetySlotExpiry (aMissing bMissing : Bool) (s : State) : Host.Outcome State Fault Refusal :=
  if !(s.knl.powered && s.knl.up) || s.gbit Reg.KNL_STAT Fld.KNL_STAT_SSLOT || (s.gbit Reg.KNL_STAT Fld.KNL_STAT_SSARM && !aMissing && !bMissing) then
    .next s
  else
    let s := s.gset Reg.KNL_STAT Fld.KNL_STAT_SSLOT 1
    let s := (s.setGinh 1).updateSafeN
    let s := s.lastWord 1 0 (BitVec.ofNat 32 ((if aMissing then 1 else 0) + (if bMissing then 2 else 0)))
    let s := { s with link := { s.link with giveUp := s.link.giveUp || s.gbit Reg.GSTAT Fld.GSTAT_PAIR } }
    .next (s.deviceGiveUp 6)

/-- The supply give-up of a device that is out of reset (R383). -/
def State.supplyGiveUp (s : State) (inWindow : BitVec 4) : State :=
  if !(s.knl.powered && s.knl.up) || inWindow = 0xF then s
  else
    let s := ((s.deviceGiveUp 5).gset Reg.KNL_STAT Fld.KNL_STAT_SUPPLY 1).gset Reg.KNL_STAT Fld.KNL_STAT_SUPV inWindow.toNat
    let s := (s.gset Reg.KNL_STAT Fld.KNL_STAT_PADREL 0).gset Reg.GSTAT Fld.GSTAT_PADS_RELEASED 0
    let s := (List.finRange 12).foldl (fun s ch => (s.onPair ch PairCh.letGo).gatesFollow ch) s
    let s := s.updateSafeN.lastWord 3 0 (BitVec.ofNat 32 ((~~~inWindow).toNat))
    { s with knl := { s.knl with up := false, boot := false } }

/-- SUPPLY_GIVE_UP: a supply out of its window for 2 µs while the device is out of reset (R383). -/
def execSupplyGiveUp (inWindow : BitVec 4) (s : State) : Host.Outcome State Fault Refusal :=
  .next (s.supplyGiveUp inWindow)

/-- Every VDD_IO bank has a voltage class: a bank without one counts as out of window (R544). -/
def Pins.classed (p : Pins) : Bool := p.classes.all Option.isSome

/-- SUPPLY_RETURN: every supply in window for 1 ms; the reset sequence runs with LRST 3 (R383). SUPPLY is held until the
pad release. -/
def execSupplyReturn (s : State) : Host.Outcome State Fault Refusal :=
  if s.knl.powered && !s.knl.up && s.gbit Reg.KNL_STAT Fld.KNL_STAT_SUPPLY && s.pins.classed then
    let s := (s.gset Reg.KNL_STAT Fld.KNL_STAT_SUPV 0xF).resetSequence 3
    .next (s.gset Reg.KNL_STAT Fld.KNL_STAT_SUPPLY 1)
  else .next s

/-- KENNEL_POWER_ON: the retained contents are checked and the reset sequence runs with LRST 0; KNL_TIME restarts (R376,
R385, R516). -/
def execKennelPowerOn (retainedOk : Bool) (s : State) : Host.Outcome State Fault Refusal :=
  let b := s.knl.boots
  let boots := if retainedOk then counterStep b false else 0
  let s := { s with knl := { s.knl with
    time := 0, boots := boots, bank := if retainedOk then s.knl.bank else [],
    lwSeq := if retainedOk then s.knl.lwSeq else 0 } }
  let s := s.gset Reg.KNL_STAT Fld.KNL_STAT_LWVALID (if retainedOk then 1 else 0)
  let s := { s with pins := { s.pins with straps := true, classes := Vector.replicate 15 none } }
  .next ((s.gset Reg.KNL_STAT Fld.KNL_STAT_SUPV 0).resetSequence 0)

/-- KENNEL_POWER_OFF: without VDD_KNL every power and LEASH pad is HIZ and SAFE_N reads low (R375). -/
def execKennelPowerOff (s : State) : Host.Outcome State Fault Refusal :=
  let s := (s.gset Reg.KNL_STAT Fld.KNL_STAT_PADREL 0).gset Reg.GSTAT Fld.GSTAT_PADS_RELEASED 0
  let s := (List.finRange 12).foldl (fun s ch => (s.onPair ch PairCh.letGo).gatesFollow ch) s
  .next { s.gset Reg.KNL_STAT Fld.KNL_STAT_SAFEN 1 with knl := { s.knl with powered := false, up := false, boot := false } }

/-- PAD_RELEASE: reset done, supplies in window, IMAGE_OK; the pads take OFF under the global inhibit and SAFE_N's reset
and supply sources end (R379, R384). -/
def execPadRelease (s : State) : Host.Outcome State Fault Refusal :=
  if s.knl.powered && s.knl.up && s.gfld Reg.KNL_STAT Fld.KNL_STAT_SUPV = 0xF &&
      s.gbit Reg.GSTAT Fld.GSTAT_IMAGE_OK && !s.gbit Reg.KNL_STAT Fld.KNL_STAT_PADREL && !s.pins.testReset then
    let s := (s.gset Reg.KNL_STAT Fld.KNL_STAT_PADREL 1).gset Reg.GSTAT Fld.GSTAT_PADS_RELEASED 1
    let s := { s.gset Reg.KNL_STAT Fld.KNL_STAT_SUPPLY 0 with knl := { s.knl with snReset := false } }
    let s := s.updateSafeN.record 0x12 0xF 2 0 0
    .next ((List.finRange 12).foldl (fun s ch => s.gatesFollow ch) s)
  else .next s

/-- VBAT_KNL_CHANGE: KNL_STAT.VBATOK follows (R513). -/
def execVbatKnlChange (ok : Bool) (s : State) : Host.Outcome State Fault Refusal :=
  .next (s.gset Reg.KNL_STAT Fld.KNL_STAT_VBATOK (if ok then 1 else 0))

end Sys2Proof.Machine
end

