-- ==== Sys2Proof/Machine/SafetyEng.lean ====
section
/-! DEFINITION. Machine/SafetyEng.lean: the safety engines (11_safety_functions.md R341 to R373): the strobe's evaluation,
permits, discrepancy, contactors, the black channel, the parameter set and its confirmation. Times in milliseconds are not
counted; the command of a timer's end is that end. -/

namespace Sys2Proof.Machine

/-! ## Permits and contactor commands (R345, R346, R353) -/

/-- The causes that withhold the gate permit: SGI, DISC, CONT, BLACK, UNCONF (R346). -/
def gateCauses : Nat := 0x1F

/-- The causes that withhold a contactor permit; SGI, DISC and BLACK where KxSGI is 1 (R346). -/
def contactorCauses (ksgi : Bool) : Nat := if ksgi then 0x1F else 0x14

/-- An engine's permits (bit 0 gates, 1 K1, 2 K2) from its own view of SGI; all withdrawn where `all` (R344, R346). -/
def Chan.permits (c : Chan) (sgi all : Bool) : BitVec 3 :=
  let live := ((c.get Reg.CH_SAFE_LIVE).toNat / 2 * 2) + (if sgi then 1 else 0)
  let both := live ||| (c.get Reg.CH_SAFE_LATCH).toNat
  let k := fun f => !all && both &&& contactorCauses (c.bit Reg.SAF_CH_CFG f) == 0
  BitVec.ofBool (k Fld.SAF_CH_CFG_K2SGI) ++ BitVec.ofBool (k Fld.SAF_CH_CFG_K1SGI) ++
    BitVec.ofBool (!all && live &&& gateCauses == 0)

/-- Whether this unit checks the channel's contactors (R353). -/
def State.checksContactors (s : State) (ch : ChId) : Bool := !s.gbit Reg.GSTAT Fld.GSTAT_PAIR || s.holds ch

/-! ## SEDIS (R343, R344) -/

/-- SEDIS is declared: latched on every channel, with its record. -/
def State.declareSedis (s : State) (case_ declarer : Nat) : State :=
  if s.gbit Reg.SAF_STAT Fld.SAF_STAT_SEDIS then s
  else
    let s := ((s.gset Reg.SAF_STAT Fld.SAF_STAT_SEDIS 1).irq 2).record 0x11 0xF 6 3
      (recData [(0, 1, case_), (1, 1, declarer)])
    (List.finRange 12).foldl (fun s ch => s.raiseSafe ch 5) s

/-! ## The black channel (R354 to R359) -/

/-- The channels under the black channel. -/
def State.blackMask (s : State) : Nat := s.gfld Reg.SAF_BC_CFG Fld.SAF_BC_CFG_CHMASK

/-- The connection's state (R358); a change is a source of the SAFETY vector (R469). -/
def State.setBcst (s : State) (n : Nat) : State :=
  if s.gfld Reg.SAF_STAT Fld.SAF_STAT_BCST = n then s else (s.gset Reg.SAF_STAT Fld.SAF_STAT_BCST n).irq 2

/-- The connection stop (R358), by the class that stopped it. A stopped connection does not stop again (log 45). -/
def State.connectionStop (s : State) (cls : Nat) : State :=
  if s.gfld Reg.SAF_STAT Fld.SAF_STAT_BCST = 1 then s
  else
    let s := ((s.setBcst 1).countG Reg.SAF_CNT1 true true).record 0x11 0xF 2 3 (recData [(0, 1, cls)])
    (List.finRange 12).foldl (fun s ch => if s.blackMask.testBit ch.val then s.raiseSafe ch 3 else s) s

/-- The frame's bytes. -/
def frameBytes (f : Vector Word 8) : List Byte := bytesOf f.toList

/-- Bytes `a` to `a + n − 1` of a frame as a number. -/
def frameField (bs : List Byte) (a n : Nat) : Nat := bytesNat ((bs.drop a).take n)

/-- Whether the frame's CRC holds under the connection identity (R354). -/
def frameCrcOk (connid : Word) (bs : List Byte) : Bool :=
  frameField bs 28 4 == (crc32c (wordBytes connid ++ bs.take 28)).toNat

/-- Class 3: a field that no host frame may hold (R357). -/
def frameFieldBad (bs : List Byte) : Bool :=
  frameField bs 2 2 == 0 || 1000 < frameField bs 2 2 || frameField bs 4 2 != 0 ||
    4096 ≤ frameField bs 6 2 || 4096 ≤ frameField bs 8 2 || frameField bs 10 16 != 0

/-- The class of a frame among 0 to 6, in the order of R357; classes 4 to 6 only where established (R358). -/
def State.frameClass (s : State) (bs : List Byte) : Nat :=
  let delta := (frameField bs 0 2 + 65536 - s.gfld Reg.SAF_BC_STAT Fld.SAF_BC_STAT_LASTSEQ) % 65536
  if !frameCrcOk (s.gget Reg.SAF_CONNID) bs then 1
  else if frameField bs 26 2 != (crc16 ((bs.drop 6).take 20)).toNat then 2
  else if frameFieldBad bs then 3
  else if s.gfld Reg.SAF_STAT Fld.SAF_STAT_BCST != 2 then 0
  else if delta = 0 then 4
  else if s.gfld Reg.SAF_BC_CFG Fld.SAF_BC_CFG_GAPMAX + 1 < delta then 5
  else if 2 ≤ delta then 6 else 0

/-- The acknowledgements an accepted frame carries, for the channels in CHMASK (R349, R352, R355). -/
def State.frameAcks (s : State) (bs : List Byte) : State :=
  (List.finRange 12).foldl (fun s ch =>
    if !s.blackMask.testBit ch.val then s
    else s.onChan ch fun c =>
      let c := if (frameField bs 6 2).testBit ch.val && c.bit Reg.SAF_CH_STAT Fld.SAF_CH_STAT_DISC
        then c.setFld Reg.SAF_CH_STAT Fld.SAF_CH_STAT_DACK 1 else c
      if (frameField bs 8 2).testBit ch.val then { c with saf := { c.saf with contAck := true } } else c) s

/-- An accepted frame: its SEQ, its watchdog, its acknowledgements; from the stopped state it establishes the connection
(R357, R358). -/
def State.acceptFrame (s : State) (bs : List Byte) : State :=
  let was := s.gfld Reg.SAF_STAT Fld.SAF_STAT_BCST
  let s := s.gset Reg.SAF_BC_STAT Fld.SAF_BC_STAT_LASTSEQ (frameField bs 0 2)
  let s := { s with saf := { s.saf with wdt := frameField bs 2 2 } }
  let s := s.frameAcks bs
  if was = 2 then s
  else
    let s := (s.setBcst 2).record 0x11 0xF 3 0 (recData [(0, 2, frameField bs 0 2)])
    (List.finRange 12).foldl (fun s ch => s.setLive ch 3 false) s

/-- A faulty class is shown and recorded (R357). -/
def State.faultClass (s : State) (cls seq : Nat) : State :=
  (s.gset Reg.SAF_BC_STAT Fld.SAF_BC_STAT_FCLASS cls).record 0x11 0xF 1 2
    (recData [(0, 1, cls), (2, 2, seq), (4, 2, s.gfld Reg.SAF_BC_STAT Fld.SAF_BC_STAT_LASTSEQ)])

/-- The taken frame, checked (R357). With CHMASK 0x000 the connection is disabled and no frame is taken (log 45). -/
def State.checkFrame (s : State) : State :=
  match s.saf.taken with
  | none => s
  | some f =>
    let s := { s with saf := { s.saf with taken := none } }
    let bs := frameBytes f
    let cls := s.frameClass bs
    let seq := frameField bs 0 2
    if s.gfld Reg.SAF_STAT Fld.SAF_STAT_BCST = 0 then s
    else match cls with
      | 0 => s.acceptFrame bs
      | 1 =>
        let ts := recentTimes s.time.refNs s.saf.badTimes ++ [s.time.refNs]
        let s := { s with saf := { s.saf with badTimes := ts } }
        let s := (s.countG Reg.SAF_CNT0 false false).faultClass 1 seq
        if s.gfld Reg.SAF_BC_CFG Fld.SAF_BC_CFG_EMAX < ts.length then s.connectionStop 1 else s
      | 4 => (s.countG Reg.SAF_CNT1 false false).faultClass 4 seq
      | 6 =>
        let delta := (seq + 65536 - s.gfld Reg.SAF_BC_STAT Fld.SAF_BC_STAT_LASTSEQ) % 65536
        ((s.countGBy (delta - 1) Reg.SAF_CNT0 true false).faultClass 6 seq).acceptFrame bs
      | n => (s.faultClass n seq).connectionStop n

/-- BC_WATCHDOG_EXPIRY: class 7 (R357). -/
def execBcWatchdogExpiry (s : State) : Host.Outcome State Fault Refusal :=
  if s.gfld Reg.SAF_STAT Fld.SAF_STAT_BCST = 2 then
    .next ((s.faultClass 7 (s.gfld Reg.SAF_BC_STAT Fld.SAF_BC_STAT_LASTSEQ)).connectionStop 7)
  else .next s

/-- SAF_RXF7 submits the eight words; a frame not yet taken is lost (R356). -/
def State.submitFrame (s : State) : State :=
  let s := if s.saf.taken.isSome then s.countG Reg.SAF_CNT0 true false else s
  { s with saf := { s.saf with taken := some s.saf.rxf } }

/-- A channel's byte of the device frame (R355). -/
def State.frameChByte (s : State) (ch : ChId) : Byte :=
  let c := s.chan ch
  let st := fun f => c.bit Reg.SAF_CH_STAT f
  let live := c.get Reg.CH_SAFE_LIVE
  BitVec.ofBool (c.mode = 10) ++ BitVec.ofBool (st Fld.SAF_CH_STAT_K2CMD && c.saf.k2.confirmed) ++
    BitVec.ofBool (st Fld.SAF_CH_STAT_K1CMD && c.saf.k1.confirmed) ++ BitVec.ofBool (live.getLsbD 2) ++
    BitVec.ofBool (live.getLsbD 1) ++ BitVec.ofBool (st Fld.SAF_CH_STAT_INH_A || st Fld.SAF_CH_STAT_INH_B) ++
    BitVec.ofBool (st Fld.SAF_CH_STAT_SGB) ++ BitVec.ofBool (st Fld.SAF_CH_STAT_SGA)

/-- The device frame (R354, R355, R359). -/
def State.deviceFrame (s : State) : List Byte :=
  let wdt := min (2 * s.gfld Reg.SAF_BC_CFG Fld.SAF_BC_CFG_TXPER) 1000
  let flags := (1 - s.gfld Reg.SAF_STAT Fld.SAF_STAT_CONF) + 2 * s.gfld Reg.SAF_STAT Fld.SAF_STAT_SEDIS +
    (if s.gfld Reg.SAF_STAT Fld.SAF_STAT_BCST = 1 then 4 else 0)
  let data := (List.finRange 12).map s.frameChByte ++ natBytes 2 flags ++ List.replicate 6 0
  let head := natBytes 2 s.saf.txSeq ++ natBytes 2 wdt ++ [1, 0] ++ data ++ natBytes 2 (crc16 data).toNat
  head ++ wordBytes (crc32c (wordBytes (s.gget Reg.SAF_CONNID) ++ head))

/-- SAFETY_FRAME_PUBLISH: every TXPER in the established state (R359). -/
def execSafetyFramePublish (s : State) : Host.Outcome State Fault Refusal :=
  if s.gfld Reg.SAF_STAT Fld.SAF_STAT_BCST = 2 then
    let bs := s.deviceFrame
    let s := (List.range 8).foldl (fun s k => s.gput (Reg.SAF_TXF k) (byteWord ((bs.drop (4 * k)).take 4))) s
    .next ({ s with saf := { s.saf with txSeq := (s.saf.txSeq + 1) % 65536 } }.irq 2)
  else .next s

/-! ## Discrepancy (R348, R349) -/

/-- The strobes that the running disagreement has lasted, in the engine that has counted more (R348). -/
def Chan.discCount (c : Chan) : Nat := max c.saf.discA c.saf.discB

/-- A discrepancy is due: the count has reached N, and no latch of this disagreement had a count that reached N already
(R348). -/
def Chan.discDue (c : Chan) : Bool :=
  let n := c.fld Reg.SAF_CH_CFG Fld.SAF_CH_CFG_TD
  n ≤ c.discCount && c.saf.discAt < n

/-- DISCREPANCY_LATCH: N consecutive strobes with differing samples (R348, R349). -/
def execDiscrepancyLatch (ch : ChId) (s : State) : Host.Outcome State Fault Refusal :=
  let c := s.chan ch
  if c.discDue then
    let st := fun f => c.bit Reg.SAF_CH_STAT f
    let c := { c.setFld Reg.SAF_CH_STAT Fld.SAF_CH_STAT_DISC 1 with saf := { c.saf with discAt := c.discCount } }
    let s := (s.putChan ch c).countCh ch Reg.SAF_CH_CNT true true
    .next ((s.raiseSafe ch 1).record 0x11 0xF 4 3
      (recData [(0, 1, ch.val), (1, 1, if st Fld.SAF_CH_STAT_SGA then 1 else 2)]))
  else .next s

/-- The cycle and the clearing of a latched discrepancy at a strobe (R349). -/
def Chan.discStrobe (c : Chan) (a b : Bool) : Chan :=
  if !c.bit Reg.SAF_CH_STAT Fld.SAF_CH_STAT_DISC then c
  else
    let c := if c.saf.sawBoth && !a && !b then c.setFld Reg.SAF_CH_STAT Fld.SAF_CH_STAT_DCYC 1 else c
    let c := if a && b then { c with saf := { c.saf with sawBoth := true } } else c
    if c.bit Reg.SAF_CH_STAT Fld.SAF_CH_STAT_DCYC && c.bit Reg.SAF_CH_STAT Fld.SAF_CH_STAT_DACK then
      { ((c.setFld Reg.SAF_CH_STAT Fld.SAF_CH_STAT_DISC 0).setFld Reg.SAF_CH_STAT Fld.SAF_CH_STAT_DCYC 0).setFld
        Reg.SAF_CH_STAT Fld.SAF_CH_STAT_DACK 0 with saf := { c.saf with sawBoth := false } }
    else c

/-! ## Contactors (R350 to R353) -/

def Chan.contactor (c : Chan) (k2 : Bool) : Contactor := if k2 then c.saf.k2 else c.saf.k1

def Chan.setContactor (c : Chan) (k2 : Bool) (k : Contactor) : Chan :=
  { c with saf := if k2 then { c.saf with k2 := k } else { c.saf with k1 := k } }

def Chan.kCmd (c : Chan) (k2 : Bool) : Bool :=
  c.bit Reg.SAF_CH_STAT (if k2 then Fld.SAF_CH_STAT_K2CMD else Fld.SAF_CH_STAT_K1CMD)

def Chan.kClosed (c : Chan) (k2 : Bool) : Bool :=
  c.bit Reg.SAF_CH_STAT (if k2 then Fld.SAF_CH_STAT_K2FB else Fld.SAF_CH_STAT_K1FB)

def Chan.kEnabled (c : Chan) (k2 : Bool) : Bool :=
  c.bit Reg.SAF_K_CFG (if k2 then Fld.SAF_K_CFG_K2EN else Fld.SAF_K_CFG_K1EN)

/-- The feedback agrees with the command (R350). -/
def Chan.kConsistent (c : Chan) (k2 : Bool) : Bool := c.kCmd k2 == c.kClosed k2

def kFltField (k2 : Bool) : BitField := if k2 then Fld.SAF_CH_STAT_K2FLT else Fld.SAF_CH_STAT_K1FLT

/-- A contactor fault latches its code (R352). An acknowledgement given before it counts no more (DEDUCED from R349, log 69). -/
def State.contactorFault (s : State) (ch : ChId) (k2 : Bool) (code : Nat) : State :=
  let c := s.chan ch
  let c := { c.setFld Reg.SAF_CH_STAT (kFltField k2) code with saf := { c.saf with contAck := false } }
  ((s.putChan ch c).raiseSafe ch 2).record 0x11 0xF 5 3
    (recData [(0, 1, ch.val), (1, 1, if k2 then 2 else 1), (2, 1, code)])

/-- CONTACTOR_SETTLE_END: the settle time has passed since the last change of the command (R351). -/
def execContactorSettleEnd (ch : ChId) (k2 : Bool) (s : State) : Host.Outcome State Fault Refusal :=
  let c := s.chan ch
  let k := c.contactor k2
  if !k.settling then .next s
  else if !c.kEnabled k2 then .next (s.putChan ch (c.setContactor k2 ⟨false, true, k.clean⟩))
  else
    let s' := s.putChan ch (c.setContactor k2 { k with settling := false })
    if !s.checksContactors ch || c.kConsistent k2 || c.fld Reg.SAF_CH_STAT (kFltField k2) != 0 then .next s'
    else .next (s'.contactorFault ch k2 (if c.kCmd k2 then 1 else 2))

/-- CONTACTOR_DEBOUNCE_END: the feedback has been as it is for KDEB ms (R351). -/
def execContactorDebounceEnd (ch : ChId) (k2 : Bool) (s : State) : Host.Outcome State Fault Refusal :=
  let c := s.chan ch
  let k := c.contactor k2
  if c.kConsistent k2 then
    .next (s.putChan ch (c.setContactor k2 { k with clean := true, confirmed := k.confirmed || c.kEnabled k2 }))
  else if c.kEnabled k2 && s.checksContactors ch && !k.settling && c.fld Reg.SAF_CH_STAT (kFltField k2) = 0 then
    .next (s.contactorFault ch k2 (if c.kCmd k2 then 3 else 4))
  else .next s

/-- A contactor at a strobe: an inconsistent feedback breaks the consistency (R351). -/
def Chan.kStrobe (c : Chan) (k2 : Bool) : Chan :=
  if c.kConsistent k2 then c
  else
    let k := c.contactor k2
    c.setContactor k2 { k with clean := false, confirmed := k.confirmed && !c.kEnabled k2 }

/-- The codes clear when every faulty contactor's feedback has been consistent for KDEB and the host has acknowledged
(R352). -/
def Chan.contRelease (c : Chan) : Chan :=
  let f := fun k2 => c.fld Reg.SAF_CH_STAT (kFltField k2) != 0
  if (f false || f true) && c.saf.contAck && (!f false || c.saf.k1.clean) && (!f true || c.saf.k2.clean) then
    { (c.setFld Reg.SAF_CH_STAT Fld.SAF_CH_STAT_K1FLT 0).setFld Reg.SAF_CH_STAT Fld.SAF_CH_STAT_K2FLT 0 with
      saf := { c.saf with contAck := false } }
  else c

/-! ## The strobe (R342 to R349) -/

/-- A channel's sample in a strobe; a channel that the observation leaves out demands inhibition with open contactors (DESIGN CHOICE, log
69). -/
def sampleOf (l : List SafSample) (ch : ChId) : SafSample := l.getD ch.val ⟨true, true, false, false⟩

/-- One channel's evaluation, from each engine's samples (R346 to R352). -/
def State.strobeChan (s : State) (ch : ChId) (a b : SafSample) : State :=
  let c := s.chan ch
  let before := c.bit Reg.SAF_CH_STAT Fld.SAF_CH_STAT_SGA || c.bit Reg.SAF_CH_STAT Fld.SAF_CH_STAT_SGB
  let sga := a.sga || b.sga
  let sgb := a.sgb || b.sgb
  let bit := fun x : Bool => if x then 1 else 0
  let c := (c.setFld Reg.SAF_CH_STAT Fld.SAF_CH_STAT_SGA (bit sga)).setFld Reg.SAF_CH_STAT Fld.SAF_CH_STAT_SGB (bit sgb)
  let c := (c.setFld Reg.SAF_CH_STAT Fld.SAF_CH_STAT_K1FB (bit a.k1Closed)).setFld Reg.SAF_CH_STAT
    Fld.SAF_CH_STAT_K2FB (bit a.k2Closed)
  let c := { c with saf := { c.saf with
    discA := if a.sga == a.sgb then 0 else c.saf.discA + 1, discB := if b.sga == b.sgb then 0 else c.saf.discB + 1 } }
  let c := if c.discCount = 0 then { c with saf := { c.saf with discAt := 0 } } else c
  let c := (((c.discStrobe sga sgb).kStrobe false).kStrobe true).contRelease
  let s := s.putChan ch c
  let s := if !before && (sga || sgb) then s.countCh ch Reg.SAF_CH_CNT false false else s
  let s := s.setLive ch 0 (sga || sgb)
  let s := s.setLive ch 1 (c.bit Reg.SAF_CH_STAT Fld.SAF_CH_STAT_DISC)
  let s := s.setLive ch 2 (c.fld Reg.SAF_CH_STAT Fld.SAF_CH_STAT_K1FLT != 0 ||
    c.fld Reg.SAF_CH_STAT Fld.SAF_CH_STAT_K2FLT != 0)
  let s := s.setLive ch 3 (s.gfld Reg.SAF_STAT Fld.SAF_STAT_BCST = 1 && s.blackMask.testBit ch.val)
  s.setLive ch 4 (!s.gbit Reg.SAF_STAT Fld.SAF_STAT_CONF)

/-- The permits of a channel after the evaluation (R344, R346, R347). -/
def State.permitChan (s : State) (ch : ChId) (a b : SafSample) : State :=
  let all := s.gbit Reg.SAF_STAT Fld.SAF_STAT_SEDIS &&
    (!s.gbit Reg.GSTAT Fld.GSTAT_PAIR || s.gbit Reg.KNL_STAT Fld.KNL_STAT_SSLOT)
  let c := s.chan ch
  let pa := c.permits (a.sga || a.sgb) all
  let pb := c.permits (b.sga || b.sgb) all
  let c := { c with saf := { c.saf with permA := pa, permB := pb } }
  let c := (c.setFld Reg.SAF_CH_STAT Fld.SAF_CH_STAT_INH_A (if pa.getLsbD 0 then 0 else 1)).setFld Reg.SAF_CH_STAT
    Fld.SAF_CH_STAT_INH_B (if pb.getLsbD 0 then 0 else 1)
  ((s.putChan ch c).contactors ch).gatesFollow ch

/-- The strobe's source (R342). -/
def State.strobeSource (s : State) : Nat :=
  if s.gbit Reg.REF_STAT Fld.REF_STAT_A_ACT then 0 else if s.gbit Reg.REF_STAT Fld.REF_STAT_B_ACT then 1 else 2

/-- The exchange of results and its verdict (R343); `env` says what the two engines saw of each other. -/
def State.exchange (s : State) (env : StrobeEnv) : State :=
  let differ := env.corrupt || (List.finRange 12).any fun ch => (s.chan ch).saf.permA != (s.chan ch).saf.permB
  let deaf := env.aDeaf || env.bDeaf
  let s := { s with saf := { s.saf with
    diffRun := if differ then s.saf.diffRun + 1 else 0, deafRun := if deaf then s.saf.deafRun + 1 else 0 } }
  if 3 ≤ s.saf.diffRun then { s with free := s.free + 1 }.declareSedis 1 (Config.freeNat s.free % 2)
  else if s.saf.chkDiff then { s with free := s.free + 1 }.declareSedis 2 (Config.freeNat s.free % 2)
  else if 2 ≤ s.saf.deafRun then s.declareSedis 3 (if env.aDeaf then 0 else 1)
  else if env.aOsc || env.bOsc then s.declareSedis 4 (if env.aOsc then 0 else 1)
  else s

/-- The evaluation of a strobe: the taken frame, every channel, the permits, the exchange, and the permits once more where it
declares SEDIS; an engine that has declared none refreshes the slot (R342 to R344). -/
def State.strobe (s : State) (env : StrobeEnv) : State :=
  let s := s.gset Reg.SAF_STAT Fld.SAF_STAT_STRB s.strobeSource
  let s := s.checkFrame
  let permit := fun s : State => (List.finRange 12).foldl
    (fun s ch => s.permitChan ch (sampleOf env.a ch) (sampleOf env.b ch)) s
  let s := (List.finRange 12).foldl (fun s ch => s.strobeChan ch (sampleOf env.a ch) (sampleOf env.b ch)) s
  let s := permit s
  let was := s.gbit Reg.SAF_STAT Fld.SAF_STAT_SEDIS
  let s := s.exchange env
  let now := s.gbit Reg.SAF_STAT Fld.SAF_STAT_SEDIS
  let s := if now && !was then permit s else s
  if now then s else s.slotRefresh

/-- SAFETY_STROBE: every 10 µs, while the KENNEL does not hold the engines in reset (R342, R385). -/
def execSafetyStrobe (env : StrobeEnv) (s : State) : Host.Outcome State Fault Refusal :=
  .next (if s.knl.powered && s.knl.up then s.strobe env else s)

/-! ## The parameter set (R360 to R363, R367) -/

/-- The 26 words of the set (R361). -/
def State.safetySet (s : State) : List Word :=
  [s.gget Reg.SAF_CONNID, s.gget Reg.SAF_BC_CFG] ++
    (List.finRange 12).flatMap fun ch => [(s.chan ch).get Reg.SAF_CH_CFG, (s.chan ch).get Reg.SAF_K_CFG]

/-- The check value (R361). -/
def State.safetyCheck (s : State) : Word := crc32c (bytesOf s.safetySet)

/-- SAF_STAT.CONF and GSTAT.SAFETY_CONF, which are equal. -/
def State.setConf (s : State) (n : Nat) : State :=
  (s.gset Reg.SAF_STAT Fld.SAF_STAT_CONF n).gset Reg.GSTAT Fld.GSTAT_SAFETY_CONF n

/-- A channel in PRECHARGE or a driving mode (R360). -/
def State.anyDriving (s : State) : Bool :=
  (List.finRange 12).any fun ch => 2 ≤ (s.chan ch).mode && (s.chan ch).mode ≤ 7

/-- A changed set is unconfirmed, and its check value is computed anew (R360 to R362). -/
def State.safetyChanged (s : State) (off : Nat) : State :=
  let s := (s.setConf 0).gset Reg.SAF_STAT Fld.SAF_STAT_CHKV 0
  let s := { s with saf := { s.saf with chkDue := true } }
  let s := (List.finRange 12).foldl (fun s ch => s.raiseSafe ch 4) s
  s.record 0x11 0xF 8 1 (recData [(0, 4, off)])

/-- A rejection of this chapter (R367, R537). -/
def State.safReject (s : State) (chval off : Nat) (v : Word) (src cause : Nat) : State :=
  ((s.gset Reg.SAF_STAT Fld.SAF_STAT_REJ 1).gset Reg.SAF_STAT Fld.SAF_STAT_RCAUSE cause).rejectRecord 0x11 chval off v
    src cause

/-- The range test of SAF_BC_CFG (R369). -/
def bcCfgOk (v : Word) : Bool :=
  1 ≤ getField v Fld.SAF_BC_CFG_EMAX && 1 ≤ getField v Fld.SAF_BC_CFG_TXPER && getField v Fld.SAF_BC_CFG_TXPER ≤ 1000

/-- The range tests of SAF_CH_CFG and SAF_K_CFG (R371). -/
def chCfgOk (v : Word) : Bool := 1000 ≤ getField v Fld.SAF_CH_CFG_TD && getField v Fld.SAF_CH_CFG_TD ≤ 200000

def kCfgOk (v : Word) : Bool :=
  1 ≤ getField v Fld.SAF_K_CFG_K1TS && getField v Fld.SAF_K_CFG_K1TS ≤ 500 && 1 ≤ getField v Fld.SAF_K_CFG_K2TS &&
    getField v Fld.SAF_K_CFG_K2TS ≤ 500 && 1 ≤ getField v Fld.SAF_K_CFG_KDEB && getField v Fld.SAF_K_CFG_KDEB ≤ 50

/-- A change of CHMASK (R358). -/
def State.chmaskChanged (s : State) (old : Nat) : State :=
  if s.blackMask = old then s
  else if s.blackMask = 0 then s.setBcst 0
  else if old = 0 then (s.setBcst 0).connectionStop 0
  else s

/-- A write of SAF_CONNID or SAF_BC_CFG; true: rejected (R360, R367). -/
def State.writeSafGlobal (s : State) (off : Nat) (v : Word) (src : Nat) : State × Bool :=
  if off = Reg.SAF_BC_CFG && !bcCfgOk v then (s.safReject 0xF off v src 2, true)
  else if s.anyDriving then (s.safReject 0xF off v src 1, true)
  else if (s.plainWriteG off v).gget off = s.gget off then (s, false)
  else
    let old := s.blackMask
    (((s.plainWriteG off v).safetyChanged off).chmaskChanged old, false)

/-- A write of SAF_CH_CFG or SAF_K_CFG of a channel; true: rejected. -/
def State.writeSafChan (s : State) (ch : ChId) (off : Nat) (v : Word) (src : Nat) : State × Bool :=
  if !(if off = Reg.SAF_CH_CFG then chCfgOk v else kCfgOk v) then (s.safReject ch.val off v src 2, true)
  else if s.anyDriving then (s.safReject ch.val off v src 1, true)
  else if (s.chan ch).plainWord off v = (s.chan ch).get off then (s, false)
  else ((s.onChan ch fun c => c.put off (c.plainWord off v)).safetyChanged off, false)

/-- SAFETY_CHECK_DONE: both engines have finished; an operand is a value other than the right one that an engine found
(R343, R361). At start-up, equality with the stored record confirms the set (R363). -/
def execSafetyCheckDone (a b : Option Word) (s : State) : Host.Outcome State Fault Refusal :=
  if !s.saf.chkDue then .next s
  else
    let v := s.safetyCheck
    let va := a.getD v
    let vb := b.getD v
    let s := { s with saf := { s.saf with chkDue := false } }
    if va != vb then .next { s with saf := { s.saf with chkDiff := true } }
    else
      let s := (s.gput Reg.SAF_CHECK va).gset Reg.SAF_STAT Fld.SAF_STAT_CHKV 1
      .next (if s.store.confirm = some va then
        (List.finRange 12).foldl (fun s ch => s.setLive ch 4 false)
          ({ s with store := { s.store with confirm := none } }.setConf 1)
      else { s with store := { s.store with confirm := none } })

/-- A write of SAF_CTL; true: rejected (R362, R367). -/
def State.writeSafCtl (s : State) (v : Word) (src : Nat) : State × Bool :=
  if getField v Fld.SAF_CTL_CONF = 0 then (s, false)
  else if getField v Fld.SAF_CTL_CODE = 0xC0F1 && s.gbit Reg.SAF_STAT Fld.SAF_STAT_CHKV &&
      s.gget Reg.SAF_CONFIRM = s.gget Reg.SAF_CHECK && !s.anyDriving then
    let s := (List.finRange 12).foldl (fun s ch => s.setLive ch 4 false) (s.setConf 1)
    let s := s.startSave ⟨0, [], some (s.safetySet, s.gget Reg.SAF_CHECK)⟩
    (s.record 0x11 0xF 7 0 (recData [(0, 4, (s.gget Reg.SAF_CHECK).toNat)]), false)
  else (s.safReject 0xF Reg.SAF_CTL v src 3, true)

/-- A write of SAF_ACK of a channel; true: rejected (R349, R352, R367). -/
def State.writeSafAck (s : State) (ch : ChId) (v : Word) (src : Nat) : State × Bool :=
  if v.extractLsb' 0 2 != 0 && s.blackMask.testBit ch.val then (s.safReject ch.val Reg.SAF_ACK v src 4, true)
  else
    (s.onChan ch fun c =>
      let c := if v.getLsbD 0 && c.bit Reg.SAF_CH_STAT Fld.SAF_CH_STAT_DISC
        then c.setFld Reg.SAF_CH_STAT Fld.SAF_CH_STAT_DACK 1 else c
      if v.getLsbD 1 && (c.fld Reg.SAF_CH_STAT Fld.SAF_CH_STAT_K1FLT != 0 ||
          c.fld Reg.SAF_CH_STAT Fld.SAF_CH_STAT_K2FLT != 0)
      then { c with saf := { c.saf with contAck := true } } else c, false)

end Sys2Proof.Machine
end

