-- ==== Sys2Proof/Machine/Start.lean ====
section
/-! DEFINITION. Machine/Start.lean: what a channel start does (04_control_engines.md R111, 17_configuration_image.md R489, R503,
09_clocking.md R281): the registers that it restores, the lock that it begins, and its end in HALT. -/

namespace Sys2Proof.Machine

/-! ## Section memory (R489) -/

/-- The committed section of a channel. -/
def State.committed (s : State) (ch : ChId) : Option Section :=
  if s.gbit (Reg.IMG_SECT ch) Fld.IMG_SECT_PRESENT then
    (s.chan ch).banks[s.gfld (Reg.IMG_SECT ch) Fld.IMG_SECT_BANK % 2]'(Nat.mod_lt _ (by decide))
  else none

/-- The bank that the next load of a section writes: the uncommitted one. -/
def State.freeBank (s : State) (ch : ChId) : Fin 2 :=
  if s.gbit (Reg.IMG_SECT ch) Fld.IMG_SECT_PRESENT then Fin.ofNat 2 (s.gfld (Reg.IMG_SECT ch) Fld.IMG_SECT_BANK + 1) else 0

/-- Commit a section in a bank (R489, R509). -/
def State.commitSection (s : State) (ch : ChId) (g : Section) (repaired : Bool) : State :=
  let b := s.freeBank ch
  let s := s.onChan ch fun c => { c with banks := c.banks.set b (some g) }
  s.gput (Reg.IMG_SECT ch) (BitVec.ofNat 32 (g.mlid.toNat + 2 ^ 16 + 2 ^ 17 * b.val + if repaired then 2 ^ 18 else 0))

/-! ## Registers (R502, R503) -/

/-- The settling length of a used input (R87). -/
def Chan.settleLen (c : Chan) (i : InId) : Nat :=
  ceilDiv (c.fld (Reg.SINC_CFG i) Fld.SINC_CFG_ORDER + c.fld (Reg.FIR_CFG i) Fld.FIR_CFG_TAPS - 1)
    (max 1 (c.fld (Reg.FIR_CFG i) Fld.FIR_CFG_DEC * c.fld (Reg.DEC_CFG i) Fld.DEC_CFG_DEC))

/-- SINC_CFG.SETTLE of every used input holds its settling length (R87). -/
def Chan.settleAll (c : Chan) : Chan :=
  (List.finRange 16).foldl (fun c i =>
    if c.inMode i = 0 then c else c.setFld (Reg.SINC_CFG i) Fld.SINC_CFG_SETTLE (c.settleLen i)) c

/-- The section's registers: structure and defaults (log 15). -/
def Chan.applySection (c : Chan) (g : Section) : Chan :=
  let c := (g.regs.foldl (fun c ov => c.put ov.1.toNat ov.2) c).settleAll
  let c := g.firs.foldl (fun c f => c.onInp f.input fun x =>
    let b := ssetMany (fun _ => (⟨0, 0⟩ : FirTap)) [] 0 (f.taps.map fun t => ⟨t.1, t.2⟩)
    if f.bank then { x with bank1 := b } else { x with bank0 := b }) c
  let c := (List.finRange 16).foldl (fun c i => c.onInp i fun x => { x with frac := g.fracs.getD i.val 31 }) c
  { c with img := some g }

/-- The settable bits of a register take a record's value (R502). -/
def Chan.applyRecordReg (c : Chan) (ov : Nat × Word) : Chan :=
  match findRow chanRows ov.1 with
  | some r => c.put ov.1 ((c.get ov.1 &&& ~~~r.settable) ||| (ov.2 &&& r.settable))
  | none => c

def Chan.applyRecord (c : Chan) (r : ParamRec) : Chan := r.regs.foldl Chan.applyRecordReg c

/-- Every value of a record passes its home chapter's checks, each against the record's other values, as in HALT; a tick
length is judged against the record's lock point (R49, R503). -/
def State.recordInRange (s : State) (ch : ChId) (c : Chan) (r : ParamRec) : Bool :=
  let c := { c.applyRecord r with writes := [] }
  let off := c.setFld Reg.CH_MODE_CUR Fld.CH_MODE_CUR_MODE 0
  let halt := c.setFld Reg.CH_MODE_CUR Fld.CH_MODE_CUR_MODE 1
  r.regs.all fun ov =>
    ov.1 == Reg.PACK_ID ||
      ((s.putChan ch (if ov.1 = Reg.CH_TICK_DIV then off else halt)).arrivalCause ch ov.1 ov.2).isNone

/-- The active bank's record of a channel. -/
def State.storedRecord (s : State) (ch : ChId) : Option ParamRec := s.parActive.bind fun b => b.recs[ch]

/-- Why the record is not used with the section whose defaults `c` holds: 1 no record or another SECTID, 2 a value fails
its checks; 0: it is used (R503). -/
def State.recordCause (s : State) (ch : ChId) (c : Chan) (g : Section) : Nat :=
  match s.storedRecord ch with
  | none => 1
  | some r => if r.ident != g.ident then 1 else if s.recordInRange ch c r then 0 else 2

/-- The registers of a channel start that restores them: the section's defaults, then the record (R503); the estimate of
each DC blocker is taken from DCB_EST (R80). -/
def State.restoreChan (s : State) (ch : ChId) (g : Section) : State :=
  let c := (s.chan ch).applySection g
  let cause := s.recordCause ch c g
  let c := if cause = 0 then (match s.storedRecord ch with
    | some r => c.applyRecord r
    | none => c) else c
  let c := (List.finRange 16).foldl (fun c i => c.onInp i fun x =>
    { x with e := (c.get (Reg.DCB_EST i)) ++ (0 : BitVec 24) }) c
  let s := (s.putChan ch c.capRefresh).gset (Reg.IMG_SECT ch) Fld.IMG_SECT_PDEF (if cause = 0 then 0 else 1)
  if cause = 0 then s else s.record 0x15 0xF 6 1 (recData [(0, 1, ch.val), (1, 1, cause)])

/-! ## Engine memories (R111, R130) -/

/-- An engine as the section loads it: registers, accumulators and flags clear, FST in its first tick. -/
def loadEngine (g : EngSection) : Engine :=
  let data := g.data.foldl (fun m kv => sset (fun _ => (0 : Word)) m kv.1 kv.2) []
  { Engine.reset with
    prog := ssetMany (fun _ => (0 : BitVec 64)) [] 0 g.prog,
    data := data, atEnd := data,
    coef := g.coefs.foldl (fun m k => sset (fun _ => Coef.unused) m k.idx.toNat ⟨k.mant, k.shift, k.sat, k.owner⟩) [],
    slotMap := g.slots.foldl (fun m sq => sset (fun _ => (0 : BitVec 8)) m sq.1.toNat sq.2) [] }

/-- The record's coefficients, of owners 0 to 62 (R502, R503). -/
def Engine.applyRecord (e : Engine) (l : List (Nat × Word × BitVec 6)) : Engine :=
  l.foldl (fun e k =>
    let x := e.getCoef k.1
    if x.owner = 63 then e else e.setCoef k.1 { x with mant := k.2.1, shift := k.2.2 }) e

/-- Both engines of a channel start; the record's coefficients come under the conditions of its registers. -/
def State.loadEngines (s : State) (ch : ChId) (g : Section) : State :=
  let c := s.chan ch
  let fe := loadEngine g.fe
  let me := loadEngine g.me
  let (fe, me) := if s.recordCause ch (c.applySection g) g = 0 then (match s.storedRecord ch with
    | some r => (fe.applyRecord r.fe, me.applyRecord r.me)
    | none => (fe, me)) else (fe, me)
  s.putChan ch ({ c with fe := { fe with ce := c.fe.ce }, me := { me with ce := c.me.ce } }).showStaged

/-! ## The start (R78, R111, R180, R407) -/

/-- The fault and the engine fault bits that a channel start clears (R180). -/
def State.clearFault (s : State) (ch : ChId) : State :=
  let s := s.onChan ch fun c =>
    let c := c.setFld Reg.CH_MODE_CUR Fld.CH_MODE_CUR_FAULT 0
    c.put Reg.ENG_STAT (c.get Reg.ENG_STAT &&& ~~~(0xF : Word))
  let f := s.gfld Reg.GSTAT Fld.GSTAT_CH_FAULT
  s.gset Reg.GSTAT Fld.GSTAT_CH_FAULT (if f.testBit ch.val then f - 2 ^ ch.val else f)

/-- What a channel start makes anew beside the engines: the law's states, the tag counts, the measured periods, the PWM
before its first update point; PACK as PACK_CFG says (R142, R164, R225, R238). -/
def State.startUnits (s : State) (ch : ChId) (g : Section) : State :=
  { s with free := s.free + 1 }.onChan ch fun c =>
    let c := { c with
      law := { LawState.reset with on := g.lawLib }, tags := Vector.replicate 64 ⟨0, 0, 0⟩, periods := [], img := some g,
      pwm := { c.pwm with started := false, driving := false, resume := false, lag := 0 }, pll := { c.pll with phase := .idle } }
    (c.packEnableEdge (Config.freeNat s.free % 255)).setFld Reg.PWM_STAT Fld.PWM_STAT_CAL_OK 1

/-- A channel start ends: HALT with its cause, and the first tick begins (R111, R199, R380); the section's layout identity is
compared with the partner's (R312). -/
def State.startChan (s : State) (ch : ChId) (g : Section) (fresh : Bool) (tc : Nat) : State :=
  let s := ((s.loadEngines ch g).startUnits ch g).clearFault ch
  let s := (s.chainStart ch fresh).capRestart ch
  let s := if s.link.mlids.isEmpty then s else s.compareMlids s.link.mlids
  (s.onChan ch fun c => { c with ctl := { c.ctl with starting := true } }).enterMode ch 1 tc

/-- A start whose restored values fail R281: no lock; the channel stays in OFF with its inhibit (R281, R380). -/
def State.startFails (s : State) (ch : ChId) (cause : Nat) : State :=
  let c := s.chan ch
  let c := (c.setFld Reg.PLL_STAT Fld.PLL_STAT_REJ 1).setFld Reg.PLL_STAT Fld.PLL_STAT_RCAUSE cause
  let c := { c with pll := { c.pll with phase := .idle, start := .fromOff } }
  let s := (s.putChan ch c).rejectRecord 0x08 ch.val Reg.PLL_CFG (c.get Reg.PLL_CFG) (Config.freeNat s.free % 5) cause
  { s with free := s.free + 1 }.chinhFollow ch

/-- The registers restored, the lock of a channel start begins, if R281 admits it. -/
def State.restoreAndLock (s : State) (ch : ChId) (kind : StartKind) : State :=
  match s.committed ch with
  | none => s.onChan ch fun c => { c with pll := { c.pll with phase := .idle, start := .fromOff } }
  | some g =>
    let s := s.restoreChan ch g
    let cause := (s.chan ch).lockCause s.fnom
    if cause = 0 then s.beginLock ch kind else s.startFails ch cause

/-- CHANNEL_START: the lock is declared and the delay line calibrated; the start from OFF or after a per-channel reset
ends (R111, R283, R522). -/
def execChannelStart (ch : ChId) (s : State) : Result :=
  let c := s.chan ch
  if c.pll.phase = .calibrate && (c.pll.start = .fromOff || c.pll.start = .reset) then
    match s.committed ch with
    | some g => .next (s.startChan ch g (c.pll.start = .reset) 2).bootSettled
    | none => .next s
  else .next s

end Sys2Proof.Machine
end

