-- ==== Sys2Proof/Machine/Image.lean ====
section
/-! DEFINITION. Machine/Image.lean: the image loader (17_configuration_image.md R487 to R500, R506): verification, boot, full
loads, REPAIR loads, updates of flash slots, and fuses. -/

namespace Sys2Proof.Machine

/-! ## Keys and slots (R487, R488, R498) -/

/-- Whether a fuse slot is programmed with the key's hash and not revoked (R487). -/
def State.keyValid (s : State) (v : ImageView) : Bool :=
  let f := s.store.fuses[v.keySlot.toNat]'v.keySlot.isLt
  f.hash == some v.keyHash && !f.revoked

/-- The result of verification (R487): layout and part come before the key, the signature and the digests after it. -/
def State.verifyErr (s : State) (v : ImageView) : Nat :=
  if v.err = 4 || v.err = 5 then v.err.toNat else if s.keyValid v then v.err.toNat else 2

/-- The words of the operation's data: those that came through IMG_DATA, or those that the loader has read itself, IMG_LEN
bytes by DMA (R492). -/
def State.imageWords (s : State) (found : ImageObs) : List Word :=
  if s.ldr.op = 0 || s.ldr.op = 2 then found.words
  else if s.ldr.got.isEmpty then found.words.take ((s.gget Reg.IMG_LEN).toNat / 4)
  else s.ldr.got.reverse

/-- The image that verification finds; of a staged image, the parts for its channel (R487, R494). -/
def State.imageFound (s : State) (found : ImageObs) : ImageView :=
  let stg := s.gfld Reg.IMG_STAT Fld.IMG_STAT_STGCH
  imageView (bytesOf (s.imageWords found))
    (if h : s.imgState = 1 ∧ stg < 12 then some ⟨stg, h.2⟩ else none) found

/-- What a slot holds, as the loader finds it in verification. -/
def State.slotView (s : State) (k : Fin 2) (found : ImageView) : ImageView :=
  match s.store.slots[k].image with
  | some v => { v with err := found.err }
  | none => found

/-- IMG_KEY shows the fuses. -/
def State.showKeys (s : State) : State :=
  let m := fun p : FuseSlot → Bool => (List.finRange 4).foldl (fun n k => if p s.store.fuses[k] then n + 2 ^ k.val else n) 0
  (s.gset Reg.IMG_KEY Fld.IMG_KEY_PROG (m fun f => f.hash.isSome)).gset Reg.IMG_KEY Fld.IMG_KEY_REVOKED (m fun f => f.revoked)

/-- IMG_STAT shows which slots are committed. -/
def State.showSlots (s : State) : State :=
  let b := fun k : Fin 2 => if s.store.flashOk && s.store.slots[k].commit then 1 else 0
  (s.gset Reg.IMG_STAT Fld.IMG_STAT_SLOTA (b 0)).gset Reg.IMG_STAT Fld.IMG_STAT_SLOTB (b 1)

/-- The target slot of an update (R499). -/
def State.updTarget (s : State) : Fin 2 :=
  match s.bootOrder with
  | [] => 0
  | k :: _ => k + 1

/-! ## The state of the loader (R507) -/

def State.setImgState (s : State) (n : Nat) (busy : Bool) : State :=
  (s.gset Reg.IMG_STAT Fld.IMG_STAT_STATE n).gset Reg.IMG_STAT Fld.IMG_STAT_BUSY (if busy then 1 else 0)

/-- An operation ends, with its result in ERR. -/
def State.imgDone (s : State) (n err : Nat) : State :=
  let s := (s.setImgState n false).gset Reg.IMG_STAT Fld.IMG_STAT_ERR err
  { s with ldr := { s.ldr with op := 0, dma := false, got := [], retries := 0 } }

/-- An operation ends without success: nothing stays staged (R494, R497, R506, R538). -/
def State.imgFails (s : State) (err : Nat) : State :=
  let op := s.ldr.op
  let s := (s.imgDone 0 err).gset Reg.IMG_STAT Fld.IMG_STAT_STGOK 0
  { s with ldr := { s.ldr with staged := none } }.record 0x15 0xF 9 2 (recData [(0, 1, op), (1, 1, err)])

/-! ## Running an image (R490, R491, R493) -/

/-- The words of the stored safety set take their registers (R361, R363); a set that differs is not confirmed until its
check value is found equal. A CHMASK that is no longer 0x000 stops the connection (R358). -/
def State.putSafetySet (s : State) (ws : List Word) : State :=
  let old := s.safetySet
  let mask := s.blackMask
  let s := (s.gput Reg.SAF_CONNID (ws.getD 0 0)).gput Reg.SAF_BC_CFG (ws.getD 1 0)
  let s := (List.finRange 12).foldl (fun s ch => s.onChan ch fun c =>
    (c.put Reg.SAF_CH_CFG (ws.getD (2 + 2 * ch.val) 0)).put Reg.SAF_K_CFG (ws.getD (3 + 2 * ch.val) 0)) s
  if s.safetySet = old then s else (s.setConf 0).chmaskChanged mask

/-- The parameter store is read: its active bank, and the safety set with its confirmation record (R363, R501). -/
def State.readStore (s : State) : State :=
  let a := s.store.par[0]
  let b := s.store.par[1]
  let ok := s.store.parOk
  let valid := ok && (a.commit || b.commit)
  let bank := if b.commit && (!a.commit || a.gen < b.gen) then 1 else 0
  let s := s.gset Reg.PAR_STAT Fld.PAR_STAT_PRESENT (if ok then 1 else 0)
  let s := (s.gset Reg.PAR_STAT Fld.PAR_STAT_VALID (if valid then 1 else 0)).gset Reg.PAR_STAT Fld.PAR_STAT_BANK
    (if valid then bank else 0)
  let s := { s.gset Reg.SAF_STAT Fld.SAF_STAT_CHKV 0 with saf := { s.saf with chkDue := true } }
  match s.parActive.bind fun p => p.safety with
  | some (ws, v) => { s.putSafetySet ws with store := { s.store with confirm := some v } }
  | none => { s with store := { s.store with confirm := none } }

/-- A channel's section is committed, or the channel has none. -/
def State.takeSection (s : State) (v : ImageView) (ch : ChId) : State :=
  match v.sections.find? fun x => x.1 == ch with
  | some x => s.commitSection ch x.2 false
  | none => (s.gput (Reg.IMG_SECT ch) 0).onChan ch fun c => { c with img := none }

/-- The global section sets a register: the reference's frequency, the capture allotments, the size of the event store
(R298, R398, R432). -/
def State.imageSetsG (s : State) (off : Nat) (v : Word) : State :=
  if off = Reg.REF_CFG || (Reg.GCAP_ALLOC 0 ≤ off && off ≤ Reg.GCAP_ALLOC 11 && off % 4 == 0) then s.gput off v
  else if off = Reg.REC_PCFG then s.setStoreSize v
  else s

/-- A verified image runs: `slot` 2 for a host load. IMAGE_OK sets, every section is committed, the store is read, and
every channel with a section starts. -/
def State.applyImage (s : State) (v : ImageView) (slot gen : Nat) : State :=
  let pair : Nat := if v.pair then 1 else 0
  let s := (List.finRange 12).foldl (fun s ch => s.takeSection v ch) s
  let s := ((s.gset Reg.GSTAT Fld.GSTAT_IMAGE_OK 1).gset Reg.GSTAT Fld.GSTAT_PAIR pair).gset Reg.PAIR_STAT
    Fld.PAIR_STAT_PAIR pair
  let s := (s.gput Reg.IMG_RUN (BitVec.ofNat 32 gen)).gput Reg.IMG_BUILD_LO (v.build.setWidth 32)
  let s := (s.gput Reg.IMG_BUILD_HI (v.build.extractLsb' 32 32)).gset Reg.IMG_KEY Fld.IMG_KEY_USED v.keySlot.toNat
  let s := (s.gset Reg.IMG_STAT Fld.IMG_STAT_RUNSLOT (slot % 2)).gset Reg.IMG_STAT Fld.IMG_STAT_FROMHOST
    (if slot = 2 then 1 else 0)
  let s := { s.imgDone 0 0 with ldr := { (s.imgDone 0 0).ldr with image := some v, boot := [], booting := true } }
  let s := s.record 0x15 0xF 2 0 (recData [(0, 1, slot), (4, 4, gen), (8, 8, v.build.toNat)])
  let s := v.gregs.foldl (fun s r => s.imageSetsG r.1.toNat r.2) s
  let s := if v.pair then s.setLink 1 0 0 else s.setLink 0 0 0
  let s := s.readStore
  ((List.finRange 12).foldl (fun s ch => if (s.committed ch).isSome then s.restoreAndLock ch .fromOff else s) s).bootSettled

/-! ## Commands (R493, R494, R499, R506) -/

/-- LOAD_FULL may be accepted (R493). -/
def State.loadAllowed (s : State) : Bool :=
  !s.gbit Reg.GSTAT Fld.GSTAT_IMAGE_OK ||
    (List.finRange 12).all fun ch => (s.chan ch).mode = 0 && !(s.isPair && s.holds ch)

/-- Whether an operation has a place in the present state (log 16). -/
def State.imgReady (s : State) (op : Nat) : Bool :=
  if op = 5 then s.imgState = 6
  else s.imgState = 0 || (s.imgState = 2 && op ≤ 2)

/-- The RCAUSE with which a write of IMG_CTL is rejected, the lowest that applies, or 0 (R506). -/
def State.imgCause (s : State) (v : Word) : Nat :=
  let op := getField v Fld.IMG_CTL_OP
  let dma := getField v Fld.IMG_CTL_DMA = 1
  if op = 0 || op = 6 then 0
  else if !s.imgReady op then 1
  else if 3 ≤ op && op ≤ 5 && getField v Fld.IMG_CTL_KEY != 0x494D then 2
  else if op = 3 && !s.loadAllowed then 3
  else if 7 ≤ op || (op ≤ 2 && 12 ≤ getField v Fld.IMG_CTL_CH) || ((op = 1 || op = 3 || op = 4) && dma && !s.pcie) then 4
  else if (op = 2 || op = 4 || op = 5) && !s.store.flashOk then 5
  else if op = 2 && !(s.store.slots[Fin.ofNat 2 (getField v Fld.IMG_CTL_SLOT)]).commit then 5
  else 0

/-- The pads return to HIZ under the global inhibit at the acceptance of a full load (R493); a lock under way ends. -/
def State.padsBack (s : State) : State :=
  let s := ((s.gset Reg.GSTAT Fld.GSTAT_IMAGE_OK 0).gset Reg.GSTAT Fld.GSTAT_PADS_RELEASED 0).gset Reg.KNL_STAT
    Fld.KNL_STAT_PADREL 0
  let s := { s.setGinh 1 with ldr := { s.ldr with booting := false } }
  (List.finRange 12).foldl (fun s ch =>
    (s.onChan ch fun c => { c with pll := { c.pll with phase := .idle } }).contactors ch) s

/-- An update opens: the target's record sector is erased (R499). -/
def State.openUpdate (s : State) : State :=
  let t := s.updTarget
  let s := { s with ldr := { s.ldr with slot := t }, store := { s.store with
    slots := s.store.slots.set t s.store.slots[t].erased } }
  s.showSlots.setImgState 5 true

/-- ABORT: staging, a full load, or an update before its commit (R506). -/
def State.imgAbort (s : State) : State :=
  let st := s.imgState
  if st = 2 || (s.ldr.op != 0 && (st = 1 || st = 4 || st = 5 || st = 6 || st = 7)) then
    (if st = 2 then { s with ldr := { s.ldr with op := 1 } } else s).imgFails 8
  else s

/-- A write of IMG_CTL: its RCAUSE, or what it does. -/
def State.writeImgCtl (s : State) (v : Word) : Nat ⊕ State :=
  let op := getField v Fld.IMG_CTL_OP
  let cause := s.imgCause v
  if cause != 0 then .inl cause
  else if op = 0 then .inr s
  else if op = 6 then .inr s.imgAbort
  else
    let s := { s with ldr := { s.ldr with op := op, dma := getField v Fld.IMG_CTL_DMA = 1, retries := 0 } }
    if op = 5 then .inr (s.setImgState 7 true)
    else
      let s := { s with ldr := { s.ldr with got := [], staged := none } }
      let s := s.gset Reg.IMG_STAT Fld.IMG_STAT_STGOK 0
      if op = 1 || op = 2 then
        let s := (s.gset Reg.IMG_STAT Fld.IMG_STAT_STGCH (getField v Fld.IMG_CTL_CH)).setImgState 1 true
        .inr { s with ldr := { s.ldr with slot := Fin.ofNat 2 (getField v Fld.IMG_CTL_SLOT) } }
      else if op = 3 then .inr (s.padsBack.setImgState 4 true)
      else .inr s.openUpdate

/-- IMG_DATA takes the next word of a delivery, up to IMG_LEN bytes (R492). -/
def State.writeImgData (s : State) (v : Word) : Nat ⊕ State :=
  let st := s.imgState
  let takes := s.ldr.op != 0 && s.ldr.op != 2 && !s.ldr.dma && (st = 1 || st = 4 || st = 6)
  if takes && 4 * s.ldr.got.length < (s.gget Reg.IMG_LEN).toNat then
    .inr { s with ldr := { s.ldr with got := v :: s.ldr.got } }
  else .inl 4

/-- IMG_LEN, IMG_SRC and the fuse hash (R506, R508, R510). -/
def State.writeImgPlain (s : State) (off : Nat) (v : Word) : Nat ⊕ State :=
  if off = Reg.IMG_LEN && (0x400000 < v.toNat || v.toNat % 4 != 0) then .inl 4
  else if off = Reg.IMG_SRC_LO && v.toNat % 64 != 0 then .inl 4
  else .inr (s.plainWriteG off v)

/-! ## Fuses (R488, R510) -/

/-- Whether another programmed slot stays unrevoked. -/
def State.otherKey (s : State) (k : Fin 4) : Bool :=
  (List.finRange 4).any fun j => j != k && s.store.fuses[j].hash.isSome && !s.store.fuses[j].revoked

/-- A write of IMG_FUSE (R488, R506; log 16). -/
def State.writeImgFuse (s : State) (v : Word) : Nat ⊕ State :=
  let k : Fin 4 := Fin.ofNat 4 (getField v Fld.IMG_FUSE_SLOT)
  let prog := v.getLsbD 2
  let rev := v.getLsbD 3
  if !prog && !rev then .inr s
  else if s.ldr.fuse.isSome then .inl 1
  else if getField v Fld.IMG_FUSE_KEY != 0x4655 then .inl 2
  else if (prog && rev) || (prog && s.store.fuses[k].hash.isSome) ||
      (rev && (!s.store.fuses[k].hash.isSome || !s.otherKey k)) then .inl 6
  else .inr ({ s with ldr := { s.ldr with fuse := some (k, rev) } }.gset Reg.IMG_KEY Fld.IMG_KEY_FBUSY 1)

/-- The hash staged in IMG_FHASH0 to 7. -/
def State.stagedHash (s : State) : BitVec 256 :=
  (List.range 8).foldl (fun h k => h ||| ((s.gget (Reg.IMG_FHASH k)).setWidth 256 <<< (32 * k))) 0

/-- FUSE_OP_DONE (R488). -/
def execFuseOpDone (s : State) : Result :=
  match s.ldr.fuse with
  | none => .next s
  | some (k, rev) =>
    let f := s.store.fuses[k]
    let f := if rev then { f with revoked := true } else { f with hash := some s.stagedHash }
    let s := { s with store := { s.store with fuses := s.store.fuses.set k f }, ldr := { s.ldr with fuse := none } }
    let s := s.showKeys.gset Reg.IMG_KEY Fld.IMG_KEY_FBUSY 0
    .next (s.record 0x15 0xF 3 1 (recData [(0, 1, k.val), (1, 1, if rev then 2 else 1)]))

/-! ## Verification (R487, R490, R493, R494, R499) -/

/-- Whether the data of the operation have all arrived: words through IMG_DATA up to IMG_LEN, or DMA or flash (R492). -/
def State.delivered (s : State) : Bool :=
  s.ldr.dma || s.ldr.op = 2 || 4 * s.ldr.got.length = (s.gget Reg.IMG_LEN).toNat

/-- The boot has verified its slot: it runs, or the next slot is tried (R490). -/
def State.bootVerified (s : State) (k : Fin 2) (rest : List (Fin 2)) (found : ImageView) : State :=
  let v := s.slotView k found
  let err := s.verifyErr v
  if err = 0 then s.applyImage v k.val s.store.slots[k].gen
  else
    let s := (s.countG Reg.IMG_CNT false true).record 0x15 0xF 1 2 (recData [(0, 1, k.val), (1, 1, err)])
    let s := { s with ldr := { s.ldr with boot := rest } }
    if rest.isEmpty then s.imgDone 0 err else s.gset Reg.IMG_STAT Fld.IMG_STAT_ERR err

/-- A staged section has been verified (R494). -/
def State.stageVerified (s : State) (found : ImageView) : State :=
  let v := if s.ldr.op = 2 then s.slotView s.ldr.slot found else found
  let err := s.verifyErr v
  let ch := s.gfld Reg.IMG_STAT Fld.IMG_STAT_STGCH
  if err != 0 then s.imgFails err
  else if !s.gbit Reg.GSTAT Fld.GSTAT_IMAGE_OK || (match s.ldr.image with
    | some r => r.gdigest != v.gdigest
    | none => true) then s.imgFails 6
  else match v.sections.find? fun x => x.1.val == ch with
    | none => s.imgFails 7
    | some x =>
      let s := (s.imgDone 2 0).gset Reg.IMG_STAT Fld.IMG_STAT_STGOK 1
      { s with ldr := { s.ldr with staged := some x } }

/-- IMAGE_VERIFY_DONE: the verification that runs ends (R487). -/
def execImageVerifyDone (found : ImageObs) (s : State) : Result :=
  let img := s.imageFound found
  let st := s.imgState
  let err := s.verifyErr img
  if st = 4 then
    match s.ldr.boot with
    | k :: rest => .next (s.bootVerified k rest img)
    | [] =>
      if !s.delivered then .next s
      else .next (if err = 0 then s.applyImage img 2 0 else s.imgFails err)
  else if st = 1 && s.delivered then .next (s.stageVerified img)
  else if st = 7 then
    let t := s.ldr.slot
    .next (if err = 0 then
      { s.setImgState 8 true with store := { s.store with
        slots := s.store.slots.set t { s.store.slots[t] with image := some img } } }
    else s.imgFails err)
  else .next s

/-- The slot is committed (R499). -/
def State.commitSlot (s : State) : State :=
  let t := s.ldr.slot
  let s := { s with store := s.stampSlot true }
  ((s.showSlots.imgDone 0 0).record 0x15 0xF 4 0 (recData [(0, 1, t.val), (4, 4, s.store.slots[t].gen)])).irq 7

/-- The image's sectors are erased too, and the data may come (R499). -/
def State.updErased (s : State) : State :=
  let t := s.ldr.slot
  { s.setImgState 6 true with store := { s.store with slots := s.store.slots.set t { s.store.slots[t] with image := none } } }

/-- FLASH_OP_DONE: an erase, program or readback ends; a failure is retried up to three times (R499). -/
def execFlashOpDone (ok : Bool) (s : State) : Result :=
  let st := s.imgState
  if !(5 ≤ st && st ≤ 8) then .next s
  else if ok then
    let s := { s with ldr := { s.ldr with retries := 0 } }
    .next (if st = 5 then s.updErased else if st = 8 then s.commitSlot else s)
  else if s.ldr.retries < 3 then .next { s with ldr := { s.ldr with retries := s.ldr.retries + 1 } }
  else .next (s.imgFails 9)

/-! ## REPAIR (R496, R497) -/

/-- The channel starts from a section after a REPAIR load, without a relock (R496, R503). -/
def State.repairStart (s : State) (ch : ChId) (err : Nat) : State :=
  match s.committed ch with
  | some g => (((s.restoreChan ch g).repairEnds ch err).startChan ch g true 13)
  | none => (s.repairEnds ch err).enterMode ch 1 13

/-- The RCAUSE of R281 for the present lock point, with a section's defaults and the record's values in place. -/
def State.repairLockCause (s : State) (ch : ChId) (g : Section) : Nat :=
  let c := (s.restoreChan ch g).chan ch
  let f := c.fLock
  c.freqCause f.1 f.2

/-- REPAIR_LOAD_END (R496, R497). -/
def execRepairLoadEnd (ch : ChId) (res : LoadObs) (s : State) : Result :=
  match s.ldr.staged with
  | some (n, g) =>
    if n = ch && (s.chan ch).mode = 11 && s.imgState = 3 then
      .next (if res != .ok then s.repairStart ch 3
        else if s.repairLockCause ch g != 0 then s.repairStart ch 10
        else (s.commitSection ch g true).repairStart ch 0)
    else .next s
  | none => .next s

end Sys2Proof.Machine
end

