-- ==== Sys2Proof/Machine/Startup.lean ====
section
/-! DEFINITION. Machine/Startup.lean: the release of the device and its boot (18_startup_reset_power.md R516, R519, R520), host
resets and the link of the host port (R458, R459), per-channel resets (R521, R522), and the straps and banks (R542, R544). -/

namespace Sys2Proof.Machine

/-! ## Release and boot -/

/-- The boot begins: the loader has the committed slots to try, or rests (R490). -/
def State.boot (s : State) : State :=
  let l := s.bootOrder
  let s := { s.showKeys.showSlots with ldr := { s.ldr with boot := l } }
  if l.isEmpty then s else s.setImgState 4 true

/-- RESET_RELEASE: the rest of the device leaves reset, once every bank has a class; at a power-on the straps are sampled, at
a kennel reset they are kept (R385, R516, R519, R544). -/
def execResetRelease (hostMode prio : Bool) (s : State) : Result :=
  let out := s.gbit Reg.KNL_STAT Fld.KNL_STAT_SUPPLY && s.gfld Reg.KNL_STAT Fld.KNL_STAT_SUPV != 0xF
  if !s.knl.powered || s.knl.boot || s.pins.testReset || out || !s.pins.classed then .next s
  else
    let s := { s with knl := { s.knl with up := true, boot := true } }
    let s := if s.pins.straps then
        (({ s with pins := { s.pins with straps := false } }).gset Reg.HOST_STAT Fld.HOST_STAT_MODE
          (if hostMode then 1 else 0)).gset Reg.PAIR_STAT Fld.PAIR_STAT_PRIO (if prio then 1 else 0)
      else s
    .next ((s.gset Reg.KNL_STAT Fld.KNL_STAT_SUPV 0xF).gset Reg.GSTAT Fld.GSTAT_SVE_RUN 1).boot

/-! ## The host port's link and resets (R458, R459, R520) -/

/-- D3HOT_TRANSITION. -/
def execD3hotTransition (enter : Bool) (s : State) : Result :=
  if s.pcie then .next (s.gset Reg.HOST_STAT Fld.HOST_STAT_D3 (if enter then 1 else 0)) else .next s

/-- PCIE_LINK_TRAINING_END: speed 1 to 3 and width 1 or 2 (R482). -/
def execPcieLinkTrainingEnd (gen width : BitVec 2) (s : State) : Result :=
  if s.pcie && gen != 0 && width != 0 && width != 3 then
    .next (((s.gset Reg.HOST_STAT Fld.HOST_STAT_LINKUP 1).gset Reg.HOST_STAT Fld.HOST_STAT_GEN gen.toNat).gset Reg.HOST_STAT
      Fld.HOST_STAT_WIDTH width.toNat)
  else .next s

/-- The PCI Express link is down (R482). -/
def State.pcieDown (s : State) : State :=
  ((s.gset Reg.HOST_STAT Fld.HOST_STAT_LINKUP 0).gset Reg.HOST_STAT Fld.HOST_STAT_GEN 0).gset Reg.HOST_STAT
    Fld.HOST_STAT_WIDTH 0

/-- What a host reset does to the capture DMA: what waits is dropped, and a running copy ends with LERR 3. -/
def State.dmaReset (s : State) : State := ({ s with dma := { s.dma with queue := [] } }.dmaEnd .abort).dmaShow

/-- What a host reset does to the loader: an operation ends with ERR 8, but not a REPAIR load nor the boot; the staged
section is discarded. A commit that runs may have reached its slot (R500). -/
def State.loaderReset (s : State) : State :=
  let st := s.imgState
  if st = 2 then { (s.setImgState 0 false).gset Reg.IMG_STAT Fld.IMG_STAT_STGOK 0 with ldr := { s.ldr with staged := none } }
  else if st = 3 || s.ldr.op = 0 then s
  else if st = 8 then
    let op := s.ldr.op
    let s := { s with free := s.free + 1 }
    let s := if Config.freeBool (s.free - 1) then s.commitSlot else s
    { s with ldr := { s.ldr with op := op } }.imgFails 8
  else s.imgFails 8

/-- The host column of R520: contexts, latches, INT_STAT and INT_MASK, the open group, the DMA and the loader. -/
def State.hostReset (s : State) : State :=
  let s := (s.dmaReset.loaderReset).discardGroup
  { (s.gput Reg.INT_STAT 0).gput Reg.INT_MASK 0x00FFFFFF with host := { HostPort.reset with msgs := s.host.msgs } }

/-- A host reset over PCI Express, after which the function is in D0. -/
def State.pcieReset (s : State) : State := s.hostReset.gset Reg.HOST_STAT Fld.HOST_STAT_D3 0

/-- HOST_RESET (R459). -/
def execHostReset (kind : HostResetKind) (s : State) : Result :=
  if !s.pcie then .next s
  else .next (match kind with
    | .flr => s.pcieReset
    | .perst | .hotReset | .linkDown => s.pcieReset.pcieDown)

/-- HOST_PLL_LOSS: the global domain switches to the bypass clock, a record is written, and in PCI Express mode the link
goes down, which is a host reset (R295, R459). -/
def execHostPllLoss (s : State) : Result :=
  let s := (s.gset Reg.GSTAT Fld.GSTAT_HOST_PLL_LOCK 0).record 0x08 0xF 5 2 0
  .next (if s.pcie then s.pcieReset.pcieDown else s)

/-! ## Per-channel reset (R521, R522) -/

/-- Whether the reset of a channel is accepted: the key and the mode; not while it is a member of a committed group. -/
def State.resetAccepted (s : State) (ch : ChId) (v : Word) : Bool :=
  let m := (s.chan ch).mode
  getField v Fld.CHRST_KEY = 0x4352 && (m = 0 || m = 1 || m = 9 || m = 11) && !s.grp.waiting.getLsbD ch.val

/-- Whether a per-channel reset leaves a register as it stands (R520): the trips, the safety causes and the safety view; of
the capture sets what the hardware shows. -/
def keptByReset (off : Nat) : Bool :=
  off == Reg.PWM_TRIP || off == Reg.CH_SAFE_LIVE || off == Reg.CH_SAFE_LATCH || 0x3000 ≤ off ||
    (0x2C00 ≤ off && off < 0x3000 && (match findRow chanRows off with
      | some r => r.rw == 0
      | none => false))

/-- The channel as its reset leaves it before the section and the record restore it: in OFF's clock state, with the
per-channel inhibit held (R520, R522). -/
def Chan.resetBase (c : Chan) : Chan :=
  { Chan.reset with
    regs := c.regs.filter fun p => keptByReset p.1
    pwm := { Pwm.reset with held := c.pwm.held, seqOn := c.pwm.seqOn, judges := c.pwm.judges, window := c.pwm.window,
                            unreleased := c.pwm.unreleased }
    pair := c.pair, saf := c.saf, cap := c.cap, img := c.img, banks := c.banks,
    pll := { Pll.reset with phase := .search, start := .reset } }

/-- An accepted per-channel reset. A REPAIR load of the channel ends with ERR 8 (R497). -/
def State.resetChan (s : State) (ch : ChId) : State :=
  let s := if (s.chan ch).mode = 11 then s.repairEnds ch 8 else s
  let s := ((List.finRange 16).foldl (fun s i => s.dropFade ch i) s).groupDiscard ch
  let s := (s.clearFault ch).onChan ch Chan.resetBase
  ((s.chinhFollow ch).contactors ch).restoreAndLock ch .reset

/-- A rejected bit: REJ with RCAUSE 3 and the channel's record; the violation is the write's (R522). -/
def State.rejectReset (s : State) (ch : ChId) (v : Word) (k : Ctx) : State :=
  let s := s.onChan ch fun c =>
    (c.setFld Reg.CH_MODE_STAT Fld.CH_MODE_STAT_REJ 1).setFld Reg.CH_MODE_STAT Fld.CH_MODE_STAT_RCAUSE 3
  s.rejectRecord 0x01 ch.val Reg.CHRST v k.val 3

/-- A write of CHRST: each bit on its own; true: a bit was rejected. -/
def State.writeChrst (s : State) (k : Ctx) (v : Word) : State × Bool :=
  (List.finRange 12).foldl (fun r ch =>
    if !v.getLsbD ch.val then r
    else if s.resetAccepted ch v then (r.1.resetChan ch, r.2)
    else (r.1.rejectReset ch v k, true)) (s, false)

/-! ## Straps and banks (R542, R544) -/

/-- TEST_RESET: with TEST_EN high, the device holds itself in reset and releases no pad. -/
def execTestReset (level : Bool) (s : State) : Result :=
  let s := { s with pins := { s.pins with testReset := level } }
  if !level then .next s
  else
    let n := s.clearDevice (s.gfld Reg.KNL_STAT Fld.KNL_STAT_LRST)
    .next { n with pins := s.pins }

/-- VOLTAGE_CLASS_LATCH: a bank without a class takes one when it has been above 1.5 V for 1 ms; below 1.0 V it loses its
class, which is a supply give-up of a running device, by the VDD_IO bit (R383, R544). -/
def execVoltageClassLatch (bank : Fin 15) (milliVolt : Nat) (s : State) : Result :=
  let cls := s.pins.classes[bank]
  let new := if milliVolt < 1000 then none else if cls.isSome || milliVolt ≤ 1500 then cls else some (decide (2500 < milliVolt))
  let t := { s with pins := { s.pins with classes := s.pins.classes.set bank new } }
  .next (if cls.isSome && new.isNone then
    t.supplyGiveUp (BitVec.ofNat 4 (s.gfld Reg.KNL_STAT Fld.KNL_STAT_SUPV) &&& 0xD) else t)

end Sys2Proof.Machine
end

