-- ==== Sys2Proof/Machine/Host.lean ====
section
/-! DEFINITION. Machine/Host.lean: the host port (16_host_interface.md R457 to R484): the address map, what a read returns
(R10, R15, R294, R529), what a write does and how a block answers it (R294, R559), staging (R471, R472), violations in the
order of R479, and the quad-SPI frame (R467, R468). -/

namespace Sys2Proof.Machine

/-! ## The address map (R461, R462, R526) -/

/-- What lies at a BAR0 address: nothing, a context register, an offset of the channel set, or a global offset. -/
inductive Place where
  | reserved
  | ctx (off : Nat)
  | chan (off : Nat)
  | glob (off : Nat)
  deriving DecidableEq, Repr

/-- The layout of R461 and R462. -/
def placeOf (a : Nat) : Place :=
  if a < 0x8000 then .glob a
  else if a < 0x10000 then .reserved
  else if a < 0x20000 then
    let o := (a - 0x10000) % 0x4000
    if o < 0x10 then .ctx o else .chan o
  else if a < 0x40000 then .glob ((a - 0x20000) % 0x8000)
  else .reserved

/-- The context of an access (R461). The reserved range belongs to none: which context it is recorded against is open. -/
def State.ctxOf (s : State) (a : Nat) : Ctx :=
  if a < 0x8000 then 0
  else if a < 0x10000 || 0x40000 ≤ a then Fin.ofNat 4 (Config.freeNat s.free)
  else if a < 0x20000 then Fin.ofNat 4 ((a - 0x10000) / 0x4000)
  else Fin.ofNat 4 ((a - 0x20000) / 0x8000)

/-- The channel that a context selects (R463). -/
def State.selected (s : State) (k : Ctx) : Option ChId :=
  let n := getField s.host.ctxs[k].chsel Fld.CTX_CHSEL_CH
  if h : n < 12 then some ⟨n, h⟩ else none

/-- The MSI-X table and PBA (R458). -/
def isMsix (off : Nat) : Bool := 0x800 ≤ off && off ≤ 0xA07

/-- A capture slot beyond the image's set count (R526). -/
def State.capAbsent (s : State) (k : Ctx) (off : Nat) : Bool :=
  0x2C00 ≤ off && off < 0x3000 && match s.selected k with
    | some ch => match (s.chan ch).img with
      | some g => decide (g.capBase.length ≤ (off - 0x2C00) / 0x100)
      | none => false
    | none => false

/-- Whether something lies at a place: no reserved range or offset, no absent slot (R479 cause 2, R526). -/
def State.present (s : State) (k : Ctx) : Place → Bool
  | .reserved => false
  | .ctx _ => true
  | .chan off => (findRow chanRows off).isSome && !s.capAbsent k off
  | .glob off => if isMsix off then s.pcie else (findRow globalRows off).isSome

/-! ## What a channel register reads (R10, R55, R134, R219) -/

/-- The coefficient that ENG_CADR addresses. -/
def Chan.cadrCoef (c : Chan) : Coef := (c.engine c.cadr.eng).getCoef c.cadr.idx.toNat

/-- An offset in the input slots, with its input and the offset in the slot. -/
def sdiSlot (off : Nat) : Option (InId × Nat) :=
  if 0x400 ≤ off && off < 0x800 then some (Fin.ofNat 16 ((off - 0x400) / 0x40), (off - 0x400) % 0x40) else none

/-- The ports of R294: ENG_CDAT, ENG_DDAT and FIR_CDAT. -/
def isPort (off : Nat) : Bool :=
  off = Reg.ENG_CDAT || off = Reg.ENG_DDAT || match sdiSlot off with
    | some (_, r) => r = 0x14
    | none => false

/-- A register's value as its bits read, without the side effects of the ports: WO bits read 0. Before any image,
ENG_CINFO and PWM_STAT.PADS read their reset values (R9, R527). -/
def State.chanValue (s : State) (k : Ctx) (ch : ChId) (off : Nat) : Word :=
  let c := s.chan ch
  let w := match findRow chanRows off with
    | some r => c.peek off &&& ~~~bitsOf r.wo
    | none => 0
  if off = Reg.CH_TICK_CNT_LO then BitVec.ofNat 32 c.tick
  else if off = Reg.CH_TICK_CNT_HI then BitVec.ofNat 32 (c.tick / 2 ^ 32)
  else if off = Reg.PWM_STAT then
    if c.img.isNone && !s.gbit Reg.GSTAT Fld.GSTAT_PADS_RELEASED then w else setField w Fld.PWM_STAT_PADS (s.padsShown ch)
  else if off = Reg.ENG_ECC then c.me.ce ++ c.fe.ce
  else if off = Reg.ENG_CDAT then c.cadrCoef.mant
  else if off = Reg.ENG_CINFO then
    if c.img.isNone then 0 else setField (setField (setField 0 Fld.ENG_CINFO_SHIFT_RD c.cadrCoef.shift.toNat) Fld.ENG_CINFO_SAT c.cadrCoef.sat.toNat)
      Fld.ENG_CINFO_OWNER c.cadrCoef.owner.toNat
  else if off = Reg.PACK_STAT then setField w Fld.PACK_STAT_LOCAL (if c.packLocal then 1 else 0)
  else if off = Reg.PACK_PEER0 then c.pack.peerCopy[k].1
  else if off = Reg.PACK_PEER1 then c.pack.peerCopy[k].2
  else match sdiSlot off with
    | some (i, 0x14) => (c.firTap i).coef
    | some (i, 0x10) => setField w Fld.FIR_CADR_SHIFT_RD (c.firTap i).shift.toNat
    | _ => w

/-- The channel's clock is off or lost: the answers of R294 apply. -/
def Chan.clockLost (c : Chan) : Bool :=
  c.mode = 0 || (c.bit Reg.PLL_STAT Fld.PLL_STAT_BYPASS && c.pll.phase = .idle)

/-! ## What a global register reads -/

/-- Low and high word of a number. -/
def wordPair (off lo n : Nat) : Word := BitVec.ofNat 32 (if off = lo then n else n / 2 ^ 32)

/-- A global register's value for a context, WO bits as 0 (R10, R38, R389, R411, R417, R426, R428, R474). -/
def State.globalValue (s : State) (k : Ctx) (off : Nat) : Word :=
  if 0x1000 ≤ off && off < 0x2000 then s.kennelRead (.host k) off
  else if Reg.GCAP_WIN 0 ≤ off then s.capWindow ((off - Reg.GCAP_WIN 0) / 4)
  else if off = Reg.REC_SEQ_LO || off = Reg.REC_SEQ_HI then wordPair off Reg.REC_SEQ_LO s.rcd.seq
  else if off = Reg.REC_OLD_LO || off = Reg.REC_OLD_HI then wordPair off Reg.REC_OLD_LO s.rcd.old
  else if off = Reg.REC_PSEQ_LO || off = Reg.REC_PSEQ_HI then wordPair off Reg.REC_PSEQ_LO s.store.pseq
  else if off = Reg.CAL_TIME_LO || off = Reg.CAL_TIME_HI then wordPair off Reg.CAL_TIME_LO s.calNow
  else if Reg.REC_RWIN 0 ≤ off && off ≤ Reg.REC_RWIN 15 then s.rwin ((off - Reg.REC_RWIN 0) / 4)
  else if off = Reg.GCAP_DMA_SEL then s.dma.staged[k].sel
  else if off = Reg.GCAP_DMA_ADDR_LO then s.dma.staged[k].lo
  else if off = Reg.GCAP_DMA_ADDR_HI then s.dma.staged[k].hi
  else
    let w := match findRow globalRows off with
      | some r => s.gget off &&& ~~~bitsOf r.wo
      | none => 0
    if off = Reg.GRP_STAT then setField w Fld.GRP_STAT_MEMBERS s.grpMembers else w

/-- A word of the MSI-X table, or of the PBA. -/
def State.msixValue (s : State) (off : Nat) : Word :=
  if off < 0xA00 then sget msixDefault s.host.msix (off - 0x800)
  else if off = 0xA00 then s.host.pba.setWidth 32
  else 0

/-! ## Latched pairs (R15, R529) -/

/-- The low words of the latched pairs; each high word follows at once. -/
def pairLow (chan : Bool) (off : Nat) : Bool :=
  if chan then off = Reg.CH_TICK_CNT_LO || (List.range 4).any fun j => off == Reg.CAP_RSEQ_LO j
  else [Reg.KNL_LWSEQ_LO, Reg.KNL_TIME_LO, Reg.REC_SEQ_LO, Reg.REC_OLD_LO, Reg.REC_PSEQ_LO, Reg.CAL_TIME_LO,
    Reg.IMG_BUILD_LO].contains off

/-- A read of a register under the latch of a context: `tag` is the channel, or 16 for a global register; `value` gives the
live words. -/
def State.latchedRead (s : State) (k : Ctx) (tag off : Nat) (value : Nat → Word) : State × Word :=
  if pairLow (tag != 16) off then
    (s.onCtx k fun p => { p with latch := some (off + 4, tag, value (off + 4)) }, value off)
  else if pairLow (tag != 16) (off - 4) then
    match s.host.ctxs[k].latch with
    | some (o, t, w) => (s, if o = off && t = tag then w else value off)
    | none => (s, value off)
  else (s, value off)

/-- The level of HOST_INT_N over quad-SPI: low while a source is set and not masked (R470); HIZ until the host-port PLL
locks, and over PCI Express (R457, R517). -/
def State.hostIntN (s : State) : Option Bool :=
  if s.pcie || !s.gbit Reg.GSTAT Fld.GSTAT_HOST_PLL_LOCK then none
  else some ((s.gget Reg.INT_STAT &&& ~~~s.gget Reg.INT_MASK &&& 0xFFFFFF) == 0)

/-! ## Answers -/

/-- How the port answers an access: the state, the cause of a violation or 0, the channel whose clock-lost status is given,
and the data of a read. -/
structure Answer where
  state : State
  cause : Nat
  cla : Option ChId
  data : List Word
  deriving DecidableEq, Repr

/-- An access without violation. -/
def Answer.plain (s : State) (data : List Word) : Answer := ⟨s, 0, none, data⟩

/-- An access that a violation answers: a read returns 0. -/
def Answer.violates (s : State) (cause : Nat) (wr : Bool) : Answer := ⟨s, cause, none, if wr then [] else [0]⟩

/-! ## Reads -/

/-- A read of ENG_DDAT (R138): the word as of the engine's last TEND, or the read waits for it. ADDR steps. -/
def State.readDdat (s : State) (k : Ctx) (ch : ChId) : Answer :=
  let c := s.chan ch
  let r : DdatRead := ⟨k, ch, c.dadr.1, c.dadr.2⟩
  let t := s.onChan ch Chan.dadrStep
  match s.ddatValue r with
  | some w => .plain t [w]
  | none => .plain { t with host := { t.host with waiting := t.host.waiting ++ [r] } } []

/-- A read of the channel set (R294, R463, R479). -/
def State.readChan (s : State) (k : Ctx) (off : Nat) : Answer :=
  match s.selected k with
  | none => .violates s 4 false
  | some ch =>
    let c := s.chan ch
    let t := if off = Reg.ENG_DDAT then s.onChan ch Chan.dadrStep else s
    if isPort off && c.mode = 11 then .plain t [0]
    else if isPort off && c.clockLost then ⟨t, 0, some ch, [0]⟩
    else if off = Reg.ENG_DDAT then s.readDdat k ch
    else
      let r := s.latchedRead k ch.val off (s.chanValue k ch)
      .plain r.1 [r.2]

/-- A read of a global register; SAF_TXF0 latches the device frame for the context (R359). -/
def State.readGlobal (s : State) (k : Ctx) (off : Nat) : Answer :=
  if isMsix off then .plain s [s.msixValue off]
  else if off = Reg.SAF_TXF 0 then
    .plain (s.onCtx k fun p => { p with txf := (List.range 8).map fun i => s.gget (Reg.SAF_TXF i) }) [s.gget off]
  else if Reg.SAF_TXF 1 ≤ off && off ≤ Reg.SAF_TXF 7 then
    .plain s [s.host.ctxs[k].txf.getD ((off - Reg.SAF_TXF 0) / 4) (s.gget off)]
  else
    let r := s.latchedRead k 16 off (s.globalValue k)
    .plain r.1 [r.2]

/-- A context's own registers. -/
def CtxPort.read (p : CtxPort) (off : Nat) : Word :=
  if off = Reg.CTX_CHSEL then p.chsel
  else if off = Reg.CTX_STAT then p.stat
  else if off = Reg.CTX_VADDR then p.vaddr
  else p.cnt

/-- Before IMAGE_OK first sets after a reset, reads over PCI Express return reset values (R516; log 19). -/
def State.readsBlank (s : State) : Bool := s.pcie && s.ldr.image.isNone && !s.gbit Reg.GSTAT Fld.GSTAT_IMAGE_OK

/-- A read of a place that is present. -/
def State.readPlace (s : State) (k : Ctx) : Place → Answer
  | .reserved => .violates s 2 false
  | .ctx off => .plain s [if s.readsBlank then 0 else s.host.ctxs[k].read off]
  | .chan off =>
    if s.readsBlank && (s.selected k).isSome then .plain s [chanReset off] else s.readChan k off
  | .glob off => if s.readsBlank && !isMsix off then .plain s [globalReset off] else s.readGlobal k off

/-! ## Writes of channel registers -/

/-- How a block takes a write: it has its effect, it is rejected (R479 causes 5 to 9), or it is dropped with the
channel-clock-lost status (R294). -/
inductive Verdict where
  | ok
  | bad
  | lost
  deriving DecidableEq, Repr

/-- Put a write in the queue for the next boundary (R32); where no tick runs and no lock is under way, it lands at once
(R48, R180; log 22). -/
def State.enqueueWrite (s : State) (ch : ChId) (w : ChanWrite) : State :=
  let s := s.onChan ch fun c => { c with writes := c.writes ++ [w] }
  let c := s.chan ch
  if c.mode != 0 && c.pll.phase = .idle && !c.ticking then s.landAll ch else s

/-- The RCAUSE of a HALT request in OFF, or 0: no image (3), no section (2), a lock that R281 refuses (3). -/
def State.startCause (s : State) (ch : ChId) : Nat :=
  let c := s.chan ch
  if !s.gbit Reg.GSTAT Fld.GSTAT_IMAGE_OK then 3
  else if c.img.isNone then 2
  else if c.lockCause s.fnom != 0 then 3
  else 0

/-- A HALT request in OFF (R175, R281): the channel clock starts, or the request is rejected; settings that R281 refuses
also set PLL_STAT.REJ and RCAUSE. -/
def State.haltFromOff (s : State) (ch : ChId) (v : Word) (src : WriteSrc) : State × Verdict :=
  let n := s.startCause ch
  let c := s.chan ch
  if n = 0 then
    (s.beginLock ch .fromOff, .ok)
  else
    let lock := c.lockCause s.fnom
    let s := if n = 3 && s.gbit Reg.GSTAT Fld.GSTAT_IMAGE_OK && lock != 0 then
        s.onChan ch fun c => (c.setFld Reg.PLL_STAT Fld.PLL_STAT_REJ 1).setFld Reg.PLL_STAT Fld.PLL_STAT_RCAUSE lock
      else s
    (s.rejectChan ch Reg.CH_MODE_REQ v src n, .bad)

/-- A write of CH_MODE_REQ (R175, R177, R180): it reads the last value written (R198); in OFF and on a faulted channel the
request is judged on arrival, else at its boundary. -/
def State.modeWrite (s : State) (ch : ChId) (v : Word) (src : WriteSrc) : State × Verdict :=
  let c := s.chan ch
  let m := getField v Fld.CH_MODE_REQ_MODE
  let kept := s.onChan ch fun c => c.put Reg.CH_MODE_REQ (c.plainWord Reg.CH_MODE_REQ v)
  let reject := fun n => (kept.rejectChan ch Reg.CH_MODE_REQ v src n, Verdict.bad)
  if c.mode = 0 then
    if m = 0 || (m = 1 && c.pll.phase != .idle) then (kept, .ok)
    else if m = 1 then kept.haltFromOff ch v src
    else reject (if 12 ≤ m then 1 else if c.faulted then 4 else 1)
  else if c.faulted then
    if m = c.mode then (kept, .ok)
    else
      let n := s.requestCause ch m
      if n = 0 then (kept.transition ch m 1, .ok) else reject n
  else (s.enqueueWrite ch ⟨Reg.CH_MODE_REQ, v, src, none, []⟩, .ok)

/-- A write of PWM_TRIP (R256, R268): the bits that may clear, clear; PROT is no longer live once all are clear. -/
def State.tripWrite (s : State) (ch : ChId) (v : Word) (src : WriteSrc) : State × Verdict :=
  let c := s.chan ch
  let t := s.putChan ch (c.clearTrips (c.tripClearable v))
  let t := if (t.chan ch).get Reg.PWM_TRIP &&& 0xF = 0 then t.setLive ch 6 false else t
  if (c.tripStuck v).isEmpty then (t, .ok) else (t.rejectChan ch Reg.PWM_TRIP v src 0, .bad)

/-- A write of ENG_CDAT (R131, R294): the coefficient that ENG_CADR, or a mirror packet, names. -/
def State.coefWrite (s : State) (ch : ChId) (k : CoefRef) (v : Word) (src : WriteSrc) : State × Verdict :=
  let c := s.chan ch
  let n := c.coefCause k.eng k.idx.toNat
  if n != 0 then (s.rejectCoef ch k.eng k.idx.toNat n v, .bad)
  else if c.clockLost then (s, .lost)
  else
    let s := s.onChan ch fun c => c.stageCoef k.eng (c.coefArrives k v src)
    let c := s.chan ch
    (if c.pll.phase = .idle && !c.ticking then s.landAll ch else s, .ok)

/-- A write of ENG_DDAT (R138): accepted in HALT only. ADDR steps after every access. -/
def State.dataWrite (s : State) (ch : ChId) (v : Word) (src : WriteSrc) : State × Verdict :=
  let c := s.chan ch
  let a := c.dadr
  let s := s.onChan ch Chan.dadrStep
  if c.mode != 1 then (s.rejectCoef ch a.1 a.2.toNat 5 v, .bad)
  else if c.clockLost then (s, .lost)
  else
    let k : CoefRef := ⟨a.1, a.2.setWidth 10, BitVec.ofNat 6 (a.2.toNat / 1024)⟩
    (s.enqueueWrite ch ⟨Reg.ENG_DDAT, v, src, some k, []⟩, .ok)

/-- A write of the safety view (R341, R360, R366). -/
def State.safetyWrite (s : State) (ch : ChId) (off : Nat) (v : Word) (src : WriteSrc) : State × Verdict :=
  let verdict := fun r : State × Bool => (r.1, if r.2 then Verdict.bad else Verdict.ok)
  if off = Reg.SAF_CH_CFG || off = Reg.SAF_K_CFG then verdict (s.writeSafChan ch off v (s.srcNum src))
  else if off = Reg.SAF_ACK then verdict (s.writeSafAck ch v (s.srcNum src))
  else if off = Reg.SAF_CH_CNT then (s.onChan ch fun c => c.put off (clearHalves (c.get off) v), .ok)
  else (s, .ok)

/-- A write of CH_SAFE_LATCH clears a bit only while its cause is not live (R191). -/
def Chan.clearLatch (c : Chan) (v : Word) : Chan :=
  c.put Reg.CH_SAFE_LATCH (c.get Reg.CH_SAFE_LATCH &&& ~~~(v &&& 0xFFF &&& ~~~c.get Reg.CH_SAFE_LIVE))

/-- The clear actions of a counter register (R14, R528, R534). -/
def Chan.clearCounts (c : Chan) (off : Nat) (v : Word) : Chan :=
  if off = Reg.ENG_ECC then
    let w := clearHalves (c.me.ce ++ c.fe.ce) v
    { c with fe := { c.fe with ce := w.extractLsb' 0 16 }, me := { c.me with ce := w.extractLsb' 16 16 } }
  else c.put off (if off = Reg.CH_FAB_OVWR then (if v.msb then 0 else c.get off) else clearHalves (c.get off) v)

/-- The W1C and RWS bits of a register act at once (R10, R11, R294); MEAS follows LAW_STAT.MEAS_LOST (R189). -/
def State.stickyWrite (s : State) (ch : ChId) (r : RegRow) (off : Nat) (v : Word) : State :=
  let s := if r.w1c = 0 && r.rws = 0 then s else s.onChan ch fun c => c.put off (r.sticky (c.get off) v)
  if off = Reg.LAW_STAT then s.setLive ch 9 ((s.chan ch).bit Reg.LAW_STAT Fld.LAW_STAT_MEAS_LOST) else s

/-- The registers of R559 that OFF accepts, beside CH_MODE_REQ and the safety view. -/
def writableInOff (off : Nat) : Bool :=
  off = Reg.CH_TICK_DIV || off = Reg.CH_OUTER_DIV || off = Reg.PLL_CFG || off = Reg.PLL_FRAC ||
    match sdiSlot off with
    | some (_, r) => r = 0x08 || r = 0x18 || r = 0x28
    | none => false

/-- The registers that a write changes on arrival (R76, R101, R134, R138, R219, R281, R288). -/
def plainAtOnce (off : Nat) : Bool :=
  off = Reg.ENG_CADR || off = Reg.ENG_DADR || off = Reg.PLL_CFG || off = Reg.PLL_FRAC || off = Reg.PACK_PSEL ||
    (Reg.PLL_SEG_TGT 0 ≤ off && off ≤ Reg.PLL_SEG_SLP 15) || match sdiSlot off with
    | some (_, r) => r = 0x08 || r = 0x10
    | none => false

/-- A capture set whose CAP_CTL this is. -/
def capCtlOf (off : Nat) : Option SetId :=
  if 0x2C00 ≤ off && off < 0x3000 && (off - 0x2C00) % 0x100 = 0 then some (Fin.ofNat 4 ((off - 0x2C00) / 0x100)) else none

/-- Commands among the channel registers that act on arrival, without fields that land: PLL_CTL and CAP_CTL. -/
def commandReg (off : Nat) : Bool := off = Reg.PLL_CTL || (capCtlOf off).isSome

/-- A context copies a peer entry (R219). -/
def State.selectPeer (s : State) (ch : ChId) : WriteSrc → State
  | .host k => s.onChan ch fun c => c.packSelect k
  | .group _ | .mirror _ => s

/-- What an accepted write that waits for its boundary does on arrival: SKARM arms (R96). -/
def State.arrivalEffect (s : State) (ch : ChId) (off : Nat) (v : Word) : State :=
  if off = Reg.SDI_CHCTL && getField v Fld.SDI_CHCTL_SKARM = 1 then s.onChan ch Chan.skewArm
  else s

/-- A write as it arrives, to wait for its boundary or in a group: a GO takes its copy of the profile, PLL_LEVEL its own
(R288). -/
def Chan.arriving (c : Chan) (off : Nat) (v : Word) (src : WriteSrc) (coef : Option CoefRef) : ChanWrite :=
  ⟨off, v, src, coef,
    if off = Reg.PLL_RAMP && getField v Fld.PLL_RAMP_GO = 1 then c.copyProfile (getField v Fld.PLL_RAMP_NSEG)
    else if off = Reg.PLL_LEVEL then levelProfile v else []⟩

/-- An accepted write of a register with fields or commands takes its course. -/
def State.takeWrite (s : State) (ch : ChId) (off : Nat) (v : Word) (src : WriteSrc) : State :=
  if plainAtOnce off then
    let s := s.onChan ch fun c => c.put off (c.plainWord off v)
    if off = Reg.PACK_PSEL then (s.selectPeer ch src).mirrorLanded ch off v else s
  else if off = Reg.PLL_CTL then (if v.getLsbD 0 then s.beginLock ch .relock else s)
  else match capCtlOf off, sdiSlot off with
    | some k, _ => s.capCtl ch k v
    | none, some (i, 0x14) => s.onChan ch fun c => c.firCdat i v
    | _, _ => (s.arrivalEffect ch off v).enqueueWrite ch ((s.chan ch).arriving off v src none)

/-- A write of a register that its block judges by its fields (R10, R294, R559). -/
def State.fieldWrite (s : State) (ch : ChId) (r : RegRow) (off : Nat) (v : Word) (src : WriteSrc) : State × Verdict :=
  match s.arrivalCause ch off v with
  | some n => (s.rejectChan ch off v src n, .bad)
  | none =>
    let s := s.stickyWrite ch r off v
    let c := s.chan ch
    if r.rw = 0 && r.rwl = 0 && r.wo = 0 then (s, .ok)
    else if c.clockLost then
      if c.mode = 0 && writableInOff off then (s.onChan ch fun c => c.put off (c.plainWord off v), .ok) else (s, .lost)
    else (s.takeWrite ch off v src, .ok)

/-- A write of a channel register, by whoever it is. -/
def State.chanWrite (s : State) (ch : ChId) (off : Nat) (v : Word) (src : WriteSrc) : State × Verdict :=
  if off = Reg.CH_MODE_REQ then s.modeWrite ch v src
  else if 0x3000 ≤ off then s.safetyWrite ch off v src
  else if (s.chan ch).blockShut off then (s.rejectChan ch off v src 0, .bad)
  else if off = Reg.PWM_TRIP then s.tripWrite ch v src
  else if off = Reg.CH_SAFE_LATCH then (s.onChan ch fun c => c.clearLatch v, .ok)
  else if off = Reg.ENG_CDAT then
    let r := s.coefWrite ch (s.chan ch).cadr v src
    (if r.2 = .ok then r.1.onChan ch Chan.cadrStep else r.1, r.2)
  else if off = Reg.ENG_DDAT then s.dataWrite ch v src
  else match findRow chanRows off with
    | none => (s, .ok)
    | some r => if r.counter then (s.onChan ch fun c => c.clearCounts off v, .ok) else s.fieldWrite ch r off v src

/-! ## Staging (R471, R472) -/

/-- Only writes that land at a boundary and ENG_CDAT can be staged: no port, no sticky bits, no command that acts on
arrival. A sticky field counts as written where the value would change it. -/
def Chan.stageable (c : Chan) (off : Nat) (v : Word) : Bool :=
  if off = Reg.ENG_CDAT then true
  else if isPort off || plainAtOnce off || commandReg off || 0x3000 ≤ off then false
  else if off = Reg.SDI_CHCTL && getField v Fld.SDI_CHCTL_SKARM = 1 then false
  else match findRow chanRows off with
    | none => false
    | some r => !r.counter && (r.rw != 0 || r.rwl != 0 || off = Reg.PLL_LEVEL) && r.w1c = 0 &&
        (c.get off ^^^ v) &&& bitsOf r.rws = 0

/-- Whether a write passes the checks of its arrival, the writes already staged counting as landed. -/
def State.stagePasses (s : State) (ch : ChId) (off : Nat) (v : Word) (mine : List ChanWrite) : Bool :=
  let t := s.onChan ch fun c => { c with writes := c.writes ++ mine }
  (s.chan ch).stageable off v && mine.length < 32 &&
    if off = Reg.ENG_CDAT then (s.chan ch).coefCause (s.chan ch).cadr.eng (s.chan ch).cadr.idx.toNat = 0
    else (t.arrivalCause ch off v).isNone

/-- A write with STAGE = 1: stored in the group, dropped with the clock-lost status, or a staging error. -/
def State.stageWrite (s : State) (k : Ctx) (ch : ChId) (off : Nat) (v : Word) : State × Verdict :=
  let mine := s.grp.staged.filterMap fun w => if w.1 = ch then some w.2 else none
  if !s.grpOwner k then (s, .bad)
  else if !s.stagePasses ch off v mine then (s.gset Reg.GRP_STAT Fld.GRP_STAT_SREJ 1, .bad)
  else if (s.chan ch).clockLost then (s, .lost)
  else
    let coef := if off = Reg.ENG_CDAT then some (s.chan ch).cadr else none
    let s := if off = Reg.ENG_CDAT then s.onChan ch Chan.cadrStep else s
    let w := (s.chan ch).arriving off v (.group k) coef
    ({ s with grp := { s.grp with staged := s.grp.staged ++ [(ch, w)] } }, .ok)

/-! ## Writes of global registers -/

/-- A global block's own rejection: its REJ bit and the write-rejected record (R537). -/
def State.rejectGlobal (s : State) (k : Ctx) (off : Nat) (v : Word) : State :=
  if off < 0x0200 then
    (s.gset Reg.THM_STAT Fld.THM_STAT_REJ 1).rejectRecord 0x0A 0xF off v k.val 0
  else if off < 0x1000 then s.rejectRecord 0x14 0xF off v k.val 0
  else if off < 0x2000 then s.knlReject off v k.val
  else if off < 0x3000 then s.recReject off v k.val
  else if off < 0x5000 then s.pairReject off v k.val
  else (s.gset Reg.GCAP_GSTAT Fld.GCAP_GSTAT_REJ 1).rejectRecord 0x09 0xF off v k.val 0

/-- The image chapter's rejection (R506). -/
def State.rejectImage (s : State) (k : Ctx) (off : Nat) (v : Word) (n : Nat) : State :=
  let s := if off < 0x5100 then s.gset Reg.IMG_STAT Fld.IMG_STAT_REJ 1 else s.gset Reg.PAR_STAT Fld.PAR_STAT_REJ 1
  (s.gset Reg.IMG_STAT Fld.IMG_STAT_RCAUSE n).rejectRecord 0x15 0xF off v k.val n

/-- The messages that an INT_MASK write releases (R470). -/
def State.unmasked (s : State) (old : Word) : State :=
  (List.range 24).foldl (fun s v =>
    if old.getLsbD v && !(s.gget Reg.INT_MASK).getLsbD v && (s.gget Reg.INT_STAT).getLsbD v then s.message v else s) s

/-- A write of the MSI-X table: a vector that it unmasks sends its pending message. The PBA is read only. -/
def State.msixWrite (s : State) (off : Nat) (v : Word) : State :=
  if 0xA00 ≤ off then s
  else
    let s := { s with host := { s.host with msix := sset msixDefault s.host.msix (off - 0x800) v } }
    let n := (off - 0x800) / 16
    if n < 24 && s.host.pba.getLsbD n && !s.msixMasked n then
      { s with host := { s.host with pba := s.host.pba &&& ~~~(1#24 <<< n) } }.message n
    else s

/-- A descriptor register of the capture DMA, staged for the context (R411, R413). -/
def State.stageDma (s : State) (k : Ctx) (f : DmaDesc → DmaDesc) : State :=
  { s with dma := { s.dma with staged := s.dma.staged.set k { f s.dma.staged[k] with ctx := k } } }

/-- The writes of the capture block's global registers; `none`: rejected (R413, R417). -/
def State.writeGcap (s : State) (k : Ctx) (off : Nat) (v : Word) : Option State :=
  if off = Reg.GCAP_FORCE then some (s.capGlobalForce v)
  else if off = Reg.GCAP_DMA_SEL then
    if 11 < getField v Fld.GCAP_DMA_SEL_CH || getField v Fld.GCAP_DMA_SEL_KIND = 3 then none
    else some (s.stageDma k fun d => { d with sel := v &&& 0x00FF3FFF })
  else if off = Reg.GCAP_DMA_ADDR_LO then
    if v.toNat % 64 != 0 then none else some (s.stageDma k fun d => { d with lo := v })
  else if off = Reg.GCAP_DMA_ADDR_HI then some (s.stageDma k fun d => { d with hi := v })
  else if off = Reg.GCAP_DMA_GO then
    let r := s.dmaGo k v
    if r.2 then none else some r.1
  else some (s.plainWriteG off v)

/-- The writes of the safety functions' global registers; their rejections record themselves. -/
def State.writeSafBlock (s : State) (k : Ctx) (off : Nat) (v : Word) : State × Bool :=
  if off = Reg.SAF_CTL then s.writeSafCtl v k.val
  else if off = Reg.SAF_CONNID || off = Reg.SAF_BC_CFG then s.writeSafGlobal off v k.val
  else if Reg.SAF_RXF 0 ≤ off && off ≤ Reg.SAF_RXF 7 then
    let i : Fin 8 := Fin.ofNat 8 ((off - Reg.SAF_RXF 0) / 4)
    let s := { s with saf := { s.saf with rxf := s.saf.rxf.set i v } }
    (if off = Reg.SAF_RXF 7 then s.submitFrame else s, false)
  else (s.plainWriteG off v, false)

/-- The writes of the image loader and parameter store: the RCAUSE of a rejection, or the state. -/
def State.writeImgBlock (s : State) (off : Nat) (v : Word) : Nat ⊕ State :=
  if off = Reg.IMG_CTL then s.writeImgCtl v
  else if off = Reg.IMG_DATA then s.writeImgData v
  else if off = Reg.IMG_FUSE then s.writeImgFuse v
  else if off = Reg.PAR_CTL then s.writeParCtl v
  else s.writeImgPlain off v

/-- A write of the recorder and calendar; true: rejected. -/
def State.writeRecBlock (s : State) (off : Nat) (v : Word) : State × Bool :=
  if off = Reg.REC_CTL then s.writeRecCtl v
  else if off = Reg.REC_RPTR then s.writeRptr v
  else if off = Reg.CAL_CTL then s.writeCalCtl v
  else if recRangeOk off v then (s.plainWriteG off v, false)
  else (s, true)

/-- A write of the host interface's own registers; true: rejected. -/
def State.writeHostBlock (s : State) (k : Ctx) (off : Nat) (v : Word) : State × Bool :=
  if off = Reg.INT_MASK then ((s.plainWriteG off v).unmasked (s.gget Reg.INT_MASK), false)
  else if off = Reg.GRP_CTL then s.writeGrpCtl k v
  else if off = Reg.GRP_GO then s.writeGrpGo k v
  else if off = Reg.MIR_CTL then (s.writeMirCtl v, false)
  else (s.plainWriteG off v, false)

/-- A write of a global register by its block; true: rejected, and the block has recorded it. -/
def State.globalWrite (s : State) (k : Ctx) (off : Nat) (v : Word) : State × Bool :=
  let own := fun r : State × Bool => if r.2 then (r.1.rejectGlobal k off v, true) else r
  if off = Reg.CHRST then s.writeChrst k v
  else if off < 0x0100 then (s.plainWriteG off v, false)
  else if off < 0x0200 then own (if off != Reg.THM_CFG || thmCfgOk v then (s.plainWriteG off v, false) else (s, true))
  else if off < 0x0800 then own (s.writeHostBlock k off v)
  else if off < 0x1000 then (s.msixWrite off v, false)
  else if off < 0x2000 then match s.kennelWrite (.host k) off v with
    | some t => (t, false)
    | none => own (s, true)
  else if off < 0x3000 then own (s.writeRecBlock off v)
  else if off < 0x4000 then s.writeSafBlock k off v
  else if off < 0x5000 then
    own (if off = Reg.PAIR_CTL then s.writePairCtl v
      else if s.isPair && pairRangeOk off v then (s.plainWriteG off v, false) else (s, true))
  else if off < 0x6000 then match s.writeImgBlock off v with
    | .inl n => (s.rejectImage k off v n, true)
    | .inr t => (t, false)
  else match s.writeGcap k off v with
    | some t => (t, false)
    | none => own (s, true)

/-! ## Writes of a place -/

/-- RO bits written with another value than they hold (R10): reserved bits are in no code, counter registers are exempt. -/
def roBroken (r : Option RegRow) (now v : Word) : Bool :=
  match r with
  | some r => !r.counter && (now ^^^ v) &&& bitsOf r.ro != 0
  | none => false

/-- The cause with which a write is answered: an RO field first, then the block's own rejection (R479). -/
def writeCause (ro : Bool) (n : Nat) : Nat := if ro then 3 else n

/-- A write to a channel in REPAIR is dropped; a block whose chapter rejects it there says so as ever (R131, R138, R177, R231,
R268, R291). CH_MODE_REQ keeps the value (R198). -/
def State.repairWrite (s : State) (ch : ChId) (off : Nat) (v : Word) (src : WriteSrc) : State :=
  if off = Reg.CH_MODE_REQ then
    (s.onChan ch fun c => c.put off (c.plainWord off v)).rejectChan ch off v src
      (if 12 ≤ getField v Fld.CH_MODE_REQ_MODE then 1 else 9)
  else if off = Reg.ENG_CDAT then (s.coefWrite ch (s.chan ch).cadr v src).1
  else if off = Reg.ENG_DDAT then (s.dataWrite ch v src).1
  else match s.arrivalCause ch off v with
    | some n => s.rejectChan ch off v src n
    | none => s

/-- A write of the channel set (R463, R479). -/
def State.writeChan (s : State) (k : Ctx) (off : Nat) (v : Word) : Answer :=
  match s.selected k with
  | none => .violates s 4 true
  | some ch =>
    let ro := roBroken (findRow chanRows off) (s.chanValue k ch off) v
    let done := fun (r : State × Verdict) (n : Nat) => match r.2 with
      | .ok => (⟨r.1, writeCause ro 0, none, []⟩ : Answer)
      | .bad => ⟨r.1, n, none, []⟩
      | .lost => ⟨r.1, writeCause ro 0, some ch, []⟩
    if (s.chan ch).mode = 11 then
      ⟨s.repairWrite ch off v (.host k), 7, none, []⟩
    else if getField s.host.ctxs[k].chsel Fld.CTX_CHSEL_STAGE = 1 then done (s.stageWrite k ch off v) 8
    else done (s.chanWrite ch off v (.host k)) (writeCause ro 5)

/-- A write of a context's own registers (R463, R481, R484). -/
def State.writeCtx (s : State) (k : Ctx) (off : Nat) (v : Word) : Answer :=
  let p := s.host.ctxs[k]
  if off = Reg.CTX_CHSEL then
    let t := s.onCtx k fun p => { p with chsel := v &&& 0x1F }
    ⟨t, if 12 ≤ getField v Fld.CTX_CHSEL_CH then 4 else 0, none, []⟩
  else if off = Reg.CTX_STAT then .plain (s.onCtx k fun p => { p with stat := v &&& 0x3F }) []
  else if off = Reg.CTX_VADDR then ⟨s, if (p.vaddr ^^^ v) &&& 0x7FFFF = 0 then 0 else 3, none, []⟩
  else .plain (s.onCtx k fun p => { p with cnt := clearHalves p.cnt v }) []

/-- A write of a global place. -/
def State.writeGlob (s : State) (k : Ctx) (off : Nat) (v : Word) : Answer :=
  let ro := roBroken (findRow globalRows off) (s.globalValue k off) v
  let r := s.globalWrite k off v
  ⟨r.1, writeCause (ro && !isMsix off) (if r.2 then 5 else 0), none, []⟩

/-- A write of a place that is present. -/
def State.writePlace (s : State) (k : Ctx) (v : Word) : Place → Answer
  | .reserved => .violates s 2 true
  | .ctx off => s.writeCtx k off v
  | .chan off => s.writeChan k off v
  | .glob off => s.writeGlob k off v

/-! ## An access (R478, R479, R480) -/

/-- Execute one aligned access of one word; `crcBad`: a quad-SPI frame whose command byte or CRC is wrong. -/
def State.access (s : State) (k : Ctx) (a : Nat) (crcBad : Bool) (w : Option Word) : Answer :=
  let p := placeOf a
  if !s.present k p then .violates s 2 w.isSome
  else if crcBad then .violates s 9 w.isSome
  else match w with
    | none => s.readPlace k p
    | some v => s.writePlace k v p

/-- Record what an answer reports against the context (R478, R480). -/
def Answer.report (r : Answer) (k : Ctx) (a : Nat) (wr : Bool) : State :=
  let s := if r.cause = 0 then r.state else r.state.violation k r.cause a wr
  match r.cla with
  | some ch => s.clockLostStatus k ch
  | none => s

/-- The answer to an access, with what it records. `fits`: one aligned 32-bit word (R479 cause 1); `len`: the words that a
read requests. -/
def State.answer (s : State) (a : Nat) (fits crcBad : Bool) (len : Nat) (w : Option Word) : Answer :=
  let k := s.ctxOf a
  let r : Answer := if fits then s.access k a crcBad w
    else ⟨s, 1, none, if w.isSome then [] else List.replicate len 0⟩
  let s := r.report k a w.isSome
  { r with state := if placeOf a = .reserved then { s with free := s.free + 1 } else s }

/-- Flow control holds a read back: the 64 non-posted requests that the device takes at once all wait (R465). -/
def State.readHeld (s : State) (w : Option Word) : Bool := w.isNone && s.pcie && decide (64 ≤ s.host.waiting.length)

/-- A memory request (R459, R460, R479): nothing answers while the device is held in reset; in D3hot it is an Unsupported
Request; a read that flow control holds back has not reached the device (log 37). -/
def State.request (s : State) (acc : HostAccess) (w : Option Word) : State :=
  if !s.knl.up || s.readHeld w then s
  else if s.pcie && s.gbit Reg.HOST_STAT Fld.HOST_STAT_D3 then
    { s with host := { s.host with unsupported := true, rdata := [] } }
  else
    let fits := acc.len = 1 && acc.be = 0xF && acc.addr.toNat % 4 = 0
    let r := s.answer acc.addr.toNat fits false acc.len.toNat w
    { r.state with host := { r.state.host with
      unsupported := false, rdata := if w.isSome then r.state.host.rdata else r.data } }

/-- A read of one word. -/
def State.readAt (s : State) (a : Nat) : State := s.request ⟨BitVec.ofNat 18 a, 1, 0xF⟩ none

/-- A write of one word. -/
def State.writeAt (s : State) (a : Nat) (v : Word) : State := s.request ⟨BitVec.ofNat 18 a, 1, 0xF⟩ (some v)

/-- A context's write of a register of its window (R461). -/
def State.writeWindow (s : State) (k : Ctx) (off : Nat) (v : Word) : State := s.writeAt (windowAddr k off) v

/-- The BAR0 address of a global register through the alias of a context (R461). -/
def aliasAddr (k : Ctx) (off : Nat) : Nat := 0x20000 + 0x8000 * k.val + off

/-- A context's write of a global register, through its alias. -/
def State.writeAlias (s : State) (k : Ctx) (off : Nat) (v : Word) : State := s.writeAt (aliasAddr k off) v

/-! ## Quad-SPI (R467, R468) -/

/-- The target's bytes after 0xA5: data of a read, status, CRC-8. -/
def qspiAnswer (data : List Word) (status : Byte) : List Byte :=
  let bs := bytesOf data ++ [status]
  bs ++ [crc8 0x07 0x00 bs]

/-- The status byte (R468). -/
def qspiStatus (r : Answer) (crcBad : Bool) : Byte :=
  BitVec.ofNat 8 ((if crcBad then 0 else 1) + (if r.cause = 0 then 0 else 2) + (if r.cla.isSome then 4 else 0) +
    (if crcBad then 8 else 0) + 16 * r.cause)

/-- QSPI_FRAME: one register access by a frame, or an abandoned one (R467, R468). -/
def execQspiFrame (f : QspiFrame) (s : State) : Result :=
  let cmd := f.bytes.getD 0 0
  let wr := cmd == 0xA2
  let n := if wr then 9 else 5
  if s.pcie || !s.knl.up then .next s
  else if f.bytes.length < n then .next (s.gset Reg.HOST_STAT Fld.HOST_STAT_QABORT 1)
  else
    let a := bytesNat [f.bytes.getD 3 0, f.bytes.getD 2 0, f.bytes.getD 1 0]
    let crcBad := (cmd != 0xA2 && cmd != 0xA3) || crc8 0x07 0x00 (f.bytes.take (n - 1)) != f.bytes.getD (n - 1) 0
    let w := if wr then some (byteWord ((f.bytes.drop 4).take 4)) else none
    let r := s.answer a (a % 4 = 0) crcBad 1 w
    let out := if r.data.isEmpty && !wr then [] else qspiAnswer r.data (qspiStatus r crcBad)
    .next { r.state with host := { r.state.host with
      rdata := if wr then r.state.host.rdata else r.data, qspi := if f.answerLost then [] else out } }

/-- ENG_DDAT_READ_SERVE: the context's oldest waiting read is answered, over quad-SPI with its status byte (R138). -/
def execEngDdatReadServe (k : Ctx) (s : State) : Result :=
  match s.host.waiting.find? fun r => r.ctx == k with
  | none => .next s
  | some r =>
    match s.ddatValue r with
    | none => .next s
    | some w => .next { s with host := { s.host with rdata := [w], waiting := s.host.waiting.erase r,
                                                     qspi := if s.pcie then s.host.qspi else qspiAnswer [w] 1 } }

end Sys2Proof.Machine
end

