-- ==== Sys2Proof/Machine/HostCmds.lean ====
section
/-! DEFINITION. Machine/HostCmds.lean: the commands that a host issues by one access of a register (16_host_interface.md R10,
R461, R479), each with the field that names it forced; the kennel port's writes of the same registers (R390); and the
partner's mirrored writes (R475, R476). -/

namespace Sys2Proof.Machine

/-! ## Accesses by address -/

/-- REGISTER_WRITE: a write request at any BAR0 address (R10, R479). -/
def execRegisterWrite (acc : HostAccess) (v : Word) (s : State) : Result := .next (s.request acc (some v))

/-- HOST_READ: a read request at any BAR0 address (R479). -/
def execHostRead (acc : HostAccess) (s : State) : Result := .next (s.request acc none)

/-- COUNTER_LOW_READ: a read of the low word of a 64-bit pair, which latches the high word (R529). -/
def execCounterLowRead (_ : Ctx) (addr : BitVec 18) (s : State) : Result := .next (s.readAt addr.toNat)

/-! ## Sample chain, engines and law -/

/-- SKARM: SDI_CHCTL.SKARM = 1 (R96). -/
def execSkarm (k : Ctx) (v : Word) (s : State) : Result :=
  .next (s.writeWindow k Reg.SDI_CHCTL (setField v Fld.SDI_CHCTL_SKARM 1))

/-- FIR_CDAT_WRITE: the next tap of a bank (R76). -/
def execFirCdatWrite (k : Ctx) (i : InId) (v : Word) (s : State) : Result :=
  .next (s.writeWindow k (Reg.FIR_CDAT i) v)

/-- FIR_XF_GO: FIR_XF.GO = 1 (R77). -/
def execFirXfGo (k : Ctx) (i : InId) (v : Word) (s : State) : Result :=
  .next (s.writeWindow k (Reg.FIR_XF i) (setField v Fld.FIR_XF_GO 1))

/-- FIR_BANK_WRITE: FIR_CFG.BANK (R101). -/
def execFirBankWrite (k : Ctx) (i : InId) (v : Word) (s : State) : Result :=
  .next (s.writeWindow k (Reg.FIR_CFG i) v)

/-- DCB_EST_WRITE: the DC blocker's estimate (R80). -/
def execDcbEstWrite (k : Ctx) (i : InId) (v : Word) (s : State) : Result :=
  .next (s.writeWindow k (Reg.DCB_EST i) v)

/-- SDI_TRIM_WRITE: the trim (R97). -/
def execSdiTrimWrite (k : Ctx) (i : InId) (v : Word) (s : State) : Result :=
  .next (s.writeWindow k (Reg.SDI_TRIM i) v)

/-- SDI_SRC_WRITE: SDI_CFG.SRC (R99). -/
def execSdiSrcWrite (k : Ctx) (i : InId) (v : Word) (s : State) : Result :=
  .next (s.writeWindow k (Reg.SDI_CFG i) v)

/-- ENG_CDAT_WRITE: a coefficient write (R131). -/
def execEngCdatWrite (k : Ctx) (v : Word) (s : State) : Result :=
  .next (s.writeWindow k Reg.ENG_CDAT v)

/-- ENG_DDAT_WRITE: a data memory write (R138). -/
def execEngDdatWrite (k : Ctx) (v : Word) (s : State) : Result :=
  .next (s.writeWindow k Reg.ENG_DDAT v)

/-- ENG_DDAT_READ: a data memory read (R138). -/
def execEngDdatRead (k : Ctx) (s : State) : Result := .next (s.readAt (windowAddr k Reg.ENG_DDAT))

/-- LAW_PARAM_WRITE: a law parameter (R167). -/
def execLawParamWrite (k : Ctx) (off : BitVec 14) (v : Word) (s : State) : Result :=
  .next (s.writeWindow k off.toNat v)

/-! ## Modes, PACK, PWM, clocks -/

/-- MODE_REQUEST: a mode request (R175). -/
def execModeRequest (k : Ctx) (v : Word) (s : State) : Result :=
  .next (s.writeWindow k Reg.CH_MODE_REQ v)

/-- SAFE_LATCH_CLEAR: clear latched SAFE causes (R191). -/
def execSafeLatchClear (k : Ctx) (v : Word) (s : State) : Result :=
  .next (s.writeWindow k Reg.CH_SAFE_LATCH v)

/-- PACK_ENABLE: PACK_CFG.EN = 1 (R225). -/
def execPackEnable (k : Ctx) (v : Word) (s : State) : Result :=
  .next (s.writeWindow k Reg.PACK_CFG (setField v Fld.PACK_CFG_EN 1))

/-- PACK_DISABLE: PACK_CFG.EN = 0 (R225). -/
def execPackDisable (k : Ctx) (v : Word) (s : State) : Result :=
  .next (s.writeWindow k Reg.PACK_CFG (setField v Fld.PACK_CFG_EN 0))

/-- PACK_PSEL_WRITE: select and copy a peer (R219). -/
def execPackPselWrite (k : Ctx) (v : Word) (s : State) : Result :=
  .next (s.writeWindow k Reg.PACK_PSEL v)

/-- TRIP_CLEAR: clear latched trips (R256). -/
def execTripClear (k : Ctx) (v : Word) (s : State) : Result :=
  .next (s.writeWindow k Reg.PWM_TRIP v)

/-- PLL_RELOCK: PLL_CTL.RELOCK = 1 (R283). -/
def execPllRelock (k : Ctx) (v : Word) (s : State) : Result :=
  .next (s.writeWindow k Reg.PLL_CTL (setField v Fld.PLL_CTL_RELOCK 1))

/-- PLL_RAMP_GO: PLL_RAMP.GO = 1 (R288). -/
def execPllRampGo (k : Ctx) (v : Word) (s : State) : Result :=
  .next (s.writeWindow k Reg.PLL_RAMP (setField v Fld.PLL_RAMP_GO 1))

/-- PLL_RAMP_HOLD: PLL_RAMP.HOLD set or cleared (R288). -/
def execPllRampHold (k : Ctx) (v : Word) (s : State) : Result :=
  .next (s.writeWindow k Reg.PLL_RAMP (setField v Fld.PLL_RAMP_GO 0))

/-- PLL_LEVEL: a one-segment profile (R288). -/
def execPllLevel (k : Ctx) (v : Word) (s : State) : Result :=
  .next (s.writeWindow k Reg.PLL_LEVEL v)

/-! ## The pair -/

/-- RETRAIN: PAIR_CTL.RETRAIN = 1 (R307). -/
def execRetrain (k : Ctx) (v : Word) (s : State) : Result :=
  .next (s.writeAlias k Reg.PAIR_CTL (v ||| 0x10000000))

/-- LEASH_CLAIM: PAIR_CTL.CLAIM (R323). -/
def execLeashClaim (k : Ctx) (v : Word) (s : State) : Result :=
  .next (s.writeAlias k Reg.PAIR_CTL (v &&& 0x00000FFF))

/-- LEASH_RELEASE: PAIR_CTL.RELEASE (R323). -/
def execLeashRelease (k : Ctx) (v : Word) (s : State) : Result :=
  .next (s.writeAlias k Reg.PAIR_CTL (v &&& 0x0FFF0000))

/-- MIRROR_RESYNC: MIR_CTL.RESYNC (R477). -/
def execMirrorResync (k : Ctx) (v : Word) (s : State) : Result :=
  .next (s.writeAlias k Reg.MIR_CTL v)

/-! ## Safety functions -/

/-- SAFETY_FRAME_SUBMIT: the last word of a host frame (R356). -/
def execSafetyFrameSubmit (k : Ctx) (v : Word) (s : State) : Result :=
  .next (s.writeAlias k (Reg.SAF_RXF 7) v)

/-- SAF_TXF0_READ: the device frame is latched for the context (R359). -/
def execSafTxf0Read (k : Ctx) (s : State) : Result := .next (s.readAt (aliasAddr k (Reg.SAF_TXF 0)))

/-- SAFETY_PARAM_WRITE: a parameter of the safety set (R360). -/
def execSafetyParamWrite (k : Ctx) (r : SafParam) (v : Word) (s : State) : Result :=
  match r with
  | .connid => .next (s.writeAlias k Reg.SAF_CONNID v)
  | .bcCfg => .next (s.writeAlias k Reg.SAF_BC_CFG v)
  | .chCfg => .next (s.writeWindow k Reg.SAF_CH_CFG v)
  | .kCfg => .next (s.writeWindow k Reg.SAF_K_CFG v)

/-- SAFETY_CONFIRM: SAF_CTL.CONF = 1 (R362). -/
def execSafetyConfirm (k : Ctx) (v : Word) (s : State) : Result :=
  .next (s.writeAlias k Reg.SAF_CTL (setField v Fld.SAF_CTL_CONF 1))

/-- ACK_DISC: acknowledge a discrepancy (R349). -/
def execAckDisc (k : Ctx) (s : State) : Result :=
  .next (s.writeWindow k Reg.SAF_ACK 1)

/-- ACK_CONT: acknowledge contactor faults (R352). -/
def execAckCont (k : Ctx) (s : State) : Result :=
  .next (s.writeWindow k Reg.SAF_ACK 2)

/-! ## The KENNEL, by a host context or its port (R378, R390) -/

/-- An accessor's write of a kennel register; the port answers while the KENNEL is powered (R375, R390). -/
def State.knlAccess (s : State) (a : Accessor) (off : Nat) (v : Word) : State :=
  match a with
  | .host k => s.writeAlias k off v
  | .port => if s.knl.powered then s.portWrite off v else s

/-- A word of KNL_CTL: the key and one command bit (R393). -/
def knlCtlWord (key : BitVec 16) (bit : Nat) : Word := setField (1#32 <<< bit) Fld.KNL_CTL_KEY key.toNat

/-- GINH_SET: set the global inhibit (R380). -/
def execGinhSet (a : Accessor) (s : State) : Result := .next (s.knlAccess a Reg.KNL_CTL (knlCtlWord 0 0))

/-- GINH_CLR: clear the global inhibit (R391). -/
def execGinhClr (a : Accessor) (key : BitVec 16) (s : State) : Result := .next (s.knlAccess a Reg.KNL_CTL (knlCtlWord key 1))

/-- SN_SET: hold SAFE_N low (R384). -/
def execSnSet (a : Accessor) (s : State) : Result := .next (s.knlAccess a Reg.KNL_CTL (knlCtlWord 0 2))

/-- SN_CLR: release SAFE_N (R384). -/
def execSnClr (a : Accessor) (key : BitVec 16) (s : State) : Result := .next (s.knlAccess a Reg.KNL_CTL (knlCtlWord key 3))

/-- KRST: a kennel reset (R385). -/
def execKrst (a : Accessor) (key : BitVec 16) (s : State) : Result := .next (s.knlAccess a Reg.KNL_CTL (knlCtlWord key 4))

/-- KNL_INH_WRITE: the per-channel inhibits (R380). -/
def execKnlInhWrite (a : Accessor) (v : Word) (s : State) : Result := .next (s.knlAccess a Reg.KNL_INH v)

/-- HOST_WATCHDOG_ENABLE: KNL_WDT with EN = 1 (R382). -/
def execHostWatchdogEnable (a : Accessor) (v : Word) (s : State) : Result := .next (s.knlAccess a Reg.KNL_WDT (setField v Fld.KNL_WDT_EN 1))

/-- HOST_WATCHDOG_KICK: KNL_WDKICK (R382). -/
def execHostWatchdogKick (a : Accessor) (v : Word) (s : State) : Result := .next (s.knlAccess a Reg.KNL_WDKICK v)

/-- LAST_WORD_COMMIT: KNL_LWW commits an entry (R388). -/
def execLastWordCommit (a : Accessor) (v : Word) (s : State) : Result := .next (s.knlAccess a Reg.KNL_LWW v)

/-- LAST_WORD_SELECT: KNL_LWSEL copies an entry (R389). -/
def execLastWordSelect (a : Accessor) (v : Word) (s : State) : Result := .next (s.knlAccess a Reg.KNL_LWSEL v)

/-! ## Capture and recorder -/

/-- CAP_ARM: CAP_CTL.ARM = 1 (R401). -/
def execCapArm (k : Ctx) (j : Fin 4) (v : Word) (s : State) : Result :=
  .next (s.writeWindow k (Reg.CAP_CTL j) (setField v Fld.CAP_CTL_ARM 1))

/-- CAP_DISARM: CAP_CTL.DISARM = 1 (R401). -/
def execCapDisarm (k : Ctx) (j : Fin 4) (v : Word) (s : State) : Result :=
  .next (s.writeWindow k (Reg.CAP_CTL j) (setField v Fld.CAP_CTL_DISARM 1))

/-- CAP_FORCE: CAP_CTL.FORCE = 1 (R400). -/
def execCapForce (k : Ctx) (j : Fin 4) (v : Word) (s : State) : Result :=
  .next (s.writeWindow k (Reg.CAP_CTL j) (setField v Fld.CAP_CTL_FORCE 1))

/-- CAP_HCLR: CAP_CTL.HCLR = 1 (R410). -/
def execCapHclr (k : Ctx) (j : Fin 4) (v : Word) (s : State) : Result :=
  .next (s.writeWindow k (Reg.CAP_CTL j) (setField v Fld.CAP_CTL_HCLR 1))

/-- CAP_ACK: CAP_CTL.ACK = 1 (R406). -/
def execCapAck (k : Ctx) (j : Fin 4) (v : Word) (s : State) : Result :=
  .next (s.writeWindow k (Reg.CAP_CTL j) (setField v Fld.CAP_CTL_ACK 1))

/-- CAP_GLOBAL_FORCE: GCAP_FORCE (R400). -/
def execCapGlobalForce (k : Ctx) (v : Word) (s : State) : Result :=
  .next (s.writeAlias k Reg.GCAP_FORCE v)

/-- CAPTURE_DMA_GO: GCAP_DMA_GO.GO = 1 (R411). -/
def execCaptureDmaGo (k : Ctx) (v : Word) (s : State) : Result :=
  .next (s.writeAlias k Reg.GCAP_DMA_GO (v ||| 1))

/-- REC_RPTR_WRITE: select a record (R426). -/
def execRecRptrWrite (k : Ctx) (v : Word) (s : State) : Result :=
  .next (s.writeAlias k Reg.REC_RPTR v)

/-- STORE_RETRY: REC_CTL.RETRY = 1 (R436). -/
def execStoreRetry (k : Ctx) (v : Word) (s : State) : Result :=
  .next (s.writeAlias k Reg.REC_CTL (v ||| 1))

/-- CAL_SET: CAL_CTL.SET = 1 (R429). -/
def execCalSet (k : Ctx) (v : Word) (s : State) : Result :=
  .next (s.writeAlias k Reg.CAL_CTL ((v &&& 0xFFFFFFFC) ||| 1))

/-- CAL_SETPPS: CAL_CTL.SETPPS = 1 (R429). -/
def execCalSetpps (k : Ctx) (v : Word) (s : State) : Result :=
  .next (s.writeAlias k Reg.CAL_CTL ((v &&& 0xFFFFFFFC) ||| 2))

/-! ## Host interface -/

/-- CHSEL_WRITE: CTXk_CHSEL (R463). -/
def execChselWrite (k : Ctx) (v : Word) (s : State) : Result :=
  .next (s.writeWindow k Reg.CTX_CHSEL v)

/-- INT_MASK_WRITE: INT_MASK (R470). -/
def execIntMaskWrite (k : Ctx) (v : Word) (s : State) : Result :=
  .next (s.writeAlias k Reg.INT_MASK v)

/-- GROUP_OPEN: GRP_CTL.OPEN = 1 (R471). -/
def execGroupOpen (k : Ctx) (v : Word) (s : State) : Result :=
  .next (s.writeAlias k Reg.GRP_CTL ((v &&& 0xFFFFFFFC) ||| 1))

/-- GROUP_ABORT: GRP_CTL.ABORT = 1 (R483). -/
def execGroupAbort (k : Ctx) (v : Word) (s : State) : Result :=
  .next (s.writeAlias k Reg.GRP_CTL ((v &&& 0xFFFFFFFC) ||| 2))

/-- GROUP_STAGED_WRITE: a write of the channel set, staged where STAGE is 1 (R471). -/
def execGroupStagedWrite (k : Ctx) (off : BitVec 14) (v : Word) (s : State) : Result :=
  .next (s.writeWindow k off.toNat v)

/-- GROUP_GO: GRP_GO.GO = 1 (R473). -/
def execGroupGo (k : Ctx) (v : Word) (s : State) : Result :=
  .next (s.writeAlias k Reg.GRP_GO (v ||| 1))

/-- What this unit answers the partner's packet (R476). -/
def State.mirrorReply (s : State) (seq : Nat) (ok : Bool) (reason : Nat) : State :=
  { s with mir := { s.mir with answers := s.mir.answers.filter (fun a => a.1 != seq) ++ [(seq, ok, reason)] } }

/-- The mirrored write itself: a coefficient, or a mirrored register (R475). -/
def State.mirrorTake (s : State) (p : MirWrite) : State × Verdict :=
  match p.coef with
  | some k => s.coefWrite p.ch k p.v (.mirror p.seq)
  | none => match findRow chanRows p.off.toNat with
    | some r => s.fieldWrite p.ch r p.off.toNat p.v (.mirror p.seq)
    | none => (s, .bad)

/-- MIRROR_WRITE_RECEIVE: the partner's write is applied at the next boundary of a channel in SHADOW (R475); it fails in
another mode (reason 3) or where the block rejects it (reason 4), without a violation (R476, R480). A packet that names no
mirrored register is none of R475. -/
def execMirrorWriteReceive (p : MirWrite) (s : State) : Result :=
  if p.coef.isNone && !mirrored p.off.toNat then .next s
  else if (s.chan p.ch).mode != 8 then .next (s.mirrorReply p.seq false 3)
  else
    let r := s.mirrorTake p
    if r.2 = .ok then .next (r.1.mirrorReply p.seq true 0)
    else .next ({ r.1 with free := r.1.free + 1 }.mirrorReply p.seq false 4)

/-! ## Images, fuses, parameters and resets -/

/-- STAGE: IMG_CTL.OP = 1 (R494). -/
def execStage (k : Ctx) (v : Word) (s : State) : Result :=
  .next (s.writeAlias k Reg.IMG_CTL (setField v Fld.IMG_CTL_OP 1))

/-- STAGE_FLASH: IMG_CTL.OP = 2 (R494). -/
def execStageFlash (k : Ctx) (v : Word) (s : State) : Result :=
  .next (s.writeAlias k Reg.IMG_CTL (setField v Fld.IMG_CTL_OP 2))

/-- LOAD_FULL: IMG_CTL.OP = 3 (R493). -/
def execLoadFull (k : Ctx) (v : Word) (s : State) : Result :=
  .next (s.writeAlias k Reg.IMG_CTL (setField v Fld.IMG_CTL_OP 3))

/-- UPD_OPEN: IMG_CTL.OP = 4 (R499). -/
def execUpdOpen (k : Ctx) (v : Word) (s : State) : Result :=
  .next (s.writeAlias k Reg.IMG_CTL (setField v Fld.IMG_CTL_OP 4))

/-- UPD_COMMIT: IMG_CTL.OP = 5 (R499). -/
def execUpdCommit (k : Ctx) (v : Word) (s : State) : Result :=
  .next (s.writeAlias k Reg.IMG_CTL (setField v Fld.IMG_CTL_OP 5))

/-- IMG_ABORT: IMG_CTL.OP = 6 (R506). -/
def execImgAbort (k : Ctx) (v : Word) (s : State) : Result :=
  .next (s.writeAlias k Reg.IMG_CTL (setField v Fld.IMG_CTL_OP 6))

/-- IMG_DATA_WRITE: the next word of a delivery (R492). -/
def execImgDataWrite (k : Ctx) (v : Word) (s : State) : Result :=
  .next (s.writeAlias k Reg.IMG_DATA v)

/-- FUSE_PROG: IMG_FUSE.PROG = 1 (R488). -/
def execFuseProg (k : Ctx) (v : Word) (s : State) : Result :=
  .next (s.writeAlias k Reg.IMG_FUSE ((v &&& 0xFFFFFFF3) ||| 4))

/-- FUSE_REVOKE: IMG_FUSE.REVOKE = 1 (R488). -/
def execFuseRevoke (k : Ctx) (v : Word) (s : State) : Result :=
  .next (s.writeAlias k Reg.IMG_FUSE ((v &&& 0xFFFFFFF3) ||| 8))

/-- PARAM_SAVE: save the named channels (R504). -/
def execParamSave (k : Ctx) (v : Word) (s : State) : Result :=
  .next (s.writeAlias k Reg.PAR_CTL v)

/-- CHANNEL_RESET: reset the named channels (R522). -/
def execChannelReset (k : Ctx) (v : Word) (s : State) : Result :=
  .next (s.writeAlias k Reg.CHRST v)

end Sys2Proof.Machine
end

