-- ==== Sys2Proof/Machine/TickBoundary.lean ====
section
/-! DEFINITION. Machine/TickBoundary.lean: the tick boundary (02_channel_tick.md, 01_architecture.md R32 to R35,
06_modes_and_handover.md R174): the end of the tick, the input latch, the landing of writes, the mode controller, and the
start of the tick that begins. -/

namespace Sys2Proof.Machine

/-! ## The end of a tick -/

/-- The counts of LIM and HOLD and their capture events (R173, R400), against LAW_STAT before the copy. -/
def State.countLaw (s : State) (ch : ChId) (old : Word) : State :=
  let c := s.chan ch
  let lim := c.bit Reg.LAW_STAT Fld.LAW_STAT_LIM && getField old Fld.LAW_STAT_LIM = 0
  let hold := c.bit Reg.LAW_STAT Fld.LAW_STAT_HOLD
  let s := if lim then (s.onChan ch fun c => c.capEvent 4).countCh ch Reg.LAW_CNT false false else s
  if hold then (s.onChan ch fun c => c.capEvent 6).countCh ch Reg.LAW_CNT true false else s

/-- LAW_STAT at the end of a tick in which the law executed (R172, R189). -/
def State.endLaw (s : State) (ch : ChId) : State :=
  if engineMode (s.chan ch).mode then
    let old := (s.chan ch).get Reg.LAW_STAT
    let s := (s.onChan ch Chan.copyLawStat).countLaw ch old
    s.setLive ch 9 ((s.chan ch).bit Reg.LAW_STAT Fld.LAW_STAT_MEAS_LOST)
  else s

/-- The ticks in RIDE without LIM (R188). -/
def Chan.countDwell (c : Chan) : Chan :=
  if c.mode = 6 then { c with ctl := { c.ctl with
    dwell := if c.bit Reg.LAW_STAT Fld.LAW_STAT_LIM then 0 else c.ctl.dwell + 1 } }
  else c

/-- The tick that ends is complete (R53, R172, R311, R447). -/
def State.endOfTick (s : State) (ch : ChId) : State :=
  let s := (s.endLaw ch).onChan ch fun c => c.countDwell.tickUsed
  let s := if (s.chan ch).mode = 8 then s.onChan ch Chan.keepOwn else s
  s.thermalTick ch

/-- How the tick that ends has overrun, if it has (R47): the FE, the ME in an outer tick, or the duties. -/
def Chan.unfinished (c : Chan) : Option OvrCause :=
  if !engineMode c.mode then none
  else if !c.duty.done then some .duty
  else if c.fe.run != .idle && c.me.run != .idle then some .both
  else if c.fe.run != .idle then some .fe
  else if c.me.run != .idle then some .me
  else none

/-! ## The period word (R56, R57) -/

/-- A duration of `meas` 2^-16 reference cycles over `n` nominal ticks, as UQ2.30 between its clamps. -/
def Chan.periodWord (c : Chan) (site meas n : Nat) : Word :=
  let f := c.fLock
  let q := quantFloor site ((meas * f.1 * 2 ^ 30 : Nat) : Int)
    (65536 * c.pll.fnom * 1000 * max 1 (c.fld Reg.CH_TICK_DIV Fld.CH_TICK_DIV_CYCLES) * f.2 * n)
  BitVec.ofInt 32 (min (max q (2 ^ 29)) (2 ^ 31 - 1))

/-- The duration of a tick without the cycles that the acquisition step inserted in it (R62). -/
def Chan.ownDuration (c : Chan) (meas : Nat) : Nat :=
  let n := c.fld Reg.CH_TICK_DIV Fld.CH_TICK_DIV_CYCLES
  if c.pair.insert = 0 then meas else (quantFloor 15 ((meas * n : Nat) : Int) (n + c.pair.insert)).toNat

/-- PW of the tick that begins, by CYCLES and DIV as they stood in the tick that ends; where an edge was missing or the
reference changed, the previous value with PW_HOLD (R57). DESIGN CHOICE (log 13): a held tick adds the previous tick's
duration to the sum of PWO. -/
def Chan.takePeriod (c : Chan) (spent : Nat) : Chan :=
  let meas := c.ownDuration spent
  let hold := c.pll.pwHold
  let m := if hold then c.periods.headD meas else meas
  let c := if hold then c else c.put Reg.CH_PERIOD (c.periodWord 12 meas 1)
  { c.setFld Reg.CH_TICK_STAT Fld.CH_TICK_STAT_PW_HOLD (if hold then 1 else 0) with
    periods := (m :: c.periods).take 64, pll := { c.pll with pwHold := false } }

/-- PWO of an outer tick: the last DIV ticks, or as many as there have been since the start. DESIGN CHOICE (log 13): where
a new CH_TICK_DIV or CH_OUTER_DIV lands at the boundary, T_nom and DIV of PWO are the ones just landed. -/
def Chan.takeOuterPeriod (c : Chan) : Chan :=
  let l := c.periods.take (max 1 (c.fld Reg.CH_OUTER_DIV Fld.CH_OUTER_DIV_DIV))
  if !c.outer || l.isEmpty then c else c.put Reg.CH_PERIOD_OUT (c.periodWord 13 l.sum l.length)

/-! ## The input latch (R33, R85, R165) -/

/-- The filter outputs that stay on the fabric grow older by the cycles of the tick that ends; one posted since the last
latch carries the cycles to this latch already (R24). -/
def Chan.ageWords (c : Chan) : Chan :=
  let n := c.fld Reg.CH_TICK_DIV Fld.CH_TICK_DIV_CYCLES + c.pair.insert
  { c with fab := c.fab.map fun (q, w) =>
      (q, if q < 0x20 && w.num ≤ c.latchPosts then { w with cycles := w.cycles + n } else w) }

/-- The word that a quantity gives at the latch: a chain quantity that its input has not posted since the last latch is
STALE. -/
def Chan.latchWord (c : Chan) (q : Nat) : FabWord :=
  let w := c.fabGet q
  if h : q < 16 then (if c.inputs[q].posted then w else { w with tag := w.tag ||| 4 }) else w

/-- STALE_SEEN of the used inputs (R85). -/
def Chan.markStale (c : Chan) : Chan :=
  (List.finRange 16).foldl (fun c i =>
    if c.inMode i != 0 && !(c.inp i).posted then c.setFld (Reg.SDI_STAT i) Fld.SDI_STAT_STALE_SEEN 1 else c) c

/-- An engine's input slots as the image feeds them. -/
def Engine.latch (e : Engine) (word : Nat → FabWord) : Engine :=
  { e with slots := e.slotMap.foldl (fun sl (k : Nat × BitVec 8) =>
      let w := word k.2.toNat
      sl.setIfInBounds k.1 ⟨w.data, w.tag, w.age⟩) e.slots }

/-- No class C slot carries UNSETTLED, SATURATED or SUBSTITUTED (R165). -/
def Chan.ready (c : Chan) : Bool :=
  (List.finRange 64).all fun k => !c.classC k.val || (c.fe.slots[k]).tag &&& 0xB == 0

/-- The input latch: slots, latched words, STALE_SEEN and READY; each input's next output is then awaited. -/
def Chan.inputLatch (c : Chan) : Chan :=
  let word := c.latchWord
  let c := c.markStale
  let c := { c with
    fe := c.fe.latch word, me := c.me.latch word, latched := (List.range 16).map word, latchPosts := c.posts,
    inputs := c.inputs.map fun (x : Input) => { x with posted := false } }
  c.setFld Reg.LAW_STAT Fld.LAW_STAT_READY (if c.ready then 1 else 0)

/-! ## Set-point ramps (R193 to R195) -/

/-- The fraction bits of a set-point's format (R207). -/
def spFrac : Fin 5 → Nat
  | 0 => 30
  | 1 => 30
  | 2 => 30
  | 3 => 24
  | 4 => 31

/-- The clamped target, and whether the clamp acted. -/
def Chan.spTarget (c : Chan) (i : Fin 5) : Int × Bool :=
  let ext := i = 4 && c.bit Reg.PACK_CFG Fld.PACK_CFG_EN
  let t := if ext then c.pack.tgt else spVal i.val (c.get (Reg.SP_TGT i.val))
  let r := min (max t (spVal i.val (c.get (Reg.SP_MIN i.val)))) (spVal i.val (c.get (Reg.SP_MAX i.val)))
  (r, r != t)

/-- Output and rate after an outer tick of R193; `h` is the outer period as a fraction of seconds. -/
def rampStep (frac rate acc : Nat) (h : Nat × Nat) (tc out vel : Int) : Int × Int :=
  let e := tc - out
  let lim : Int := min rate (rootOf 90 (2 * acc * e.natAbs * 2 ^ 24) (2 ^ frac))
  let vd := if e < 0 then -lim else if e = 0 then 0 else lim
  let step := quantFloor 91 ((acc * h.1 : Nat) : Int) h.2
  let v := vel + clampTo2 (-step) step (vd - vel)
  let move := v * 2 ^ frac * (h.1 : Int)
  let need := e * 2 ^ 24 * (h.2 : Int)
  if (0 ≤ v && 0 ≤ e && need ≤ move) || (v ≤ 0 && e ≤ 0 && move ≤ need) then (tc, 0)
  else (out + quantFloor 92 move (2 ^ 24 * h.2), v)

/-- Write a limiter's registers. -/
def Chan.putSp (c : Chan) (i : Fin 5) (out vel : Int) (held clamped : Bool) : Chan :=
  let c := (c.put (Reg.SP_OUT i.val) (BitVec.ofInt 32 out)).put (Reg.SP_VEL i.val) (BitVec.ofInt 32 vel)
  let r := Reg.SP_STAT i.val
  let c := (c.setFld r Fld.SP_STAT_HELD (if held then 1 else 0)).setFld r Fld.SP_STAT_MOVING (if vel = 0 then 0 else 1)
  if clamped then c.setFld r Fld.SP_STAT_CLAMP 1 else c

/-- One limiter in an outer tick of a mode in which it ramps, is set or is held (R194). -/
def Chan.spStep (c : Chan) (i : Fin 5) : Chan :=
  let m := c.mode
  let out := spVal i.val (c.get (Reg.SP_OUT i.val))
  let vel := (c.get (Reg.SP_VEL i.val)).toInt
  let t := c.spTarget i
  if m = 3 && i = 2 then c.putSp i t.1 0 true t.2
  else if m = 3 || m = 4 || m = 5 || m = 7 then
    let r := rampStep (spFrac i) (c.get (Reg.SP_RATE i.val)).toNat (c.get (Reg.SP_ACC i.val)).toNat c.outerSeconds t.1 out vel
    c.putSp i r.1 r.2 false t.2
  else if m = 6 then c.putSp i out 0 true false
  else c.putSp i out vel true false

/-- EXTSRC, and the five limiters before the law of an outer tick. -/
def Chan.rampAll (c : Chan) : Chan :=
  let c := c.setFld (Reg.SP_STAT 4) Fld.SP_STAT_EXTSRC (if c.bit Reg.PACK_CFG Fld.PACK_CFG_EN then 1 else 0)
  if c.outer then (List.finRange 5).foldl Chan.spStep c else c

/-- The measured counterparts that the outputs follow in PRECHARGE and SAFE; with other programs than the library's, free
values (R194, log 9). -/
def State.spFollow (s : State) (ch : ChId) : State :=
  let c := s.chan ch
  if !((c.mode = 2 || c.mode = 10) && c.outer) then s
  else
    let l := c.law
    let f := quantFloor 93 (l.w * (c.get Reg.LAW_FBASE).toNat) (2 ^ 30)
    let w := fun k => (Config.freeWord (s.free + k)).toInt
    let c' := if l.on then
        (((c.putSp 0 l.pf 0 true false).putSp 1 l.qf 0 true false).putSp 2 l.ee 0 true false).putSp 3 f 0 true false
      else (((c.putSp 0 (w 0) 0 true false).putSp 1 (w 1) 0 true false).putSp 2 (w 2) 0 true false).putSp 3 (w 3) 0 true false
    let s := s.putChan ch (c'.putSp 4 0 0 true false)
    if l.on then s else { s with free := s.free + 4 }

/-! ## Counts of the mode controller (R182 to R185) -/

/-- |v_g| is at most VDEAD (R183). -/
def Chan.busDead (c : Chan) : Bool :=
  let fs := (c.get Reg.LAW_FS_V).toNat
  let vb := (c.get Reg.LAW_VBASE).toNat
  let d := c.fld Reg.CH_BS_CFG Fld.CH_BS_CFG_VDEAD
  lineSquare (c.fe.slots[10]).data.toInt (c.fe.slots[11]).data.toInt * (fs * fs) ≤ 6 * 2 ^ 30 * (d * d * (vb * vb))

/-- The differences of R185, bus less own: of frequency in 2^-54 Hz, of line-voltage magnitude in 2^-30 pu, and of angle in
2^-31 of π. The bus frequency is the synchronisation loop's; with other programs than the library's `free` stands for the
difference of frequency, which the spec does not trace to slots (log 9). -/
def Chan.busDifferences (c : Chan) (free : Int) : Int × Int × Int :=
  let g := c.acVec 4
  let v := c.acVec 1
  let own := c.sp[0].toInt + c.packDev
  (if c.law.on then (c.law.wPll - own) * c.word Reg.LAW_FBASE else free,
    (g.norm : Int) - v.norm, wrapPi (anglePi g.1 g.2 - anglePi v.1 v.2))

/-- The matching condition of R185 on the differences: |Δf|, |ΔV| and |Δθ + 2π × Δf × TCLOSE| within their limits, and the
slots' tags. -/
def Chan.matches (c : Chan) (d : Int × Int × Int) : Bool :=
  let df := c.fld Reg.CH_RSY_CFG1 Fld.CH_RSY_CFG1_DF
  let dv := c.fld Reg.CH_RSY_CFG1 Fld.CH_RSY_CFG1_DV
  let dth := c.fld Reg.CH_RSY_CFG2 Fld.CH_RSY_CFG2_DTH
  let tc : Int := c.fld Reg.CH_RSY_CFG3 Fld.CH_RSY_CFG3_TCLOSE
  let unit : Int := 10000 * 2 ^ 22
  let turn : Int := 2 ^ 32 * unit
  let p := (d.2.2 * unit + d.1 * tc + turn / 2) % turn - turn / 2
  d.1.natAbs * 1000 ≤ df * 2 ^ 54 && d.2.1.natAbs ≤ dv * 2 ^ 14 && p.natAbs * 36000 ≤ dth * turn.natAbs && !c.busTagged

/-- The matching of a tick in RESYNC (R185), on what the law has measured in it. -/
def State.matchTick (s : State) (ch : ChId) : State :=
  let c := s.chan ch
  if c.mode != 7 then s
  else
    let d := c.busDifferences ((Config.freeWord s.free).toInt * 2 ^ 32)
    let m := c.matches d
    let c' := { c with ctl := { c.ctl with
      matched := if m then c.ctl.matched + 1 else 0, df := d.1, dv := d.2.1, dth := d.2.2 } }.setFld
        Reg.CH_MODE_STAT Fld.CH_MODE_STAT_RSY_MATCH (if m then 1 else 0)
    { s.putChan ch c' with free := s.free + 1 }

/-- A step of r (R184): it rises while K1 is closed and the current is not limited. -/
def Chan.bsRamp (c : Chan) : Nat :=
  if c.k1Closed && !c.bit Reg.LAW_STAT Fld.LAW_STAT_LIM then
    let h := c.tickSeconds
    min (2 ^ 48) (c.ctl.ramp + (quantFloor 94 ((h.1 * 1000 * 2 ^ 48 : Nat) : Int)
      (h.2 * max 1 (c.fld Reg.CH_BS_RAMP Fld.CH_BS_RAMP_TRAMP))).toNat)
  else c.ctl.ramp

/-- The counts of the tick that begins, in its mode. -/
def Chan.countTick (c : Chan) : Chan :=
  let k := c.ctl
  match c.mode with
  | 2 =>
    let full := (c.fld Reg.CH_PRE_CFG Fld.CH_PRE_CFG_VDONE : Int) * 2 ^ 47 ≤
      (c.fe.slots[6]).data.toInt * (c.get Reg.LAW_FS_DC).toNat
    { c with ctl := { k with preRun := if full then k.preRun + 1 else 0 } }
  | 3 =>
    let k := { k with ramp := c.bsRamp }
    let dead := c.busDead && !c.busTagged
    let live := !c.busDead && !c.busTagged
    if k.bsCheck then
      { c with ctl := { k with deadRun := if dead then k.deadRun + 1 else 0, liveRun := if live then k.liveRun + 1 else 0 } }
    else { c with ctl := k }
  | _ => c

/-- A class C slot's tag counts after a tick (R164). -/
def Chan.countTag (c : Chan) (k : Fin 64) : TagCount :=
  let t := (c.fe.slots[k]).tag
  let o := c.tags[k]
  if c.classC k.val then
    ⟨if t.getLsbD 2 then o.stale + 1 else 0, if t.getLsbD 1 then o.sat + 1 else 0, if t &&& 9 != 0 then o.bad + 1 else 0⟩
  else o

/-- The tag counts where the library's law executes in this tick. -/
def Chan.countTags (c : Chan) : Chan :=
  if c.law.on && engineMode c.mode then { c with tags := Vector.ofFn c.countTag } else c

/-! ## The start of a tick -/

/-- An engine at a tick's start (R44, R111, R123): it begins in cycle 2, or idles the tick through. DESIGN CHOICE (log 64): it
begins at word 0, with no loop and no call open. -/
def Engine.startTick (e : Engine) (works : Bool) : Engine :=
  if works then
    { e with mail := Vector.replicate 4 none, eventSent := false, track := 0, run := .running, cycle := 2, pc := 0,
             loops := [], calls := [], fst := e.fstNext, fstNext := false }
  else { e with mail := Vector.replicate 4 none, eventSent := false, run := .idle, cycle := 0 }

/-- HO_STAT in a tick that did not begin the blend (R196, R209). -/
def Chan.blendTick (c : Chan) : Chan :=
  if !c.bit Reg.HO_STAT Fld.HO_STAT_ACT then c
  else
    let r := c.fld Reg.HO_STAT Fld.HO_STAT_REM
    if r = 0 then c.put Reg.HO_STAT 0 else c.setFld Reg.HO_STAT Fld.HO_STAT_REM (r - 1)

/-- Engines, duties and the ME's set-points at the start of a tick (R34, R124, R125). -/
def Chan.startEngines (c : Chan) : Chan :=
  let works := engineMode c.mode
  let c := if c.outer then { c with sp := c.spNext } else c
  { c with fe := c.fe.startTick works, me := c.me.startTick (works && c.outer),
           duty := { c.duty with done := false } }

/-- The tick that begins, after the mode is set; `blend`: a blend begins with it, `entered`: its mode does, from `prev`. -/
def State.startOfTick (s : State) (ch : ChId) (blend entered : Bool) (prev : Nat) : State :=
  let s := s.onChan ch fun c =>
    let c := c.takeOuterPeriod.startEngines
    let c := if blend then c else c.blendTick
    let c := { c with pwm := { c.pwm with pt := c.pwmTime } }
    (((c.packTick entered prev).rampAll).countTags).countTick
  ((s.lawRun ch blend).matchTick ch).spFollow ch

/-! ## The boundary -/

/-- The tick count and the clock at the latch, after a tick of `meas` 2^-16 reference cycles (R55 to R57, R288). -/
def Chan.clockTick (c : Chan) (meas : Nat) (fresh : Bool) : Chan :=
  let c := if fresh then c else ((c.takePeriod meas).rampTo meas).ageWords
  let c := c.setTickCount (c.tickCount + 1)
  { c with
    pll := { c.pll with since := 0 }, ctl := { c.ctl with starting := false },
    pair := { c.pair with insert := 0, spans := if fresh then [] else (meas :: c.pair.spans).take 4 } }

/-- A unit that has come to hold the LEASH in HALT enables its pads at the channel's next boundary (R306, R323). -/
def State.padsAtBoundary (s : State) (ch : ChId) : State :=
  if s.isPair && s.holds ch && !(s.chan ch).pair.padsEn then
    ((s.onPair ch fun p => { p with padsEn := true }).contactors ch).gatesFollow ch
  else s

/-- A tick boundary of a channel whose ticks run (R32, R33, R132, R174). -/
def State.boundary (s : State) (ch : ChId) (env : TickEnv) : State :=
  let fresh := (s.chan ch).ctl.starting
  let s := if fresh then s else s.endOfTick ch
  let s := s.onChan ch fun c => (c.clockTick env.meas fresh).noteFrame.inputLatch
  let ws := s.landing ch
  let s := (s.groupApplied ch).onChan ch fun c => { c with writes := [] }
  let s := (ws.foldl (fun s w => s.landPlain ch w) s).padsAtBoundary ch
  let prev := (s.chan ch).mode
  let s := s.modeBoundary ch (requestOf ws)
  let c := s.chan ch
  let change := prev != c.mode
  let blend := change && blendQty prev c.mode != 0
  let s := if prev = 8 && c.mode = 8 then s.shadowBoundary ch else s
  let s := ws.foldl (fun s w => s.landJudged ch change w) s
  let s := (s.landCoefs ch ws change).snapshotDue ch
  if c.mode = 0 then s else s.startOfTick ch blend change prev

/-- TICK_BOUNDARY (R174). Without ticks there is no boundary, but with a hard fault latched on a running clock the writes
that wait still reach the registers (R48); a tick whose engines have not finished has overrun (R47). -/
def execTickBoundary (ch : ChId) (env : TickEnv) (s : State) : Result :=
  let c := s.chan ch
  if c.faulted && c.bit Reg.PLL_STAT Fld.PLL_STAT_LOCK && c.pll.phase = .idle then .next (s.landAll ch)
  else if !c.ticking then .next s
  else match (if c.ctl.starting then none else c.unfinished) with
    | some cause => .next ((s.overrun ch cause).landAll ch)
    | none => .next (s.boundary ch env)

end Sys2Proof.Machine
end

