-- ==== Sys2Proof/Machine/Dispatch.lean ====
section
/-! DEFINITION. Machine/Dispatch.lean: the meaning of each command, one arm per constructor. -/

namespace Sys2Proof.Machine

/-- A command's effect on everything but the queue. -/
def exec (i : Instr) (s : State) : Host.Outcome State Fault Refusal :=
  match i with
  | .tickBoundary ch env => Sys2Proof.Machine.execTickBoundary ch env s
  | .carrierUpdatePoint ch => Sys2Proof.Machine.execCarrierUpdatePoint ch s
  | .refreshInsert ch sw => Sys2Proof.Machine.execRefreshInsert ch sw s
  | .tickOverrun ch cause => Sys2Proof.Machine.execTickOverrun ch cause s
  | .lockstepMismatch ch eng pc cls => Sys2Proof.Machine.execLockstepMismatch ch eng pc cls s
  | .uncorrectableEcc ch eng mem addr byScrubber => Sys2Proof.Machine.execUncorrectableEcc ch eng mem addr byScrubber s
  | .fabricParityError ch word => Sys2Proof.Machine.execFabricParityError ch word s
  | .mirrorFrameSend ch txOfs => Sys2Proof.Machine.execMirrorFrameSend ch txOfs s
  | .nop at_ cc => Sys2Proof.Machine.execNop at_ cc s
  | .ldi at_ d imm => Sys2Proof.Machine.execLdi at_ d imm s
  | .mov at_ cc d a => Sys2Proof.Machine.execMov at_ cc d a s
  | .ld at_ cc d m => Sys2Proof.Machine.execLd at_ cc d m s
  | .ldx at_ cc d a m => Sys2Proof.Machine.execLdx at_ cc d a m s
  | .st at_ cc a m => Sys2Proof.Machine.execSt at_ cc a m s
  | .stx at_ cc a b m => Sys2Proof.Machine.execStx at_ cc a b m s
  | .inPort at_ cc d m => Sys2Proof.Machine.execIn at_ cc d m s
  | .mailboxWaitEnd at_ => Sys2Proof.Machine.execMailboxWaitEnd at_ s
  | .outPort at_ cc a b m => Sys2Proof.Machine.execOut at_ cc a b m s
  | .pub at_ cc a b m => Sys2Proof.Machine.execPub at_ cc a b m s
  | .ldc at_ cc d k => Sys2Proof.Machine.execLdc at_ cc d k s
  | .sel at_ cc d a b => Sys2Proof.Machine.execSel at_ cc d a b s
  | .add at_ cc rm d a b => Sys2Proof.Machine.execAdd at_ cc rm d a b s
  | .sub at_ cc rm d a b => Sys2Proof.Machine.execSub at_ cc rm d a b s
  | .neg at_ cc rm d a => Sys2Proof.Machine.execNeg at_ cc rm d a s
  | .abs at_ cc rm d a => Sys2Proof.Machine.execAbs at_ cc rm d a s
  | .min at_ cc d a b => Sys2Proof.Machine.execMin at_ cc d a b s
  | .max at_ cc d a b => Sys2Proof.Machine.execMax at_ cc d a b s
  | .cmp at_ cc a b => Sys2Proof.Machine.execCmp at_ cc a b s
  | .and at_ cc d a b => Sys2Proof.Machine.execAnd at_ cc d a b s
  | .or at_ cc d a b => Sys2Proof.Machine.execOr at_ cc d a b s
  | .xor at_ cc d a b => Sys2Proof.Machine.execXor at_ cc d a b s
  | .ash at_ cc rm e d a => Sys2Proof.Machine.execAsh at_ cc rm e d a s
  | .lsh at_ cc e d a => Sys2Proof.Machine.execLsh at_ cc e d a s
  | .mul at_ cc rm d a k => Sys2Proof.Machine.execMul at_ cc rm d a k s
  | .mulv at_ cc rm e d a b => Sys2Proof.Machine.execMulv at_ cc rm e d a b s
  | .clr at_ cc ac => Sys2Proof.Machine.execClr at_ cc ac s
  | .lda at_ cc ac a => Sys2Proof.Machine.execLda at_ cc ac a s
  | .mac at_ cc ac a k => Sys2Proof.Machine.execMac at_ cc ac a k s
  | .msu at_ cc ac a k => Sys2Proof.Machine.execMsu at_ cc ac a k s
  | .dmac at_ cc ac a b k => Sys2Proof.Machine.execDmac at_ cc ac a b k s
  | .pmac at_ cc a b k => Sys2Proof.Machine.execPmac at_ cc a b k s
  | .macv at_ cc rm ac a b => Sys2Proof.Machine.execMacv at_ cc rm ac a b s
  | .ext at_ cc rm e ac d => Sys2Proof.Machine.execExt at_ cc rm e ac d s
  | .div at_ cc rm e d a b => Sys2Proof.Machine.execDiv at_ cc rm e d a b s
  | .sqrt at_ cc rm e d a => Sys2Proof.Machine.execSqrt at_ cc rm e d a s
  | .br at_ cc tgt => Sys2Proof.Machine.execBr at_ cc tgt s
  | .call at_ tgt => Sys2Proof.Machine.execCall at_ tgt s
  | .ret at_ cc => Sys2Proof.Machine.execRet at_ cc s
  | .loop at_ count tgt => Sys2Proof.Machine.execLoop at_ count tgt s
  | .tend at_ cc => Sys2Proof.Machine.execTend at_ cc s
  | .reservedOpcode at_ op => Sys2Proof.Machine.execReservedOpcode at_ op s
  | .firOutput ch inp bits age => Sys2Proof.Machine.execFirOutput ch inp bits age s
  | .chainOutput ch inp age => Sys2Proof.Machine.execChainOutput ch inp age s
  | .substituteWord ch inp => Sys2Proof.Machine.execSubstituteWord ch inp s
  | .mclkLoss ch inp => Sys2Proof.Machine.execMclkLoss ch inp s
  | .clockRecovery ch inp => Sys2Proof.Machine.execClockRecovery ch inp s
  | .fastPathFillEnd ch inp bits => Sys2Proof.Machine.execFastPathFillEnd ch inp bits s
  | .fastComparatorChange ch inp bits => Sys2Proof.Machine.execFastComparatorChange ch inp bits s
  | .skarm ctx v => Sys2Proof.Machine.execSkarm ctx v s
  | .skewCrossing ch inp at_ bits below above => Sys2Proof.Machine.execSkewCrossing ch inp at_ bits below above s
  | .skewWindowExpiry ch inp => Sys2Proof.Machine.execSkewWindowExpiry ch inp s
  | .firCdatWrite ctx inp v => Sys2Proof.Machine.execFirCdatWrite ctx inp v s
  | .firXfGo ctx inp v => Sys2Proof.Machine.execFirXfGo ctx inp v s
  | .firBankWrite ctx inp v => Sys2Proof.Machine.execFirBankWrite ctx inp v s
  | .dcbEstWrite ctx inp v => Sys2Proof.Machine.execDcbEstWrite ctx inp v s
  | .sdiTrimWrite ctx inp v => Sys2Proof.Machine.execSdiTrimWrite ctx inp v s
  | .sdiSrcWrite ctx inp v => Sys2Proof.Machine.execSdiSrcWrite ctx inp v s
  | .engCdatWrite ctx v => Sys2Proof.Machine.execEngCdatWrite ctx v s
  | .engDdatWrite ctx v => Sys2Proof.Machine.execEngDdatWrite ctx v s
  | .engDdatRead ctx => Sys2Proof.Machine.execEngDdatRead ctx s
  | .engDdatReadServe ctx => Sys2Proof.Machine.execEngDdatReadServe ctx s
  | .lawParamWrite ctx off v => Sys2Proof.Machine.execLawParamWrite ctx off v s
  | .measLost ch slot => Sys2Proof.Machine.execMeasLost ch slot s
  | .limRelease ch => Sys2Proof.Machine.execLimRelease ch s
  | .modeRequest ctx v => Sys2Proof.Machine.execModeRequest ctx v s
  | .safeLatchClear ctx v => Sys2Proof.Machine.execSafeLatchClear ctx v s
  | .preDone ch => Sys2Proof.Machine.execPreDone ch s
  | .prechargeTimeout ch => Sys2Proof.Machine.execPrechargeTimeout ch s
  | .deadBusTimeout ch => Sys2Proof.Machine.execDeadBusTimeout ch s
  | .busFoundLive ch => Sys2Proof.Machine.execBusFoundLive ch s
  | .bsDone ch => Sys2Proof.Machine.execBsDone ch s
  | .rsyMatchComplete ch => Sys2Proof.Machine.execRsyMatchComplete ch s
  | .resyncTimeout ch => Sys2Proof.Machine.execResyncTimeout ch s
  | .rideReturn ch => Sys2Proof.Machine.execRideReturn ch s
  | .rideTimeout ch => Sys2Proof.Machine.execRideTimeout ch s
  | .handoverBlendEnd ch => Sys2Proof.Machine.execHandoverBlendEnd ch s
  | .packChip ch mean => Sys2Proof.Machine.execPackChip ch mean s
  | .packCodePeriod ch => Sys2Proof.Machine.execPackCodePeriod ch s
  | .fingerAcquired ch f => Sys2Proof.Machine.execFingerAcquired ch f s
  | .fingerLost ch f => Sys2Proof.Machine.execFingerLost ch f s
  | .packFrameReceived ch f => Sys2Proof.Machine.execPackFrameReceived ch f s
  | .packFrameEnd ch => Sys2Proof.Machine.execPackFrameEnd ch s
  | .packDuplicate ch => Sys2Proof.Machine.execPackDuplicate ch s
  | .packBackoffEnd ch => Sys2Proof.Machine.execPackBackoffEnd ch s
  | .stiffSet ch => Sys2Proof.Machine.execStiffSet ch s
  | .stiffClear ch => Sys2Proof.Machine.execStiffClear ch s
  | .packEnable ctx v => Sys2Proof.Machine.execPackEnable ctx v s
  | .packDisable ctx v => Sys2Proof.Machine.execPackDisable ctx v s
  | .packPselWrite ctx v => Sys2Proof.Machine.execPackPselWrite ctx v s
  | .driverFaultFiltered ch pad asserted => Sys2Proof.Machine.execDriverFaultFiltered ch pad asserted s
  | .blankingEnd ch pad => Sys2Proof.Machine.execBlankingEnd ch pad s
  | .tsoftExpiry ch pad => Sys2Proof.Machine.execTsoftExpiry ch pad s
  | .toffExpiry ch => Sys2Proof.Machine.execToffExpiry ch s
  | .tordExpiry ch leg => Sys2Proof.Machine.execTordExpiry ch leg s
  | .desatWindowClose ch => Sys2Proof.Machine.execDesatWindowClose ch s
  | .legFaultRelease ch leg => Sys2Proof.Machine.execLegFaultRelease ch leg s
  | .legOffTimeout ch leg => Sys2Proof.Machine.execLegOffTimeout ch leg s
  | .tripClear ctx v => Sys2Proof.Machine.execTripClear ctx v s
  | .brakeMinTimeExpiry ch => Sys2Proof.Machine.execBrakeMinTimeExpiry ch s
  | .calFail ch => Sys2Proof.Machine.execCalFail ch s
  | .refActivityWindow ref kHz => Sys2Proof.Machine.execRefActivityWindow ref kHz s
  | .refMismatchWindow bEdges => Sys2Proof.Machine.execRefMismatchWindow bEdges s
  | .refEdgeMissing ch further => Sys2Proof.Machine.execRefEdgeMissing ch further s
  | .bandSearchEnd ch band => Sys2Proof.Machine.execBandSearchEnd ch band s
  | .lockWindow ch count since => Sys2Proof.Machine.execLockWindow ch count since s
  | .lockTimeout ch => Sys2Proof.Machine.execLockTimeout ch s
  | .ceilingGuard ch what => Sys2Proof.Machine.execCeilingGuard ch what s
  | .channelStart ch => Sys2Proof.Machine.execChannelStart ch s
  | .pllRelock ctx v => Sys2Proof.Machine.execPllRelock ctx v s
  | .pllRampGo ctx v => Sys2Proof.Machine.execPllRampGo ctx v s
  | .pllRampHold ctx v => Sys2Proof.Machine.execPllRampHold ctx v s
  | .pllLevel ctx v => Sys2Proof.Machine.execPllLevel ctx v s
  | .rampSegmentEnd ch since => Sys2Proof.Machine.execRampSegmentEnd ch since s
  | .hostPllLock => Sys2Proof.Machine.execHostPllLock s
  | .hostPllLoss => Sys2Proof.Machine.execHostPllLoss s
  | .linkTrainingEnd rsp => Sys2Proof.Machine.execLinkTrainingEnd rsp s
  | .retrain ctx v => Sys2Proof.Machine.execRetrain ctx v s
  | .linkDown rxDir lane => Sys2Proof.Machine.execLinkDown rxDir lane s
  | .mirrorFrameReceive frame since => Sys2Proof.Machine.execMirrorFrameReceive frame since s
  | .heartbeatSend => Sys2Proof.Machine.execHeartbeatSend s
  | .heartbeatReceive packet => Sys2Proof.Machine.execHeartbeatReceive packet s
  | .heartbeatTimeout => Sys2Proof.Machine.execHeartbeatTimeout s
  | .leashToggle ch => Sys2Proof.Machine.execLeashToggle ch s
  | .leashStateChange ch samples => Sys2Proof.Machine.execLeashStateChange ch samples s
  | .leashReadbackFault ch what => Sys2Proof.Machine.execLeashReadbackFault ch what s
  | .leashClaim ctx v => Sys2Proof.Machine.execLeashClaim ctx v s
  | .leashRelease ctx v => Sys2Proof.Machine.execLeashRelease ctx v s
  | .releaseGuardExpiry ch => Sys2Proof.Machine.execReleaseGuardExpiry ch s
  | .alignLocked ch => Sys2Proof.Machine.execAlignLocked ch s
  | .alignUnlocked ch => Sys2Proof.Machine.execAlignUnlocked ch s
  | .houndTestEnd ch test ok => Sys2Proof.Machine.execHoundTestEnd ch test ok s
  | .houndHealthReport => Sys2Proof.Machine.execHoundHealthReport s
  | .testEnd ch => Sys2Proof.Machine.execTestEnd ch s
  | .safetyStrobe env => Sys2Proof.Machine.execSafetyStrobe env s
  | .discrepancyLatch ch => Sys2Proof.Machine.execDiscrepancyLatch ch s
  | .contactorSettleEnd ch k2 => Sys2Proof.Machine.execContactorSettleEnd ch k2 s
  | .contactorDebounceEnd ch k2 => Sys2Proof.Machine.execContactorDebounceEnd ch k2 s
  | .safetyFrameSubmit ctx v => Sys2Proof.Machine.execSafetyFrameSubmit ctx v s
  | .bcWatchdogExpiry => Sys2Proof.Machine.execBcWatchdogExpiry s
  | .safetyFramePublish => Sys2Proof.Machine.execSafetyFramePublish s
  | .safTxf0Read ctx => Sys2Proof.Machine.execSafTxf0Read ctx s
  | .safetyParamWrite ctx reg v => Sys2Proof.Machine.execSafetyParamWrite ctx reg v s
  | .safetyCheckDone a b => Sys2Proof.Machine.execSafetyCheckDone a b s
  | .safetyConfirm ctx v => Sys2Proof.Machine.execSafetyConfirm ctx v s
  | .ackDisc ctx => Sys2Proof.Machine.execAckDisc ctx s
  | .ackCont ctx => Sys2Proof.Machine.execAckCont ctx s
  | .ginhSet src => Sys2Proof.Machine.execGinhSet src s
  | .ginhClr src key => Sys2Proof.Machine.execGinhClr src key s
  | .snSet src => Sys2Proof.Machine.execSnSet src s
  | .snClr src key => Sys2Proof.Machine.execSnClr src key s
  | .krst src key => Sys2Proof.Machine.execKrst src key s
  | .knlInhWrite src v => Sys2Proof.Machine.execKnlInhWrite src v s
  | .hostWatchdogEnable src v => Sys2Proof.Machine.execHostWatchdogEnable src v s
  | .hostWatchdogKick src v => Sys2Proof.Machine.execHostWatchdogKick src v s
  | .hostWatchdogExpiry => Sys2Proof.Machine.execHostWatchdogExpiry s
  | .safetySlotExpiry aMissing bMissing => Sys2Proof.Machine.execSafetySlotExpiry aMissing bMissing s
  | .supplyGiveUp inWindow => Sys2Proof.Machine.execSupplyGiveUp inWindow s
  | .kennelPowerOn retainedOk => Sys2Proof.Machine.execKennelPowerOn retainedOk s
  | .resetRelease hostMode prio => Sys2Proof.Machine.execResetRelease hostMode prio s
  | .padRelease => Sys2Proof.Machine.execPadRelease s
  | .lastWordCommit src v => Sys2Proof.Machine.execLastWordCommit src v s
  | .lastWordSelect src v => Sys2Proof.Machine.execLastWordSelect src v s
  | .kennelPortWrite bytes => Sys2Proof.Machine.execKennelPortWrite bytes s
  | .kennelPortRead pointer => Sys2Proof.Machine.execKennelPortRead pointer s
  | .kennelPortTimeout => Sys2Proof.Machine.execKennelPortTimeout s
  | .capArm ctx set v => Sys2Proof.Machine.execCapArm ctx set v s
  | .capDisarm ctx set v => Sys2Proof.Machine.execCapDisarm ctx set v s
  | .capForce ctx set v => Sys2Proof.Machine.execCapForce ctx set v s
  | .capGlobalForce ctx v => Sys2Proof.Machine.execCapGlobalForce ctx v s
  | .capHclr ctx set v => Sys2Proof.Machine.execCapHclr ctx set v s
  | .capAck ctx set v => Sys2Proof.Machine.execCapAck ctx set v s
  | .captureBaseSample ch set => Sys2Proof.Machine.execCaptureBaseSample ch set s
  | .holdoffEnd ch set => Sys2Proof.Machine.execHoldoffEnd ch set s
  | .postprocDone ch set => Sys2Proof.Machine.execPostprocDone ch set s
  | .captureDmaGo ctx v => Sys2Proof.Machine.execCaptureDmaGo ctx v s
  | .captureDmaDone err => Sys2Proof.Machine.execCaptureDmaDone err s
  | .captureEccAbort ch set reader addr => Sys2Proof.Machine.execCaptureEccAbort ch set reader addr s
  | .recordRequest req => Sys2Proof.Machine.execRecordRequest req s
  | .recordWrite => Sys2Proof.Machine.execRecordWrite s
  | .recordCloseTimeout => Sys2Proof.Machine.execRecordCloseTimeout s
  | .recorderStartSearchEnd storeOk => Sys2Proof.Machine.execRecorderStartSearchEnd storeOk s
  | .recRptrWrite ctx v => Sys2Proof.Machine.execRecRptrWrite ctx v s
  | .storeFetchDone => Sys2Proof.Machine.execStoreFetchDone s
  | .persistBatchStart byTime failing => Sys2Proof.Machine.execPersistBatchStart byTime failing s
  | .persistBatchCommit retries => Sys2Proof.Machine.execPersistBatchCommit retries s
  | .storeFail cause slot => Sys2Proof.Machine.execStoreFail cause slot s
  | .storeRetry ctx v => Sys2Proof.Machine.execStoreRetry ctx v s
  | .storeProbeDone ok => Sys2Proof.Machine.execStoreProbeDone ok s
  | .calSet ctx v => Sys2Proof.Machine.execCalSet ctx v s
  | .calSetpps ctx v => Sys2Proof.Machine.execCalSetpps ctx v s
  | .setppsTimeout => Sys2Proof.Machine.execSetppsTimeout s
  | .ppsEdge => Sys2Proof.Machine.execPpsEdge s
  | .ppsLost => Sys2Proof.Machine.execPpsLost s
  | .dieSensorConversion n reading => Sys2Proof.Machine.execDieSensorConversion n reading s
  | .throttleWindow runPart => Sys2Proof.Machine.execThrottleWindow runPart s
  | .chselWrite ctx v => Sys2Proof.Machine.execChselWrite ctx v s
  | .counterLowRead ctx addr => Sys2Proof.Machine.execCounterLowRead ctx addr s
  | .qspiFrame frame => Sys2Proof.Machine.execQspiFrame frame s
  | .hostReset kind => Sys2Proof.Machine.execHostReset kind s
  | .intMaskWrite ctx v => Sys2Proof.Machine.execIntMaskWrite ctx v s
  | .groupOpen ctx v => Sys2Proof.Machine.execGroupOpen ctx v s
  | .groupAbort ctx v => Sys2Proof.Machine.execGroupAbort ctx v s
  | .groupStagedWrite ctx off v => Sys2Proof.Machine.execGroupStagedWrite ctx off v s
  | .groupGo ctx v => Sys2Proof.Machine.execGroupGo ctx v s
  | .groupDone => Sys2Proof.Machine.execGroupDone s
  | .mirrorWriteReceive pkt => Sys2Proof.Machine.execMirrorWriteReceive pkt s
  | .mirrorWriteAnswer seq ok reason => Sys2Proof.Machine.execMirrorWriteAnswer seq ok reason s
  | .mirrorWriteTimeout seq => Sys2Proof.Machine.execMirrorWriteTimeout seq s
  | .mirrorResync ctx v => Sys2Proof.Machine.execMirrorResync ctx v s
  | .registerWrite acc v => Sys2Proof.Machine.execRegisterWrite acc v s
  | .stage ctx v => Sys2Proof.Machine.execStage ctx v s
  | .stageFlash ctx v => Sys2Proof.Machine.execStageFlash ctx v s
  | .loadFull ctx v => Sys2Proof.Machine.execLoadFull ctx v s
  | .updOpen ctx v => Sys2Proof.Machine.execUpdOpen ctx v s
  | .updCommit ctx v => Sys2Proof.Machine.execUpdCommit ctx v s
  | .imgAbort ctx v => Sys2Proof.Machine.execImgAbort ctx v s
  | .imgDataWrite ctx v => Sys2Proof.Machine.execImgDataWrite ctx v s
  | .imageVerifyDone found => Sys2Proof.Machine.execImageVerifyDone found s
  | .flashOpDone ok => Sys2Proof.Machine.execFlashOpDone ok s
  | .repairLoadEnd ch res => Sys2Proof.Machine.execRepairLoadEnd ch res s
  | .fuseProg ctx v => Sys2Proof.Machine.execFuseProg ctx v s
  | .fuseRevoke ctx v => Sys2Proof.Machine.execFuseRevoke ctx v s
  | .fuseOpDone => Sys2Proof.Machine.execFuseOpDone s
  | .paramSave ctx v => Sys2Proof.Machine.execParamSave ctx v s
  | .paramSaveDone res => Sys2Proof.Machine.execParamSaveDone res s
  | .channelReset ctx v => Sys2Proof.Machine.execChannelReset ctx v s
  | .hostRead acc => Sys2Proof.Machine.execHostRead acc s
  | .voltageClassLatch bank milliVolt => Sys2Proof.Machine.execVoltageClassLatch bank milliVolt s
  | .refIntervalFail ref => Sys2Proof.Machine.execRefIntervalFail ref s
  | .claimCheckEnd ch => Sys2Proof.Machine.execClaimCheckEnd ch s
  | .d3hotTransition enter => Sys2Proof.Machine.execD3hotTransition enter s
  | .pcieLinkTrainingEnd gen width => Sys2Proof.Machine.execPcieLinkTrainingEnd gen width s
  | .testReset level => Sys2Proof.Machine.execTestReset level s
  | .vbatKnlChange ok => Sys2Proof.Machine.execVbatKnlChange ok s
  | .supplyReturn => Sys2Proof.Machine.execSupplyReturn s
  | .kennelPowerOff => Sys2Proof.Machine.execKennelPowerOff s

end Sys2Proof.Machine
end

