-- ==== Sys2Proof/Machine/Step.lean ====
section
/-! DEFINITION. Machine/Step.lean: a step of the block: the command at the front of the queue, or, with none waiting, one
reference cycle in which only the time passes. -/

namespace Sys2Proof.Machine

/-- One reference cycle of 10 ns without a command: the reference and the kennel oscillator count, the calendar advances, and
inner pads that follow an inhibit are off (R264, R376, R428; log 21). -/
def State.idle (s : State) : State :=
  let s := (List.finRange 12).foldl (fun s ch => s.innerFollow ch) s
  let s := { s with time := { s.time with refNs := s.time.refNs + 10 } }
  let s := if s.knl.powered then { s with knl := { s.knl with time := s.knl.time + 1 } } else s
  s.calAdvance

/-- A step: the front command with the queue's rest, or an idle cycle. -/
def step (s : State) : Host.Outcome State Fault Refusal :=
  match s.pending with
  | [] => .next s.idle
  | c :: t => exec c { s with pending := t }

/-- The command that a table word spells, put at the front of the queue: the table's rows have no bits, so no word spells
one. -/
def State.withFetchWord (s : State) (nbits w : Nat) : State :=
  match decodeTableWord nbits w with
  | some c => { s with pending := c :: s.pending }
  | none => s

end Sys2Proof.Machine
end

