-- ==== Sys2Proof/WellFormed.lean ====
section
/-! DEFINITION. WellFormed.lean: which operands a command can carry at all: values that the spec's own encodings give to the
observed event, where the operand's type is wider than they are. A command that is ill-formed stands for no event. -/

namespace Sys2Proof

/-- The opcodes that R120 lists; every other one is reserved. -/
def opcodes : List Nat :=
  [0x00, 0x01, 0x02, 0x03, 0x04, 0x05, 0x06, 0x07, 0x08, 0x09, 0x0A, 0x0B, 0x10, 0x11, 0x12, 0x13, 0x14, 0x15, 0x16, 0x17,
   0x18, 0x19, 0x1A, 0x1B, 0x20, 0x21, 0x22, 0x23, 0x24, 0x25, 0x26, 0x27, 0x28, 0x29, 0x30, 0x31, 0x38, 0x39, 0x3A, 0x3B,
   0x3F]

/-- The words of an engine memory (R110). -/
def EngMem.size : EngMem → Nat
  | .program => 4096
  | .data => 2048
  | .coef => 1024

/-- The law parameters (R166). -/
def isLawParam (off : Nat) : Bool :=
  off % 4 == 0 && ((0x1400 ≤ off && off ≤ 0x141C) || (0x1440 ≤ off && off ≤ 0x1474) || (0x1480 ≤ off && off ≤ 0x1498) ||
    off == 0x14A0 || off == 0x14C0)

/-- A BAR0 address of the context's own ranges (R461). -/
def inContext (k : Ctx) (a : Nat) : Bool :=
  (k == 0 && a < 0x8000) || (0x10000 + 0x4000 * k.val ≤ a && a < 0x14000 + 0x4000 * k.val) ||
    (0x20000 + 0x8000 * k.val ≤ a && a < 0x28000 + 0x8000 * k.val)

/-- What an engine can hold (R110). -/
def EngSection.wf (g : EngSection) : Bool :=
  g.prog.length ≤ 4096 && g.data.all (fun d => d.1 < 2048)

/-- A section as the loader can read it: 16 inputs, at most 128 taps a bank, at most 4 capture sets, registers of the channel
set. -/
def Section.wf (g : Section) : Bool :=
  g.fe.wf && g.me.wf && g.fracs.length == 16 && g.firs.all (fun f => f.taps.length ≤ 128) && g.capBase.length ≤ 4 &&
    g.regs.all (fun r => 0x0040 ≤ r.1.toNat && r.1.toNat % 4 == 0)

/-- No channel twice. -/
def distinctChans : List ChId → Bool
  | [] => true
  | ch :: t => !t.contains ch && distinctChans t

/-- An image as verification can find it. -/
def ImageObs.wf (v : ImageObs) : Bool := distinctChans (v.contents.map (·.1)) && v.contents.all (fun x => x.2.wf)

/-- Whether a command's operands are ones that its event can have. -/
def Instr.wf : Instr → Bool
  | .tickBoundary _ env => env.meas != 0
  | .carrierUpdatePoint _ => true
  | .refreshInsert _ _ => true
  | .tickOverrun _ _ => true
  | .lockstepMismatch _ _ _ cls => 1 ≤ cls.toNat && cls.toNat ≤ 6
  | .uncorrectableEcc _ _ mem addr _ => addr.toNat < mem.size
  | .fabricParityError _ _ => true
  | .mirrorFrameSend _ _ => true
  | .nop _ _ => true
  | .ldi _ _ _ => true
  | .mov _ _ _ _ => true
  | .ld _ _ _ _ => true
  | .ldx _ _ _ _ _ => true
  | .st _ _ _ _ => true
  | .stx _ _ _ _ _ => true
  | .inPort _ _ _ _ => true
  | .mailboxWaitEnd _ => true
  | .outPort _ _ _ _ _ => true
  | .pub _ _ _ _ _ => true
  | .ldc _ _ _ _ => true
  | .sel _ _ _ _ _ => true
  | .add _ _ _ _ _ _ => true
  | .sub _ _ _ _ _ _ => true
  | .neg _ _ _ _ _ => true
  | .abs _ _ _ _ _ => true
  | .min _ _ _ _ _ => true
  | .max _ _ _ _ _ => true
  | .cmp _ _ _ _ => true
  | .and _ _ _ _ _ => true
  | .or _ _ _ _ _ => true
  | .xor _ _ _ _ _ => true
  | .ash _ _ _ _ _ _ => true
  | .lsh _ _ _ _ _ => true
  | .mul _ _ _ _ _ _ => true
  | .mulv _ _ _ _ _ _ _ => true
  | .clr _ _ _ => true
  | .lda _ _ _ _ => true
  | .mac _ _ _ _ _ => true
  | .msu _ _ _ _ _ => true
  | .dmac _ _ _ _ _ _ => true
  | .pmac _ _ _ _ _ => true
  | .macv _ _ _ _ _ _ => true
  | .ext _ _ _ _ _ _ => true
  | .div _ _ _ _ _ _ _ => true
  | .sqrt _ _ _ _ _ _ => true
  | .br _ _ _ => true
  | .call _ _ => true
  | .ret _ _ => true
  | .loop _ _ _ => true
  | .tend _ _ => true
  | .reservedOpcode _ op => !(opcodes.contains op.toNat)
  | .firOutput _ _ bits _ => 1 ≤ bits.length && bits.length ≤ 32768
  | .chainOutput _ _ _ => true
  | .substituteWord _ _ => true
  | .mclkLoss _ _ => true
  | .clockRecovery _ _ => true
  | .fastPathFillEnd _ _ bits => bits.length ≤ 63
  | .fastComparatorChange _ _ _ => true
  | .skarm _ _ => true
  | .skewCrossing _ _ _ bits _ _ => bits.length == 47
  | .skewWindowExpiry _ _ => true
  | .firCdatWrite _ _ _ => true
  | .firXfGo _ _ _ => true
  | .firBankWrite _ _ _ => true
  | .dcbEstWrite _ _ _ => true
  | .sdiTrimWrite _ _ _ => true
  | .sdiSrcWrite _ _ _ => true
  | .engCdatWrite _ _ => true
  | .engDdatWrite _ _ => true
  | .engDdatRead _ => true
  | .engDdatReadServe _ => true
  | .lawParamWrite _ off _ => isLawParam off.toNat
  | .measLost _ _ => true
  | .limRelease _ => true
  | .modeRequest _ _ => true
  | .safeLatchClear _ _ => true
  | .preDone _ => true
  | .prechargeTimeout _ => true
  | .deadBusTimeout _ => true
  | .busFoundLive _ => true
  | .bsDone _ => true
  | .rsyMatchComplete _ => true
  | .resyncTimeout _ => true
  | .rideReturn _ => true
  | .rideTimeout _ => true
  | .handoverBlendEnd _ => true
  | .packChip _ _ => true
  | .packCodePeriod _ => true
  | .fingerAcquired _ _ => true
  | .fingerLost _ _ => true
  | .packFrameReceived _ _ => true
  | .packFrameEnd _ => true
  | .packDuplicate _ => true
  | .packBackoffEnd _ => true
  | .stiffSet _ => true
  | .stiffClear _ => true
  | .packEnable _ _ => true
  | .packDisable _ _ => true
  | .packPselWrite _ _ => true
  | .driverFaultFiltered _ _ _ => true
  | .blankingEnd _ _ => true
  | .tsoftExpiry _ _ => true
  | .toffExpiry _ => true
  | .tordExpiry _ _ => true
  | .desatWindowClose _ => true
  | .legFaultRelease _ _ => true
  | .legOffTimeout _ _ => true
  | .tripClear _ _ => true
  | .brakeMinTimeExpiry _ => true
  | .calFail _ => true
  | .refActivityWindow _ _ => true
  | .refMismatchWindow _ => true
  | .refEdgeMissing _ _ => true
  | .bandSearchEnd _ _ => true
  | .lockWindow _ _ _ => true
  | .lockTimeout _ => true
  | .ceilingGuard _ _ => true
  | .channelStart _ => true
  | .pllRelock _ _ => true
  | .pllRampGo _ _ => true
  | .pllRampHold _ _ => true
  | .pllLevel _ _ => true
  | .rampSegmentEnd _ _ => true
  | .hostPllLock => true
  | .hostPllLoss => true
  | .linkTrainingEnd rsp => rsp.mlids.length == 12
  | .retrain _ _ => true
  | .linkDown _ _ => true
  | .mirrorFrameReceive _ _ => true
  | .heartbeatSend => true
  | .heartbeatReceive _ => true
  | .heartbeatTimeout => true
  | .leashToggle _ => true
  | .leashStateChange _ _ => true
  | .leashReadbackFault _ _ => true
  | .leashClaim _ _ => true
  | .leashRelease _ _ => true
  | .releaseGuardExpiry _ => true
  | .alignLocked _ => true
  | .alignUnlocked _ => true
  | .houndTestEnd _ _ _ => true
  | .houndHealthReport => true
  | .testEnd _ => true
  | .safetyStrobe env => env.a.length == 12 && env.b.length == 12
  | .discrepancyLatch _ => true
  | .contactorSettleEnd _ _ => true
  | .contactorDebounceEnd _ _ => true
  | .safetyFrameSubmit _ _ => true
  | .bcWatchdogExpiry => true
  | .safetyFramePublish => true
  | .safTxf0Read _ => true
  | .safetyParamWrite _ _ _ => true
  | .safetyCheckDone _ _ => true
  | .safetyConfirm _ _ => true
  | .ackDisc _ => true
  | .ackCont _ => true
  | .ginhSet _ => true
  | .ginhClr _ _ => true
  | .snSet _ => true
  | .snClr _ _ => true
  | .krst _ _ => true
  | .knlInhWrite _ _ => true
  | .hostWatchdogEnable _ _ => true
  | .hostWatchdogKick _ _ => true
  | .hostWatchdogExpiry => true
  | .safetySlotExpiry _ _ => true
  | .supplyGiveUp inWindow => inWindow != 0xF
  | .supplyReturn => true
  | .kennelPowerOn _ => true
  | .kennelPowerOff => true
  | .resetRelease _ _ => true
  | .padRelease => true
  | .lastWordCommit _ _ => true
  | .lastWordSelect _ _ => true
  | .kennelPortWrite _ => true
  | .kennelPortRead _ => true
  | .kennelPortTimeout => true
  | .capArm _ _ _ => true
  | .capDisarm _ _ _ => true
  | .capForce _ _ _ => true
  | .capGlobalForce _ _ => true
  | .capHclr _ _ _ => true
  | .capAck _ _ _ => true
  | .captureBaseSample _ _ => true
  | .holdoffEnd _ _ => true
  | .postprocDone _ _ => true
  | .captureDmaGo _ _ => true
  | .captureDmaDone _ => true
  | .captureEccAbort _ _ _ _ => true
  | .recordRequest req => req.sev.toNat ≤ 3 && (req.chan.toNat < 12 || req.chan == 0xF)
  | .recordWrite => true
  | .recordCloseTimeout => true
  | .recorderStartSearchEnd _ => true
  | .recRptrWrite _ _ => true
  | .storeFetchDone => true
  | .persistBatchStart _ _ => true
  | .persistBatchCommit retries => retries ≤ 54
  | .storeFail _ _ => true
  | .storeRetry _ _ => true
  | .storeProbeDone _ => true
  | .calSet _ _ => true
  | .calSetpps _ _ => true
  | .setppsTimeout => true
  | .ppsEdge => true
  | .ppsLost => true
  | .dieSensorConversion _ _ => true
  | .throttleWindow _ => true
  | .chselWrite _ _ => true
  | .counterLowRead k addr => inContext k addr.toNat
  | .qspiFrame frame => frame.bytes.length ≤ 9
  | .hostReset _ => true
  | .intMaskWrite _ _ => true
  | .groupOpen _ _ => true
  | .groupAbort _ _ => true
  | .groupStagedWrite _ off _ => 0x0100 ≤ off.toNat && off.toNat % 4 == 0
  | .groupGo _ _ => true
  | .groupDone => true
  | .mirrorWriteReceive pkt => pkt.coef.isSome == (pkt.off == 0x0C04)
  | .mirrorWriteAnswer _ ok reason => if ok then reason == 0 else reason == 3 || reason == 4
  | .mirrorWriteTimeout _ => true
  | .mirrorResync _ _ => true
  | .registerWrite _ _ => true
  | .stage _ _ => true
  | .stageFlash _ _ => true
  | .loadFull _ _ => true
  | .updOpen _ _ => true
  | .updCommit _ _ => true
  | .imgAbort _ _ => true
  | .imgDataWrite _ _ => true
  | .imageVerifyDone img => img.wf
  | .flashOpDone _ => true
  | .repairLoadEnd _ _ => true
  | .fuseProg _ _ => true
  | .fuseRevoke _ _ => true
  | .fuseOpDone => true
  | .paramSave _ _ => true
  | .paramSaveDone _ => true
  | .channelReset _ _ => true
  | .hostRead _ => true
  | .voltageClassLatch _ _ => true
  | .refIntervalFail _ => true
  | .claimCheckEnd _ => true
  | .d3hotTransition _ => true
  | .pcieLinkTrainingEnd gen width => gen != 0 && (width == 1 || width == 2)
  | .testReset _ => true
  | .vbatKnlChange _ => true

end Sys2Proof
end

