-- ==== Sys2Proof/Safety.lean ====
section
/-! DEFINITION. Safety.lean: the terms in which claims speak of a run: when an engine executes, when a host access reaches its
block, what an exact result becomes in a register, and when a run's engine commands are its programs' words. -/

namespace Sys2Proof.Machine

/-! ## Engines -/

/-- The engine runs and the instruction's condition holds: it executes, and is no NOP (R118). -/
def State.executes (s : State) (x : Site) (cc : BitVec 4) : Prop :=
  (s.eng x).run = .running ∧ condHolds (s.eng x).fl (s.eng x).fst cc = true

/-- An exact integer in `w` bits of two's complement (R113, R115): wrapped modulo 2^w, or clamped. -/
def inRange (w : Nat) (wrap : Bool) (y : Int) : Int :=
  if wrap then y.bmod (2 ^ w) else max (-2 ^ (w - 1)) (min (2 ^ (w - 1) - 1) y)

/-- `narrow` of R115 on an exact value in units of the register's last bit: the result, and V. -/
def narrowed (floorRm wrap : Bool) (q : Rat) : Word × Bool :=
  let y := if floorRm then q.floor else (q + 1 / 2).floor
  (BitVec.ofInt 32 (inRange 32 wrap y), inRange 32 wrap y != y)

/-- A multiply-accumulate's term X × C × 2^k in an accumulator's last bit, rounded toward −infinity, and whether it was
brought into range (R114). -/
def macTermOf (x : Word) (c : Coef) : Int × Bool :=
  let y := ((x.toInt * c.mant.toInt : Int) * (2 : Rat) ^ c.shift.toInt).floor
  (inRange 72 (c.sat == 1) y, inRange 72 (c.sat == 1) y != y)

/-- An accumulator after a term `t` is added, by a coefficient's saturation mode: its value, and V (R114). -/
def accPlus (acc : BitVec 72) (c : Coef) (t : Int × Bool) : BitVec 72 × Bool :=
  let y := acc.toInt + t.1
  (BitVec.ofInt 72 (inRange 72 (c.sat == 1) y), t.2 || inRange 72 (c.sat == 1) y != y)

/-- The engine after a result: vD, and Z, N, V from it (R117). -/
def Engine.withResult (e : Engine) (d : VReg) (r : Word) (v : Bool) : Engine :=
  { e with v := e.v.set d r, fl := { e.fl with z := r == 0, n := r.msb, v := v } }

/-- The commands at which a program breaks R121's rule of nesting: CALL with eight calls open, LOOP with two loops open, RET
with no call open. -/
def State.breaksStacks (s : State) : Instr → Prop
  | .call x _ => (s.eng x).run = .running ∧ 8 ≤ (s.eng x).calls.length
  | .loop x _ _ => (s.eng x).run = .running ∧ 2 ≤ (s.eng x).loops.length
  | .ret x cc => s.executes x cc ∧ (s.eng x).calls = []
  | _ => False

/-- A queue of commands is faithful to the programs if its next engine command is the word at its engine's program counter
(R110, R119; log 23). -/
def State.faithful (s : State) : Prop :=
  ∀ c t, s.pending = c :: t → ∀ w, encodeEngine c = some w → ∀ x : Site,
    instrOf x (WordFields.ofWord w) = some c → sget (fun _ => 0) (s.eng x).prog (s.eng x).pc.toNat = w

/-- The address of the word that follows where no jump is taken, with the loops then open (R120): a loop whose last word
has run begins again while an iteration remains, else it closes and the loop around it decides. -/
inductive LoopStep : BitVec 12 → List LoopFrame → BitVec 12 → List LoopFrame → Prop
  | none (pc : BitVec 12) : LoopStep pc [] (pc + 1) []
  | inside (pc : BitVec 12) (f : LoopFrame) (t : List LoopFrame) (h : f.tgt ≠ pc) : LoopStep pc (f :: t) (pc + 1) (f :: t)
  | again (pc : BitVec 12) (f : LoopFrame) (t : List LoopFrame) (n : Nat) (h : f.tgt = pc) (hn : f.rem = n + 1) :
      LoopStep pc (f :: t) f.start ({ f with rem := n } :: t)
  | done (pc : BitVec 12) (f : LoopFrame) (t : List LoopFrame) (p : BitVec 12) (u : List LoopFrame) (h : f.tgt = pc)
      (hn : f.rem = 0) (ht : LoopStep pc t p u) : LoopStep pc (f :: t) p u

/-! ## Reports -/

/-- `t` is `s` with at most event records requested and interrupts raised (R421, R469): nothing else differs. -/
def State.reports (s t : State) : Prop :=
  t = { s with g := t.g, rcd := t.rcd, host := { s.host with msgs := t.host.msgs, pba := t.host.pba } } ∧
    ∀ o, o ≠ Reg.REC_CNT → o ≠ Reg.INT_STAT → t.gget o = s.gget o

/-! ## The host -/

/-- The port answers: the device is out of reset, and the function is not in D3hot (R459, R460). -/
def State.serves (s : State) : Prop := s.knl.up = true ∧ (s.pcie && s.gbit Reg.HOST_STAT Fld.HOST_STAT_D3) = false

/-- Context `k` reaches the registers of channel `ch`, which is not in REPAIR, and does not stage (R463, R471, R479). -/
def State.reaches (s : State) (k : Ctx) (ch : ChId) : Prop :=
  s.serves ∧ s.selected k = some ch ∧ (s.chan ch).mode ≠ 11 ∧
    getField s.host.ctxs[k].chsel Fld.CTX_CHSEL_STAGE = 0

/-- The channel registers whose accepted writes wait for the next tick boundary and do nothing else on their arrival (R10,
R32): no sticky bits, no counters, no ports, no commands that act at once, no profile that a write takes. -/
def waitsForBoundary (off : Nat) : Bool :=
  match findRow chanRows off with
  | none => false
  | some r => off % 4 == 0 && decide (0x10 ≤ off) && decide (off < 0x3000) && !r.counter && !(r.rw == 0 && r.rwl == 0) &&
      r.w1c == 0 && r.rws == 0 && !plainAtOnce off && !commandReg off && !isPort off &&
      !([Reg.CH_MODE_REQ, Reg.PWM_TRIP, Reg.CH_SAFE_LATCH, Reg.PLL_CTL, Reg.SDI_CHCTL, Reg.PLL_RAMP, Reg.PLL_LEVEL,
        Reg.LAW_STAT].contains off)

/-- The state after the port has answered a request (R460). -/
def State.answered (s : State) : State := { s with host := { s.host with unsupported := false } }

/-- The value keeps every RO bit of a channel register (R10, R528). -/
def State.keepsRo (s : State) (k : Ctx) (ch : ChId) (off : Nat) (v : Word) : Prop :=
  roBroken (findRow chanRows off) (s.chanValue k ch off) v = false

/-- The value keeps every RO bit of a global register. -/
def State.keepsRoG (s : State) (k : Ctx) (off : Nat) (v : Word) : Prop :=
  roBroken (findRow globalRows off) (s.globalValue k off) v = false

/-! ## The whole machine -/

/-- What every step keeps: the last-word bank holds at most 32 entries (R386), the capture DMA's queue at most 16
descriptors (R411), and the capture SRAM lists its words by rising address, none that reads as unwritten. -/
def State.Inv (s : State) : Prop :=
  s.knl.bank.length ≤ 32 ∧ s.dma.queue.length ≤ 16 ∧ Memory.wf s.sram = true

end Sys2Proof.Machine
end

