-- ==== Sys2Proof/Certificates/Slice0/Obligations.lean ====
section
/-! DEFINITION. Certificates/Slice0/Obligations.lean: what is claimed of the model, a statement for each group of commands
of one shape, and the statements about the whole machine. -/

open Sys2Proof Sys2Proof.Machine

/-! ## The engines (04_control_engines.md) -/

/-- R110, R120: LDI, MOV, LDC and SEL write vD and nothing else, in one cycle; LD and LDX read the data word at M, or at
(X[10:0] + M) mod 2,048, into vD; ST and STX write vA there, every other data word reads as before, and no register or flag
changes. Completes with its own effect: LDI, MOV, LD, LDX, ST, STX, LDC, SEL. -/
def Obligations.EngineMovesAndMemory : Prop :=
  (∀ (s : State) (x : Site) (cc : BitVec 4) (d a b : VReg) (k : BitVec 10) (imm : Word),
      (s.eng x).run = .running →
      exec (.ldi x d imm) s = .next (s.putEng x (((s.eng x).wv d imm).retire 1)) ∧
      exec (.sel x cc d a b) s = .next (s.putEng x (((s.eng x).wv d
        (if condHolds (s.eng x).fl (s.eng x).fst cc then (s.eng x).rv a else (s.eng x).rv b)).retire 1)) ∧
      (s.executes x cc →
        exec (.mov x cc d a) s = .next (s.putEng x (((s.eng x).wv d ((s.eng x).rv a)).retire 1)) ∧
        exec (.ldc x cc d k) s = .next (s.putEng x (((s.eng x).wv d ((s.eng x).getCoef k.toNat).mant).retire 1)))) ∧
  (∀ (s : State) (x : Site) (cc : BitVec 4) (d a b : VReg) (m : BitVec 11), s.executes x cc →
      let e := s.eng x
      let at_ := fun r : VReg => (((e.rv r).extractLsb' 0 11).toNat + m.toNat) % 2048
      exec (.ld x cc d m) s = .next (s.putEng x ((e.wv d (e.getData m.toNat)).retire 1)) ∧
      exec (.ldx x cc d a m) s = .next (s.putEng x ((e.wv d (e.getData (at_ a))).retire 1)) ∧
      (∃ data, exec (.st x cc a m) s = .next (s.putEng x (({ e with data := data } : Engine).retire 1)) ∧
        ∀ j, sget (fun _ => 0) data j = if j = m.toNat then e.rv a else e.getData j) ∧
      (∃ data, exec (.stx x cc a b m) s = .next (s.putEng x (({ e with data := data } : Engine).retire 1)) ∧
        ∀ j, sget (fun _ => 0) data j = if j = at_ b then e.rv a else e.getData j))

/-- R115, R117, R120: ADD, SUB, NEG and ABS give the exact integer in 32 bits, clamped or wrapped by RM bit 1; Z and N from
the result, V where the range changed the value. MIN, MAX, AND, OR, XOR and LSH write vD with Z and N from it and V clear;
CMP sets Z and N from the exact difference, clears V, and writes no register. Completes with its own effect: ADD, SUB, NEG,
ABS, MIN, MAX, CMP, AND, OR, XOR, LSH. -/
def Obligations.EngineIntegers : Prop :=
  (∀ (s : State) (x : Site) (cc : BitVec 4) (rm : BitVec 2) (d a b : VReg), s.executes x cc →
      let e := s.eng x
      let wrap := rm.getLsbD 1
      let done := fun y : Int => Host.Outcome.next (φ := Fault) (ρ := Refusal) (s.putEng x ((e.withResult d
        (BitVec.ofInt 32 (inRange 32 wrap y)) (inRange 32 wrap y != y)).retire 1))
      exec (.add x cc rm d a b) s = done ((e.rv a).toInt + (e.rv b).toInt) ∧
      exec (.sub x cc rm d a b) s = done ((e.rv a).toInt - (e.rv b).toInt) ∧
      exec (.neg x cc rm d a) s = done (-(e.rv a).toInt) ∧
      exec (.abs x cc rm d a) s = done |(e.rv a).toInt|) ∧
  (∀ (s : State) (x : Site) (cc : BitVec 4) (sh : BitVec 5) (d a b : VReg), s.executes x cc →
      let e := s.eng x
      let done := fun r : Word => Host.Outcome.next (φ := Fault) (ρ := Refusal) (s.putEng x ((e.withResult d r false).retire 1))
      exec (.min x cc d a b) s = done (if (e.rv a).toInt ≤ (e.rv b).toInt then e.rv a else e.rv b) ∧
      exec (.max x cc d a b) s = done (if (e.rv b).toInt ≤ (e.rv a).toInt then e.rv a else e.rv b) ∧
      exec (.and x cc d a b) s = done (e.rv a &&& e.rv b) ∧
      exec (.or x cc d a b) s = done (e.rv a ||| e.rv b) ∧
      exec (.xor x cc d a b) s = done (e.rv a ^^^ e.rv b) ∧
      exec (.lsh x cc sh d a) s = done
        (if 0 ≤ sh.toInt then BitVec.ofNat 32 ((e.rv a).toNat * 2 ^ sh.toInt.toNat)
          else BitVec.ofNat 32 ((e.rv a).toNat / 2 ^ (-sh.toInt).toNat)) ∧
      exec (.cmp x cc a b) s = .next (s.putEng x (({ e with fl := { e.fl with
        z := decide ((e.rv a).toInt - (e.rv b).toInt = 0), n := decide ((e.rv a).toInt - (e.rv b).toInt < 0),
        v := false } } : Engine).retire 1)))

/-- R113, R115, R120: ASH, MULV, EXT and MUL narrow the exact value times a power of two; MUL takes its range step from the
coefficient's saturation mode, and a clamp under mode 2 sets CSAT. Completes with its own effect: ASH, MUL, MULV, EXT. -/
def Obligations.EngineScaled : Prop :=
  ∀ (s : State) (x : Site) (cc : BitVec 4) (rm : BitVec 2) (sh : BitVec 5) (ac : Bool) (d a b : VReg) (k : BitVec 10),
    s.executes x cc →
    let e := s.eng x
    let done := fun (wrap : Bool) (q : Rat) =>
      s.putEng x ((e.withResult d (narrowed (rm.getLsbD 0) wrap q).1 (narrowed (rm.getLsbD 0) wrap q).2).retire 1)
    exec (.ash x cc rm sh d a) s = .next (done (rm.getLsbD 1) ((e.rv a).toInt * 2 ^ sh.toInt)) ∧
    exec (.mulv x cc rm sh d a b) s =
      .next (done (rm.getLsbD 1) ((e.rv a).toInt * (e.rv b).toInt * 2 ^ (sh.toInt - 31))) ∧
    exec (.ext x cc rm sh ac d) s = .next (done (rm.getLsbD 1) ((e.acc ac).toInt * 2 ^ (sh.toInt - 31))) ∧
    (let c := e.getCoef k.toNat
     let q : Rat := (e.rv a).toInt * c.mant.toInt * 2 ^ (c.shift.toInt - 31)
     exec (.mul x cc rm d a k) s = .next ((done (c.sat == 1) q).setCsat x
       ((narrowed (rm.getLsbD 0) (c.sat == 1) q).2 && c.sat == 2)))

/-- R114, R117, R120: CLR, LDA, MAC, MSU, DMAC, PMAC and MACV write the accumulators they name and, all but CLR, V, and
leave Z and N; the terms of DMAC and PMAC take coefficients K and (K + 1) mod 1,024, each with its own saturation mode.
Completes with its own effect: CLR, LDA, MAC, MSU, DMAC, PMAC, MACV. -/
def Obligations.EngineAccumulators : Prop :=
  ∀ (s : State) (x : Site) (cc : BitVec 4) (rm : BitVec 2) (ac : Bool) (a b : VReg) (k : BitVec 10), s.executes x cc →
    let e := s.eng x
    let c := e.getCoef k.toNat
    let c' := e.getCoef ((k.toNat + 1) % 1024)
    let put := fun (r : BitVec 72 × Bool) => { e.setAcc ac r.1 with fl := { e.fl with v := r.2 } }
    let t := macTermOf (e.rv a) c
    let t' := macTermOf (e.rv b) c'
    let done := fun (e' : Engine) (csat : Bool) =>
      Host.Outcome.next (φ := Fault) (ρ := Refusal) ((s.putEng x (e'.retire 1)).setCsat x csat)
    exec (.clr x cc ac) s = done (e.setAcc ac 0) false ∧
    exec (.lda x cc ac a) s = done (put (BitVec.ofInt 72 ((e.rv a).toInt * 2 ^ 31), false)) false ∧
    (let r := accPlus (e.acc ac) c t
     exec (.mac x cc ac a k) s = done (put r) (r.2 && c.sat == 2)) ∧
    (let r := accPlus (e.acc ac) c (-t.1, t.2)
     exec (.msu x cc ac a k) s = done (put r) (r.2 && c.sat == 2)) ∧
    (let r := accPlus (e.acc ac) c t
     let q := accPlus r.1 c' t'
     exec (.dmac x cc ac a b k) s = done (put (q.1, r.2 || q.2)) (r.2 && c.sat == 2 || q.2 && c'.sat == 2)) ∧
    (let r := accPlus e.acc0 c t
     let q := accPlus e.acc1 c' t'
     exec (.pmac x cc a b k) s = done { e with acc0 := r.1, acc1 := q.1, fl := { e.fl with v := r.2 || q.2 } }
       (r.2 && c.sat == 2 || q.2 && c'.sat == 2)) ∧
    (let y := (e.acc ac).toInt + (e.rv a).toInt * (e.rv b).toInt
     let z := inRange 72 (rm.getLsbD 1) y
     exec (.macv x cc rm ac a b) s = done (put (BitVec.ofInt 72 z, z != y)) false)

/-- R115, R120: DIV narrows the exact quotient in 34 cycles, with its three results for a zero divisor; SQRT narrows the
exact root in 18 cycles, and gives 0 with V for a negative operand. Completes with its own effect: DIV, SQRT. -/
def Obligations.EngineDivideAndRoot : Prop :=
  ∀ (s : State) (x : Site) (cc : BitVec 4) (rm : BitVec 2) (sh : BitVec 5) (d a b : VReg), s.executes x cc →
    let e := s.eng x
    let X := (e.rv a).toInt
    let Y := (e.rv b).toInt
    let done := fun (n : Nat) (r : Word × Bool) =>
      Host.Outcome.next (φ := Fault) (ρ := Refusal) (s.putEng x ((e.withResult d r.1 r.2).retire n))
    (Y ≠ 0 → exec (.div x cc rm sh d a b) s =
      done 34 (narrowed (rm.getLsbD 0) (rm.getLsbD 1) (X * 2 ^ (31 + sh.toInt) / Y))) ∧
    (Y = 0 → exec (.div x cc rm sh d a b) s =
      done 34 (BitVec.ofInt 32 (if 0 < X then 2 ^ 31 - 1 else if X < 0 then -2 ^ 31 else 0), true)) ∧
    (X < 0 → exec (.sqrt x cc rm sh d a) s = done 18 (0, true)) ∧
    (0 ≤ X → exec (.sqrt x cc rm sh d a) s =
      (let root := Real.sqrt (X * 2 ^ (31 + sh.toInt))
       let y := if rm.getLsbD 0 then ⌊root⌋ else ⌊root + 1 / 2⌋
       done 18 (BitVec.ofInt 32 (inRange 32 (rm.getLsbD 1) y), inRange 32 (rm.getLsbD 1) y != y)))

/-- R120: after NOP the engine goes on with the next word, or with the first word of a loop whose last word this was; BR,
CALL and RET jump in two cycles; LOOP opens a loop over the following words. Beyond the stacks' depths (R110, R121) CALL,
LOOP and RET stop with the fault that says the program breaks R121 (the model's own stop: R121 gives no effect). Completes
with its own effect: NOP, BR, CALL, RET, LOOP. -/
def Obligations.EngineFlow : Prop :=
  ∀ (s : State) (x : Site) (cc : BitVec 4) (count : BitVec 10) (tgt : BitVec 12), s.executes x cc →
    let e := s.eng x
    (∃ pc loops, LoopStep e.pc e.loops pc loops ∧
      exec (.nop x cc) s = .next (s.putEng x { e with pc := pc, loops := loops, cycle := e.cycle + 1 })) ∧
    exec (.br x cc tgt) s = .next (s.putEng x { e with pc := tgt, cycle := e.cycle + 2 }) ∧
    (e.calls.length < 8 → ∃ pc loops, LoopStep e.pc e.loops pc loops ∧ exec (.call x tgt) s =
      .next (s.putEng x { e with pc := tgt, loops := loops, calls := pc :: e.calls, cycle := e.cycle + 2 })) ∧
    (∀ r t, e.calls = r :: t → exec (.ret x cc) s =
      .next (s.putEng x { e with pc := r, calls := t, cycle := e.cycle + 2 })) ∧
    (e.loops.length < 2 → exec (.loop x count tgt) s =
      .next (s.putEng x { e with pc := e.pc + 1, loops := ⟨e.pc + 1, tgt, count.toNat⟩ :: e.loops, cycle := e.cycle + 1 })) ∧
    (8 ≤ e.calls.length → exec (.call x tgt) s = .fault .engineStackRule) ∧
    (2 ≤ e.loops.length → exec (.loop x count tgt) s = .fault .engineStackRule) ∧
    (e.calls = [] → exec (.ret x cc) s = .fault .engineStackRule)

/-- R118: the sixteen conditions of CC, and an instruction whose condition is false executes as a NOP of one cycle; LDI,
SEL, CALL and LOOP have no condition. An engine that has ended its tick, waits or is stopped executes nothing. -/
def Obligations.EngineConditions : Prop :=
  (∀ (g : Flags) (fst : Bool), (List.range 16).map (fun n => condHolds g fst (BitVec.ofNat 4 n)) =
    [true, g.z, !g.z, g.n, !g.n, !g.n && !g.z, g.n || g.z, g.v, !g.v, g.tu, g.ts, g.tt, g.tx,
     g.tu || g.ts || g.tt || g.tx, !g.tu && !g.ts && !g.tt && !g.tx, fst]) ∧
  ∀ (s : State) (x : Site) (f : WordFields) (i : Instr), instrOf x f = some i →
    ((s.eng x).run = .running → condHolds (s.eng x).fl (s.eng x).fst f.cc = false → f.op ∉ [0x01, 0x0B, 0x39, 0x3B] →
      exec i s = .next (s.putEng x ((s.eng x).retire 1))) ∧
    ((s.eng x).run ≠ .running → exec i s = .next s)

/-- R117, R122 to R126, R213: IN from the input slots, the set-point slots (slot 0 with the pack deviation), the mailbox,
the tick's words, ENG_LOOP_OPEN and the law registers: the value in vD and the tag flags. An empty mailbox entry gives 0
with V and counts where the other engine idles, else the engine waits, and MAILBOX_WAIT_END ends the wait. OUT of a duty
word, a set-point slot, a mailbox entry and the tracking declaration; DUTY_DONE in time fixes the duty words. PUB posts the
value with the tag (R24, R25). Completes with its own effect: IN, MAILBOX_WAIT_END, OUT, PUB. -/
def Obligations.EnginePorts : Prop :=
  (∀ (s : State) (x : Site) (cc : BitVec 4) (d : VReg) (m : BitVec 11), s.executes x cc →
      let c := s.chan x.ch
      let e := s.eng x
      let got := fun (w : Word) (tag : BitVec 4) => Host.Outcome.next (φ := Fault) (ρ := Refusal) (s.putEng x
        (({ e with v := e.v.set d w, fl := { e.fl with tu := tag.getLsbD 0, ts := tag.getLsbD 1, tt := tag.getLsbD 2,
                                                         tx := tag.getLsbD 3 } } : Engine).retire 1))
      let mailed := fun (e : Engine) (d : VReg) (w : Word) (v : Bool) (n : Nat) => (({ e with
        v := e.v.set d w, run := .running, cycle := max e.cycle n,
        fl := { e.fl with v := v, tu := false, ts := false, tt := false, tx := false } } : Engine).retire 1)
      let o := c.engine (otherEng x.eng)
      (∀ j : Fin 64, m.toNat = j.val → exec (.inPort x cc d m) s = got (e.slots[j]).data (e.slots[j]).tag) ∧
      (x.eng = .fe → (m.toNat = 0x40 → exec (.inPort x cc d m) s = got (BitVec.ofInt 32 (c.sp[0].toInt + c.packDev)) 0) ∧
        (∀ j : Fin 16, j ≠ 0 → m.toNat = 0x40 + j.val → exec (.inPort x cc d m) s = got c.sp[j] 0)) ∧
      (∀ j : Fin 4, m.toNat = 0x50 + j.val →
        (∀ w n, e.mail[j] = some ⟨w, n⟩ → exec (.inPort x cc d m) s = .next (s.putEng x (mailed e d w false n))) ∧
        (e.mail[j] = none → o.run = .idle →
          exec (.inPort x cc d m) s = .next ((s.putEng x (mailed e d 0 true o.cycle)).countCh x.ch Reg.ENG_CNT true false)) ∧
        (e.mail[j] = none → o.run ≠ .idle →
          exec (.inPort x cc d m) s = .next (s.putEng x { e with run := .waiting d j }))) ∧
      (m.toNat = 0x60 → exec (.inPort x cc d m) s =
        got (c.get (match x.eng with | .fe => Reg.CH_PERIOD | .me => Reg.CH_PERIOD_OUT)) 0) ∧
      (m.toNat = 0x61 → exec (.inPort x cc d m) s = got (BitVec.ofNat 32 c.tick) 0) ∧
      (m.toNat = 0x62 → exec (.inPort x cc d m) s =
        got (BitVec.ofNat 32 (c.mode + (if c.outer then 2 ^ 4 else 0) + (if s.owns x.ch then 2 ^ 5 else 0))) 0) ∧
      (m.toNat = 0x64 → exec (.inPort x cc d m) s =
        got (c.get (match x.eng with | .fe => Reg.ENG_LOOP_OPEN_FE | .me => Reg.ENG_LOOP_OPEN_ME)) 0) ∧
      (∀ off, 0x100 ≤ m.toNat → m.toNat < 0x400 → off = 0x1400 + 4 * (m.toNat - 0x100) → (findRow chanRows off).isSome →
        off ≠ Reg.LAW_IMAX → off ≠ Reg.LAW_TVI_ITH → exec (.inPort x cc d m) s = got (c.get off) 0) ∧
      (∀ (u : State) (r : VReg) (j : Fin 4) (w : Word) (n : Nat), (u.eng x).run = .waiting r j →
        (u.eng x).mail[j] = some ⟨w, n⟩ →
        exec (.mailboxWaitEnd x) u = .next (u.putEng x (mailed (u.eng x) r w false n)))) ∧
  (∀ (s : State) (ch : ChId) (cc : BitVec 4) (a b : VReg) (m : BitVec 11),
      (let x : Site := ⟨ch, .fe⟩
       let X := (s.eng x).rv a
       s.executes x cc →
        (∀ j : Fin 12, m.toNat = 0x400 + j.val → exec (.outPort x cc a b m) s = .next ((s.onChan ch fun c =>
          { c with duty := { c.duty with words := c.duty.words.set j X } }).onEng x fun e => e.retire 1)) ∧
        (m.toNat = 0x40F → (s.chan ch).duty.done = false →
          (s.eng x).cycle + 8 ≤ (s.chan ch).fld Reg.CH_TICK_DIV Fld.CH_TICK_DIV_LEAD →
          exec (.outPort x cc a b m) s = .next ((s.onChan ch fun c =>
            { c with duty := { c.duty with loaded := c.duty.words, done := true } }).onEng x fun e => e.retire 1)) ∧
        (m.toNat = 0x40F → (s.chan ch).duty.done = true →
          exec (.outPort x cc a b m) s = .next (s.onEng x fun e => e.retire 1)) ∧
        (∀ j : Fin 4, m.toNat = 0x420 + j.val → exec (.outPort x cc a b m) s =
          .next ((s.onEng ⟨ch, .me⟩ fun e => { e with mail := e.mail.set j (some ⟨X, (s.eng x).cycle⟩) }).onEng x
            fun e => e.retire 1))) ∧
      (let x : Site := ⟨ch, .me⟩
       let X := (s.eng x).rv a
       s.executes x cc →
        (∀ j : Fin 16, m.toNat = 0x410 + j.val → exec (.outPort x cc a b m) s = .next ((s.onChan ch fun c =>
          { c with spNext := c.spNext.set j X }).onEng x fun e => e.retire 1)) ∧
        (∀ j : Fin 4, m.toNat = 0x420 + j.val → exec (.outPort x cc a b m) s =
          .next ((s.onEng ⟨ch, .fe⟩ fun e => { e with mail := e.mail.set j (some ⟨X, (s.eng x).cycle⟩) }).onEng x
            fun e => e.retire 1))) ∧
      (∀ g : Eng, let x : Site := ⟨ch, g⟩
       let X := (s.eng x).rv a
       let Y := (s.eng x).rv b
       let code := (X.extractLsb' 0 16).toNat
       s.executes x cc →
        (m.toNat = 0x481 → exec (.outPort x cc a b m) s = .next (s.onEng x fun e => { e with track := X }.retire 1)) ∧
        (m.toNat = 0x480 → (s.eng x).eventSent = false → code ∉ [0, 0xF0, 0xFFFF] → exec (.outPort x cc a b m) s =
          .next (((s.onEng x fun e => { e with eventSent := true }).record 0x05 ch.val code (X.extractLsb' 16 2).toNat
            (Y.setWidth 256)).onEng x fun e => e.retire 1)) ∧
        (m.toNat = 0x480 → (s.eng x).eventSent = true → ∃ t, exec (.outPort x cc a b m) s = .next t ∧ t.rcd = s.rcd ∧
          (t.chan ch).bit Reg.ENG_STAT (match g with | .fe => Fld.ENG_STAT_FE_EDROP | .me => Fld.ENG_STAT_ME_EDROP) = true) ∧
        exec (.pub x cc a b m) s = .next ((s.onChan ch fun c => c.post ((match g with | .fe => 0x20 | .me => 0x60) +
          (m.extractLsb' 0 6).toNat) X (Y.extractLsb' 0 4)).onEng x fun e => e.retire 1)))

/-- R45, R47, R53, R138: TEND by the last cycle of the budget ends the engine's tick; FE_LAST and ME_LAST take the cycles
once both engines have ended it, CH_TICK_MAX the largest, and reads see the data memory as it stands now. The single-bit
errors corrected in the tick are counted with it; how many is a free value (log 29). Completes with its own effect: TEND. -/
def Obligations.EngineTickEnd : Prop :=
  ∀ (s : State) (x : Site) (cc : BitVec 4), s.executes x cc → (s.eng x).cycle ≤ (s.chan x.ch).budget →
    (s.eng x).cycle < 2 ^ 16 → (s.eng ⟨x.ch, otherEng x.eng⟩).cycle < 2 ^ 16 →
    ∃ t, exec (.tend x cc) s = .next t ∧ t = { s.putChan x.ch (t.chan x.ch) with free := s.free + 1 } ∧
      t.eng x = { (s.eng x).corrected (Config.freeNat s.free) with
        run := .idle, atEnd := (s.eng x).data, scrub := ((s.eng x).scrub + 1) % 4096 } ∧
      t.eng ⟨x.ch, otherEng x.eng⟩ = s.eng ⟨x.ch, otherEng x.eng⟩ ∧
      (t.chan x.ch).get (match x.eng with | .fe => Reg.ENG_LOOP_TRK_FE | .me => Reg.ENG_LOOP_TRK_ME) = (s.eng x).track ∧
      ((s.eng ⟨x.ch, otherEng x.eng⟩).run = .idle →
        let c := s.chan x.ch
        let d := t.chan x.ch
        d.fld Reg.CH_TICK_USE Fld.CH_TICK_USE_FE_LAST = c.fe.cycle ∧
        d.fld Reg.CH_TICK_MAX Fld.CH_TICK_MAX_FE_MAX = max (c.fld Reg.CH_TICK_MAX Fld.CH_TICK_MAX_FE_MAX) c.fe.cycle ∧
        (c.outer = true → d.fld Reg.CH_TICK_USE Fld.CH_TICK_USE_ME_LAST = c.me.cycle ∧
          d.fld Reg.CH_TICK_MAX Fld.CH_TICK_MAX_ME_MAX = max (c.fld Reg.CH_TICK_MAX Fld.CH_TICK_MAX_ME_MAX) c.me.cycle))

/-- R36, R180: a hard channel fault puts the channel into HALT with FAULT, stops both engines and latches its GSTAT.CH_FAULT
bit; where no earlier fault holds the channel there, HALT is entered now: TCAUSE is 8 and its gates no longer drive; a pair
member that holds the LEASH lets both wires and the pads go. -/
def Obligations.HardFault : Prop :=
  ∀ (s : State) (ch : ChId) (cause : Nat), let t := s.hardFault ch cause
    let d := t.chan ch
    d.mode = 1 ∧ d.faulted = true ∧ d.fe.run = .stopped ∧ d.me.run = .stopped ∧
    (((s.chan ch).faulted = false ∨ (s.chan ch).mode ≠ 1) →
      d.fld Reg.CH_MODE_CUR Fld.CH_MODE_CUR_TCAUSE = 8 ∧ d.pwm.driving = false) ∧
    (BitVec.ofNat 12 (t.gfld Reg.GSTAT Fld.GSTAT_CH_FAULT)).getLsbD ch.val = true ∧
    (s.isPair = true → s.holds ch = true → d.pair.drive = false ∧ d.pair.padsEn = false)

/-- R24, R27, R47, R48, R111, R121, R127, R128: TICK_OVERRUN, LOCKSTEP_MISMATCH, UNCORRECTABLE_ECC and FABRIC_PARITY_ERROR
complete: each one's own effect is its cause bits, the hard channel fault and the record. An uncorrectable error while the
engine memories load ends the channel start. RESERVED_OPCODE completes: its engine stops without TEND, with BADOP and the
record, and the other engine goes on. A fabric word has 64 bits with even parity, its quantity in bits 43 to 36. Completes
with its own effect: TICK_OVERRUN, LOCKSTEP_MISMATCH, UNCORRECTABLE_ECC, FABRIC_PARITY_ERROR, RESERVED_OPCODE. -/
def Obligations.EngineFaults : Prop :=
  (∀ (w : FabWord) (q : BitVec 8), oddParity (w.bits q) = false ∧ (w.bits q).extractLsb' 36 8 = q ∧
    (w.bits q).extractLsb' 0 32 = w.data ∧ (w.bits q).extractLsb' 32 4 = w.tag) ∧
  ∀ (s : State) (ch : ChId) (eng : Eng) (mem : EngMem) (pc : BitVec 12) (addr : BitVec 16) (cls : BitVec 8)
    (byScrubber : Bool) (op : BitVec 6) (cause : OvrCause) (word : BitVec 64),
    let set := fun f : BitField => s.onChan ch fun c => c.setFld Reg.ENG_STAT f 1
    let ue := match eng with | .fe => Fld.ENG_STAT_FE_UE | .me => Fld.ENG_STAT_ME_UE
    let ecc := recData [(0, 1, engNum eng), (1, 1, match mem with | .program => 0 | .data => 1 | .coef => 2),
      (2, 2, addr.toNat), (4, 1, if byScrubber then 1 else 0)]
    ((s.chan ch).canOverrun cause = true → exec (.tickOverrun ch cause) s = .next (s.overrun ch cause)) ∧
    ((s.chan ch).ticking = true → exec (.lockstepMismatch ch eng pc cls) s = .next
      (((set (match eng with | .fe => Fld.ENG_STAT_FE_LS | .me => Fld.ENG_STAT_ME_LS)).hardFault ch 1).record 4 ch.val 1 3
        (recData [(0, 1, engNum eng), (2, 2, pc.toNat), (4, 1, cls.toNat)]))) ∧
    ((s.chan ch).ticking = true → exec (.uncorrectableEcc ch eng mem addr byScrubber) s = .next
      ((((set ue).hardFault ch 4).record 4 ch.val 2 3 ecc).bootSettled)) ∧
    ((s.chan ch).loadsEngines = true → exec (.uncorrectableEcc ch eng mem addr byScrubber) s = .next
      (((((set ue).onChan ch fun c => { c with pll := { c.pll with phase := .idle } }).hardFault ch 4).record 4 ch.val 2 3
        ecc).bootSettled)) ∧
    ((s.chan ch).chainRuns = true → oddParity word = true → exec (.fabricParityError ch word) s = .next
      ((s.hardFault ch 4).record 4 ch.val 2 3
        (recData [(0, 1, 0xFF), (1, 1, 3), (2, 2, (word.extractLsb' 36 8).toNat), (4, 1, 2)]))) ∧
    ((s.eng ⟨ch, eng⟩).run = .running → exec (.reservedOpcode ⟨ch, eng⟩ op) s = .next
      (((set (match eng with | .fe => Fld.ENG_STAT_FE_BADOP | .me => Fld.ENG_STAT_ME_BADOP)).onEng ⟨ch, eng⟩ fun e =>
        { e with run := .stopped }).record 4 ch.val 4 3 (recData [(0, 1, engNum eng), (2, 2, (s.eng ⟨ch, eng⟩).pc.toNat)])))

/-! ## The sample chain (03_sample_chain.md) -/

/-- The sum of R75: the taps of a bank from tap `k` on, over a delay line, newest first. -/
def firExact (bank : List (Nat × FirTap)) (k : Nat) : List Word → Rat
  | [] => 0
  | x :: xs => (sget (fun _ => ⟨0, 0⟩) bank k).coef.toInt / 2 ^ 31 * (1 / 2 ^ (sget (fun _ => ⟨0, 0⟩) bank k).shift.toNat) *
      (x.toInt / 2 ^ 31) + firExact bank (k + 1) xs

/-- R74, R75, R77, R97: the sinc stage takes the modulator's bits since the last FIR output, after INV and the trim: one
sinc output for every M of them, normalised by 1 / M^N with an error below 2^-24 of full scale, all ones clamping to 1 -
2^-31, and the newest is posted. A FIR output is the exact sum over the delay line, rounded to nearest with ties up in the
image's format and clamped; with no fade it comes from the active bank, and during a fade each output advances it, the last
one flipping FIR_CFG.BANK and clearing BUSY (R73, R79, R81): a running DC blocker steps its estimate, and the decimator's
output awaits its posting. Completes with its own effect: FIR_OUTPUT. -/
def Obligations.FirOutput : Prop :=
  ∀ (s : State) (ch : ChId) (i : InId) (bits : List Bool) (age : BitVec 16),
    let c := s.chan ch
    let x := c.inp i
    let n := c.sincStep i bits age.toNat
    let order := c.fld (Reg.SINC_CFG i) Fld.SINC_CFG_ORDER
    let m := c.fld (Reg.SINC_CFG i) Fld.SINC_CFG_OSR
    let late := ((bits.map fun b => b != c.bit (Reg.SDI_CFG i) Fld.SDI_CFG_INV).reverse ++ x.bits).drop
      (c.fld (Reg.SDI_TRIM i) Fld.SDI_TRIM_BITS)
    let r := n.firStep i
    let b := r.2.2.dcBlock i r.1
    let d := b.2.2.decimate i ⟨BitVec.ofInt 32 b.1, r.2.1 || b.2.1 || (n.inp i).clamps.any id, (n.inp i).run⟩
    c.chainRuns = true → c.inMode i ≠ 0 → c.bit (Reg.SDI_STAT i) Fld.SDI_STAT_CLK_OK = true →
    bits.length = m * c.fld (Reg.FIR_CFG i) Fld.FIR_CFG_DEC → bits ≠ [] →
    exec (.firOutput ch i bits age) s = .next (if d.2 then (s.putChan ch d.1).countOvwr ch else s.putChan ch d.1) ∧
    (c.bit (Reg.DCB_CFG i) Fld.DCB_CFG_EN = true → c.bit (Reg.DCB_CFG i) Fld.DCB_CFG_FREEZE = false →
      (b.2.2.inp i).e = BitVec.ofInt 56 (dcbNext x.alpha r.1 x.e.toInt)) ∧
    (0 < c.fld (Reg.FIR_CFG i) Fld.FIR_CFG_TAPS → let w := n.fabGet (0x10 + i.val)
      w.data = (n.inp i).delay.headD 0 ∧ w.cycles = age.toNat ∧ w.num = c.posts + 1) ∧
    (x.fade = none → r = ((firOut (if c.bit (Reg.FIR_CFG i) Fld.FIR_CFG_BANK then x.bank1 else x.bank0) x.frac
      (n.inp i).delay).1, r.2.1, n)) ∧
    ((n.inp i).delay = ((List.range
      (c.fld (Reg.FIR_CFG i) Fld.FIR_CFG_DEC)).map (fun j => BitVec.ofInt 32 (sincOut order m (((trimmed
        (c.fld (Reg.SDI_TRIM i) Fld.SDI_TRIM_FRAC) late).drop (j * m)).take (sincLen order m))).1) ++ x.delay).take
          (c.fld (Reg.FIR_CFG i) Fld.FIR_CFG_TAPS)) ∧
    (∀ k q xs, 0 < q → let y := (sincSums q k xs).headD 0; |y| ≤ 16 * q ^ k →
      (y = 16 * q ^ k → sincOut k q xs = (2 ^ 31 - 1, true)) ∧
      (y ≠ 16 * q ^ k → |((sincOut k q xs).1 : Rat) - y * 2 ^ 31 / (16 * q ^ k)| < 2 ^ 7)) ∧
    (∀ k q, 0 < q → (sincSums q k (List.replicate (sincLen k q) 16)).headD 0 = 16 * q ^ k) ∧
    (∀ bank frac xs, (firOut bank frac xs).1 =
      max (-2 ^ 31) (min (2 ^ 31 - 1) (firExact bank 0 xs * 2 ^ frac + 1 / 2).floor)) ∧
    (∀ k l, x.fade = some (k, l) → k + 1 = l → (r.2.2.inp i).fade = none ∧
      r.2.2.bit (Reg.FIR_XF i) Fld.FIR_XF_BUSY = false ∧
      r.2.2.bit (Reg.FIR_CFG i) Fld.FIR_CFG_BANK = !c.bit (Reg.FIR_CFG i) Fld.FIR_CFG_BANK)

/-- R86 to R89: a chain output is posted with its tags and counts down UNSETTLED; a substitute word is the last good output
or zero, tagged SUBSTITUTED. Completes with its own effect: CHAIN_OUTPUT, SUBSTITUTE_WORD. -/
def Obligations.ChainOutput : Prop :=
  ∀ (s : State) (ch : ChId) (i : InId) (age : BitVec 16),
    let c := s.chan ch
    let x := c.inp i
    c.chainRuns = true →
    (∀ o : ChainOut, x.out = some o → c.inMode i ≠ 0 → c.bit (Reg.SDI_STAT i) Fld.SDI_STAT_CLK_OK = true →
      let sat := o.sat || (c.fld (Reg.DEC_CFG i) Fld.DEC_CFG_SAT_RUN ≠ 0 && c.fld (Reg.DEC_CFG i) Fld.DEC_CFG_SAT_RUN < o.run)
      ∃ t, exec (.chainOutput ch i age) s = .next t ∧ t = s.putChan ch (t.chan ch) ∧
        (t.chan ch).fabGet i.val = ⟨o.data, BitVec.ofBool false ++ BitVec.ofBool false ++ BitVec.ofBool sat ++
          BitVec.ofBool (decide (0 < x.settle)), c.route i.val, age.toNat, c.posts + 1⟩ ∧
        ((t.chan ch).inp i).settle = x.settle - 1 ∧ ((t.chan ch).inp i).lastGood = o.data ∧ ((t.chan ch).inp i).out = none ∧
        ((t.chan ch).inp i).subst = false ∧
        (t.chan ch).bit (Reg.SDI_STAT i) Fld.SDI_STAT_SATURATED = sat ∧
        (t.chan ch).bit (Reg.SDI_STAT i) Fld.SDI_STAT_SUBSTITUTED = false) ∧
    (2 ≤ c.inMode i → x.subst = true → ∃ t, exec (.substituteWord ch i) s = .next t ∧ t = s.putChan ch (t.chan ch) ∧
        (t.chan ch).fabGet i.val =
          ⟨if c.bit (Reg.DEC_CFG i) Fld.DEC_CFG_SUBST then 0 else x.lastGood, 8, c.route i.val, 0, c.posts + 1⟩ ∧
        (t.chan ch).bit (Reg.SDI_STAT i) Fld.SDI_STAT_SUBSTITUTED = true)

/-- R67, R68, R72, R90: a loss and a recovery are declared for the whole clock group, each input setting its own fields.
Completes with its own effect: MCLK_LOSS, CLOCK_RECOVERY. -/
def Obligations.ModulatorClocks : Prop :=
  ∀ (s : State) (ch : ChId) (i : InId), let c := s.chan ch
    (c.chainMode = true → exec (.mclkLoss ch i) s = .next ((c.clockGroup i).foldl (fun s j => s.mclkLost ch j) s)) ∧
    (c.chainMode = true → (c.inMode i = 3 → c.chainRuns = true) →
      exec (.clockRecovery ch i) s = .next ((c.clockGroup i).foldl (fun s j => s.mclkBack ch j) s)) ∧
    (c.inMode i = 3 → c.clockGroup i = [i]) ∧
    (c.inMode i = 2 → ∀ j : InId, j ∈ c.clockGroup i ↔ (j.val / 8 = i.val / 8 ∧ c.inMode j = 2)) ∧
    (c.bit (Reg.SDI_STAT i) Fld.SDI_STAT_CLK_OK = false →
      c.bit (Reg.FAST_CFG i) Fld.FAST_CFG_EN = false →
      ((s.mclkBack ch i).chan ch).bit (Reg.SDI_STAT i) Fld.SDI_STAT_CLK_OK = true ∧
      (((s.mclkBack ch i).chan ch).inp i).settle = c.fld (Reg.SINC_CFG i) Fld.SINC_CFG_SETTLE) ∧
    (c.bit (Reg.SDI_STAT i) Fld.SDI_STAT_CLK_OK = true → c.bit (Reg.FAST_CFG i) Fld.FAST_CFG_EN = false →
      ((s.mclkLost ch i).chan ch).bit (Reg.SDI_STAT i) Fld.SDI_STAT_CLK_OK = false ∧
      ((s.mclkLost ch i).chan ch).bit (Reg.SDI_STAT i) Fld.SDI_STAT_LOSS = true ∧
      (((s.mclkLost ch i).chan ch).inp i).out = none ∧ (((s.mclkLost ch i).chan ch).inp i).subst = true)

/-- R91, R92, R94: the fast path takes the bits one by one after INV; a comparing path with a full filter judges the exact
sinc2 output, rounded to Q1.15 and clamped; after the fill it compares. Completes with its own effect: FAST_PATH_FILL_END,
FAST_COMPARATOR_CHANGE. -/
def Obligations.FastPath : Prop :=
  ∀ (s : State) (ch : ChId) (i : InId) (bits : List Bool), let c := s.chan ch
    let x := c.inp i
    c.fastRuns i = true →
    exec (.fastComparatorChange ch i bits) s =
      .next (s.fastBits ch i (bits.map fun b => b != c.bit (Reg.SDI_CFG i) Fld.SDI_CFG_INV)) ∧
    (∀ b u, (u : State).fastBits ch i (b :: bits) = (u.fastBit ch i b).fastBits ch i bits) ∧
    (∀ osr bs, (bs : List Bool).length = 2 * osr - 1 → 0 < osr → fastOut osr bs = min (2 ^ 15 - 1)
      ((((List.range (2 * osr - 1)).map fun m => (if m < osr then (m + 1 : Int) else 2 * osr - 1 - m) *
        (if bs.getD m false then 1 else -1)).sum * 2 ^ 15 : Rat) / osr ^ 2 + 1 / 2).floor) ∧
    (∀ b, x.fastHold.filling = true → x.fastBits.length + 1 = c.fastLen i → s.fastBit ch i b =
      (s.putChan ch (c.setInp i { x with fastBits := b :: x.fastBits, fastHold := .compare })).fastJudge ch i
        (fastOut (c.fld (Reg.FAST_CFG i) Fld.FAST_CFG_OSR) (b :: x.fastBits))) ∧
    (x.fastHold.filling = true → x.fastBits.length + bits.length = c.fastLen i → exec (.fastPathFillEnd ch i bits) s =
      .next (s.fastBits ch i (bits.map fun b => b != c.bit (Reg.SDI_CFG i) Fld.SDI_CFG_INV)))

/-- R96: a skew unit that is armed records the upward crossing of its sinc3, interpolated linearly to 1/16 bit, with VALID,
or NOSTEP where none comes in time, and is no longer armed; SKBUSY is 0 once no unit is. Completes with its own effect:
SKEW_CROSSING, SKEW_WINDOW_EXPIRY. -/
def Obligations.SkewUnits : Prop :=
  ∀ (s : State) (ch : ChId) (i : InId) (at_ : BitVec 20) (bits : List Bool) (below above : BitVec 16), let c := s.chan ch
    let late := (bits.map fun b => b != c.bit (Reg.SDI_CFG i) Fld.SDI_CFG_INV).reverse
    let y0 := skewSum late.tail
    let y1 := skewSum late
    (c.inp i).skewArmed = true →
    (c.chainRuns = true → y0 < 0 → 0 ≤ y1 → 2 ^ 15 ≤ 10 * below.toNat → 2 ^ 15 ≤ 10 * above.toNat →
      ∃ u, exec (.skewCrossing ch i at_ bits below above) s = .next u ∧ u = s.putChan ch (u.chan ch) ∧
        |(((u.chan ch).fld (Reg.SDI_SKEW i) Fld.SDI_SKEW_T : Nat) : Rat) - 16 * (at_.toNat + y0 / (y0 - y1))| ≤ 1 ∧
        (u.chan ch).bit (Reg.SDI_SKEW i) Fld.SDI_SKEW_VALID = true ∧ ((u.chan ch).inp i).skewArmed = false ∧
        ((∀ j, j ≠ i → (c.inp j).skewArmed = false) → (u.chan ch).bit Reg.SDI_CHCTL Fld.SDI_CHCTL_SKBUSY = false)) ∧
    (c.chainMode = true → ∃ u, exec (.skewWindowExpiry ch i) s = .next u ∧ u = s.putChan ch (u.chan ch) ∧
        (u.chan ch).bit (Reg.SDI_SKEW i) Fld.SDI_SKEW_NOSTEP = true ∧ ((u.chan ch).inp i).skewArmed = false ∧
        ((∀ j, j ≠ i → (c.inp j).skewArmed = false) → (u.chan ch).bit Reg.SDI_CHCTL Fld.SDI_CHCTL_SKBUSY = false))

/-! ## Writes of the channel set (01_architecture.md R10, R32; 16_host_interface.md R463, R479) -/

/-- R10, R32, R478, R479: a host write of a channel register that its block accepts waits, as the newest, for the next tick
boundary, and changes nothing else; FIR_XF.GO, DCB_EST, SDI_TRIM, SDI_CFG, the law's parameters and PACK_CFG are such
registers. One that its block rejects reports cause 5 against the context, and the register and the waiting writes stand.
Completes with its own effect: FIR_XF_GO, DCB_EST_WRITE, SDI_TRIM_WRITE, SDI_SRC_WRITE, LAW_PARAM_WRITE, PACK_ENABLE,
PACK_DISABLE, REGISTER_WRITE. -/
def Obligations.ChannelWritesWait : Prop :=
  (∀ (s : State) (k : Ctx) (ch : ChId), s.reaches k ch → (s.chan ch).ticking = true → (s.chan ch).clockLost = false →
      let waits := fun (i : Instr) (off : Nat) (w : Word) =>
        s.keepsRo k ch off w → s.arrivalCause ch off w = none → exec i s =
          .next ((s.onChan ch fun c => { c with writes := c.writes ++ [⟨off, w, .host k, none, []⟩] }).answered)
      ∀ v : Word,
      (∀ off, waitsForBoundary off = true → s.capAbsent k off = false →
        waits (.registerWrite ⟨BitVec.ofNat 18 (windowAddr k off), 1, 0xF⟩ v) off v) ∧
      (∀ i : InId, waits (.firXfGo k i v) (Reg.FIR_XF i) (setField v Fld.FIR_XF_GO 1) ∧
        waits (.dcbEstWrite k i v) (Reg.DCB_EST i) v ∧ waits (.sdiTrimWrite k i v) (Reg.SDI_TRIM i) v ∧
        waits (.sdiSrcWrite k i v) (Reg.SDI_CFG i) v) ∧
      (∀ off : BitVec 14, 0x1400 ≤ off.toNat → off.toNat < 0x1C00 → waitsForBoundary off.toNat = true →
        waits (.lawParamWrite k off v) off.toNat v) ∧
      waits (.packEnable k v) Reg.PACK_CFG (setField v Fld.PACK_CFG_EN 1) ∧
      waits (.packDisable k v) Reg.PACK_CFG (setField v Fld.PACK_CFG_EN 0)) ∧
  (∀ (s : State) (k : Ctx) (ch : ChId) (off : Nat) (v : Word) (n : Nat), s.reaches k ch →
      waitsForBoundary off = true → s.capAbsent k off = false → s.keepsRo k ch off v → s.arrivalCause ch off v = some n →
      ∃ t, exec (.registerWrite ⟨BitVec.ofNat 18 (windowAddr k off), 1, 0xF⟩ v) s = .next t ∧
        t = ((s.rejectChan ch off v (.host k) n).violation k 5 (windowAddr k off) true).answered ∧
        (t.chan ch).writes = (s.chan ch).writes ∧ (t.chan ch).get off = (s.chan ch).get off ∧
        getField t.host.ctxs[k].stat Fld.CTX_STAT_VIO = 1 ∧ getField t.host.ctxs[k].stat Fld.CTX_STAT_VCAUSE = 5 ∧
        t.host.ctxs[k].vaddr = BitVec.ofNat 32 (windowAddr k off + 2 ^ 18) ∧
        t.gbit Reg.HOST_VIO Fld.HOST_VIO_VIO = true)

/-- R76, R96, R101, R131, R134, R138, R219, R283, R288: the channel registers whose writes act on arrival. FIR_CFG and
PACK_PSEL take the value, PACK_PSEL also copies the peer for the context; FIR_CDAT stores a tap; ENG_CDAT and, in HALT,
ENG_DDAT stage a word and step their index; SKARM, a ramp's GO and PLL_LEVEL also wait for the boundary; RELOCK starts a
lock. Completes with its own effect: SKARM, FIR_CDAT_WRITE, FIR_BANK_WRITE, ENG_CDAT_WRITE, ENG_DDAT_WRITE, PACK_PSEL_WRITE,
PLL_RELOCK, PLL_RAMP_GO, PLL_RAMP_HOLD, PLL_LEVEL. -/
def Obligations.ChannelWritesAtOnce : Prop :=
  ∀ (s : State) (k : Ctx) (ch : ChId), s.reaches k ch → (s.chan ch).ticking = true → (s.chan ch).clockLost = false →
    let c := s.chan ch
    let acts := fun (i : Instr) (off : Nat) (w : Word) (t : State) =>
      s.keepsRo k ch off w → s.arrivalCause ch off w = none → exec i s = .next t.answered
    let queued := fun (c : Chan) (off : Nat) (w : Word) (x : Option CoefRef) (p : List Segment) =>
      s.putChan ch { c with writes := c.writes ++ [⟨off, w, .host k, x, p⟩] }
    ∀ v : Word,
    (∀ i : InId, acts (.firBankWrite k i v) (Reg.FIR_CFG i) v
        (s.putChan ch (c.put (Reg.FIR_CFG i) (c.plainWord (Reg.FIR_CFG i) v))) ∧
      acts (.firCdatWrite k i v) (Reg.FIR_CDAT i) v (s.putChan ch (c.firCdat i v))) ∧
    (c.coefCause c.cadr.eng c.cadr.idx.toNat = 0 → acts (.engCdatWrite k v) Reg.ENG_CDAT v
      (s.putChan ch (c.stageCoef c.cadr.eng ⟨c.cadr.idx, v, c.cadr.shift, .host k, c.fe.staged.length + c.me.staged.length⟩).cadrStep)) ∧
    (c.mode = 1 → acts (.engDdatWrite k v) Reg.ENG_DDAT v (queued c.dadrStep Reg.ENG_DDAT v
      (some ⟨c.dadr.1, c.dadr.2.setWidth 10, BitVec.ofNat 6 (c.dadr.2.toNat / 1024)⟩) [])) ∧
    acts (.packPselWrite k v) Reg.PACK_PSEL v
      ((s.putChan ch ((c.put Reg.PACK_PSEL (c.plainWord Reg.PACK_PSEL v)).packSelect k)).mirrorLanded ch Reg.PACK_PSEL v) ∧
    (let w := setField v Fld.SDI_CHCTL_SKARM 1
     acts (.skarm k v) Reg.SDI_CHCTL w (queued c.skewArm Reg.SDI_CHCTL w none [])) ∧
    (let w := setField v Fld.PLL_RAMP_GO 1
     acts (.pllRampGo k v) Reg.PLL_RAMP w (queued c Reg.PLL_RAMP w none (c.copyProfile (getField w Fld.PLL_RAMP_NSEG)))) ∧
    (let w := setField v Fld.PLL_RAMP_GO 0
     acts (.pllRampHold k v) Reg.PLL_RAMP w (queued c Reg.PLL_RAMP w none [])) ∧
    acts (.pllLevel k v) Reg.PLL_LEVEL v (queued c Reg.PLL_LEVEL v none (levelProfile v)) ∧
    acts (.pllRelock k v) Reg.PLL_CTL (setField v Fld.PLL_CTL_RELOCK 1) (s.beginLock ch .relock)

/-- R175, R191, R256, R281: a mode request waits for the boundary while ticks run, and in OFF a HALT request that R281
admits starts the channel clock; CH_SAFE_LATCH clears the written bits whose causes are not live; PWM_TRIP clears the
written bits in HALT or SAFE where their conditions are inactive, and PROT is no longer live once none is left. Completes
with its own effect: MODE_REQUEST, SAFE_LATCH_CLEAR, TRIP_CLEAR. -/
def Obligations.ModeAndLatchWrites : Prop :=
  ∀ (s : State) (k : Ctx) (ch : ChId) (v : Word), s.reaches k ch →
    let c := s.chan ch
    (s.keepsRo k ch Reg.CH_MODE_REQ v → c.mode ≠ 0 → c.faulted = false → c.ticking = true →
      exec (.modeRequest k v) s = .next ((s.onChan ch fun c =>
        { c with writes := c.writes ++ [⟨Reg.CH_MODE_REQ, v, .host k, none, []⟩] }).answered)) ∧
    (s.keepsRo k ch Reg.CH_MODE_REQ v → c.mode = 0 → c.pll.phase = .idle → getField v Fld.CH_MODE_REQ_MODE = 1 →
      s.gbit Reg.GSTAT Fld.GSTAT_IMAGE_OK = true → c.img.isSome → c.lockCause s.fnom = 0 →
      exec (.modeRequest k v) s = .next (((s.onChan ch fun c =>
        c.put Reg.CH_MODE_REQ (c.plainWord Reg.CH_MODE_REQ v)).beginLock ch .fromOff).answered)) ∧
    (s.keepsRo k ch Reg.CH_SAFE_LATCH v → exec (.safeLatchClear k v) s = .next ((s.putChan ch (c.put Reg.CH_SAFE_LATCH
      (c.get Reg.CH_SAFE_LATCH &&& ~~~(v &&& 0xFFF &&& ~~~c.get Reg.CH_SAFE_LIVE)))).answered)) ∧
    (s.keepsRo k ch Reg.PWM_TRIP v → c.mode ≠ 0 → c.mode ≠ 11 → c.tripStuck v = [] →
      (let t := s.putChan ch (c.clearTrips (c.tripClearable v))
       exec (.tripClear k v) s = .next (if (t.chan ch).get Reg.PWM_TRIP &&& 0xF = 0 then (t.setLive ch 6 false).answered
         else t.answered))) ∧
    (∀ b, b ∈ c.tripClearable v ↔ (b < 4 ∧ v.getLsbD b = true ∧ (c.get Reg.PWM_TRIP).getLsbD b = true ∧
      (c.mode = 1 ∨ c.mode = 10) ∧ c.tripInactive b = true))

/-- R176, R177, R179, R180, R191: why a mode request is rejected: a code above 11 or a target that the graph does not give
has cause 1, a REPAIR channel rejects with cause 9, a faulted one takes only OFF; then ALLOW, the pair, an inhibit, and a
SAFE cause, live or latched. Of the transitions due at a boundary one is taken: entry into SAFE, a requested SAFE, a
requested HALT or SHADOW, entry into RIDE, another request, then the automatic ones. -/
def Obligations.ModeRules : Prop :=
  (∀ (s : State) (ch : ChId) (v : Nat), let c := s.chan ch
      (12 ≤ v → s.requestCause ch v = 1) ∧
      (v < 12 → c.mode = 11 → s.requestCause ch v = 9) ∧
      (v < 12 → c.mode ≠ 11 → c.faulted = true → v ≠ 0 → s.requestCause ch v = 4) ∧
      (v < 12 → c.mode ≠ 11 → c.faulted = false → v ∉ hostTargets c.mode → s.requestCause ch v = 1) ∧
      (s.requestCause ch v = 0 → v < 12 ∧ v ∈ hostTargets c.mode ∧ c.allows v = true ∧ (c.faulted = true → v = 0) ∧
        (v = 8 → s.isPair = true) ∧ (v ∈ [3, 4, 5, 7] → s.inhibited ch = false) ∧
        (2 ≤ v → v ≤ 7 → c.safeBits = 0 ∧ (s.isPair = true → s.holds ch = true)) ∧
        (v = 9 ∨ (c.mode = 10 ∧ v = 1) → c.safeBits = 0)) ∧
      (∀ m, m < 12 → 0 ∈ hostTargets m → m = 1)) ∧
  (∀ (c : Chan) (v : Option Nat), c.mode ≠ 8 →
      (2 ≤ c.mode → c.mode ≤ 7 → c.safeBits ≠ 0 → c.choose v = .auto 10 9) ∧
      (c.safeDue = false → v ∈ [some 10, some 1, some 8] → c.choose v = .host) ∧
      (c.safeDue = false → v ∉ [some 10, some 1, some 8] → c.rideDue = true → c.choose v = .auto 6 3) ∧
      (c.safeDue = false → c.rideDue = false → v.isSome → c.choose v = .host) ∧
      (c.safeDue = false → c.rideDue = false → v = none → c.choose v = match c.autoTarget with
        | some (m, tc) => .auto m tc
        | none => .none) ∧
      (∀ m tc, c.autoTarget = some (m, tc) → c.allows m = true ∧ (c.mode, m, tc) ∈
        [(2, 1, 11), (3, 7, 7), (6, 4, 4), (7, 4, 5), (7, 4, 6), (9, 1, 12)]))

/-! ## Control law and modes (05_control_laws.md, 06_modes_and_handover.md) -/

/-- R150, R164, R172, R189: LIM clears after TREL ticks below the release level, in the law's status word, which is posted;
a class C slot that exceeds its tolerance sets MEAS_LOST and LOST_SLOT there, and LAW_STAT takes both at the end of the
tick; a SAFE cause that arises is live and latched. Completes with its own effect: MEAS_LOST, LIM_RELEASE. -/
def Obligations.LawEvents : Prop :=
  ∀ (s : State) (ch : ChId) (slot : BitVec 6), let c := s.chan ch
    (c.law.on = true → c.law.status.getLsbD 0 = true → c.fld Reg.LAW_TVI_REL Fld.LAW_TVI_REL_TREL ≤ c.law.relRun →
      ∃ t, exec (.limRelease ch) s = .next t ∧ t = s.putChan ch (t.chan ch) ∧ (t.chan ch).regs = c.regs ∧
        (t.chan ch).law = { c.law with status := c.law.status &&& ~~~1 } ∧
        (t.chan ch).fabGet 0x20 = ⟨c.law.status &&& ~~~1, 0, c.route 0x20, 0, c.posts + 1⟩) ∧
    (slot.toNat < 10 → (slot.toNat = 7 → c.threeLevel = true) →
      (let g := c.tags[slot.toNat]'slot.isLt
       c.fld Reg.LAW_TAG Fld.LAW_TAG_STALE_MAX < g.stale ∨ c.fld Reg.LAW_TAG Fld.LAW_TAG_SAT_MAX < g.sat ∨
         c.fld Reg.LAW_TAG Fld.LAW_TAG_BAD_MAX < g.bad) →
      ∃ t, exec (.measLost ch slot) s = .next t ∧ t = s.putChan ch (t.chan ch) ∧ (t.chan ch).regs = c.regs ∧
        getField (t.chan ch).law.status Fld.LAW_STAT_MEAS_LOST = 1 ∧
        getField (t.chan ch).law.status Fld.LAW_STAT_LOST_SLOT = slot.toNat ∧
        (t.chan ch).fabGet 0x20 = ⟨(t.chan ch).law.status, 0, c.route 0x20, 0, c.posts + 1⟩) ∧
    (∀ d : Chan, let w := (d.fabGet 0x20).data
      getField w Fld.LAW_STAT_MEAS_LOST = 1 → d.copyLawStat.fld Reg.LAW_STAT Fld.LAW_STAT_MEAS_LOST = 1 ∧
        d.copyLawStat.fld Reg.LAW_STAT Fld.LAW_STAT_LOST_SLOT = getField w Fld.LAW_STAT_LOST_SLOT) ∧
    (∀ (u : State) (b : Fin 12), ((u.chan ch).get Reg.CH_SAFE_LIVE).getLsbD b.val = false → let t := u.setLive ch b.val true
      ((t.chan ch).get Reg.CH_SAFE_LIVE).getLsbD b.val = true ∧ ((t.chan ch).get Reg.CH_SAFE_LATCH).getLsbD b.val = true ∧
        ∀ o, o ≠ Reg.CH_SAFE_LIVE → o ≠ Reg.CH_SAFE_LATCH → (t.chan ch).get o = (u.chan ch).get o)

/-- R182 to R188, R196: the events that the mode controller awaits, each in its mode. PRE_DONE and a precharge failure; K1
requested on a dead bus or BS_LIVE on a live one; BS_DONE at the end of the ramp; K1 requested after NMATCH matched ticks,
or RSY_TMO; the return from RIDE or its timeout, which latches RIDET; the end of a blend. Completes with its own effect:
PRE_DONE, PRECHARGE_TIMEOUT, DEAD_BUS_TIMEOUT, BUS_FOUND_LIVE, BS_DONE, RSY_MATCH_COMPLETE, RESYNC_TIMEOUT, RIDE_RETURN,
RIDE_TIMEOUT, HANDOVER_BLEND_END. -/
def Obligations.ModeEvents : Prop :=
  ∀ (s : State) (ch : ChId), let c := s.chan ch
    let st := fun (f : BitField) => c.setFld Reg.CH_MODE_STAT f 1
    (c.mode = 2 → 100 ≤ c.ctl.preRun → c.k2Closed = true →
      exec (.preDone ch) s = .next (s.putChan ch (st Fld.CH_MODE_STAT_PRE_DONE))) ∧
    (c.mode = 2 → c.bit Reg.CH_MODE_STAT Fld.CH_MODE_STAT_PRE_DONE = false →
      exec (.prechargeTimeout ch) s = .next (((s.putChan ch { (st Fld.CH_MODE_STAT_PRE_FAIL).setFld Reg.CH_MODE_STAT
        Fld.CH_MODE_STAT_K2_REQ 0 with ctl := { c.ctl with preFail := true } }).contactors ch).record 0x01 ch.val 3 2
          (recData [(0, 4, (c.fe.slots[6]).data.toNat)]))) ∧
    (c.mode = 3 → c.ctl.bsCheck = true → 1 ≤ c.ctl.deadRun →
      exec (.deadBusTimeout ch) s = .next ((s.putChan ch { st Fld.CH_MODE_STAT_K1_REQ with
        ctl := { c.ctl with bsCheck := false } }).contactors ch)) ∧
    (c.mode = 3 → c.ctl.bsCheck = true → 10 ≤ c.ctl.liveRun →
      exec (.busFoundLive ch) s = .next ((s.putChan ch { st Fld.CH_MODE_STAT_BS_LIVE with
        ctl := { c.ctl with bsCheck := false, busLive := true } }).record 0x01 ch.val 4 0 (recData [(0, 2, c.busMagnitude)]))) ∧
    (c.mode = 3 → c.ctl.ramp = 2 ^ 48 → exec (.bsDone ch) s = .next (s.putChan ch (st Fld.CH_MODE_STAT_BS_DONE))) ∧
    (c.mode = 7 → c.fld Reg.CH_RSY_CFG2 Fld.CH_RSY_CFG2_NMATCH ≤ c.ctl.matched →
      exec (.rsyMatchComplete ch) s = .next ((s.putChan ch (st Fld.CH_MODE_STAT_K1_REQ)).contactors ch)) ∧
    (c.mode = 7 → c.bit Reg.CH_MODE_STAT Fld.CH_MODE_STAT_K1_REQ = false →
      exec (.resyncTimeout ch) s = .next ((s.putChan ch { st Fld.CH_MODE_STAT_RSY_TMO with
        ctl := { c.ctl with rsyTimeout := true } }).record 0x01 ch.val 5 1 c.lastDifferences)) ∧
    (c.mode = 6 → c.fld Reg.CH_RIDE Fld.CH_RIDE_DWELL ≤ c.ctl.dwell → c.bit Reg.CH_MODE_CFG Fld.CH_MODE_CFG_RIDE_RET = true →
      exec (.rideReturn ch) s = .next (s.putChan ch { c with ctl := { c.ctl with rideReturn := true } })) ∧
    (c.mode = 6 → c.fld Reg.CH_RIDE Fld.CH_RIDE_TMAX ≠ 0 → ((c.get Reg.CH_SAFE_LATCH).getLsbD 10 = false →
      exec (.rideTimeout ch) s = .next (((s.putChan ch (c.put Reg.CH_SAFE_LATCH (c.get Reg.CH_SAFE_LATCH ||| 2 ^ 10))).record
        0x01 ch.val 2 2 (recData [(0, 2, 2 ^ 10)])).irq (8 + ch.val))) ∧
      ((c.get Reg.CH_SAFE_LATCH).getLsbD 10 = true → exec (.rideTimeout ch) s = .next s)) ∧
    (c.bit Reg.HO_STAT Fld.HO_STAT_ACT = true → c.fld Reg.HO_STAT Fld.HO_STAT_REM = 0 →
      exec (.handoverBlendEnd ch) s = .next (s.putChan ch (c.put Reg.HO_STAT 0)))

/-- R176, R181, R182, R184, R198: entering a mode sets CH_MODE_CUR, clears PRE_DONE, BS_DONE and RSY_MATCH, and releases K1
and K2 on HALT and OFF; outside the driving modes no gate drives; the SAFE causes and every other channel stand. -/
def Obligations.ModeEntry : Prop :=
  ∀ (s : State) (ch : ChId) (m tc : Nat), m < 12 → tc < 16 → let c := s.chan ch
    let t := s.enterMode ch m tc
    let d := t.chan ch
    d.mode = m ∧ d.fld Reg.CH_MODE_CUR Fld.CH_MODE_CUR_PREV = c.mode ∧ d.fld Reg.CH_MODE_CUR Fld.CH_MODE_CUR_TCAUSE = tc ∧
    d.bit Reg.CH_MODE_STAT Fld.CH_MODE_STAT_PRE_DONE = false ∧ d.bit Reg.CH_MODE_STAT Fld.CH_MODE_STAT_BS_DONE = false ∧
    d.bit Reg.CH_MODE_STAT Fld.CH_MODE_STAT_RSY_MATCH = false ∧
    (m ≤ 1 → d.bit Reg.CH_MODE_STAT Fld.CH_MODE_STAT_K1_REQ = false ∧ d.bit Reg.CH_MODE_STAT Fld.CH_MODE_STAT_K2_REQ = false) ∧
    (m = 2 → d.bit Reg.CH_MODE_STAT Fld.CH_MODE_STAT_K2_REQ = true) ∧
    (¬ (3 ≤ m ∧ m ≤ 7) → d.pwm.driving = false) ∧
    d.get Reg.CH_SAFE_LATCH = c.get Reg.CH_SAFE_LATCH ∧ d.get Reg.CH_SAFE_LIVE = c.get Reg.CH_SAFE_LIVE ∧
    (∀ j, j ≠ ch → t.chan j = s.chan j)

/-! ## PACK (07_pack_peer_agreement.md) -/

/-- R212, R213, R216, R217, R226, R230: a chip advances the chip count, gives the estimator its mean unless it is excluded,
and posts the chip's deviation, the code's value times the data bit while the channel injects and else 0; at chip 0 of the
own code the code period ends. PACK_CODE_PERIOD then shows the own code's q and the period's mean, advances PERIOD, and
starts the injection where the channel may inject: it restarts the frame, but after RIDE. Completes with its own effect:
PACK_CHIP, PACK_CODE_PERIOD. -/
def Obligations.PackPeriods : Prop :=
  ∀ (s : State) (ch : ChId), let c := s.chan ch
    c.packListens = true →
    let tx := c.bit Reg.PACK_STAT Fld.PACK_STAT_TX
    (∀ mean : Word, ∃ t, exec (.packChip ch mean) s = .next t ∧ t = s.putChan ch (t.chan ch) ∧ let d := t.chan ch
      d.pack.chip = (c.pack.chip + 1) % 255 ∧
      (c.pack.chipBad = true → d.pack.ests = (none :: c.pack.ests).take 255) ∧
      (c.pack.chipBad = false → d.pack.ests = (some mean.toInt :: c.pack.ests).take 255 ∧ (d.fabGet 0xB8).data = mean) ∧
      (d.packOwnChip = 0 → d.pack.periodEnd = true) ∧
      (d.packOwnChip ≠ 0 → (tx = false ∨ c.packMayInject = false → d.pack.dNext = 0 ∧ (d.fabGet 0xBD).data = 0) ∧
        (tx = true → c.packMayInject = true → c.pack.stopAtChip = false →
          d.pack.dNext = chipValue (c.fld Reg.PACK_ID Fld.PACK_ID_ID % 256) d.packOwnChip * c.packBit ∧
          ((d.fabGet 0xBD).data = 0x7FFFFFFF ∨ (d.fabGet 0xBD).data = 0x80000000))) ∧
      ∀ o, o ≠ Reg.PACK_STAT → d.get o = c.get o) ∧
    (c.pack.periodEnd = true → ∃ t, exec (.packCodePeriod ch) s = .next t ∧ t = s.putChan ch (t.chan ch) ∧ let d := t.chan ch
      let p := c.fld Reg.PACK_OWN Fld.PACK_OWN_PERIOD
      d.fld Reg.PACK_OWN Fld.PACK_OWN_PERIOD =
        (if p = 23 ∨ (tx = false ∧ c.packMayInject = true ∧ c.pack.plain = false) then 0 else (p + 1) % 32) ∧
      d.fld Reg.PACK_OWN Fld.PACK_OWN_OWNQ =
        (peakOf (c.pack.correlations (c.fld Reg.PACK_ID Fld.PACK_ID_ID % 256)) [0, 1, 254]).q.toNat ∧
      d.bit Reg.PACK_STAT Fld.PACK_STAT_TX = (tx || c.packMayInject) ∧
      d.pack.ests = [] ∧ d.pack.periodEnd = false ∧ d.pack.frameEnd = (c.pack.frameEnd || p == 23) ∧
      (c.pack.enabled = false → d.pack.fingers = c.pack.fingers) ∧
      (c.pack.periodMean = none → d.get Reg.PACK_FMEAS = c.get Reg.PACK_FMEAS) ∧
      (∀ m, c.pack.periodMean = some m → (d.fabGet 0xB9).data = BitVec.ofInt 32 m) ∧
      ∀ o, o ≠ Reg.PACK_STAT → o ≠ Reg.PACK_OWN → o ≠ Reg.PACK_FMEAS → o ≠ Reg.PACK_DUPID → d.get o = c.get o)

/-- R217, R229: a scanned finger is acquired after two periods above QACQ, and lost after eight below QLOSE, which counts
and is recorded; STIFF sets after eight own periods below QLOSE while injecting and clears after two above QACQ. Completes
with its own effect: FINGER_ACQUIRED, FINGER_LOST, STIFF_SET, STIFF_CLEAR. -/
def Obligations.PackFingers : Prop :=
  ∀ (s : State) (ch : ChId) (f : Fin 64), let c := s.chan ch
    let g := c.pack.fingers[f]
    let with_ := fun h : Finger => { c with pack := { c.pack with fingers := c.pack.fingers.set f h } }
    (c.pack.enabled = true → g.state = .free → 2 ≤ g.high → exec (.fingerAcquired ch f) s =
      .next (s.putChan ch (with_ { g with state := .acq, high := 0, low := 0, dwell := 0 }))) ∧
    (g.state = .acq ∨ g.state = .valid → 8 ≤ g.low → exec (.fingerLost ch f) s =
      .next (((s.putChan ch (with_ { g with state := .lost }).packCount).countCh ch Reg.PACK_CNT1 true false).record
        0x06 ch.val 3 1 (recData [(0, 2, if g.idv then g.id.toNat else 0xFFFF), (2, 1, g.code.toNat)]))) ∧
    (c.bit Reg.PACK_STAT Fld.PACK_STAT_TX = true → 8 ≤ c.pack.ownLow → exec (.stiffSet ch) s =
      .next (s.putChan ch (c.setFld Reg.PACK_STAT Fld.PACK_STAT_STIFF 1))) ∧
    (c.bit Reg.PACK_STAT Fld.PACK_STAT_TX = true → 2 ≤ c.pack.ownHigh → exec (.stiffClear ch) s =
      .next (s.putChan ch (c.setFld Reg.PACK_STAT Fld.PACK_STAT_STIFF 0))) ∧
    (∀ d : Chan, d.packCount.fld Reg.PACK_STAT Fld.PACK_STAT_NPEER =
        (d.pack.fingers.toList.filter (fun f => f.state == .valid)).length % 2 ^ Fld.PACK_STAT_NPEER.width ∧
      (d.packCount.bit Reg.PACK_STAT Fld.PACK_STAT_LONE = true ↔ ∀ f : Fin 64, (d.pack.fingers[f]).state ≠ .valid))

/-- R214, R215, R217, R218: a frame that is sent holds SYNC, its type, its value and the parity bits, passes the frame test,
and one flipped bit fails it. Where the data bits of a finger make a frame, one that passes counts, validates an acquired
finger and gives it its content; a LEAVE frees it, and it scans on; a failing one counts, and a second in a row loses the
alignment. Completes with its own effect: PACK_FRAME_RECEIVED. -/
def Obligations.PackFrames : Prop :=
  (∀ (ty : BitVec 4) (v : BitVec 12), packFrameOk (packFrame ty v) = true ∧ (packFrame ty v).extractLsb' 16 4 = ty ∧
    (packFrame ty v).extractLsb' 4 12 = v ∧ (packFrame ty v).extractLsb' 20 4 = 0b1110 ∧
    (∀ m : Fin 4, (packFrame ty v).getLsbD m = ((ty ++ v).getLsbD m ^^ (ty ++ v).getLsbD (m + 4) ^^
      (ty ++ v).getLsbD (m + 8) ^^ (ty ++ v).getLsbD (m + 12))) ∧
        ∀ n : Fin 24, packFrameOk (packFrame ty v ^^^ (1#24 <<< n.val)) = false) ∧
  ∀ (s : State) (ch : ChId) (f : Fin 64) (ty : BitVec 4) (v : BitVec 12), let c := s.chan ch
    let g := c.pack.fingers[f]
    let put := fun h : Finger => { c with pack := { c.pack with fingers := c.pack.fingers.set f h } }
    g.state = .acq ∨ g.state = .valid → g.frameDue = true →
    let ok := { g with state := .valid, aligned := true, bad := 0, since := 0 }
    let gives := fun d : Chan => exec (.packFrameReceived ch f) s = .next ((s.putChan ch d.packCount).countCh ch Reg.PACK_CNT0 false false)
    let fails := fun h : Finger => exec (.packFrameReceived ch f) s = .next ((s.putChan ch (put h)).countCh ch Reg.PACK_CNT0 true false)
    (g.bits = packFrame ty v →
      (ty = 1 → gives (put { ok with x := v, xv := true, age := 0 })) ∧
      (ty = 2 → gives (put { ok with w := v, wv := true })) ∧
      (ty = 3 → gives (put { ok with id := v.setWidth 10, idv := true })) ∧
      (ty = 4 → gives ((put ok.freed).packScan f)) ∧
      (ty.toNat ∉ [1, 2, 3, 4] → gives (put ok))) ∧
    (packFrameOk g.bits = false → (g.bad = 0 → fails { g with bad := 1, aligned := true, since := 0 }) ∧
      (g.bad = 1 → fails { g with bad := 0, aligned := false, since := 0 }))

/-- R220, R225, R228: at the end of a frame the ages advance, the consensus step is due, the next frame of the order starts
and a backoff counts down; a duplicate that the own-code finger has found first draws a backoff of 4 to 15 frames and a new
phase, both free values, and during the backoff or in the 64 frames after it latches DUP; at the backoff's end the new phase
holds, with which the injection resumes. Completes with its own effect: PACK_FRAME_END, PACK_DUPLICATE, PACK_BACKOFF_END. -/
def Obligations.PackDuplicates : Prop :=
  ∀ (s : State) (ch : ChId), let c := s.chan ch
    (c.packListens = true → c.pack.frameEnd = true → ∃ t, exec (.packFrameEnd ch) s = .next t ∧
      t = s.putChan ch (t.chan ch) ∧ let d := t.chan ch
      d.pack.frameEnd = false ∧ d.pack.consensusDue = true ∧
      (∀ f : Fin 64, (d.pack.fingers[f]).age = min 15 ((c.pack.fingers[f]).age + 1)) ∧
      (c.pack.leaving ≠ 1 → c.pack.plain = false → d.pack.frame = c.packFrameAt ((c.pack.order + 1) % 4)) ∧
      (c.pack.leaving = 1 → d.pack.frame = c.packLeaveFrame) ∧
      (c.pack.leaving = 2 → d.bit Reg.PACK_STAT Fld.PACK_STAT_TX = false) ∧
      (c.bit Reg.PACK_STAT Fld.PACK_STAT_BACKOFF = true →
        d.fld Reg.PACK_OWN Fld.PACK_OWN_BOFF = c.fld Reg.PACK_OWN Fld.PACK_OWN_BOFF - 1)) ∧
    (∀ k, c.pack.dup.seen = some k → c.pack.enabled = true → c.packListens = true →
      (c.bit Reg.PACK_STAT Fld.PACK_STAT_BACKOFF = false → c.pack.window = none → ∃ t,
        exec (.packDuplicate ch) s = .next t ∧ let d := t.chan ch
        d.bit Reg.PACK_STAT Fld.PACK_STAT_BACKOFF = true ∧ 4 ≤ d.fld Reg.PACK_OWN Fld.PACK_OWN_BOFF ∧
        d.fld Reg.PACK_OWN Fld.PACK_OWN_BOFF ≤ 15 ∧ (∃ n, n < 255 ∧ d.pack.newPhase = some n) ∧
        d.fld Reg.PACK_DUPID Fld.PACK_DUPID_PHASE = c.pack.dup.phase.toNat ∧ d.pack.stopAtChip = true ∧
        d.bit Reg.PACK_STAT Fld.PACK_STAT_DUP = c.bit Reg.PACK_STAT Fld.PACK_STAT_DUP) ∧
      (c.bit Reg.PACK_STAT Fld.PACK_STAT_BACKOFF = true ∨ c.pack.window.isSome → ∃ t,
        exec (.packDuplicate ch) s = .next t ∧
        (t.chan ch).bit Reg.PACK_STAT Fld.PACK_STAT_DUP = true ∧ (t.chan ch).pack.stopAtChip = true)) ∧
    (c.bit Reg.PACK_STAT Fld.PACK_STAT_BACKOFF = true → c.fld Reg.PACK_OWN Fld.PACK_OWN_BOFF = 0 → ∃ t,
      exec (.packBackoffEnd ch) s = .next t ∧ t = s.putChan ch (t.chan ch) ∧ let d := t.chan ch
      d.bit Reg.PACK_STAT Fld.PACK_STAT_BACKOFF = false ∧ d.pack.window = some 0 ∧
      (∀ n, n < 256 → c.pack.newPhase = some n → d.fld Reg.PACK_OWN Fld.PACK_OWN_PHASE = n))

/-! ## PWM and the power stage (08_pwm_and_power_stage.md) -/

/-- R251 to R255, R274: a filtered driver fault is live until its release; on a switch that is on at its pad it is a DESAT,
which latches the trip and opens the turn-off sequence: the pad goes soft and keeps its command, pads that are off stay off,
the other pads of outer switches follow after TOFF and those of inner ones after TORD. In the blanking window it waits for
the window's end; on a switch that is off it is a UV report. Completes with its own effect: DRIVER_FAULT_FILTERED,
BLANKING_END. -/
def Obligations.Desaturation : Prop :=
  ∀ (s : State) (ch : ChId) (pad : Fin 12), let c := s.chan ch
    let b := 1#12 <<< pad.val
    let live := c.setFault pad true
    let u := s.putChan ch live
    let pos := live.gatePos s.time.refNs
    ((BitVec.ofNat 12 (c.fld Reg.FLT_CFG Fld.FLT_CFG_EN)).getLsbD pad.val = true →
      exec (.driverFaultFiltered ch pad false) s = .next (s.putChan ch (c.setFault pad false)) ∧
      (BitVec.ofNat 12 (live.fld Reg.PWM_STAT Fld.PWM_STAT_FLIVE)).getLsbD pad.val = true ∧
      (BitVec.ofNat 12 ((c.setFault pad false).fld Reg.PWM_STAT Fld.PWM_STAT_FLIVE)).getLsbD pad.val = false ∧
      (u.faultsIdle ch = true → exec (.driverFaultFiltered ch pad true) s = .next u) ∧
      (u.faultsIdle ch = false →
        (live.padOn pad pos = true → live.blanking pad pos = false →
          exec (.driverFaultFiltered ch pad true) s = .next (u.desat ch pad)) ∧
        (live.padOn pad pos = true → live.blanking pad pos = true → exec (.driverFaultFiltered ch pad true) s =
          .next (s.putChan ch { live with pwm := { live.pwm with blanked := live.pwm.blanked ||| b } })) ∧
        (live.padOn pad pos = false → c.mode ≠ 8 →
          exec (.driverFaultFiltered ch pad true) s = .next (u.uvReport ch pad)))) ∧
    (c.pwm.blanked.getLsbD pad.val = true →
      let v := s.putChan ch { c with pwm := { c.pwm with blanked := c.pwm.blanked &&& ~~~b } }
      v.faultsIdle ch = false → exec (.blankingEnd ch pad) s = .next (v.desat ch pad)) ∧
    (let on := c.padsOn (c.gatePos s.time.refNs)
     let d := (s.desat ch pad).chan ch
     d.bit Reg.PWM_TRIP Fld.PWM_TRIP_DESAT = true ∧ (d.get Reg.CH_SAFE_LIVE).getLsbD 6 = true ∧
     (d.get Reg.CH_SAFE_LATCH).getLsbD 6 = true ∧
     (BitVec.ofNat 12 (d.fld Reg.PWM_TRIP Fld.PWM_TRIP_SWMASK)).getLsbD pad.val = true ∧ d.pwm.soft.getLsbD pad.val = true ∧
     (c.pwm.window = none → c.pwm.seqOn = false → d.pwm.seqOn = true ∧ d.pwm.soft = b ∧ d.pwm.window = some b ∧
       d.pwm.frozen = b &&& on ∧
       d.pwm.other = on &&& c.outerPads &&& ~~~b ∧ d.pwm.late = on &&& c.innerPads &&& ~~~b ∧
       d.pwm.held = c.padMask (fun _ => true) &&& ~~~on &&& ~~~b))

/-- R253, R254, R255, R258, R260, R261: the ends of the protection times. After TSOFT a soft pad is off; after TOFF and TORD
the waiting pads go off, or soft where they are on with their own fault live in a sequence that judges it; a leg taken off
alone has its own TORD; the window's end writes one record with the faulted switches and their legs; a leg off for 100 ms
trips UVREP; the brake follows its demand again after a minimum time; a failed calibration clears CAL_OK and is recorded.
Completes with its own effect: TSOFT_EXPIRY, TOFF_EXPIRY, TORD_EXPIRY, DESAT_WINDOW_CLOSE, LEG_OFF_TIMEOUT,
BRAKE_MIN_TIME_EXPIRY, CAL_FAIL. -/
def Obligations.ProtectionTimes : Prop :=
  ∀ (s : State) (ch : ChId) (pad : Fin 12) (leg : Fin 3), let c := s.chan ch
    let b := (1#12 <<< pad.val) &&& c.pwm.soft
    let on := c.padsOn (c.gatePos s.time.refNs)
    let live := if c.pwm.judges then BitVec.ofNat 12 (c.fld Reg.PWM_STAT Fld.PWM_STAT_FLIVE) &&& on else 0
    exec (.tsoftExpiry ch pad) s = .next (s.putChan ch ({ c with pwm := { c.pwm with
      soft := c.pwm.soft &&& ~~~b, held := c.pwm.held ||| b } } : Chan).seqSettle) ∧
    (live = 0 → exec (.toffExpiry ch) s = .next (s.putChan ch ({ c with pwm := { c.pwm with
        other := 0, held := c.pwm.held ||| c.pwm.other } } : Chan).seqSettle) ∧
      exec (.tordExpiry ch none) s = .next (s.putChan ch ({ c with pwm := { c.pwm with
        late := 0, held := c.pwm.held ||| c.pwm.late } } : Chan).seqSettle)) ∧
    exec (.tordExpiry ch (some leg)) s =
      .next (s.putChan ch { c with pwm := { c.pwm with legLate := c.pwm.legLate &&& ~~~innerOf leg.val } }) ∧
    (∃ t u, exec (.toffExpiry ch) s = .next t ∧ exec (.tordExpiry ch none) s = .next u ∧
      t = s.putChan ch (t.chan ch) ∧ u = s.putChan ch (u.chan ch) ∧
      (t.chan ch).pwm.other = 0 ∧ (t.chan ch).pwm.soft = c.pwm.soft ||| (live &&& c.pwm.other) ∧
      (u.chan ch).pwm.late = 0 ∧ (u.chan ch).pwm.soft = c.pwm.soft ||| (live &&& c.pwm.late)) ∧
    (c.pwm.seqOn = true → c.pwm.soft ||| c.pwm.other ||| c.pwm.late = 0 → c.seqSettle.pwm.driving = false) ∧
    (∀ m, c.pwm.window = some m → exec (.desatWindowClose ch) s = .next ((s.putChan ch { c with
      pwm := { c.pwm with window := none } }).record 0x07 ch.val 2 3 (recData [(0, 2, m.toNat), (2, 1, c.legsOf m)]))) ∧
    (c.pwm.legs[leg] ≠ .on → c.bit Reg.PWM_TRIP Fld.PWM_TRIP_UVREP = false → ∃ t, exec (.legOffTimeout ch leg) s = .next t ∧
      (t.chan ch).bit Reg.PWM_TRIP Fld.PWM_TRIP_UVREP = true ∧ ((t.chan ch).get Reg.CH_SAFE_LATCH).getLsbD 6 = true ∧
      (t.chan ch).pwm.seqOn = true) ∧
    exec (.brakeMinTimeExpiry ch) s =
      .next ((s.putChan ch { c with pwm := { c.pwm with brakeHold := false } }).brakeFollow ch) ∧
    exec (.calFail ch) s = .next ((s.putChan ch (c.setFld Reg.PWM_STAT Fld.PWM_STAT_CAL_OK 0)).record 0x07 ch.val 6 2 0)

/-- R236, R237, R259, R263, R345: the levels at a channel's pads. Every pad in HIZ has none; else a gate pad that does not
drive, is held off or is unused has its off level, the inverse of the active level that PWM_POL gives; a driving pad of a
leg that switches follows its switch's on-intervals; the brake pad and the contactor pads follow their commands. -/
def Obligations.PadLevels : Prop :=
  ∀ (s : State) (ch : ChId) (k : Fin 12), let c := s.chan ch
    let active := (c.get Reg.PWM_POL).getLsbD k.val
    (s.padsHiz ch = true → s.padLevel ch k.val = none ∧ s.brakeLevel ch = none ∧
      s.contactorLevel ch false = none ∧ s.contactorLevel ch true = none) ∧
    (s.padsHiz ch = false →
      s.brakeLevel ch = some (if c.bit Reg.PWM_STAT Fld.PWM_STAT_BRK then c.bit Reg.PWM_POL Fld.PWM_POL_BRKPOL
        else !c.bit Reg.PWM_POL Fld.PWM_POL_BRKPOL) ∧
      s.contactorLevel ch false = some (c.bit Reg.SAF_CH_STAT Fld.SAF_CH_STAT_K1CMD) ∧
      s.contactorLevel ch true = some (c.bit Reg.SAF_CH_STAT Fld.SAF_CH_STAT_K2CMD) ∧
      (c.pwm.lag.getLsbD k.val = false → c.pwm.driving = false ∨ c.pwm.held.getLsbD k.val = true →
        s.padLevel ch k.val = some (!active)) ∧
      (c.padSwitch k.val = 15 → c.pwm.soft.getLsbD k.val = false → s.padLevel ch k.val = some (!active)) ∧
      (∀ l : Fin 12, c.switchOf k.val = some l → c.pwm.driving = true → c.pwm.held.getLsbD k.val = false →
        c.pwm.soft.getLsbD k.val = false → c.pwm.legs.toList.getD (l.val / 4) .on = .on → c.pwm.ilkOff.getLsbD l.val = false →
        s.padLevel ch k.val = some (if (c.padSpans l).any (fun i => i.1 ≤ c.gatePos s.time.refNs && c.gatePos s.time.refNs < i.2)
          then active else !active)))

/-- R238, R241, R242, R244, R247, R248, R260, R262, R263: at an update point the gates drive where no inhibit, no mode and
no high impedance stops them and no latched trip has taken them off; PHASE alternates and the programmed times are
converted; in two levels S1 compares with round((m + 1) / 2 × H) and S4 with its complement, S2 and S3 stay off; a pulse
shorter than MINP is dropped or completed. When a leg's fault inputs have been released its pads are no longer live, and a
leg that was off refreshes or rejoins; an inserted refresh clears the switch's count and waits for its off-point. Completes
with its own effect: CARRIER_UPDATE_POINT, REFRESH_INSERT, LEG_FAULT_RELEASE. -/
def Obligations.UpdatePointsAndLegs : Prop :=
  (∀ (s : State) (ch : ChId), let c := s.chan ch
      (c.ticking = true → ∃ t, exec (.carrierUpdatePoint ch) s = .next t ∧ let d := t.chan ch
        (d.pwm.driving = true ↔ s.gatesBarred ch = false ∧ s.padsHiz ch = false ∧
          (c.get Reg.PWM_TRIP &&& 0xF = 0 ∨ c.pwm.driving = true)) ∧
        d.pwm.started = true ∧ d.pwm.times = c.pwmTimes ∧
        (d.bit Reg.PWM_STAT Fld.PWM_STAT_PHASE = true ↔
          c.pwm.started = true ∧ c.bit Reg.PWM_STAT Fld.PWM_STAT_PHASE = false) ∧
        d.get Reg.PWM_TRIP = c.get Reg.PWM_TRIP ∧ d.mode = c.mode) ∧
      (c.threeLevel = false → ∀ (peak : Bool) (leg : Fin 3) (m : Word),
        let k := compareOf c.carrierH (m.toInt + 2 ^ 31).toNat (2 ^ 32)
        (c.legCmds peak leg m).1 = [⟨false, k⟩, ⟨false, 0⟩, ⟨false, 0⟩, ⟨true, k⟩]) ∧
      (∀ h num den : Nat, 0 < den → (compareOf h num den : Int) = ((num * h : Rat) / den + 1 / 2).floor) ∧
      (∀ (h minp : Nat) (x : SwCmd), x.cmp ≤ h → let y := x.minPulse h minp
        let onOf := fun z : SwCmd => if z.peak then h - z.cmp else z.cmp
        y.peak = x.peak ∧ (onOf x < minp → onOf y = 0) ∧ (minp ≤ onOf x → h - onOf x < minp → onOf y = h) ∧
          (minp ≤ onOf x → minp ≤ h - onOf x → y = x))) ∧
  (∀ (s : State) (ch : ChId) (leg : Fin 3) (sw : Fin 12), let c := s.chan ch
      (∃ t, exec (.legFaultRelease ch leg) s = .next t ∧ t = s.putChan ch (t.chan ch) ∧ let d := t.chan ch
        d.fld Reg.PWM_STAT Fld.PWM_STAT_FLIVE =
          (BitVec.ofNat 12 (c.fld Reg.PWM_STAT Fld.PWM_STAT_FLIVE) &&& ~~~(c.legPads leg.val)).toNat ∧
        d.pwm.unreleased.getLsbD leg.val = false ∧
        (∀ j, j ≠ leg → d.pwm.legs[j] = c.pwm.legs[j]) ∧
        (c.pwm.legs[leg] ≠ .off → d.pwm.legs[leg] = c.pwm.legs[leg]) ∧
        (c.pwm.legs[leg] = .off → d.pwm.legs[leg] = if c.get Reg.PWM_TRIP &&& 0xF ≠ 0 then .off
          else if c.bit Reg.BST_CFG Fld.BST_CFG_EN then .due (c.fld Reg.BST_CFG Fld.BST_CFG_NSEQ + 1) else .rejoin)) ∧
      (c.ticking = true → c.bit Reg.BST_CFG Fld.BST_CFG_EN = true → (c.get Reg.BST_MASK).getLsbD sw.val = true →
        c.fld Reg.BST_CFG Fld.BST_CFG_NPER ≤ c.pwm.refCount[sw] → exec (.refreshInsert ch sw) s =
          .next (s.putChan ch { c with pwm := { c.pwm with
            refCount := c.pwm.refCount.set sw 0, refNext := c.pwm.refNext ||| (1#12 <<< sw.val),
            refreshed := c.pwm.refreshed ||| (1#12 <<< sw.val) } })))

/-! ## Clocks (09_clocking.md) -/

/-- R278, R279, R288, R295, R298: a window within ±10 % of FNOM counts, and the second in a row makes the reference active;
a bad window or interval makes it inactive at once, with LOST where it was active; MISMATCH is judged at ±200 ppm while both
are. A ramp segment ends when the offset has reached its target, unless HOLD is set: the next segment begins, or the profile
ends; the host port's PLL shows its lock, and its loss is recorded and, over PCI Express, a host reset with the link down.
Completes with its own effect: REF_ACTIVITY_WINDOW, REF_MISMATCH_WINDOW, RAMP_SEGMENT_END, HOST_PLL_LOCK, HOST_PLL_LOSS,
REF_INTERVAL_FAIL. -/
def Obligations.ReferencesAndRamps : Prop :=
  (∀ (s : State) (ref : RefId) (kHz edges : Nat),
      let good := 9 * s.fnom ≤ 10 * kHz ∧ 10 * kHz ≤ 11 * s.fnom
      (good → s.goodWindows ref = 0 → exec (.refActivityWindow ref kHz) s = .next (s.setGoodWindows ref 1)) ∧
      (good → 1 ≤ s.goodWindows ref → ∃ t, exec (.refActivityWindow ref kHz) s = .next t ∧
        t.gbit Reg.REF_STAT (refAct ref) = true ∧ t.gbit Reg.GSTAT (gstatAct ref) = true ∧
        t.goodWindows ref = s.goodWindows ref + 1) ∧
      (∃ t, exec (.refIntervalFail ref) s = .next t ∧ (¬ good → exec (.refActivityWindow ref kHz) s = .next t) ∧
        t.gbit Reg.REF_STAT (refAct ref) = false ∧ t.gbit Reg.GSTAT (gstatAct ref) = false ∧ t.goodWindows ref = 0 ∧
        t.gbit Reg.REF_STAT Fld.REF_STAT_MISMATCH = false ∧
        (s.gbit Reg.REF_STAT (refAct ref) = true → t.gbit Reg.REF_STAT (refLost ref) = true) ∧ ∀ ch, t.chan ch = s.chan ch) ∧
      (s.gbit Reg.REF_STAT Fld.REF_STAT_A_ACT = true → s.gbit Reg.REF_STAT Fld.REF_STAT_B_ACT = true →
        exec (.refMismatchWindow edges) s = .next (s.gset Reg.REF_STAT Fld.REF_STAT_MISMATCH
          (if 200 * (2 : Int) ^ 20 < |(edges : Int) - 2 ^ 20| * 1000000 then 1 else 0)))) ∧
  (∀ (s : State) (ch : ChId), let c := s.chan ch
      (∀ g rest since, c.pll.profile = g :: rest → c.bit Reg.PLL_RAMP Fld.PLL_RAMP_HOLD = false →
        ((c.rampTo since).ofs ≠ g.tgt → exec (.rampSegmentEnd ch since) s = .next s) ∧
        ((c.rampTo since).ofs = g.tgt → ∃ t, exec (.rampSegmentEnd ch since) s = .next t ∧ t = s.putChan ch (t.chan ch) ∧
          (t.chan ch).ofs = g.tgt ∧ (t.chan ch).pll.profile = rest ∧
          (rest = [] → (t.chan ch).bit Reg.PLL_RAMP Fld.PLL_RAMP_BUSY = false ∧
            (t.chan ch).bit Reg.PLL_STAT Fld.PLL_STAT_BUSY = false) ∧
          (rest ≠ [] → (t.chan ch).fld Reg.PLL_RAMP Fld.PLL_RAMP_SEG =
            (c.fld Reg.PLL_RAMP Fld.PLL_RAMP_SEG + 1) % 2 ^ Fld.PLL_RAMP_SEG.width))) ∧
      exec .hostPllLock s = .next (s.gset Reg.GSTAT Fld.GSTAT_HOST_PLL_LOCK 1) ∧
      (let t := (s.gset Reg.GSTAT Fld.GSTAT_HOST_PLL_LOCK 0).record 0x08 0xF 5 2 0
       exec .hostPllLoss s = .next (if s.pcie then t.pcieReset.pcieDown else t)))

/-- R282, R283, R290, R293: locking. The band search ends with its band; three windows within 100 ppm of the count that the
lock point and the integrated offset give, in a row, lock the PLL, a worse one counts anew; 1 ms without lock is LFAIL and a
hard channel fault, before the waiting writes land; a running channel whose window is beyond 1,000 ppm loses its lock; at
the start's end the channel is in HALT with TCAUSE 2. Completes with its own effect: BAND_SEARCH_END, LOCK_WINDOW,
LOCK_TIMEOUT, CHANNEL_START. -/
def Obligations.Locking : Prop :=
  (∀ d : Chan, d.pll.area = 0 →
    d.windowExpected.1 * (d.fLock.2 * (d.pll.fnom * 1000)) = d.fLock.1 * 1024 * d.windowExpected.2) ∧
  ∀ (s : State) (ch : ChId) (band : BitVec 4) (count since : Nat), let c := s.chan ch
    let r := c.rampTo since
    let e := r.windowExpected
    let within := fun ppm : Nat => |(count : Int) * e.2 - e.1| * 1000000 ≤ ppm * e.1
    (c.pll.phase = .search → ∃ t, exec (.bandSearchEnd ch band) s = .next t ∧ t = s.putChan ch (t.chan ch) ∧
      (t.chan ch).pll = { c.pll with phase := .windows, good := 0 } ∧
      (t.chan ch).fld Reg.PLL_STAT Fld.PLL_STAT_BAND = band.toNat) ∧
    (c.pll.phase = .windows → ∃ t, exec (.lockWindow ch count since) s = .next t ∧ (t.chan ch).pll.area = 0 ∧
      (¬ within 100 → (t.chan ch).pll.good = 0 ∧ (t.chan ch).pll.phase = .windows) ∧
      (within 100 → c.pll.good < 2 → (t.chan ch).pll.good = c.pll.good + 1 ∧ (t.chan ch).pll.phase = .windows) ∧
      (within 100 → 2 ≤ c.pll.good → c.pll.start ≠ .relock → (t.chan ch).pll.phase = .calibrate ∧
        (t.chan ch).bit Reg.PLL_STAT Fld.PLL_STAT_LOCK = true ∧ (t.chan ch).bit Reg.PLL_STAT Fld.PLL_STAT_BYPASS = false ∧
        (t.chan ch).bit Reg.PLL_STAT Fld.PLL_STAT_GATED = false)) ∧
    (c.pll.phase ≠ .windows → c.lockHeld = true →
      (let fm := s.putChan ch { r.put Reg.PLL_FMEAS (BitVec.ofInt 32
         (quantFloor 11 ((count * c.pll.fnom * 65536 : Nat) : Int) (1024 * 1000))) with pll := { r.pll with area := 0 } }
       exec (.lockWindow ch count since) s =
         .next (if within 1000 then fm else fm.clockLoss ch false false))) ∧
    (c.pll.phase = .search ∨ c.pll.phase = .windows → ∃ u : State, exec (.lockTimeout ch) s = .next (u.landAll ch).bootSettled ∧
      (u.chan ch).bit Reg.PLL_STAT Fld.PLL_STAT_LFAIL = true ∧ (u.chan ch).mode = 1 ∧ (u.chan ch).faulted = true) ∧
    (∀ g, c.pll.phase = .calibrate → c.pll.start = .fromOff ∨ c.pll.start = .reset → s.committed ch = some g →
      ∃ t, exec (.channelStart ch) s = .next t ∧ (t.chan ch).mode = 1 ∧ (t.chan ch).faulted = false ∧
        (t.chan ch).fld Reg.CH_MODE_CUR Fld.CH_MODE_CUR_TCAUSE = 2 ∧ (t.chan ch).pll.phase = .idle ∧
        (t.chan ch).ctl.starting = true)

/-- R57, R286, R292, R293, R294: a missing edge with a usable other reference switches to it; without one the fourth in a
row is a loss of reference, or ends a lock under way; the ceiling guard acts at 8.8 GHz over FNOM, or at a period under 1.7
ns. Each loss of a running channel is a hard channel fault on the bypass clock, with its PLL_STAT bit, before the waiting
writes land. Completes with its own effect: REF_EDGE_MISSING, CEILING_GUARD. -/
def Obligations.ClockLosses : Prop :=
  ∀ (s : State) (ch : ChId) (further : Bool), let c := s.chan ch
    let locking := c.pll.phase = .search ∨ c.pll.phase = .windows
    (c.lockHeld = true ∨ locking → s.otherRefUsable ch = true → ∃ t, exec (.refEdgeMissing ch further) s = .next t ∧
      (t.chan ch).bit Reg.PLL_STAT Fld.PLL_STAT_ACTREF = !c.bit Reg.PLL_STAT Fld.PLL_STAT_ACTREF ∧
      (t.chan ch).bit Reg.PLL_STAT Fld.PLL_STAT_REFSW = true ∧ (t.chan ch).pll.missing = 0 ∧
      (t.chan ch).pll.pwHold = c.ticking) ∧
    (c.lockHeld = true ∨ locking → s.otherRefUsable ch = false →
      (let n := if further then c.pll.missing + 1 else 1
       let t := s.putChan ch { c with pll := { c.pll with missing := n, pwHold := c.ticking } }
       exec (.refEdgeMissing ch further) s = .next (if n < 4 then t
         else if locking then t.lockFail ch else t.clockLoss ch true false))) ∧
    (∀ n, c.lockHeld = true → 0 < c.pll.fnom → 550000 * 16 ≤ n * c.pll.fnom →
      exec (.ceilingGuard ch (.count n)) s = .next (s.clockLoss ch false true)) ∧
    (∀ n, 0 < c.pll.fnom → n * c.pll.fnom < 550000 * 16 → exec (.ceilingGuard ch (.count n)) s = .next s) ∧
    (∀ ps, c.lockHeld = true → ps < 1700 → exec (.ceilingGuard ch (.period ps)) s = .next (s.clockLoss ch false true)) ∧
    (∀ (u : State) (lor ceil : Bool), ∃ v : State, u.clockLoss ch lor ceil = v.landAll ch ∧ let d := v.chan ch
      d.mode = 1 ∧ d.faulted = true ∧ d.bit Reg.PLL_STAT Fld.PLL_STAT_BYPASS = true ∧
      d.bit Reg.PLL_STAT Fld.PLL_STAT_LOCK = false ∧
      d.bit Reg.PLL_STAT (if lor then Fld.PLL_STAT_LOR else Fld.PLL_STAT_LOL) = true ∧ d.pll.profile = [])

/-! ## The pair (10_redundant_pair.md) -/

/-- R66, R307, R312, R323, R325, R335: training ends with both directions up where the delay is at most 500 ns, and compares
the partner's PRIO and layouts; a lane that goes down takes the link down, and without the receive direction no frame shows.
In a pair, CLAIM is accepted for a channel in HALT whose LEASH is released and that does not drive it, RELEASE for one in
HALT that holds it; RETRAIN takes both directions back to training. Completes with its own effect: LINK_TRAINING_END,
RETRAIN, LINK_DOWN, LEASH_CLAIM, LEASH_RELEASE. -/
def Obligations.PairLink : Prop :=
  ∀ (s : State) (rsp : TrainObs) (rxDir lane : Bool) (k : Ctx) (ch : ChId),
    (s.isPair = true → rsp.delay ≤ 2000 → ∃ t, exec (.linkTrainingEnd rsp) s = .next t ∧
      t.gfld Reg.PAIR_STAT Fld.PAIR_STAT_LINK = 2 ∧ t.gfld Reg.PAIR_LINK Fld.PAIR_LINK_TXUP = 3 ∧
      t.gfld Reg.PAIR_LINK Fld.PAIR_LINK_RXUP = 3 ∧ t.gfld Reg.PAIR_LINK Fld.PAIR_LINK_DELAY = rsp.delay ∧
      t.gbit Reg.PAIR_STAT Fld.PAIR_STAT_PPRIO = rsp.prio ∧ t.link.mlids = rsp.mlids ∧
      (rsp.prio = s.gbit Reg.PAIR_STAT Fld.PAIR_STAT_PRIO → t.gbit Reg.PAIR_STAT Fld.PAIR_STAT_PRIOERR = true) ∧
      ∀ ch : ChId, t.cs ch Fld.PAIR_CHSTAT_XLAYOUT = if rsp.mlids.getD ch.val 0 = (s.chan ch).mlid then 0 else 1) ∧
    (s.isPair = true → 2000 < rsp.delay → ∃ t, exec (.linkTrainingEnd rsp) s = .next t ∧
      t.gfld Reg.PAIR_STAT Fld.PAIR_STAT_LINK = 1 ∧ t.gfld Reg.PAIR_LINK Fld.PAIR_LINK_TXUP = 0 ∧
      t.gfld Reg.PAIR_LINK Fld.PAIR_LINK_RXUP = 0) ∧
    (s.gfld Reg.PAIR_STAT Fld.PAIR_STAT_LINK ≠ 0 → ∃ t, exec (.linkDown rxDir lane) s = .next t ∧
      t.gfld Reg.PAIR_STAT Fld.PAIR_STAT_LINK = 1 ∧
      (let up := if rxDir then Fld.PAIR_LINK_RXUP else Fld.PAIR_LINK_TXUP
       let n := s.gfld Reg.PAIR_LINK up
       t.gfld Reg.PAIR_LINK up = (if lane then n % 2 else n / 2 * 2)) ∧
      ∀ ch, t.chan ch = if rxDir then (s.chan ch).setFld Reg.CH_ALIGN Fld.CH_ALIGN_FRAMES 0 else s.chan ch) ∧
    (s.serves → s.isPair = true →
      (s.keepsRoG k Reg.PAIR_CTL (1#32 <<< ch.val) → (s.chan ch).mode = 1 → s.cs ch Fld.PAIR_CHSTAT_LEASH = 0 →
        (s.chan ch).pair.drive = false → exec (.leashClaim k (1#32 <<< ch.val)) s =
          .next ((s.onPair ch fun p => { p with drive := true, aLow := true, claim := some .host }).answered)) ∧
      (s.keepsRoG k Reg.PAIR_CTL (1#32 <<< (16 + ch.val)) → (s.chan ch).mode = 1 → s.holds ch = true →
        exec (.leashRelease k (1#32 <<< (16 + ch.val))) s = .next ((s.hostRelease ch).answered) ∧
        ((s.hostRelease ch).chan ch).pair = { (s.chan ch).pair with
          drive := false, aLow := false, claim := none, padsEn := false } ∧
        (s.hostRelease ch).cs ch Fld.PAIR_CHSTAT_GUCAUSE = 9) ∧
      (s.keepsRoG k Reg.PAIR_CTL 0x10000000 → ∃ t, exec (.retrain k 0) s = .next t ∧
        t.gfld Reg.PAIR_STAT Fld.PAIR_STAT_LINK = 1 ∧ t.gfld Reg.PAIR_LINK Fld.PAIR_LINK_TXUP = 0 ∧
        t.gfld Reg.PAIR_LINK Fld.PAIR_LINK_RXUP = 0 ∧ ∀ j, t.chan j = s.chan j))

/-- R308, R310, R316, R333: a heartbeat or a state frame is sent with its CRC while the link is up; a valid heartbeat
updates the partner's status and HB_OK, and its absence sets HB_LOST, counts and is recorded; a state frame that passes the
test is kept for its channel, else it is counted for that channel. Completes with its own effect: MIRROR_FRAME_SEND,
MIRROR_FRAME_RECEIVE, HEARTBEAT_SEND, HEARTBEAT_RECEIVE, HEARTBEAT_TIMEOUT. -/
def Obligations.PairMessages : Prop :=
  ∀ (s : State) (ch : ChId) (txOfs : BitVec 18) (ws : List Word) (since : Nat),
    (s.isPair = true → s.gfld Reg.PAIR_STAT Fld.PAIR_STAT_LINK = 2 →
      exec .heartbeatSend s = .next { s with link := { s.link with
        sentHb := s.heartbeatWords ++ [crc32c (bytesOf s.heartbeatWords)], seq := (s.link.seq + 1) % 256 } } ∧
      (s.holds ch = true → (s.chan ch).ticking = true → (s.chan ch).enginesDone = true →
        exec (.mirrorFrameSend ch txOfs) s = .next { s with link := { s.link with
          sentFrame := (s.chan ch).mirrorWords ch s.time.refNs txOfs ++
            [crc32c (bytesOf ((s.chan ch).mirrorWords ch s.time.refNs txOfs))] } })) ∧
    (ws.length = 15 → (ws.getD 0 0).extractLsb' 0 8 = 2 → ∃ t,
      exec (.heartbeatReceive (ws ++ [crc32c (bytesOf ws)])) s = .next t ∧ t.link.heard = ws ++ [crc32c (bytesOf ws)] ∧
      t.gbit Reg.PAIR_STAT Fld.PAIR_STAT_HB_OK = true ∧ t.gbit Reg.PAIR_PSTAT Fld.PAIR_PSTAT_PVALID = true ∧
      t.gfld Reg.PAIR_PSTAT Fld.PAIR_PSTAT_PHOLD = ((ws.getD 2 0).extractLsb' 0 12).toNat ∧
      t.gfld Reg.PAIR_PSTAT Fld.PAIR_PSTAT_PARMED = ((ws.getD 2 0).extractLsb' 16 12).toNat ∧
      ∀ ch, t.chan ch = s.chan ch) ∧
    (s.gbit Reg.PAIR_STAT Fld.PAIR_STAT_HB_OK = true → ∃ t, exec .heartbeatTimeout s = .next t ∧
      t.gbit Reg.PAIR_STAT Fld.PAIR_STAT_HB_OK = false ∧ t.gbit Reg.PAIR_STAT Fld.PAIR_STAT_HB_LOST = true ∧
      t.gbit Reg.PAIR_PSTAT Fld.PAIR_PSTAT_PVALID = false ∧
      ∀ j : ChId, s.cs j Fld.PAIR_CHSTAT_LEASH = 2 → t.cs j Fld.PAIR_CHSTAT_PLH = 1) ∧
    (s.gbit Reg.PAIR_STAT Fld.PAIR_STAT_HB_OK = false → exec .heartbeatTimeout s = .next s) ∧
    (ws.length = 31 → ((ws.getD 0 0).extractLsb' 22 4).toNat = ch.val → (ws.getD 0 0).extractLsb' 26 4 = 1 →
      (let f := ws ++ [crc32c (bytesOf ws)]
       let tick := (ws.getD 0 0).extractLsb' 0 16
       let inOrder := ∀ u, (s.chan ch).pair.lastTick = some u → 1 ≤ (tick - u).toNat ∧ (tick - u).toNat ≤ 4
       let r := (s.chan ch).framePhase (s.gfld Reg.PAIR_LINK Fld.PAIR_LINK_DELAY) f since
       (s.cs ch Fld.PAIR_CHSTAT_LEASH = 2 → inOrder →
         exec (.mirrorFrameReceive f since) s = .next (s.onPair ch fun p => { p with
           frame := some f, lastTick := some tick, mode := some ((ws.getD 1 0).extractLsb' 0 4), framesIn := true,
           fresh := true, back := r.1, err := r.2 })) ∧
       (s.cs ch Fld.PAIR_CHSTAT_LEASH ≠ 2 ∨ ¬inOrder → exec (.mirrorFrameReceive f since) s =
         .next (s.countG (Reg.HND_CNT ch) true false))))

/-- R317 to R319, R322 to R324, R326: the LEASH. A driving unit toggles its wire; the states shown; INVALID makes the unit
with PRIO 0 let go, and a holder give up; an ARMED channel claims a released LEASH at once; a claim with a clean readback
holds it; both wires high give the channel up. Each of these commands completes, with the effect its clause gives. Completes
with its own effect: LEASH_TOGGLE, LEASH_STATE_CHANGE, LEASH_READBACK_FAULT, RELEASE_GUARD_EXPIRY, CLAIM_CHECK_END. -/
def Obligations.Leash : Prop :=
  ∀ (s : State) (ch : ChId) (w : List (Bool × Bool)), let p := (s.chan ch).pair
    exec (.leashToggle ch) s = .next (s.onPair ch fun p => if p.drive then { p with aLow := !p.aLow } else p) ∧
    (leashSeen w = none → exec (.leashStateChange ch w) s = .next s) ∧
    (leashSeen w = some .held →
      (s.holds ch = true → exec (.leashStateChange ch w) s = .next (s.setLeash ch 1)) ∧
      (s.holds ch = false → ∃ t, exec (.leashStateChange ch w) s = .next t ∧ t.cs ch Fld.PAIR_CHSTAT_LEASH = 2 ∧
        t.cs ch Fld.PAIR_CHSTAT_GUARD = 0)) ∧
    (leashSeen w = some .released → ∃ t, exec (.leashStateChange ch w) s = .next t ∧ t.cs ch Fld.PAIR_CHSTAT_LEASH = 0 ∧
      (s.cs ch Fld.PAIR_CHSTAT_ARMED = 1 → p.drive = false → (t.chan ch).pair =
        { p with drive := true, aLow := true, claim := some .check }) ∧
      (s.cs ch Fld.PAIR_CHSTAT_ARMED ≠ 1 → (t.chan ch).pair = p)) ∧
    (let invalid := fun t : State => t.cs ch Fld.PAIR_CHSTAT_INVSEEN = 1 ∧
       (s.prio = 0 → (t.chan ch).pair.drive = false ∧ (t.chan ch).pair.padsEn = false) ∧
       (s.prio ≠ 0 → s.holds ch = true → (t.chan ch).pair = p)
     (leashSeen w = some .invalid → ∃ t, exec (.leashStateChange ch w) s = .next t ∧ invalid t) ∧
     (p.drive = true → ∃ t, exec (.leashReadbackFault ch .releasedLow) s = .next t ∧
       exec (.leashReadbackFault ch .pulledHigh) s = .next t ∧ invalid t)) ∧
    (p.drive = true → exec (.leashReadbackFault ch .bothHigh) s = .next (s.giveUp ch 7)) ∧
    (p.claim = some .host → exec (.claimCheckEnd ch) s =
      .next (((s.groupDiscard ch).onPair ch fun p => { p with claim := none }).setLeash ch 1)) ∧
    (p.claim = some .check ∨ p.claim = some .forced → exec (.claimCheckEnd ch) s =
      .next ((s.onPair ch fun p => { p with claim := some .ready }).setLeash ch 1)) ∧
    (s.cs ch Fld.PAIR_CHSTAT_GUARD = 1 → ∃ t, exec (.releaseGuardExpiry ch) s = .next t ∧
      t.cs ch Fld.PAIR_CHSTAT_GUARD = 0 ∧ ((s.chan ch).mode = 8 → (t.chan ch).pair.eligible = true ∧
        (p.disarm = false → s.inhibited ch = false → t.cs ch Fld.PAIR_CHSTAT_ARMED = 1)))

/-- R64, R327 to R330, R176: the alignment's lock and unlock counts; a background test's result in the channel's mask, and a
failed one disarms a channel in SHADOW; a report renews the health registers of the channels in SHADOW and of no other; TEST
ends once every enabled test has run. Completes with its own effect: ALIGN_LOCKED, ALIGN_UNLOCKED, HOUND_TEST_END,
HOUND_HEALTH_REPORT, TEST_END. -/
def Obligations.Hound : Prop :=
  ∀ (s : State) (ch : ChId) (test : HoundTest), let c := s.chan ch
    let b := 1#4 <<< houndNum test
    (c.mode = 8 → 16 ≤ c.pair.good → exec (.alignLocked ch) s =
      .next (s.putChan ch (c.setFld Reg.CH_ALIGN Fld.CH_ALIGN_LOCKED 1))) ∧
    (4 ≤ c.pair.badErr ∨ 4 ≤ c.pair.noFrame → exec (.alignUnlocked ch) s =
      .next (s.putChan ch (c.setFld Reg.CH_ALIGN Fld.CH_ALIGN_LOCKED 0))) ∧
    (c.mode = 8 ∨ c.mode = 9 → s.houndEnabled &&& b ≠ 0 →
      (∃ t, exec (.houndTestEnd ch test true) s = .next t ∧ t = s.putChan ch (t.chan ch) ∧
        (t.chan ch).pair.results = c.pair.results ||| b ∧ (t.chan ch).regs = c.regs) ∧
      (∃ t, exec (.houndTestEnd ch test false) s = .next t ∧ (t.chan ch).pair.results = c.pair.results &&& ~~~b ∧
        (c.mode = 8 → t.gbit (Reg.HND_HEALTH ch) Fld.HND_HEALTH_DISARM = true ∧
          t.cs ch Fld.PAIR_CHSTAT_ARMED = 0 ∧ (t.chan ch).pair.disarm = true))) ∧
    (∃ t, exec .houndHealthReport s = .next t ∧ (∀ j, (t.chan j).regs = (s.chan j).regs) ∧
      (∀ j : ChId, (s.chan j).mode ≠ 8 → t.gget (Reg.HND_HEALTH j) = s.gget (Reg.HND_HEALTH j) ∧ t.chan j = s.chan j) ∧
      (∀ j : ChId, (s.chan j).mode = 8 → (t.chan j).pair.reports = (s.chan j).pair.reports + 1 ∧
        t.gfld (Reg.HND_HEALTH j) Fld.HND_HEALTH_SEQ = (s.gfld (Reg.HND_HEALTH j) Fld.HND_HEALTH_SEQ + 1) % 256)) ∧
    (c.mode = 9 → c.pair.done &&& s.houndEnabled = s.houndEnabled → exec (.testEnd ch) s =
      .next (s.putChan ch { c with ctl := { c.ctl with testDone := true } }))

/-! ## Safety functions (11_safety_functions.md) -/

/-- R342, R346 to R349, R385: outside reset a strobe completes and shows each channel's safety gates, contactor feedbacks
and causes; an engine withholds the gate permit exactly while a gate cause is live in its view, and INH follows; without a
disagreement that lasts, both engines refresh the safety slot. Completes with its own effect: SAFETY_STROBE. -/
def Obligations.SafetyStrobe : Prop :=
  ∀ (s : State) (env : StrobeEnv),
    (s.knl.powered = false ∨ s.knl.up = false → exec (.safetyStrobe env) s = .next s) ∧
    (s.knl.powered = true → s.knl.up = true → ∃ t, exec (.safetyStrobe env) s = .next t ∧
     (∀ ch : ChId, let a := env.a.getD ch.val ⟨true, true, false, false⟩
      let b := env.b.getD ch.val ⟨true, true, false, false⟩
      let d := t.chan ch
      d.bit Reg.SAF_CH_STAT Fld.SAF_CH_STAT_SGA = (a.sga || b.sga) ∧
      d.bit Reg.SAF_CH_STAT Fld.SAF_CH_STAT_SGB = (a.sgb || b.sgb) ∧
      d.bit Reg.SAF_CH_STAT Fld.SAF_CH_STAT_K1FB = a.k1Closed ∧ d.bit Reg.SAF_CH_STAT Fld.SAF_CH_STAT_K2FB = a.k2Closed ∧
      (d.get Reg.CH_SAFE_LIVE).getLsbD 0 = (a.sga || b.sga || a.sgb || b.sgb) ∧
      (d.get Reg.CH_SAFE_LIVE).getLsbD 1 = d.bit Reg.SAF_CH_STAT Fld.SAF_CH_STAT_DISC ∧
      (d.get Reg.CH_SAFE_LIVE).getLsbD 4 = !t.gbit Reg.SAF_STAT Fld.SAF_STAT_CONF ∧
      (d.bit Reg.SAF_CH_STAT Fld.SAF_CH_STAT_INH_A = !d.saf.permA.getLsbD 0) ∧
      (d.bit Reg.SAF_CH_STAT Fld.SAF_CH_STAT_INH_B = !d.saf.permB.getLsbD 0) ∧
      (d.saf.permA.getLsbD 0 = true → a.sga = false ∧ a.sgb = false) ∧
      (d.saf.permB.getLsbD 0 = true → b.sga = false ∧ b.sgb = false)) ∧
     (t.gbit Reg.SAF_STAT Fld.SAF_STAT_SEDIS = false → t.gbit Reg.KNL_STAT Fld.KNL_STAT_SSARM = true)) ∧
    (∀ (c : Chan) (sgi all : Bool), (c.permits sgi all).getLsbD 0 = true ↔ all = false ∧ sgi = false ∧
      (c.get Reg.CH_SAFE_LIVE) &&& 0x1E = 0)

/-- R348 to R352: a latched discrepancy, and the contactor's times. DISC and its cause; a settled contactor whose feedback
disagrees has code 1 or 2, a later disagreement 3 or 4, each with the cause CONT and a record; a consistent one is confirmed
after the debounce; the acknowledgements. Completes with its own effect: DISCREPANCY_LATCH, CONTACTOR_SETTLE_END,
CONTACTOR_DEBOUNCE_END, ACK_DISC, ACK_CONT. -/
def Obligations.DiscrepancyAndContactors : Prop :=
  ∀ (s : State) (ch : ChId) (k2 : Bool) (k : Ctx), let c := s.chan ch
    let x := c.contactor k2
    let flt := c.fld Reg.SAF_CH_STAT (kFltField k2)
    (c.fld Reg.SAF_CH_CFG Fld.SAF_CH_CFG_TD ≤ c.saf.discA ∨ c.fld Reg.SAF_CH_CFG Fld.SAF_CH_CFG_TD ≤ c.saf.discB →
      (c.saf.discAt < c.fld Reg.SAF_CH_CFG Fld.SAF_CH_CFG_TD → ∃ t, exec (.discrepancyLatch ch) s = .next t ∧
        (t.chan ch).bit Reg.SAF_CH_STAT Fld.SAF_CH_STAT_DISC = true ∧ ((t.chan ch).get Reg.CH_SAFE_LATCH).getLsbD 1 = true ∧
        (t.chan ch).saf.discAt = max c.saf.discA c.saf.discB) ∧
      (c.fld Reg.SAF_CH_CFG Fld.SAF_CH_CFG_TD ≤ c.saf.discAt → exec (.discrepancyLatch ch) s = .next s)) ∧
    (x.settling = true → c.kEnabled k2 = false → exec (.contactorSettleEnd ch k2) s =
      .next (s.putChan ch (c.setContactor k2 ⟨false, true, x.clean⟩))) ∧
    (x.settling = true → c.kEnabled k2 = true → (s.checksContactors ch = false ∨ c.kConsistent k2 = true ∨ flt ≠ 0) →
      exec (.contactorSettleEnd ch k2) s = .next (s.putChan ch (c.setContactor k2 { x with settling := false }))) ∧
    (x.settling = true → c.kEnabled k2 = true → s.checksContactors ch = true → c.kConsistent k2 = false → flt = 0 →
      exec (.contactorSettleEnd ch k2) s = .next ((s.putChan ch (c.setContactor k2 { x with settling := false })).contactorFault
        ch k2 (if c.kCmd k2 then 1 else 2))) ∧
    (c.kConsistent k2 = true → exec (.contactorDebounceEnd ch k2) s = .next (s.putChan ch (c.setContactor k2
      { x with clean := true, confirmed := x.confirmed || c.kEnabled k2 }))) ∧
    (c.kConsistent k2 = false → c.kEnabled k2 = true → s.checksContactors ch = true → x.settling = false → flt = 0 →
      exec (.contactorDebounceEnd ch k2) s = .next (s.contactorFault ch k2 (if c.kCmd k2 then 3 else 4))) ∧
    (∀ n, n < 8 → let d := (s.contactorFault ch k2 n).chan ch
      d.fld Reg.SAF_CH_STAT (kFltField k2) = n ∧ (d.get Reg.CH_SAFE_LIVE).getLsbD 2 = true ∧
      (d.get Reg.CH_SAFE_LATCH).getLsbD 2 = true) ∧
    (s.reaches k ch → s.blackMask.testBit ch.val = false →
      (s.keepsRo k ch Reg.SAF_ACK 1 → c.bit Reg.SAF_CH_STAT Fld.SAF_CH_STAT_DISC = true →
        exec (.ackDisc k) s = .next ((s.putChan ch (c.setFld Reg.SAF_CH_STAT Fld.SAF_CH_STAT_DACK 1)).answered)) ∧
      (s.keepsRo k ch Reg.SAF_ACK 2 → c.fld Reg.SAF_CH_STAT Fld.SAF_CH_STAT_K1FLT ≠ 0 ∨
          c.fld Reg.SAF_CH_STAT Fld.SAF_CH_STAT_K2FLT ≠ 0 →
        exec (.ackCont k) s = .next ((s.putChan ch { c with saf := { c.saf with contAck := true } }).answered)))

/-- R354 to R359: the black channel. The last word of a host frame submits it; the class of a frame in R357's order; the
watchdog of an established connection stops it; a device frame is published with its CRC over the connection identity, and a
read of SAF_TXF0 latches it for the context. Completes with its own effect: SAFETY_FRAME_SUBMIT, BC_WATCHDOG_EXPIRY,
SAFETY_FRAME_PUBLISH, SAF_TXF0_READ. -/
def Obligations.BlackChannel : Prop :=
  ∀ (s : State) (k : Ctx) (v : Word),
    (s.serves → s.keepsRoG k (Reg.SAF_RXF 7) v → s.saf.taken = none →
      exec (.safetyFrameSubmit k v) s = .next (({ s with saf := { s.saf with
        rxf := s.saf.rxf.set 7 v, taken := some (s.saf.rxf.set 7 v) } } : State).answered)) ∧
    (∀ bs : List Byte, (frameCrcOk (s.gget Reg.SAF_CONNID) bs = false → s.frameClass bs = 1) ∧
      (frameCrcOk (s.gget Reg.SAF_CONNID) bs = true → frameField bs 26 2 ≠ (crc16 ((bs.drop 6).take 20)).toNat →
        s.frameClass bs = 2) ∧
      (s.frameClass bs ∈ [0, 4, 5, 6] ↔ frameCrcOk (s.gget Reg.SAF_CONNID) bs = true ∧
        frameField bs 26 2 = (crc16 ((bs.drop 6).take 20)).toNat ∧ frameFieldBad bs = false)) ∧
    (s.gfld Reg.SAF_STAT Fld.SAF_STAT_BCST = 2 → ∃ t, exec .bcWatchdogExpiry s = .next t ∧
      t.gfld Reg.SAF_STAT Fld.SAF_STAT_BCST = 1 ∧ t.gfld Reg.SAF_BC_STAT Fld.SAF_BC_STAT_FCLASS = 7 ∧
      ∀ ch : ChId, s.blackMask.testBit ch.val = true → ((t.chan ch).get Reg.CH_SAFE_LATCH).getLsbD 3 = true) ∧
    (s.gfld Reg.SAF_STAT Fld.SAF_STAT_BCST = 2 → ∃ t, exec .safetyFramePublish s = .next t ∧
      t.saf.txSeq = (s.saf.txSeq + 1) % 65536 ∧ (∀ ch, t.chan ch = s.chan ch) ∧
      frameCrcOk (s.gget Reg.SAF_CONNID) s.deviceFrame = true ∧ s.deviceFrame.length = 32 ∧
      ∀ j : Fin 8, t.gget (Reg.SAF_TXF j.val) = byteWord ((s.deviceFrame.drop (4 * j.val)).take 4)) ∧
    (s.serves → s.readsBlank = false → exec (.safTxf0Read k) s =
      (let t := s.onCtx k fun p => { p with txf := (List.range 8).map fun i => s.gget (Reg.SAF_TXF i) }
       .next { t with host := { t.host with unsupported := false, rdata := [s.gget (Reg.SAF_TXF 0)] } }))

/-- R360 to R363: a changed parameter is unconfirmed: CONF and CHKV clear, UNCONF is raised in every channel and the check
is due; when both engines agree CHECK holds it, and at a start the stored confirmation's value confirms the set; SAF_CTL
confirms it with the code and an equal CONFIRM while no channel drives, and saves it. Completes with its own effect:
SAFETY_PARAM_WRITE, SAFETY_CHECK_DONE, SAFETY_CONFIRM. -/
def Obligations.SafetyParameters : Prop :=
  ∀ (s : State) (k : Ctx) (ch : ChId) (v : Word), s.anyDriving = false →
    (∀ r off, (r, off) ∈ [(SafParam.connid, Reg.SAF_CONNID), (SafParam.bcCfg, Reg.SAF_BC_CFG)] → s.serves →
      s.keepsRoG k off v → (off = Reg.SAF_BC_CFG → bcCfgOk v = true) → (s.plainWriteG off v).gget off ≠ s.gget off →
      ∃ t, exec (.safetyParamWrite k r v) s = .next t ∧ t.gget off = (s.plainWriteG off v).gget off ∧
        t.gbit Reg.SAF_STAT Fld.SAF_STAT_CONF = false ∧ t.gbit Reg.GSTAT Fld.GSTAT_SAFETY_CONF = false ∧
        t.gbit Reg.SAF_STAT Fld.SAF_STAT_CHKV = false ∧ t.saf.chkDue = true ∧
        ∀ j : ChId, ((t.chan j).get Reg.CH_SAFE_LATCH).getLsbD 4 = true) ∧
    (∀ r off, (r, off) ∈ [(SafParam.chCfg, Reg.SAF_CH_CFG), (SafParam.kCfg, Reg.SAF_K_CFG)] → s.reaches k ch →
      s.keepsRo k ch off v → (off = Reg.SAF_CH_CFG → chCfgOk v = true) → (off = Reg.SAF_K_CFG → kCfgOk v = true) →
      (s.chan ch).plainWord off v ≠ (s.chan ch).get off →
      exec (.safetyParamWrite k r v) s = .next (((s.onChan ch fun c => c.put off (c.plainWord off v)).safetyChanged
        off).answered)) ∧
    (s.saf.chkDue = true → ∃ t, exec (.safetyCheckDone none none) s = .next t ∧
      t.gget Reg.SAF_CHECK = crc32c (bytesOf s.safetySet) ∧ t.gbit Reg.SAF_STAT Fld.SAF_STAT_CHKV = true ∧
      t.saf.chkDue = false ∧ (s.store.confirm = some (crc32c (bytesOf s.safetySet)) →
        t.gbit Reg.SAF_STAT Fld.SAF_STAT_CONF = true)) ∧
    (∀ x, s.saf.chkDue = true → x ≠ s.safetyCheck → ∃ t, exec (.safetyCheckDone (some x) none) s = .next t ∧
      t.saf.chkDiff = true) ∧
    (s.serves → s.keepsRoG k Reg.SAF_CTL (setField v Fld.SAF_CTL_CONF 1) → getField v Fld.SAF_CTL_CODE = 0xC0F1 →
      s.gbit Reg.SAF_STAT Fld.SAF_STAT_CHKV = true → s.gget Reg.SAF_CONFIRM = s.gget Reg.SAF_CHECK →
      ∃ t, exec (.safetyConfirm k v) s = .next t ∧ t.gbit Reg.SAF_STAT Fld.SAF_STAT_CONF = true ∧
        t.gbit Reg.GSTAT Fld.GSTAT_SAFETY_CONF = true)

/-! ## The KENNEL (12_kennel.md) -/

/-- R378, R380, R384, R391: KNL_CTL through the port. A set needs no key; a clear or a reset needs 0x4B4E, a clear of the
global inhibit also a refreshed slot and released pads; a set wins over a clear; a host's accepted write does what the
port's does; KNL_INH holds its channels. Completes with its own effect: GINH_SET, GINH_CLR, SN_SET, SN_CLR, KNL_INH_WRITE.
-/
def Obligations.KennelInhibits : Prop :=
  ∀ (s : State) (v : Word), s.knl.powered = true →
    (∃ t, exec (.ginhSet .port) s = .next t ∧ t.gbit Reg.KNL_STAT Fld.KNL_STAT_GINH = true ∧
      t.gbit Reg.GSTAT Fld.GSTAT_GLOBAL_INH = true ∧ ∀ ch : ChId, t.inhibited ch = true ∧
        ((s.chan ch).mode ≠ 8 → (t.chan ch).pwm.driving = false)) ∧
    (s.gbit Reg.KNL_STAT Fld.KNL_STAT_SSLOT = false → s.gbit Reg.KNL_STAT Fld.KNL_STAT_SSARM = true →
      s.gbit Reg.KNL_STAT Fld.KNL_STAT_PADREL = true → ∃ t, exec (.ginhClr .port 0x4B4E) s = .next t ∧
        t.gbit Reg.KNL_STAT Fld.KNL_STAT_GINH = false ∧ t.gbit Reg.GSTAT Fld.GSTAT_GLOBAL_INH = false) ∧
    (∀ key, key ≠ 0x4B4E → exec (.ginhClr .port key) s = .next s.portNack ∧ exec (.snClr .port key) s = .next s.portNack ∧
      exec (.krst .port key) s = .next s.portNack) ∧
    exec (.snSet .port) s = .next ({ s with knl := { s.knl with snSet := true } } : State).updateSafeN ∧
    exec (.snClr .port 0x4B4E) s = .next ({ s with knl := { s.knl with snWd := false, snSet := false } } : State).updateSafeN ∧
    exec (.knlInhWrite .port v) s = .next (s.gput Reg.KNL_INH (v &&& 0xFFF)).updateChinh ∧
    (∀ ch : ChId, v.getLsbD ch.val = true → (s.gput Reg.KNL_INH (v &&& 0xFFF)).updateChinh.inhibited ch = true) ∧
    (let t := s.updateSafeN
     t.gbit Reg.KNL_STAT Fld.KNL_STAT_SAFEN = (s.knl.snReset || s.knl.snWd || s.knl.snSet ||
       s.gbit Reg.KNL_STAT Fld.KNL_STAT_SSLOT || s.gbit Reg.KNL_STAT Fld.KNL_STAT_SUPPLY)) ∧
    (∀ (k : Ctx) (off : Nat) (w : Word) (t : State), s.serves → off ∈ [Reg.KNL_CTL, Reg.KNL_INH, Reg.KNL_WDT,
      Reg.KNL_WDKICK, Reg.KNL_LWW, Reg.KNL_LWSEL] → s.keepsRoG k off w → s.kennelWrite (.host k) off w = some t →
      s.knlAccess (.host k) off w = t.answered)

/-- R381, R382: the host watchdog runs from its enabling, is kicked by its code, and at its expiry sets HWDX, enters the
last word and, with ACT, holds SAFE_N, and moves no channel; a safety slot that is not refreshed sets the global inhibit and
halts every channel that is not in OFF. Completes with its own effect: HOST_WATCHDOG_ENABLE, HOST_WATCHDOG_KICK,
HOST_WATCHDOG_EXPIRY, SAFETY_SLOT_EXPIRY. -/
def Obligations.KennelWatchdogs : Prop :=
  ∀ (s : State) (v : Word), s.knl.powered = true →
    (let w := setField v Fld.KNL_WDT_EN 1
     1 ≤ getField w Fld.KNL_WDT_TO → getField w Fld.KNL_WDT_TO ≤ 10000 → s.gbit Reg.KNL_WDT Fld.KNL_WDT_EN = false →
       ∃ t, exec (.hostWatchdogEnable .port v) s = .next t ∧ t.knl.wdRun = true ∧ t.knl.wdTo = getField w Fld.KNL_WDT_TO ∧
         t.gbit Reg.KNL_WDT Fld.KNL_WDT_EN = true) ∧
    (s.gbit Reg.KNL_WDT Fld.KNL_WDT_EN = true → exec (.hostWatchdogKick .port 0x0000A55A) s = .next { s with
      knl := { s.knl with wdRun := true, wdTo := s.gfld Reg.KNL_WDT Fld.KNL_WDT_TO } }) ∧
    (v ≠ 0x0000A55A → exec (.hostWatchdogKick .port v) s = .next s.portNack) ∧
    (s.gbit Reg.KNL_WDT Fld.KNL_WDT_EN = true → s.knl.wdRun = true → ∃ t, exec .hostWatchdogExpiry s = .next t ∧
      t.gbit Reg.KNL_STAT Fld.KNL_STAT_HWDX = true ∧ t.knl.wdRun = false ∧ t.knl.lwSeq = s.knl.lwSeq + 1 ∧ t.ch = s.ch ∧
      (s.gbit Reg.KNL_WDT Fld.KNL_WDT_ACT = true → t.gbit Reg.KNL_STAT Fld.KNL_STAT_SAFEN = true)) ∧
    (∀ a b : Bool, s.knl.up = true → s.gbit Reg.KNL_STAT Fld.KNL_STAT_SSLOT = false →
      (s.gbit Reg.KNL_STAT Fld.KNL_STAT_SSARM = true → a = true ∨ b = true) →
      ∃ t, exec (.safetySlotExpiry a b) s = .next t ∧ t.gbit Reg.KNL_STAT Fld.KNL_STAT_SSLOT = true ∧
        t.gbit Reg.KNL_STAT Fld.KNL_STAT_GINH = true ∧ t.gbit Reg.KNL_STAT Fld.KNL_STAT_SAFEN = true ∧
        ∀ ch : ChId, (s.chan ch).mode ≠ 0 → (t.chan ch).mode = 1 ∧ (t.chan ch).faulted = true)

/-- R375, R376, R379, R383, R385, R513, R516, R519: supplies and resets. A supply failure takes the pads to HIZ and SAFE_N
low; its return, a power-on and KRST run the reset sequence, each with its LRST and a last-word entry; after the release the
loader boots; the pads are released once, with a record; without power everything is released. Completes with its own
effect: KRST, SUPPLY_GIVE_UP, SUPPLY_RETURN, KENNEL_POWER_ON, KENNEL_POWER_OFF, RESET_RELEASE, PAD_RELEASE, TEST_RESET,
VBAT_KNL_CHANGE. -/
def Obligations.KennelResets : Prop :=
  ∀ (s : State),
    (∀ w : BitVec 4, s.knl.powered = true → s.knl.up = true → w ≠ 0xF → ∃ t, exec (.supplyGiveUp w) s = .next t ∧
      t.gbit Reg.GSTAT Fld.GSTAT_PADS_RELEASED = false ∧ t.gfld Reg.KNL_STAT Fld.KNL_STAT_SUPV = w.toNat ∧
      t.gbit Reg.KNL_STAT Fld.KNL_STAT_SAFEN = true ∧ t.knl.up = false ∧
      (∀ ch : ChId, t.padsHiz ch = true ∧ (t.chan ch).pair.drive = false ∧
        ((s.chan ch).mode ≠ 0 → (t.chan ch).mode = 1 ∧ (t.chan ch).faulted = true))) ∧
    (s.knl.powered = true → s.knl.up = false → s.gbit Reg.KNL_STAT Fld.KNL_STAT_SUPPLY = true → s.pins.classed = true → ∃ t,
      exec .supplyReturn s = .next t ∧ t.gfld Reg.KNL_STAT Fld.KNL_STAT_LRST = 3 ∧ t.knl.lwSeq = s.knl.lwSeq + 1 ∧
      t.knl.time = s.knl.time ∧ ∀ ch : ChId, (t.chan ch).mode = 0) ∧
    (∀ ok : Bool, ∃ t, exec (.kennelPowerOn ok) s = .next t ∧ t.knl.powered = true ∧ t.knl.up = false ∧ t.knl.time = 0 ∧
      t.gfld Reg.KNL_STAT Fld.KNL_STAT_LRST = 0 ∧ t.gbit Reg.KNL_STAT Fld.KNL_STAT_LWVALID = ok ∧
      t.store.mram = s.store.mram ∧ t.store.fuses = s.store.fuses ∧ (s.imgState ≠ 8 → s.ldr.save = none → t.store = s.store) ∧
      (ok = false → t.knl.boots = 0 ∧ t.knl.bank.length = 1)) ∧
    (s.knl.powered = true → ∃ t, exec (.krst .port 0x4B4E) s = .next t ∧ t.gfld Reg.KNL_STAT Fld.KNL_STAT_LRST = 2 ∧
      t.knl.lwSeq = s.knl.lwSeq + 1 ∧ t.knl.up = false ∧ t.pending = s.pending ∧
      t.store.mram = s.store.mram ∧ t.store.fuses = s.store.fuses ∧ (s.imgState ≠ 8 → s.ldr.save = none → t.store = s.store)) ∧
    (∃ t, exec .kennelPowerOff s = .next t ∧ t.knl.powered = false ∧ t.gbit Reg.KNL_STAT Fld.KNL_STAT_SAFEN = true ∧
      ∀ ch : ChId, t.padsHiz ch = true ∧ (t.chan ch).pair.drive = false) ∧
    (∀ mode prio : Bool, s.knl.powered = true → s.knl.boot = false → s.pins.testReset = false →
      (s.gbit Reg.KNL_STAT Fld.KNL_STAT_SUPPLY = true → s.gfld Reg.KNL_STAT Fld.KNL_STAT_SUPV = 0xF) →
      s.pins.classed = true → ∃ t, exec (.resetRelease mode prio) s = .next t ∧ t.knl.up = true ∧
        t.knl.boot = true ∧ t.gfld Reg.KNL_STAT Fld.KNL_STAT_SUPV = 0xF ∧
        (s.pins.straps = true → t.gfld Reg.HOST_STAT Fld.HOST_STAT_MODE = (if mode then 1 else 0) ∧
          t.gfld Reg.PAIR_STAT Fld.PAIR_STAT_PRIO = if prio then 1 else 0)) ∧
    (s.knl.powered = true → s.knl.up = true → s.gfld Reg.KNL_STAT Fld.KNL_STAT_SUPV = 0xF →
      s.gbit Reg.GSTAT Fld.GSTAT_IMAGE_OK = true → s.gbit Reg.KNL_STAT Fld.KNL_STAT_PADREL = false →
      s.pins.testReset = false → ∃ t, exec .padRelease s = .next t ∧ t.gbit Reg.KNL_STAT Fld.KNL_STAT_PADREL = true ∧
        t.gbit Reg.GSTAT Fld.GSTAT_PADS_RELEASED = true ∧ t.knl.snReset = false) ∧
    (∀ ok : Bool, exec (.vbatKnlChange ok) s = .next (s.gset Reg.KNL_STAT Fld.KNL_STAT_VBATOK (if ok then 1 else 0)))

/-- R386 to R390: the last-word bank keeps the newest 32 entries, newest first; a commit is limited to one per ms and
accessor; a selection copies for its accessor alone; the port writes and reads one register under its PEC, and its timeout
drops the answer. Completes with its own effect: LAST_WORD_COMMIT, LAST_WORD_SELECT, KENNEL_PORT_WRITE, KENNEL_PORT_READ,
KENNEL_PORT_TIMEOUT. -/
def Obligations.LastWords : Prop :=
  ∀ (s : State) (v : Word) (src : Nat) (code : Byte) (data : Word),
    ((s.lastWord src code data).knl.bank.length ≤ 32 ∧
      (s.lastWord src code data).knl.bank.head? = some #v[BitVec.ofNat 32 (s.knl.lwSeq + 1),
        code ++ (BitVec.ofNat 8 src ++ s.knl.boots.extractLsb' 0 16), BitVec.ofNat 32 (s.knl.time / 1024), data]) ∧
    (s.knl.powered = true →
      (s.knl.lwAtPort = none → ∃ t, exec (.lastWordCommit .port v) s = .next t ∧ t.knl.lwSeq = s.knl.lwSeq + 1 ∧
        t.knl.lwAtPort = some s.knl.time ∧ ∃ w, t.knl.bank.head? = some w ∧ w[3] = s.knl.lwd[(4 : Fin 5)]) ∧
      (∀ n, s.knl.lwAtPort = some n → s.knl.time < n + 100000 →
        exec (.lastWordCommit .port v) s = .next (s.countG Reg.KNL_CNT true false)) ∧
      (∀ w, s.knl.bank[(v.setWidth 5 : BitVec 5).toNat]? = some w → exec (.lastWordSelect .port v) s =
        .next { s with free := s.free + 1, knl := { s.knl with copies := s.knl.copies.set 4 ⟨v.setWidth 5, true, w⟩ } }) ∧
      (∀ p : Byte, p.toNat ≤ 0x11 → (let bs := p :: wordBytes v
        exec (.kennelPortWrite (bs ++ [crc8 0x07 0 (s.portAddr :: bs)])) s =
          .next (s.portWrite (0x1000 + 4 * p.toNat) v)) ∧
        (let d := wordBytes (s.kennelRead .port (0x1000 + 4 * p.toNat))
         exec (.kennelPortRead p) s = .next { s with knl := { s.knl with
           portOut := d ++ [crc8 0x07 0 ([s.portAddr, p, s.portAddr ||| 1] ++ d)] } })) ∧
      (∀ p : Byte, 0x11 < p.toNat → exec (.kennelPortRead p) s = .next s.portNack)) ∧
    exec .kennelPortTimeout s = .next { s with knl := { s.knl with portOut := [] } }

/-! ## Capture (13_capture_and_trigger.md) -/

/-- R400, R401, R406, R410, R411, R412, R413, R417, R445: CAP_CTL, GCAP_FORCE and the capture DMA. An accepted write of
CAP_CTL acts at once. ARM enters FILL in the lowest free segment, or WAIT with none free and OVW = 0; DISARM enters IDLE;
FORCE, or GCAP_FORCE on the sets that obey it, arms source 16; HCLR clears the histogram region and HSAT; ACK frees its
segment. GO queues the context's descriptor, and is rejected with 16 waiting; the end of a copy reports its tag and result,
delivers the words, frees a copied segment and starts the next; while THROT is set, post-processing pauses and goes on with
the window's parts. Completes with its own effect: CAP_ARM, CAP_DISARM, CAP_FORCE, CAP_GLOBAL_FORCE, CAP_HCLR, CAP_ACK,
CAPTURE_DMA_GO, CAPTURE_DMA_DONE, THROTTLE_WINDOW. -/
def Obligations.CaptureControl : Prop :=
  (∀ (s : State) (k : Ctx) (ch : ChId) (j : Fin 4) (v : Word), let c := s.chan ch
      (∀ i f, (i, f) ∈ [(Instr.capArm k j v, Fld.CAP_CTL_ARM), (.capDisarm k j v, Fld.CAP_CTL_DISARM),
          (.capForce k j v, Fld.CAP_CTL_FORCE), (.capHclr k j v, Fld.CAP_CTL_HCLR), (.capAck k j v, Fld.CAP_CTL_ACK)] →
        s.reaches k ch → s.capAbsent k (Reg.CAP_CTL j) = false → c.clockLost = false →
        s.keepsRo k ch (Reg.CAP_CTL j) (setField v f 1) → c.capCtlBad j (setField v f 1) = false →
        exec i s = .next ((s.capCtl ch j (setField v f 1)).answered)) ∧
      (c.capState j = 0 → c.capNtr j ≠ 0 → let t := s.capCtl ch j 1
        (∀ i, c.capFree j = some i → t = s.putChan ch (t.chan ch) ∧ (t.chan ch).capState j = 1 ∧ (t.chan ch).capSeg j = i ∧
          ((t.chan ch).capSet j).segs[i] = SegSt.open ∧ ((t.chan ch).capSet j).prev = 0) ∧
        (c.capFree j = none → c.bit (Reg.CAP_CFG j) Fld.CAP_CFG_OVW = false → t = s.putChan ch (c.setCapState j 5))) ∧
      (let t := s.capCtl ch j 2
       (t.chan ch).capState j = 0 ∧ (c.capState j ≠ 3 → t.sram = s.sram) ∧
         (c.capState j = 3 → (c.capSet j).trig.isSome → ((t.chan ch).capSet j).segs[c.capSeg j] = SegSt.unread)) ∧
      s.capCtl ch j 4 = s.onCap ch j (fun x => { x with force := true }) ∧
      (let t := s.capCtl ch j 8
       let a := (c.capBase j.val).2 * 1024
       let n := c.fld (Reg.CAP_LAYOUT j) Fld.CAP_LAYOUT_HREG * 1024
       (t.chan ch).bit (Reg.CAP_STAT j) Fld.CAP_STAT_HSAT = false ∧
         ∀ i, t.sramGet i = if a ≤ i ∧ i < a + n then sramDefault i else s.sramGet i) ∧
      (∀ g : Fin 64, let t := s.capCtl ch j (BitVec.ofNat 32 (16 + 32 * g.val))
        t = s.putChan ch (t.chan ch) ∧ ∀ i : Fin 64, ((t.chan ch).capSet j).segs[i] =
          if i = g then SegSt.free else (c.capSet j).segs[i]) ∧
      (s.serves → s.keepsRoG k Reg.GCAP_FORCE v →
        exec (.capGlobalForce k v) s = .next ((s.capGlobalForce v).answered) ∧
        (((s.capGlobalForce v).chan ch).capSet j).force =
          ((c.capSet j).force || (v.getLsbD ch.val && c.bit (Reg.CAP_CFG j) Fld.CAP_CFG_GFORCE)))) ∧
  (∀ (s : State) (k : Ctx) (v : Word), let go := s.serves ∧ s.keepsRoG k Reg.GCAP_DMA_GO (v ||| 1)
      (go → s.dma.queue.length < 16 → exec (.captureDmaGo k v) s = .next ((({ s with dma := { s.dma with
        queue := s.dma.queue ++ [s.dma.staged[k]] } } : State).dmaNext).answered)) ∧
      (go → 16 ≤ s.dma.queue.length → ∃ t, exec (.captureDmaGo k v) s = .next t ∧ t.dma = s.dma ∧
        t.gbit Reg.GCAP_GSTAT Fld.GCAP_GSTAT_REJ = true ∧ getField t.host.ctxs[k].stat Fld.CTX_STAT_VCAUSE = 5) ∧
      (∀ (d : DmaDesc) (err : DmaEnd), s.dma.running = some d → ∃ t, exec (.captureDmaDone err) s = .next t ∧
        t.gfld Reg.GCAP_DMA_STAT Fld.GCAP_DMA_STAT_LTAG = getField d.sel Fld.GCAP_DMA_SEL_TAG ∧
        t.gfld Reg.GCAP_DMA_STAT Fld.GCAP_DMA_STAT_LERR = (match err with
          | .ok => if (s.dmaWords d).isNone then 1 else 0
          | .ecc => 2
          | .abort => 3) ∧
        t.dma.running = s.dma.queue.head? ∧ t.dma.queue = s.dma.queue.tail ∧
        (∀ ws, err = .ok → s.dmaWords d = some ws → t.dma.lastData = ws ∧
          t.dma.lastAddr = d.lo.toNat + 2 ^ 32 * d.hi.toNat ∧
          ∀ (h : getField d.sel Fld.GCAP_DMA_SEL_CH < 12), getField d.sel Fld.GCAP_DMA_SEL_KIND = 0 →
            ((t.chan ⟨_, h⟩).capSet (Fin.ofNat 4 (getField d.sel Fld.GCAP_DMA_SEL_SET))).segs[
              Fin.ofNat 64 (getField d.sel Fld.GCAP_DMA_SEL_SEG)] = SegSt.free)) ∧
      (∀ run : Bool, s.gbit Reg.THM_STAT Fld.THM_STAT_THROT = true → ∃ t, exec (.throttleWindow run) s = .next t ∧
        ∀ (ch : ChId) (j : Fin 4), (t.chan ch).bit (Reg.CAP_STAT j) Fld.CAP_STAT_THR =
          (!run && (s.chan ch).bit (Reg.CAP_STAT j) Fld.CAP_STAT_PPEND)))

/-- R402 to R407, R410: base samples and records. Without a hit a set in FILL or ARMED keeps its latest rows, with one it
takes its trigger sample; in POST it stores every DEC-th sample until Q rows are stored, then closes with the next RSEQ in
HOLD or IDLE; the hold-off leads to WAIT; a record is binned in turn; an uncorrectable error discards the open record.
Completes with its own effect: CAPTURE_BASE_SAMPLE, HOLDOFF_END, POSTPROC_DONE, CAPTURE_ECC_ABORT. -/
def Obligations.CaptureRecords : Prop :=
  ∀ (s : State) (ch : ChId) (j : Fin 4), let c := s.chan ch
    let x := c.capSet j
    let u := s.onCap ch j fun x => { x with conds := (c.capConds j).2.2, force := false }
    let hits := (c.capConds j).1 + if x.force then 65536 else 0
    let onsets := (c.capConds j).2.1 + if x.force then 65536 else 0
    let fin := fun t : State => t.onCap ch j fun x => { x with
      events := 0, entered := false, lastNum := c.postNum, lastTick := some c.tickCount }
    (c.mode ≠ 0 → c.mode ≠ 11 → c.ticking = true → c.capNtr j ≠ 0 → c.bit Reg.CH_MODE_CUR Fld.CH_MODE_CUR_FAULT = false →
      c.capDue j = true →
      let run := exec (.captureBaseSample ch j) s
      (c.capState j = 0 → run = .next (fin u)) ∧
      (c.capState j = 1 ∨ c.capState j = 2 → run = .next (fin (if hits = 0 then u.capPre ch j
        else u.capTrigger ch j (u.capNow ch j) hits (c.capQ j) false))) ∧
      (c.capState j = 3 → run = .next (fin ((u.capMissed ch j onsets).capPost ch j))) ∧
      (c.capState j = 5 → onsets = 0 → c.bit (Reg.CAP_STAT j) Fld.CAP_STAT_PPEND = false →
        run = .next (fin (u.capStart ch j)))) ∧
    (1 ≤ c.capDepth j → c.fld (Reg.CAP_CFG j) Fld.CAP_CFG_PRE ≤ 100 → c.capP j + c.capQ j + 1 = c.capDepth j) ∧
    (s.capNow ch j = ⟨c.capRow j, s.calNow, s.calEpoch, c.tickCount, c.mode, false⟩ ∧
      ∀ (m : CapSample) (mask q : Nat), 0 < q → let t := s.capTrigger ch j m mask q false
      (t.chan ch).capState j = 3 ∧ (∃ g, ((t.chan ch).capSet j).trig = some g ∧ g.mask = mask ∧ g.time = m.time ∧
        g.mode = m.mode ∧ g.tick = m.tick ∧ g.prev = min x.prev (c.capP j) ∧
        (g.prefull = true ↔ c.capP j ≤ x.prev)) ∧ ((t.chan ch).capSet j).q = q ∧
      ∀ i, i < m.row.length → t.sramGet (c.capRowAddr j (c.capSeg j).val x.row + i) = m.row.getD i 0) ∧
    (x.dec + 1 < c.capDec j → s.capPost ch j = s.onCap ch j fun x => { x with dec := x.dec + 1 }) ∧
    (∀ g, c.capDec j ≤ x.dec + 1 → x.trig = some g → x.q ≤ x.post + 1 → c.capState j = 3 → let d := (s.capPost ch j).chan ch
      (d.capSet j).segs[c.capSeg j] = SegSt.unread ∧
      d.capState j = (if c.bit (Reg.CAP_CFG j) Fld.CAP_CFG_AUTO then 4 else 0) ∧
      (d.get (Reg.CAP_RSEQ_LO j)).toNat + 2 ^ 32 * (d.get (Reg.CAP_RSEQ_HI j)).toNat =
        ((c.get (Reg.CAP_RSEQ_LO j)).toNat + 2 ^ 32 * (c.get (Reg.CAP_RSEQ_HI j)).toNat + 1) % 2 ^ 64) ∧
    (c.capState j = 4 → (c.bit (Reg.CAP_HOLD j) Fld.CAP_HOLD_KIND = true →
        (c.get (Reg.CAP_HOLD j)).toNat % 2 ^ 26 ≤ x.onsets) →
      exec (.holdoffEnd ch j) s = .next (s.putChan ch (c.setCapState j 5))) ∧
    (∀ g rest, x.pp = g :: rest → c.bit (Reg.CAP_STAT j) Fld.CAP_STAT_THR = false → s.copiesHist ch j = false →
      ∃ t, exec (.postprocDone ch j) s = .next t ∧ ((t.chan ch).capSet j).pp = rest ∧ t.rcd = s.rcd ∧ t.g = s.g ∧
        (t.chan ch).bit (Reg.CAP_STAT j) Fld.CAP_STAT_PPEND = !rest.isEmpty) ∧
    (∀ (reader : Fin 4) (a : Word), ∃ t, exec (.captureEccAbort ch j reader a) s = .next t ∧ (t.chan ch).capState j = 0 ∧
      (t.chan ch).bit (Reg.CAP_STAT j) Fld.CAP_STAT_ECCAB = true ∧ (t.chan ch).faulted = c.faulted ∧ t.sram = s.sram ∧
      (reader = 3 → t.gbit Reg.GCAP_GSTAT Fld.GCAP_GSTAT_WUE = true))

/-! ## The recorder, the calendar and the die sensors (14_event_recorder.md, 15_thermal.md) -/

/-- R421 to R426, R432 to R436: the recorder. A new request takes a free entry, the last 16 only at SEV 3; the writer gives
the oldest the next SEQ in the ring, the newest before it closes; the start search sets SEQ 2^32 above the store's newest; a
slot is selected and fetched; a batch is stored and committed by its first STORE byte; failures stop the store until a
retry's probe succeeds. Completes with its own effect: RECORD_REQUEST, RECORD_WRITE, RECORD_CLOSE_TIMEOUT,
RECORDER_START_SEARCH_END, REC_RPTR_WRITE, STORE_FETCH_DONE, PERSIST_BATCH_START, PERSIST_BATCH_COMMIT, STORE_FAIL,
STORE_RETRY, STORE_PROBE_DONE. -/
def Obligations.Recorder : Prop :=
  ∀ (s : State),
    (∀ req : RecReq, let r := s.newRecord req.block.toNat req.chan.toNat req.code.toNat req.sev.toNat req.data
      s.mergeRecord r = none → s.rcd.queue.length < (if req.sev = 3 then 64 else 48) →
      exec (.recordRequest req) s = .next { s with rcd := { s.rcd with queue := s.rcd.queue ++ [r] } }) ∧
    (∀ r rest, s.rcd.queue = r :: rest → s.searching = false → s.cal.waiting = none → s.rcd.drops = 0 →
      ∃ t, exec .recordWrite s = .next t ∧ t.rcd.queue = rest ∧ t.rcd.seq = s.rcd.seq + 1 ∧
        sget ringDefault t.rcd.ring ((s.rcd.seq + 1) % 8192) = { r with
          seq := s.rcd.seq + 1, flags := if r.flags.getLsbD 3 then r.flags else r.flags ||| 4 } ∧
        (sget ringDefault t.rcd.ring (s.rcd.seq % 8192)).flags.getLsbD 2 = false ∧
        t.rcd.old = (if s.rcd.old = 0 then s.rcd.seq + 1 else max s.rcd.old (s.rcd.seq + 1 - 8191))) ∧
    (∃ t, exec .recordCloseTimeout s = .next t ∧ (∀ n, n ≠ s.rcd.seq % 8192 →
      sget ringDefault t.rcd.ring n = sget ringDefault s.rcd.ring n) ∧
      (sget ringDefault t.rcd.ring (s.rcd.seq % 8192)).flags.getLsbD 2 = false ∧ t.rcd.seq = s.rcd.seq) ∧
    (∀ ok : Bool, s.searching = true → ∃ t, exec (.recorderStartSearchEnd ok) s = .next t ∧ t.searching = false ∧
      t.gbit Reg.REC_STAT Fld.REC_STAT_PERS = (ok && s.storeSlots != 0 &&
        !s.gbit Reg.REC_STAT Fld.REC_STAT_RECFAIL) ∧
      (∀ r, ok = true → s.storeSlots ≠ 0 → s.newestCommitted = some r → t.rcd.seq = r.seq + 2 ^ 32 ∧
        t.store.pseq = r.seq ∧ t.calEpoch = min 65535 (r.epoch + 1)) ∧
      (ok = false → t.rcd.seq = 2 ^ 32 ∧ t.calEpoch = 0) ∧ t.rcd.old = t.rcd.seq) ∧
    (∀ (k : Ctx) (v : Word), s.serves → s.keepsRoG k Reg.REC_RPTR v →
      (v.getLsbD 31 = false → getField v Fld.REC_RPTR_SLOT < 8192 → exec (.recRptrWrite k v) s =
        .next (((s.gput Reg.REC_RPTR (v &&& 0x8001FFFF)).gset Reg.REC_STAT Fld.REC_STAT_SBUSY 0).answered)) ∧
      (v.getLsbD 31 = true → getField v Fld.REC_RPTR_SLOT < s.storeSlots → exec (.recRptrWrite k v) s =
        .next (((s.gput Reg.REC_RPTR (v &&& 0x8001FFFF)).gset Reg.REC_STAT Fld.REC_STAT_SBUSY 1).answered))) ∧
    (s.gbit Reg.REC_STAT Fld.REC_STAT_SBUSY = true →
      let e := sget storeDefault s.store.mram (s.gfld Reg.REC_RPTR Fld.REC_RPTR_SLOT)
      exec .storeFetchDone s = .next { s.gset Reg.REC_STAT Fld.REC_STAT_SBUSY 0 with
        rcd := { s.rcd with window := wordsOf (e.rcd.bytes e.st) } }) ∧
    (∀ byTime : Bool, let n := min (s.gfld Reg.REC_PCFG Fld.REC_PCFG_BMAX) s.persistable.2
      s.gbit Reg.REC_STAT Fld.REC_STAT_PERS = true → s.rcd.batch = none → s.rcd.old ≤ s.nextPersist → 0 < n →
      (byTime = false → n = s.gfld Reg.REC_PCFG Fld.REC_PCFG_BMAX) → s.storeSlots ≠ 0 →
      ∃ t, exec (.persistBatchStart byTime none) s = .next t ∧ t.rcd.batch = some (s.persistable.1, n) ∧
        t.store.pseq = s.store.pseq ∧ ∀ i, i < n →
          sget storeDefault t.store.mram ((s.store.head + i) % s.storeSlots) =
            ⟨sget ringDefault s.rcd.ring ((s.persistable.1 + i) % 8192), 0⟩) ∧
    (∀ first n retries, s.rcd.batch = some (first, n) → ∃ t, exec (.persistBatchCommit retries) s = .next t ∧
      t.rcd.batch = none ∧
      t.store.pseq = first + n - 1 ∧ t.store.head = (s.store.head + n) % max 1 s.storeSlots ∧
      (sget storeDefault t.store.mram s.store.head).st = 0x80#8 ||| BitVec.ofNat 8 (n - 1)) ∧
    (∀ (cause : BitVec 8) (slot : BitVec 24), s.storeSlots ≠ 0 → s.gbit Reg.REC_STAT Fld.REC_STAT_RECFAIL = false →
      ∃ t, exec (.storeFail cause slot) s = .next t ∧ t.gbit Reg.REC_STAT Fld.REC_STAT_RECFAIL = true ∧
        t.gbit Reg.GSTAT Fld.GSTAT_RECFAIL = true ∧ t.gbit Reg.REC_STAT Fld.REC_STAT_PERS = false ∧ t.rcd.batch = none ∧
        t.gget Reg.REC_PSTAT = slot ++ cause ∧ t.store = s.store) ∧
    (∀ (k : Ctx) (v : Word), s.serves → s.keepsRoG k Reg.REC_CTL (v ||| 1) → s.gbit Reg.REC_STAT Fld.REC_STAT_RECFAIL = true →
      s.storeSlots ≠ 0 → exec (.storeRetry k v) s =
        .next (({ s with rcd := { s.rcd with probing := true } } : State).answered)) ∧
    (s.rcd.probing = true → exec (.storeProbeDone false) s = .next { s with rcd := { s.rcd with probing := false } } ∧
      ∃ t, exec (.storeProbeDone true) s = .next t ∧ t.gbit Reg.REC_STAT Fld.REC_STAT_RECFAIL = false ∧
        t.gbit Reg.GSTAT Fld.GSTAT_RECFAIL = false ∧ t.gbit Reg.REC_STAT Fld.REC_STAT_PERS = true)

/-- R429 to R431, R442 to R444: the calendar and the die sensors. SET applies with its record, a set back raises EPOCH;
SETPPS waits for an accepted edge, or fails after 2 s; an edge gives its phase error, and eight good ones the lock; a lost
input drops it. A die reading outside −55 to 150 °C fails its sensor. Completes with its own effect: CAL_SET, CAL_SETPPS,
SETPPS_TIMEOUT, PPS_EDGE, PPS_LOST, DIE_SENSOR_CONVERSION. -/
def Obligations.CalendarAndDie : Prop :=
  ∀ (s : State), let new := (s.gget Reg.CAL_SET_LO).toNat + 2 ^ 32 * (s.gget Reg.CAL_SET_HI).toNat
    (∀ (k : Ctx) (v : Word), s.serves →
      (s.keepsRoG k Reg.CAL_CTL ((v &&& 0xFFFFFFFC) ||| 1) → s.gbit Reg.CAL_STAT Fld.CAL_STAT_SETPEND = false →
        exec (.calSet k v) s = .next ((s.calSet new 1).answered) ∧ (s.rcd.queue.length < 64 →
          let t := s.calSet new 1
          t.cal.ns = new ∧ t.gbit Reg.CAL_STAT Fld.CAL_STAT_VALID = true ∧
          t.calEpoch = (if new < s.cal.ns ∧ s.calEpoch < 65535 then s.calEpoch + 1 else s.calEpoch))) ∧
      (s.keepsRoG k Reg.CAL_CTL ((v &&& 0xFFFFFFFC) ||| 2) → s.gbit Reg.CAL_STAT Fld.CAL_STAT_SETPEND = false →
        exec (.calSetpps k v) s = .next ((s.gset Reg.CAL_STAT Fld.CAL_STAT_SETPEND 1).answered))) ∧
    (s.gbit Reg.CAL_STAT Fld.CAL_STAT_SETPEND = true → exec .setppsTimeout s =
      .next ((s.gset Reg.CAL_STAT Fld.CAL_STAT_SETPEND 0).gset Reg.CAL_STAT Fld.CAL_STAT_SETFAIL 1)) ∧
    (s.gbit Reg.PPS_CFG Fld.PPS_CFG_EN = true →
      (∀ n, s.cal.lastEdge = some n → s.time.refNs < n + 900000000 →
        exec .ppsEdge s = .next (s.countG Reg.CAL_CNT true false)) ∧
      ((∀ n, s.cal.lastEdge = some n → n + 900000000 ≤ s.time.refNs) → ∃ t, exec .ppsEdge s = .next t ∧
        t.cal.lastEdge = some s.time.refNs ∧ t.gget Reg.PPS_STAT = BitVec.ofInt 32 (ppsError s.cal.ns) ∧
        (10000 < (ppsError s.cal.ns).natAbs → t.gbit Reg.CAL_STAT Fld.CAL_STAT_PPSLOCK = false) ∧
        ((ppsError s.cal.ns).natAbs ≤ 1000 → 7 ≤ s.cal.good → t.gbit Reg.CAL_STAT Fld.CAL_STAT_PPSLOCK = true)) ∧
      exec .ppsLost s = .next ((({ s with cal := { s.cal with good := 0 } } : State).gset Reg.CAL_STAT
        Fld.CAL_STAT_PPSLOCK 0).gset Reg.CAL_STAT Fld.CAL_STAT_PPSLOST 1)) ∧
    (∀ n : Nat, 2 * |ppsError n| ≤ 1000000000 ∧ (n - ppsError n) % 1000000000 = 0) ∧
    (∀ (n : Fin 16) (w : BitVec 12), ∃ t, exec (.dieSensorConversion n w) s = .next t ∧
      t.dieT n.val = w.toInt ∧ t.gfld (Reg.THM_T n.val) Fld.THM_T_RATE = dieRate w.toInt ∧
      (w.toInt < -220 ∨ 600 < w.toInt → t.dieFailed n.val = true ∧ t.die.good[n] = 0) ∧
      (-220 ≤ w.toInt → w.toInt ≤ 600 → s.die.seen.getLsbD n.val = false → s.dieFailed n.val = false →
        t.dieFailed n.val = false) ∧
      (-220 ≤ w.toInt → w.toInt ≤ 600 → |w.toInt - s.dieT n.val| ≤ 80 → s.dieFailed n.val = true →
        (t.dieFailed n.val = true ↔ s.die.good[n] + 1 < 10)))

/-! ## The host interface (16_host_interface.md) -/

/-- R458 to R463, R467 to R470, R479, R482, R520, R529, R544: the host port. CHSEL selects a channel, and a number above 11
is a violation; the low word of a pair latches the high word for its context; a port read of ENG_DDAT answers or waits; a
quad-SPI frame without its CRC executes nothing; INT_MASK; a host reset; D3hot, the link's training, a bank's class.
Completes with its own effect: ENG_DDAT_READ, ENG_DDAT_READ_SERVE, CHSEL_WRITE, COUNTER_LOW_READ, QSPI_FRAME, HOST_RESET,
INT_MASK_WRITE, HOST_READ, VOLTAGE_CLASS_LATCH, D3HOT_TRANSITION, PCIE_LINK_TRAINING_END. -/
def Obligations.HostPort : Prop :=
  ∀ (s : State) (k : Ctx) (v : Word),
    let off := fun (t : State) (data : List Word) => { t with host := { t.host with unsupported := false, rdata := data } }
    (s.serves → let t := s.onCtx k fun p => { p with chsel := v &&& 0x1F }
      (∀ h : getField v Fld.CTX_CHSEL_CH < 12, exec (.chselWrite k v) s = .next t.answered ∧ t.selected k = some ⟨_, h⟩) ∧
      (12 ≤ getField v Fld.CTX_CHSEL_CH → exec (.chselWrite k v) s =
        .next (t.violation k 4 (windowAddr k Reg.CTX_CHSEL) true).answered ∧ t.selected k = none)) ∧
    (∀ lo, lo ∈ [Reg.REC_SEQ_LO, Reg.REC_OLD_LO, Reg.REC_PSEQ_LO, Reg.CAL_TIME_LO, Reg.KNL_TIME_LO, Reg.KNL_LWSEQ_LO] →
      s.serves → s.readsBlank = false →
      exec (.counterLowRead k (BitVec.ofNat 18 (aliasAddr k lo))) s = .next (off (s.onCtx k fun p =>
        { p with latch := some (lo + 4, 16, s.globalValue k (lo + 4)) }) [s.globalValue k lo]) ∧
      (∀ w, s.host.ctxs[k].latch = some (lo + 4, 16, w) →
        exec (.hostRead ⟨BitVec.ofNat 18 (aliasAddr k (lo + 4)), 1, 0xF⟩) s = .next (off s [w]))) ∧
    (∀ acc : HostAccess, s.serves → placeOf acc.addr.toNat ≠ .reserved →
      acc.len ≠ 1 ∨ acc.be ≠ 0xF ∨ acc.addr.toNat % 4 ≠ 0 → exec (.hostRead acc) s =
        .next (off (s.violation (s.ctxOf acc.addr.toNat) 1 acc.addr.toNat false) (List.replicate acc.len.toNat 0))) ∧
    (∀ ch : ChId, s.reaches k ch → s.readsBlank = false → (s.chan ch).clockLost = false → let c := s.chan ch
      let r : DdatRead := ⟨k, ch, c.dadr.1, c.dadr.2⟩
      (∀ w, s.ddatValue r = some w → exec (.engDdatRead k) s = .next (off (s.putChan ch c.dadrStep) [w])) ∧
      (s.ddatValue r = none → exec (.engDdatRead k) s = .next (off (let t := s.putChan ch c.dadrStep
        { t with host := { t.host with waiting := t.host.waiting ++ [r] } }) []))) ∧
    (∀ r w, s.host.waiting.find? (fun r => r.ctx == k) = some r → s.ddatValue r = some w → s.pcie = true →
      exec (.engDdatReadServe k) s = .next { s with host := { s.host with
        rdata := [w], waiting := s.host.waiting.erase r } }) ∧
    (∀ f : QspiFrame, s.pcie = false → s.knl.up = true →
      (f.bytes.length < (if f.bytes.getD 0 0 = 0xA2 then 9 else 5) →
        exec (.qspiFrame f) s = .next (s.gset Reg.HOST_STAT Fld.HOST_STAT_QABORT 1)) ∧
      (∀ (a d : Nat) (lost : Bool), a < 2 ^ 18 → a % 4 = 0 → placeOf a ≠ .reserved →
        (let bs := (0xA2 : Byte) :: ((natBytes 3 a).reverse ++ natBytes 4 d)
         let r := s.answer a true false 1 (some (BitVec.ofNat 32 d))
         exec (.qspiFrame ⟨bs ++ [crc8 0x07 0x00 bs], lost⟩) s = .next { r.state with host := { r.state.host with
           qspi := if lost then [] else qspiAnswer [] (qspiStatus r false) } }))) ∧
    (s.serves → s.keepsRoG k Reg.INT_MASK v → ∃ t, exec (.intMaskWrite k v) s = .next t ∧ (∀ ch, t.chan ch = s.chan ch) ∧
      ∀ n, n < 24 → (t.gget Reg.INT_MASK).getLsbD n = v.getLsbD n ∧ (t.gget Reg.INT_STAT).getLsbD n =
        (s.gget Reg.INT_STAT).getLsbD n) ∧
    (∀ kind : HostResetKind, s.pcie = true → ∃ t, exec (.hostReset kind) s = .next t ∧ (∀ ch, t.chan ch = s.chan ch) ∧
      t.gget Reg.INT_STAT = 0 ∧ t.gget Reg.INT_MASK = 0x00FFFFFF ∧ t.host.ctxs = HostPort.reset.ctxs ∧
      t.host.waiting = [] ∧ t.grpOpen = false ∧ t.dma.queue = [] ∧ t.dma.running = none ∧
      t.gbit Reg.HOST_STAT Fld.HOST_STAT_D3 = false ∧
      (kind ≠ .flr → t.gbit Reg.HOST_STAT Fld.HOST_STAT_LINKUP = false)) ∧
    (s.pcie = true → (∀ enter : Bool, exec (.d3hotTransition enter) s =
        .next (s.gset Reg.HOST_STAT Fld.HOST_STAT_D3 (if enter then 1 else 0))) ∧
      (∀ g w : BitVec 2, g ≠ 0 → w = 1 ∨ w = 2 → ∃ t, exec (.pcieLinkTrainingEnd g w) s = .next t ∧
        t.gbit Reg.HOST_STAT Fld.HOST_STAT_LINKUP = true ∧ t.gfld Reg.HOST_STAT Fld.HOST_STAT_GEN = g.toNat ∧
        t.gfld Reg.HOST_STAT Fld.HOST_STAT_WIDTH = w.toNat)) ∧
    (∀ (b : Fin 15) (mv : Nat),
      (1000 ≤ mv ∨ s.pins.classes[b] = none → ∃ t, exec (.voltageClassLatch b mv) s = .next t ∧ t = { s with pins := t.pins } ∧
        (mv ≤ 1500 → t.pins.classes[b] = s.pins.classes[b]) ∧
        (1500 < mv → s.pins.classes[b] = none → t.pins.classes[b] = some (decide (2500 < mv))) ∧
        (∀ x, s.pins.classes[b] = some x → t.pins.classes[b] = some x)) ∧
      (mv < 1000 → s.pins.classes[b].isSome → ∃ t, exec (.voltageClassLatch b mv) s = .next t ∧ t.pins.classes[b] = none ∧
        (s.knl.powered = true → s.knl.up = true → t.knl.up = false ∧ t.gbit Reg.KNL_STAT Fld.KNL_STAT_SUPPLY = true ∧
          (t.gfld Reg.KNL_STAT Fld.KNL_STAT_SUPV).testBit 1 = false)))

/-- R471 to R477, R483: groups and write mirroring. OPEN and ABORT; a staged write that passes joins the group, another is a
staging rejection; GO fixes the commit instant, or with a staging rejection ends the group with no result; the end; the
partner applies a mirrored write in SHADOW; a failed write makes the channel stale; RESYNC sends every mirrored register.
Completes with its own effect: GROUP_OPEN, GROUP_ABORT, GROUP_STAGED_WRITE, GROUP_GO, GROUP_DONE, MIRROR_WRITE_RECEIVE,
MIRROR_WRITE_ANSWER, MIRROR_WRITE_TIMEOUT, MIRROR_RESYNC. -/
def Obligations.GroupsAndMirror : Prop :=
  ∀ (s : State) (k : Ctx) (ch : ChId) (v : Word),
    (let w := (v &&& 0xFFFFFFFC) ||| 1
     s.serves → s.keepsRoG k Reg.GRP_CTL w → s.grpOpen = false → s.gbit Reg.GRP_STAT Fld.GRP_STAT_PEND = false →
      exec (.groupOpen k v) s = .next (s.openGroup k).answered ∧ (s.openGroup k).grpOwner k = true ∧
        (s.openGroup k).grp.staged = [] ∧ (s.openGroup k).gbit Reg.GRP_STAT Fld.GRP_STAT_SREJ = false) ∧
    (let w := (v &&& 0xFFFFFFFC) ||| 2
     s.serves → s.keepsRoG k Reg.GRP_CTL w → s.grpOwner k = true →
      exec (.groupAbort k v) s = .next s.discardGroup.answered ∧ s.discardGroup.grpOpen = false) ∧
    (∀ off : BitVec 14, s.serves → s.selected k = some ch → (s.chan ch).mode ≠ 11 →
      getField s.host.ctxs[k].chsel Fld.CTX_CHSEL_STAGE = 1 → s.grpOwner k = true → waitsForBoundary off.toNat = true →
      s.capAbsent k off.toNat = false → s.keepsRo k ch off.toNat v →
      let mine := s.grp.staged.filterMap fun w => if w.1 = ch then some w.2 else none
      (s.stagePasses ch off.toNat v mine = true → (s.chan ch).clockLost = false → exec (.groupStagedWrite k off v) s =
        .next (({ s with grp := { s.grp with staged := s.grp.staged ++ [(ch, ⟨off.toNat, v, .group k, none, []⟩)] } } :
          State).answered)) ∧
      (s.stagePasses ch off.toNat v mine = false → exec (.groupStagedWrite k off v) s =
        .next ((s.gset Reg.GRP_STAT Fld.GRP_STAT_SREJ 1).violation k 8 (windowAddr k off.toNat) true).answered)) ∧
    (s.serves → s.keepsRoG k Reg.GRP_GO (v ||| 1) → s.grpOwner k = true → s.groupDelay ≤ 60000000000 →
      (s.gbit Reg.GRP_STAT Fld.GRP_STAT_SREJ = false → ∃ t, exec (.groupGo k v) s = .next t ∧ t.grpOpen = false ∧
        t.gbit Reg.GRP_STAT Fld.GRP_STAT_PEND = true ∧ t.grp.commitAt = some (s.time.refNs + s.groupDelay.toNat) ∧
        t.grp.staged = s.grp.staged) ∧
      (s.gbit Reg.GRP_STAT Fld.GRP_STAT_SREJ = true → ∃ t, exec (.groupGo k v) s = .next t ∧ t.grpOpen = false ∧
        t.gget Reg.GRP_RESULT = 0 ∧ t.grp.staged = [] ∧ t.gbit Reg.GRP_STAT Fld.GRP_STAT_DONE = true ∧
        t.gbit Reg.GRP_STAT Fld.GRP_STAT_PEND = false)) ∧
    (s.gbit Reg.GRP_STAT Fld.GRP_STAT_PEND = true → s.grp.waiting = 0 → ∃ t, exec .groupDone s = .next t ∧
      t.gbit Reg.GRP_STAT Fld.GRP_STAT_DONE = true ∧ t.gbit Reg.GRP_STAT Fld.GRP_STAT_PEND = false ∧
      t.gget Reg.GRP_RESULT = s.gget Reg.GRP_RESULT) ∧
    (∀ p : MirWrite, p.coef = none → mirrored p.off.toNat = true →
      ((s.chan p.ch).mode ≠ 8 → exec (.mirrorWriteReceive p) s = .next (s.mirrorReply p.seq false 3)) ∧
      ((s.chan p.ch).mode = 8 → waitsForBoundary p.off.toNat = true → (s.chan p.ch).clockLost = false →
        (s.chan p.ch).ticking = true → s.arrivalCause p.ch p.off.toNat p.v = none → exec (.mirrorWriteReceive p) s =
          .next ((s.onChan p.ch fun c => { c with writes :=
            c.writes ++ [⟨p.off.toNat, p.v, .mirror p.seq, none, []⟩] }).mirrorReply
            p.seq true 0))) ∧
    (∀ (seq : Nat) (q : MirPacket), s.mir.queue.find? (fun p => p.w.seq == seq) = some q →
      (∃ t, exec (.mirrorWriteAnswer seq true 0) s = .next t ∧ (∀ p ∈ t.mir.queue, p.w.seq ≠ seq) ∧
        (∀ c, t.chan c = s.chan c)) ∧
      (((s.gfld Reg.MIR_CTL Fld.MIR_CTL_RSBUSY).testBit q.w.ch.val = true → q.resync = true ∨
          ∃ p ∈ s.mir.queue, p.resync = true ∧ p.w.ch = q.w.ch ∧ p.w.seq ≠ seq) →
        ∃ t, exec (.mirrorWriteTimeout seq) s = .next t ∧ (∀ p ∈ t.mir.queue, p.w.seq ≠ seq) ∧
        t.cs q.w.ch Fld.PAIR_CHSTAT_STALE = 1 ∧ (∀ c, t.chan c = s.chan c))) ∧
    (s.serves → s.keepsRoG k Reg.MIR_CTL v → exec (.mirrorResync k v) s = .next (s.writeMirCtl v).answered) ∧
    (s.isPair = true → s.holds ch = true → s.gfld Reg.PAIR_STAT Fld.PAIR_STAT_LINK = 2 →
      ∃ ps, (s.resync ch).mir.queue = s.mir.queue ++ ps ∧ (∀ p ∈ ps, p.resync = true ∧ p.w.ch = ch) ∧
        ps.map (fun p => (p.w.off, p.w.v, p.w.coef)) =
          (s.chan ch).resyncWrites.map fun x => (BitVec.ofNat 14 x.1, x.2.1, x.2.2))

/-! ## Images, fuses, parameters and resets (17_configuration_image.md, 18_startup_reset_power.md) -/

/-- R492 to R499, R506: the image loader. An accepted IMG_CTL command begins its operation; a full load takes the pads back;
an update uncommits its target; ABORT ends with ERR 8; IMG_DATA takes a word; a verification that fails ends with its ERR, a
staged section is held, a full load runs; a flash operation retries three times; a REPAIR load ends in HALT with TCAUSE 13.
Completes with its own effect: STAGE, STAGE_FLASH, LOAD_FULL, UPD_OPEN, UPD_COMMIT, IMG_ABORT, IMG_DATA_WRITE,
IMAGE_VERIFY_DONE, FLASH_OP_DONE, REPAIR_LOAD_END. -/
def Obligations.Images : Prop :=
  ∀ (s : State) (k : Ctx) (v : Word),
    (∀ i op, (i, op) ∈ [(Instr.stage k v, 1), (.stageFlash k v, 2), (.loadFull k v, 3), (.updOpen k v, 4),
        (.updCommit k v, 5), (.imgAbort k v, 6)] → let w := setField v Fld.IMG_CTL_OP op
      s.serves → s.keepsRoG k Reg.IMG_CTL w → s.imgCause w = 0 →
      ∃ t, s.writeImgCtl w = .inr t ∧ exec i s = .next t.answered ∧
        (op = 1 ∨ op = 2 → t.imgState = 1 ∧ t.ldr.op = op ∧ t.ldr.staged = none ∧
          t.gbit Reg.IMG_STAT Fld.IMG_STAT_STGOK = false ∧
          t.gfld Reg.IMG_STAT Fld.IMG_STAT_STGCH = getField v Fld.IMG_CTL_CH) ∧
        (op = 3 → t.imgState = 4 ∧ t.gbit Reg.GSTAT Fld.GSTAT_IMAGE_OK = false ∧
          t.gbit Reg.GSTAT Fld.GSTAT_PADS_RELEASED = false ∧ t.gbit Reg.KNL_STAT Fld.KNL_STAT_GINH = true) ∧
        (op = 4 → t.imgState = 5 ∧ t.ldr.slot = s.updTarget ∧ (t.store.slots[s.updTarget]).commit = false) ∧
        (op = 5 → t.imgState = 7) ∧
        (op = 6 → s.imgState = 2 → t.imgState = 0 ∧ t.gfld Reg.IMG_STAT Fld.IMG_STAT_ERR = 8 ∧ t.ldr.staged = none)) ∧
    (∀ n, s.serves → s.keepsRoG k Reg.IMG_DATA v → s.ldr.op = n → n = 1 ∨ n = 3 ∨ n = 4 → s.ldr.dma = false →
      s.imgState = 1 ∨ s.imgState = 4 ∨ s.imgState = 6 → 4 * s.ldr.got.length < (s.gget Reg.IMG_LEN).toNat →
      exec (.imgDataWrite k v) s = .next (({ s with ldr := { s.ldr with got := v :: s.ldr.got } } : State).answered)) ∧
    (∀ found : ImageObs, s.delivered = true → let img := s.imageFound found
      (s.imgState = 1 → s.ldr.op = 1 → s.verifyErr img ≠ 0 → s.verifyErr img < 16 →
        ∃ t, exec (.imageVerifyDone found) s = .next t ∧ t.gfld Reg.IMG_STAT Fld.IMG_STAT_ERR = s.verifyErr img ∧
          t.ldr.staged = none ∧ t.imgState = 0) ∧
      (∀ r x, s.imgState = 1 → s.ldr.op = 1 → s.verifyErr img = 0 → s.ldr.image = some r → r.gdigest = img.gdigest →
        img.sections.find? (fun x => x.1.val == s.gfld Reg.IMG_STAT Fld.IMG_STAT_STGCH) = some x →
        ∃ t, exec (.imageVerifyDone found) s = .next t ∧ t.imgState = 2 ∧ t.ldr.staged = some x ∧
          t.gbit Reg.IMG_STAT Fld.IMG_STAT_STGOK = true) ∧
      (s.imgState = 4 → s.ldr.boot = [] → s.verifyErr img = 0 → exec (.imageVerifyDone found) s =
        .next (s.applyImage img 2 0) ∧ (s.applyImage img 2 0).gbit Reg.GSTAT Fld.GSTAT_IMAGE_OK = true)) ∧
    ((s.imgState = 5 → exec (.flashOpDone true) s = .next (({ s with ldr := { s.ldr with
        retries := 0 } } : State).updErased)) ∧
      (5 ≤ s.imgState → s.imgState ≤ 8 → s.ldr.retries < 3 → exec (.flashOpDone false) s =
        .next { s with ldr := { s.ldr with retries := s.ldr.retries + 1 } }) ∧
      (5 ≤ s.imgState → s.imgState ≤ 8 → 3 ≤ s.ldr.retries → exec (.flashOpDone false) s = .next (s.imgFails 9)) ∧
      (∀ im, s.imgState = 8 → (s.store.slots[s.ldr.slot]).image = some im → ∃ t gen, exec (.flashOpDone true) s = .next t ∧
        t.imgState = 0 ∧ (t.store.slots[s.ldr.slot]).image = some im ∧
        (t.store.slots[s.ldr.slot]).record = slotRecord gen im.len im.hdig true ∧
        (∀ j l, s.bootOrder = j :: l → gen = s.store.slots[j].gen + 1) ∧ (s.bootOrder = [] → gen = 1))) ∧
    (∀ (ch : ChId) (g : Section) (res : LoadObs), s.ldr.staged = some (ch, g) → (s.chan ch).mode = 11 → s.imgState = 3 →
      ∃ t, exec (.repairLoadEnd ch res) s = .next t ∧ (t.chan ch).mode = 1 ∧ t.ldr.staged = none ∧ t.imgState = 0 ∧
        (t.chan ch).fld Reg.CH_MODE_CUR Fld.CH_MODE_CUR_TCAUSE = 13 ∧ (res ≠ .ok → t.gfld Reg.IMG_STAT Fld.IMG_STAT_ERR = 3))

/-- R488, R501, R504, R505, R520, R522: fuses, the parameter store and per-channel resets. An accepted fuse command is under
way until its end, which programs or revokes the slot; a save commits the inactive bank with GEN one higher, and a failed
one leaves the active bank; an accepted reset returns its channel to OFF, keeps trips and safety causes, and relocks.
Completes with its own effect: FUSE_PROG, FUSE_REVOKE, FUSE_OP_DONE, PARAM_SAVE, PARAM_SAVE_DONE, CHANNEL_RESET. -/
def Obligations.FusesParametersResets : Prop :=
  ∀ (s : State) (k : Ctx) (ch : ChId) (v : Word),
    (let j : Fin 4 := Fin.ofNat 4 (getField v Fld.IMG_FUSE_SLOT)
     let runs := fun rev : Bool =>
       (({ s with ldr := { s.ldr with fuse := some (j, rev) } } : State).gset Reg.IMG_KEY Fld.IMG_KEY_FBUSY 1).answered
     s.serves → s.ldr.fuse = none → getField v Fld.IMG_FUSE_KEY = 0x4655 →
      (s.keepsRoG k Reg.IMG_FUSE ((v &&& 0xFFFFFFF3) ||| 4) → s.store.fuses[j].hash = none →
        exec (.fuseProg k v) s = .next (runs false)) ∧
      (s.keepsRoG k Reg.IMG_FUSE ((v &&& 0xFFFFFFF3) ||| 8) → s.store.fuses[j].hash.isSome → s.otherKey j = true →
        exec (.fuseRevoke k v) s = .next (runs true))) ∧
    (∀ (j : Fin 4) (rev : Bool), s.ldr.fuse = some (j, rev) → ∃ t, exec .fuseOpDone s = .next t ∧ t.ldr.fuse = none ∧
      t.gbit Reg.IMG_KEY Fld.IMG_KEY_FBUSY = false ∧
      t.store.fuses[j] = (if rev then { s.store.fuses[j] with revoked := true }
        else { s.store.fuses[j] with hash := some s.stagedHash })) ∧
    (s.serves → s.keepsRoG k Reg.PAR_CTL v → s.ldr.queued = [] →
      (∀ c : ChId, v.getLsbD c.val = true → (s.chan c).mode ≠ 11) → v.extractLsb' 0 12 ≠ 0 →
      exec (.paramSave k v) s = .next (s.hostSave (v.extractLsb' 0 12)).answered) ∧
    (∀ j : SaveJob, s.ldr.save = some j → j.due = 0 →
      (∃ t, exec (.paramSaveDone .ok) s = .next t ∧ t.gbit Reg.PAR_STAT Fld.PAR_STAT_VALID = true ∧
        t.gfld Reg.PAR_STAT Fld.PAR_STAT_BANK = s.parTarget.val ∧ (t.store.par[s.parTarget]).commit = true ∧
        (∀ a, s.parActive = some a → (t.store.par[s.parTarget]).gen = a.gen + 1) ∧
        t.ldr.save = s.ldr.queued.head?) ∧
      (∀ res, res ≠ SaveObs.ok → ∃ t, exec (.paramSaveDone res) s = .next t ∧
        (t.store.par[s.parTarget]).commit = false ∧ t.gfld Reg.PAR_STAT Fld.PAR_STAT_BANK = s.gfld Reg.PAR_STAT
          Fld.PAR_STAT_BANK ∧ (∀ b, b ≠ s.parTarget → t.store.par[b] = s.store.par[b]) ∧
        t.gfld Reg.PAR_STAT Fld.PAR_STAT_ERR = if res = .noResponse then 1 else 2)) ∧
    (s.serves → s.keepsRoG k Reg.CHRST v → (∀ c : ChId, v.getLsbD c.val = true → s.resetAccepted c v = true) →
      (∀ c : ChId, v.getLsbD c.val = true → c = ch) → v.getLsbD ch.val = true →
      exec (.channelReset k v) s = .next (s.resetChan ch).answered) ∧
    (∀ (c : Chan) (o : Nat), let d := c.resetBase
      d.mode = 0 ∧ d.tickCount = 0 ∧ d.writes = [] ∧ d.pll.phase = .search ∧ d.pair = c.pair ∧ d.saf = c.saf ∧
      (keptByReset o = true → d.get o = c.get o) ∧ (keptByReset o = false → d.get o = chanReset o))

/-! ## Tick boundaries (02_channel_tick.md, 01_architecture.md, 04_control_engines.md) -/

/-- R32 to R34, R47, R48, R56, R111, R123, R132, R167, R193: the tick boundary. Without ticks nothing happens; a tick whose
engines have not finished has overrun, and the waiting writes still land; else the boundary runs. An engine begins its
program anew with empty mailboxes and its registers kept; the period word is clamped; a ramp never passes its target; an RWL
register or a coefficient changes only where its loop admits it. Completes with its own effect: TICK_BOUNDARY. -/
def Obligations.TickBoundary : Prop :=
  ∀ (s : State) (ch : ChId) (env : TickEnv), let c := s.chan ch
    let run := exec (.tickBoundary ch env) s
    (c.ticking = false → (c.faulted = true → c.bit Reg.PLL_STAT Fld.PLL_STAT_LOCK = true → c.pll.phase ≠ .idle) →
      run = .next s) ∧
    (c.faulted = true → c.bit Reg.PLL_STAT Fld.PLL_STAT_LOCK = true → c.pll.phase = .idle → run = .next (s.landAll ch)) ∧
    (∀ cause, c.ticking = true → c.ctl.starting = false → c.unfinished = some cause →
      run = .next ((s.overrun ch cause).landAll ch)) ∧
    (c.ticking = true → c.ctl.starting = true ∨ c.unfinished = none → run = .next (s.boundary ch env)) ∧
    (c.ticking = true → c.ctl.starting = true ∨ c.unfinished = none → c.mode = 1 → c.writes = [] →
      c.tickCount + 1 < 2 ^ 64 → ∃ t, run = .next t ∧ (t.chan ch).mode = 1 ∧ (t.chan ch).tickCount = c.tickCount + 1 ∧
        (t.chan ch).ctl.starting = false ∧ ∀ j, j ≠ ch → t.chan j = s.chan j) ∧
    (∀ (e : Engine) (works : Bool), let d := e.startTick works
      d.mail = Vector.replicate 4 none ∧ d.v = e.v ∧ d.fl = e.fl ∧ d.data = e.data ∧ d.coef = e.coef ∧ d.slots = e.slots ∧
      (works = true → d.run = .running ∧ d.pc = 0 ∧ d.loops = [] ∧ d.calls = [] ∧ d.fst = e.fstNext) ∧
      (works = false → d.run = .idle)) ∧
    (∀ site meas n, 2 ^ 29 ≤ (c.periodWord site meas n).toNat ∧ (c.periodWord site meas n).toNat ≤ 2 ^ 31 - 1) ∧
    (∀ (frac rate acc : Nat) (h : Nat × Nat) (tc out vel : Int), 0 < h.2 → let r := rampStep frac rate acc h tc out vel
      (out ≤ tc → 0 ≤ r.2 → r.1 ≤ tc) ∧ (tc ≤ out → r.2 ≤ 0 → tc ≤ r.1)) ∧
    (∀ w : ChanWrite, 0x0800 ≤ w.off → w.off < 0x0C00 → w.off ≠ Reg.BRK_CFG → judged w.off = false →
      ((s.landPlain ch w).chan ch).get w.off = c.plainWord w.off w.v) ∧
    (∀ (w : ChanWrite) (change : Bool) (e : Eng) (k : Nat), lawOwner w.off = some (e, k) →
      (c.loopAdmits e k change = true → ((s.landJudged ch change w).chan ch).get w.off = c.plainWord w.off w.v) ∧
      (c.loopAdmits e k change = false → let d := (s.landJudged ch change w).chan ch
        d.get w.off = c.get w.off ∧ d.bit Reg.LAW_STAT Fld.LAW_STAT_REJ = true ∧
        d.fld Reg.ENG_CSTAT Fld.ENG_CSTAT_CAUSE = 1)) ∧
    (∀ (w : CoefWrite) (change : Bool) (e : Eng), let x := (c.engine e).getCoef w.idx.toNat
      let d := (s.landCoef ch change e w).chan ch
      (c.loopAdmits e x.owner.toNat change = true → (d.engine e).getCoef w.idx.toNat =
        { x with mant := w.mant, shift := w.shift }) ∧
      (c.loopAdmits e x.owner.toNat change = false → (d.engine e).getCoef w.idx.toNat = x ∧
        d.bit Reg.ENG_CSTAT Fld.ENG_CSTAT_REJ = true)) ∧
    (∀ (e : Eng) (k : Nat) (change : Bool), c.loopAdmits e k change = true ↔ c.mode = 1 ∨ (k < 32 ∧
      ((c.get (match e with | .fe => Reg.ENG_LOOP_OPEN_FE | .me => Reg.ENG_LOOP_OPEN_ME)).getLsbD k = true ∨
       ((c.get (match e with | .fe => Reg.ENG_LOOP_TRK_FE | .me => Reg.ENG_LOOP_TRK_ME)).getLsbD k = true ∧
        change = false))))

/-! ## The whole machine -/

/-- R121: EVERY COMMAND COMPLETES. Whatever the command `i` of the 246 and whatever the state, `exec i` answers a next
state: the effect that the statements above give, which for a command that reports a fault (TICK_OVERRUN, LOCKSTEP_MISMATCH,
UNCORRECTABLE_ECC, FABRIC_PARITY_ERROR, RESERVED_OPCODE, the losses and the expiries) is the entry that its rule describes.
The one stop is the nesting that R121 forbids to a program: a ninth nested CALL, a third nested LOOP, and a RET with no call
open. -/
def Obligations.EveryCommandCompletes : Prop :=
  ∀ (i : Instr) (s : State),
    (¬ s.breaksStacks i → ∃ t, exec i s = .next t) ∧
    (s.breaksStacks i → exec i s = .fault .engineStackRule)

/-- A step with the command `c` at the front of the queue is `exec c` with the queue's rest. With none waiting, 10 ns pass
on the reference, and inner pads that follow an inhibit are off; no channel changes else (the model's choice, logs 21, 66). -/
def Obligations.StepRunsFront : Prop :=
  ∀ s : State,
    (∀ c rest, s.pending = c :: rest → step s = exec c { s with pending := rest }) ∧
    (s.pending = [] → ∃ t, step s = .next t ∧ t.pending = [] ∧ t.time.refNs = s.time.refNs + 10 ∧
      (∀ ch, t.chan ch = { s.chan ch with pwm := { (s.chan ch).pwm with lag := 0 } }) ∧
      ((s.gget Reg.CAL_RATE).toInt = 0 → s.cal.frac < 2 ^ 32 → t.cal.ns = s.cal.ns + 10))

/-- R9, R10, R520: after a power-on reset no command waits, every register reads its reset value, every channel is in OFF
with its pads at HIZ, under the global inhibit, with SAFE_N low; the capture memory holds nothing (the model's choice, log
50); the whole-machine invariant holds. -/
def Obligations.ResetState : Prop :=
  State.reset.pending = [] ∧ State.reset.Inv ∧
    (∀ o, State.reset.gget o = globalReset o) ∧
    (∀ (ch : ChId) (o : Nat), (State.reset.chan ch).get o = chanReset o ∧ (State.reset.chan ch).mode = 0 ∧
      (State.reset.chan ch).writes = [] ∧ State.reset.padsHiz ch = true ∧ State.reset.inhibited ch = true) ∧
    (∀ a, State.reset.sramGet a = 0) ∧ State.reset.cal.ns = 0 ∧ State.reset.rcd.queue = [] ∧
    State.reset.gbit Reg.KNL_STAT Fld.KNL_STAT_SAFEN = true ∧ State.reset.gbit Reg.GSTAT Fld.GSTAT_IMAGE_OK = false ∧
    globalReset Reg.INT_MASK = 0x00FFFFFF ∧ chanReset Reg.CH_PERIOD = 0x40000000

/-- R386, R396, R411: whatever the command, every step keeps the invariant: the last-word bank holds at most 32 entries, the
capture DMA's queue at most 16 descriptors, and the capture memory stays in its canonical form. -/
def Obligations.StepKeepsInv : Prop := ∀ s t : State, s.Inv → step s = .next t → t.Inv

/-- R119, R120: for every engine instruction, whatever its operands, decoding its program word gives it back; and an engine
decodes only words that are the encoding of what it decodes. -/
def Obligations.EncodeDecode : Prop :=
  (∀ i w, encodeEngine i = some w → ∃ x, decodeEngine x w = some i) ∧
    ∀ x w i, decodeEngine x w = some i → ∃ v, encodeEngine i = some v ∧ decodeEngine x v = some i ∧ v &&& w = v
end

