-- ==== Sys2Proof/Laws/Sparse.lean ====
section
/-! SUPPORT. Laws/Sparse.lean: reading after writing a sparse map, and that a write keeps the canonical form. -/

namespace Sys2Proof.Machine

variable {α : Type}

@[simp] theorem sget_nil (d : Nat → α) (k : Nat) : sget d [] k = d k := rfl

theorem sget_sput (d : Nat → α) (k : Nat) (v : α) (m : List (Nat × α)) (i : Nat) :
    sget d (sput k v m) i = if i = k then v else sget d m i := by
  induction m with
  | nil => simp [sput, sget]
  | cons p t ih =>
    obtain ⟨j, w⟩ := p
    simp only [sput]
    split
    · simp only [sget]
    · split
      · rename_i h1 h2
        subst h2
        simp only [sget]
        split <;> rfl
      · rename_i h1 h2
        simp only [sget, ih]
        by_cases h3 : i = j
        · simp [h3]
          omega
        · simp [h3]

theorem sget_sdel (d : Nat → α) (k : Nat) (m : List (Nat × α)) (i : Nat) :
    sget d (sdel k m) i = if i = k then d k else sget d m i := by
  induction m with
  | nil => simp only [sdel, sget]; split <;> simp_all
  | cons p t ih =>
    obtain ⟨j, w⟩ := p
    simp only [sdel]
    split
    · rename_i h1
      subst h1
      rw [ih]
      by_cases h3 : i = k <;> simp [sget, h3]
    · rename_i h1
      simp only [sget, ih]
      by_cases h3 : i = j
      · simp [h3]
        omega
      · simp [h3]

/-- Reading a map after a write: the cell written reads back as written, every other cell as before. -/
@[simp] theorem sget_sset [DecidableEq α] (d : Nat → α) (m : List (Nat × α)) (k : Nat) (v : α) (i : Nat) :
    sget d (sset d m k v) i = if i = k then v else sget d m i := by
  unfold sset
  split
  · rename_i hv
    rw [sget_sdel, hv]
  · exact sget_sput d k v m i

theorem swfFrom_mono [DecidableEq α] (d : Nat → α) {lo lo' : Nat} (hl : lo' ≤ lo) (m : List (Nat × α))
    (h : swfFrom d lo m = true) : swfFrom d lo' m = true := by
  cases m with
  | nil => rfl
  | cons p t =>
    simp only [swfFrom, Bool.and_eq_true, decide_eq_true_eq] at h ⊢
    exact ⟨⟨by omega, h.1.2⟩, h.2⟩

theorem swfFrom_sput [DecidableEq α] (d : Nat → α) {k : Nat} {v : α} (hv : v ≠ d k) :
    ∀ (m : List (Nat × α)) (lo : Nat), lo ≤ k → swfFrom d lo m = true → swfFrom d lo (sput k v m) = true
  | [], lo, hl, _ => by simp [sput, swfFrom, hl, hv]
  | (j, w) :: t, lo, hl, h => by
    simp only [swfFrom, Bool.and_eq_true, decide_eq_true_eq] at h
    simp only [sput]
    split
    · rename_i h1
      simp only [swfFrom, Bool.and_eq_true, decide_eq_true_eq]
      exact ⟨⟨hl, by simpa using hv⟩, ⟨by omega, h.1.2⟩, h.2⟩
    · split
      · rename_i h1 h2
        subst h2
        simp only [swfFrom, Bool.and_eq_true, decide_eq_true_eq]
        exact ⟨⟨hl, by simpa using hv⟩, h.2⟩
      · rename_i h1 h2
        simp only [swfFrom, Bool.and_eq_true, decide_eq_true_eq]
        exact ⟨h.1, swfFrom_sput d hv t (j + 1) (by omega) h.2⟩

theorem swfFrom_sdel [DecidableEq α] (d : Nat → α) (k : Nat) :
    ∀ (m : List (Nat × α)) (lo : Nat), swfFrom d lo m = true → swfFrom d lo (sdel k m) = true
  | [], _, _ => rfl
  | (j, w) :: t, lo, h => by
    simp only [swfFrom, Bool.and_eq_true, decide_eq_true_eq] at h
    simp only [sdel]
    split
    · exact swfFrom_mono d (by omega) _ (swfFrom_sdel d k t (j + 1) h.2)
    · simp only [swfFrom, Bool.and_eq_true, decide_eq_true_eq]
      exact ⟨h.1, swfFrom_sdel d k t (j + 1) h.2⟩

/-- Every write keeps the canonical form. -/
theorem swf_sset [DecidableEq α] (d : Nat → α) (m : List (Nat × α)) (k : Nat) (v : α) (h : swf d m = true) :
    swf d (sset d m k v) = true := by
  unfold sset
  split
  · exact swfFrom_sdel d k m 0 h
  · rename_i hv
    exact swfFrom_sput d hv m 0 (Nat.zero_le k) h

/-- Writing consecutive cells keeps the canonical form. -/
theorem swf_ssetMany [DecidableEq α] (d : Nat → α) (vs : List α) :
    ∀ (m : List (Nat × α)) (k : Nat), swf d m = true → swf d (ssetMany d m k vs) = true := by
  induction vs with
  | nil => intro m k h; exact h
  | cons v vs ih => intro m k h; exact ih _ _ (swf_sset d m k v h)

end Sys2Proof.Machine
end

