-- ==== Sys2Proof/Laws/State.lean ====
section
/-! SUPPORT. Laws/State.lean: what each named update of the state leaves as it was, field by field, and what reading a
register, a channel, an engine or a context gives after one. -/

namespace Sys2Proof.Machine

/-! ## State: global registers, channels, contexts -/

@[simp] theorem State.gput_pending (s : State) (o : Nat) (w : Word) : (s.gput o w).pending = s.pending := rfl
@[simp] theorem State.gput_free (s : State) (o : Nat) (w : Word) : (s.gput o w).free = s.free := rfl
@[simp] theorem State.gput_time (s : State) (o : Nat) (w : Word) : (s.gput o w).time = s.time := rfl
@[simp] theorem State.gput_ch (s : State) (o : Nat) (w : Word) : (s.gput o w).ch = s.ch := rfl
@[simp] theorem State.gput_host (s : State) (o : Nat) (w : Word) : (s.gput o w).host = s.host := rfl
@[simp] theorem State.gput_grp (s : State) (o : Nat) (w : Word) : (s.gput o w).grp = s.grp := rfl
@[simp] theorem State.gput_mir (s : State) (o : Nat) (w : Word) : (s.gput o w).mir = s.mir := rfl
@[simp] theorem State.gput_clk (s : State) (o : Nat) (w : Word) : (s.gput o w).clk = s.clk := rfl
@[simp] theorem State.gput_link (s : State) (o : Nat) (w : Word) : (s.gput o w).link = s.link := rfl
@[simp] theorem State.gput_saf (s : State) (o : Nat) (w : Word) : (s.gput o w).saf = s.saf := rfl
@[simp] theorem State.gput_knl (s : State) (o : Nat) (w : Word) : (s.gput o w).knl = s.knl := rfl
@[simp] theorem State.gput_sram (s : State) (o : Nat) (w : Word) : (s.gput o w).sram = s.sram := rfl
@[simp] theorem State.gput_dma (s : State) (o : Nat) (w : Word) : (s.gput o w).dma = s.dma := rfl
@[simp] theorem State.gput_rcd (s : State) (o : Nat) (w : Word) : (s.gput o w).rcd = s.rcd := rfl
@[simp] theorem State.gput_cal (s : State) (o : Nat) (w : Word) : (s.gput o w).cal = s.cal := rfl
@[simp] theorem State.gput_die (s : State) (o : Nat) (w : Word) : (s.gput o w).die = s.die := rfl
@[simp] theorem State.gput_ldr (s : State) (o : Nat) (w : Word) : (s.gput o w).ldr = s.ldr := rfl
@[simp] theorem State.gput_store (s : State) (o : Nat) (w : Word) : (s.gput o w).store = s.store := rfl
@[simp] theorem State.gput_pins (s : State) (o : Nat) (w : Word) : (s.gput o w).pins = s.pins := rfl

@[simp] theorem State.putChan_pending (s : State) (ch : ChId) (c : Chan) : (s.putChan ch c).pending = s.pending := rfl
@[simp] theorem State.putChan_free (s : State) (ch : ChId) (c : Chan) : (s.putChan ch c).free = s.free := rfl
@[simp] theorem State.putChan_time (s : State) (ch : ChId) (c : Chan) : (s.putChan ch c).time = s.time := rfl
@[simp] theorem State.putChan_g (s : State) (ch : ChId) (c : Chan) : (s.putChan ch c).g = s.g := rfl
@[simp] theorem State.putChan_host (s : State) (ch : ChId) (c : Chan) : (s.putChan ch c).host = s.host := rfl
@[simp] theorem State.putChan_grp (s : State) (ch : ChId) (c : Chan) : (s.putChan ch c).grp = s.grp := rfl
@[simp] theorem State.putChan_mir (s : State) (ch : ChId) (c : Chan) : (s.putChan ch c).mir = s.mir := rfl
@[simp] theorem State.putChan_clk (s : State) (ch : ChId) (c : Chan) : (s.putChan ch c).clk = s.clk := rfl
@[simp] theorem State.putChan_link (s : State) (ch : ChId) (c : Chan) : (s.putChan ch c).link = s.link := rfl
@[simp] theorem State.putChan_saf (s : State) (ch : ChId) (c : Chan) : (s.putChan ch c).saf = s.saf := rfl
@[simp] theorem State.putChan_knl (s : State) (ch : ChId) (c : Chan) : (s.putChan ch c).knl = s.knl := rfl
@[simp] theorem State.putChan_sram (s : State) (ch : ChId) (c : Chan) : (s.putChan ch c).sram = s.sram := rfl
@[simp] theorem State.putChan_dma (s : State) (ch : ChId) (c : Chan) : (s.putChan ch c).dma = s.dma := rfl
@[simp] theorem State.putChan_rcd (s : State) (ch : ChId) (c : Chan) : (s.putChan ch c).rcd = s.rcd := rfl
@[simp] theorem State.putChan_cal (s : State) (ch : ChId) (c : Chan) : (s.putChan ch c).cal = s.cal := rfl
@[simp] theorem State.putChan_die (s : State) (ch : ChId) (c : Chan) : (s.putChan ch c).die = s.die := rfl
@[simp] theorem State.putChan_ldr (s : State) (ch : ChId) (c : Chan) : (s.putChan ch c).ldr = s.ldr := rfl
@[simp] theorem State.putChan_store (s : State) (ch : ChId) (c : Chan) : (s.putChan ch c).store = s.store := rfl
@[simp] theorem State.putChan_pins (s : State) (ch : ChId) (c : Chan) : (s.putChan ch c).pins = s.pins := rfl

@[simp] theorem State.onCtx_pending (s : State) (k : Ctx) (f : CtxPort → CtxPort) : (s.onCtx k f).pending = s.pending := rfl
@[simp] theorem State.onCtx_free (s : State) (k : Ctx) (f : CtxPort → CtxPort) : (s.onCtx k f).free = s.free := rfl
@[simp] theorem State.onCtx_time (s : State) (k : Ctx) (f : CtxPort → CtxPort) : (s.onCtx k f).time = s.time := rfl
@[simp] theorem State.onCtx_g (s : State) (k : Ctx) (f : CtxPort → CtxPort) : (s.onCtx k f).g = s.g := rfl
@[simp] theorem State.onCtx_ch (s : State) (k : Ctx) (f : CtxPort → CtxPort) : (s.onCtx k f).ch = s.ch := rfl
@[simp] theorem State.onCtx_grp (s : State) (k : Ctx) (f : CtxPort → CtxPort) : (s.onCtx k f).grp = s.grp := rfl
@[simp] theorem State.onCtx_mir (s : State) (k : Ctx) (f : CtxPort → CtxPort) : (s.onCtx k f).mir = s.mir := rfl
@[simp] theorem State.onCtx_clk (s : State) (k : Ctx) (f : CtxPort → CtxPort) : (s.onCtx k f).clk = s.clk := rfl
@[simp] theorem State.onCtx_link (s : State) (k : Ctx) (f : CtxPort → CtxPort) : (s.onCtx k f).link = s.link := rfl
@[simp] theorem State.onCtx_saf (s : State) (k : Ctx) (f : CtxPort → CtxPort) : (s.onCtx k f).saf = s.saf := rfl
@[simp] theorem State.onCtx_knl (s : State) (k : Ctx) (f : CtxPort → CtxPort) : (s.onCtx k f).knl = s.knl := rfl
@[simp] theorem State.onCtx_sram (s : State) (k : Ctx) (f : CtxPort → CtxPort) : (s.onCtx k f).sram = s.sram := rfl
@[simp] theorem State.onCtx_dma (s : State) (k : Ctx) (f : CtxPort → CtxPort) : (s.onCtx k f).dma = s.dma := rfl
@[simp] theorem State.onCtx_rcd (s : State) (k : Ctx) (f : CtxPort → CtxPort) : (s.onCtx k f).rcd = s.rcd := rfl
@[simp] theorem State.onCtx_cal (s : State) (k : Ctx) (f : CtxPort → CtxPort) : (s.onCtx k f).cal = s.cal := rfl
@[simp] theorem State.onCtx_die (s : State) (k : Ctx) (f : CtxPort → CtxPort) : (s.onCtx k f).die = s.die := rfl
@[simp] theorem State.onCtx_ldr (s : State) (k : Ctx) (f : CtxPort → CtxPort) : (s.onCtx k f).ldr = s.ldr := rfl
@[simp] theorem State.onCtx_store (s : State) (k : Ctx) (f : CtxPort → CtxPort) : (s.onCtx k f).store = s.store := rfl
@[simp] theorem State.onCtx_pins (s : State) (k : Ctx) (f : CtxPort → CtxPort) : (s.onCtx k f).pins = s.pins := rfl

@[simp] theorem State.onChan_eq (s : State) (ch : ChId) (f : Chan → Chan) :
    s.onChan ch f = s.putChan ch (f (s.chan ch)) := rfl

@[simp] theorem State.gset_eq (s : State) (o : Nat) (f : BitField) (n : Nat) :
    s.gset o f n = s.gput o (setField (s.gget o) f n) := rfl

@[simp] theorem State.onPair_eq (s : State) (ch : ChId) (f : PairCh → PairCh) :
    s.onPair ch f = s.putChan ch { s.chan ch with pair := f (s.chan ch).pair } := rfl

theorem State.putEng_eq (s : State) (x : Site) (e : Engine) :
    s.putEng x e = s.putChan x.ch ((s.chan x.ch).setEngine x.eng e) := rfl

@[simp] theorem State.onEng_eq (s : State) (x : Site) (f : Engine → Engine) : s.onEng x f = s.putEng x (f (s.eng x)) := rfl

@[simp] theorem State.onCap_eq (s : State) (ch : ChId) (k : SetId) (f : CapSet → CapSet) :
    s.onCap ch k f = s.putChan ch ((s.chan ch).setCap k (f ((s.chan ch).capSet k))) := rfl

theorem State.chan_putChan (s : State) (a b : ChId) (c : Chan) :
    (s.putChan a c).chan b = if b = a then c else s.chan b := by
  by_cases h : b = a
  · subst h
    simp [State.chan, State.putChan]
  · have h' : a.val ≠ b.val := fun e => h (Fin.ext e.symm)
    simp [State.chan, State.putChan, h, h']

@[simp] theorem State.chan_putChan_same (s : State) (a : ChId) (c : Chan) : (s.putChan a c).chan a = c := by
  simp [State.chan_putChan]

theorem State.chan_putChan_ne (s : State) {a b : ChId} (c : Chan) (h : b ≠ a) : (s.putChan a c).chan b = s.chan b := by
  simp [State.chan_putChan, h]

@[simp] theorem State.chan_gput (s : State) (o : Nat) (w : Word) (ch : ChId) : (s.gput o w).chan ch = s.chan ch := rfl

@[simp] theorem State.chan_onCtx (s : State) (k : Ctx) (f : CtxPort → CtxPort) (ch : ChId) :
    (s.onCtx k f).chan ch = s.chan ch := rfl

@[simp] theorem State.gget_putChan (s : State) (ch : ChId) (c : Chan) (o : Nat) : (s.putChan ch c).gget o = s.gget o := rfl

@[simp] theorem State.gget_onCtx (s : State) (k : Ctx) (f : CtxPort → CtxPort) (o : Nat) :
    (s.onCtx k f).gget o = s.gget o := rfl

@[simp] theorem State.gget_gput (s : State) (o : Nat) (w : Word) (p : Nat) :
    (s.gput o w).gget p = if p = o then w else s.gget p := by
  simp [State.gget, State.gput]

@[simp] theorem State.putChan_putChan (s : State) (ch : ChId) (c d : Chan) :
    (s.putChan ch c).putChan ch d = s.putChan ch d := by
  simp [State.putChan]

theorem State.ctx_onCtx (s : State) (k j : Ctx) (f : CtxPort → CtxPort) :
    (s.onCtx k f).host.ctxs[j] = if j = k then f s.host.ctxs[k] else s.host.ctxs[j] := by
  by_cases h : j = k
  · subst h
    simp [State.onCtx]
  · have h' : k.val ≠ j.val := fun e => h (Fin.ext e.symm)
    simp [State.onCtx, h, h']

/-! ## Channels -/

@[simp] theorem Chan.put_writes (c : Chan) (o : Nat) (w : Word) : (c.put o w).writes = c.writes := rfl
@[simp] theorem Chan.put_fe (c : Chan) (o : Nat) (w : Word) : (c.put o w).fe = c.fe := rfl
@[simp] theorem Chan.put_me (c : Chan) (o : Nat) (w : Word) : (c.put o w).me = c.me := rfl
@[simp] theorem Chan.put_inputs (c : Chan) (o : Nat) (w : Word) : (c.put o w).inputs = c.inputs := rfl
@[simp] theorem Chan.put_fab (c : Chan) (o : Nat) (w : Word) : (c.put o w).fab = c.fab := rfl
@[simp] theorem Chan.put_posts (c : Chan) (o : Nat) (w : Word) : (c.put o w).posts = c.posts := rfl
@[simp] theorem Chan.put_latched (c : Chan) (o : Nat) (w : Word) : (c.put o w).latched = c.latched := rfl
@[simp] theorem Chan.put_tick (c : Chan) (o : Nat) (w : Word) : (c.put o w).tick = c.tick := rfl
@[simp] theorem Chan.put_periods (c : Chan) (o : Nat) (w : Word) : (c.put o w).periods = c.periods := rfl
@[simp] theorem Chan.put_sp (c : Chan) (o : Nat) (w : Word) : (c.put o w).sp = c.sp := rfl
@[simp] theorem Chan.put_spNext (c : Chan) (o : Nat) (w : Word) : (c.put o w).spNext = c.spNext := rfl
@[simp] theorem Chan.put_duty (c : Chan) (o : Nat) (w : Word) : (c.put o w).duty = c.duty := rfl
@[simp] theorem Chan.put_ctl (c : Chan) (o : Nat) (w : Word) : (c.put o w).ctl = c.ctl := rfl
@[simp] theorem Chan.put_tags (c : Chan) (o : Nat) (w : Word) : (c.put o w).tags = c.tags := rfl
@[simp] theorem Chan.put_law (c : Chan) (o : Nat) (w : Word) : (c.put o w).law = c.law := rfl
@[simp] theorem Chan.put_pack (c : Chan) (o : Nat) (w : Word) : (c.put o w).pack = c.pack := rfl
@[simp] theorem Chan.put_pwm (c : Chan) (o : Nat) (w : Word) : (c.put o w).pwm = c.pwm := rfl
@[simp] theorem Chan.put_pll (c : Chan) (o : Nat) (w : Word) : (c.put o w).pll = c.pll := rfl
@[simp] theorem Chan.put_pair (c : Chan) (o : Nat) (w : Word) : (c.put o w).pair = c.pair := rfl
@[simp] theorem Chan.put_saf (c : Chan) (o : Nat) (w : Word) : (c.put o w).saf = c.saf := rfl
@[simp] theorem Chan.put_cap (c : Chan) (o : Nat) (w : Word) : (c.put o w).cap = c.cap := rfl
@[simp] theorem Chan.put_tmod (c : Chan) (o : Nat) (w : Word) : (c.put o w).tmod = c.tmod := rfl
@[simp] theorem Chan.put_img (c : Chan) (o : Nat) (w : Word) : (c.put o w).img = c.img := rfl
@[simp] theorem Chan.put_banks (c : Chan) (o : Nat) (w : Word) : (c.put o w).banks = c.banks := rfl

@[simp] theorem Chan.setInp_regs (c : Chan) (i : InId) (x : Input) : (c.setInp i x).regs = c.regs := rfl
@[simp] theorem Chan.setInp_writes (c : Chan) (i : InId) (x : Input) : (c.setInp i x).writes = c.writes := rfl
@[simp] theorem Chan.setInp_fe (c : Chan) (i : InId) (x : Input) : (c.setInp i x).fe = c.fe := rfl
@[simp] theorem Chan.setInp_me (c : Chan) (i : InId) (x : Input) : (c.setInp i x).me = c.me := rfl
@[simp] theorem Chan.setInp_fab (c : Chan) (i : InId) (x : Input) : (c.setInp i x).fab = c.fab := rfl
@[simp] theorem Chan.setInp_posts (c : Chan) (i : InId) (x : Input) : (c.setInp i x).posts = c.posts := rfl
@[simp] theorem Chan.setInp_latched (c : Chan) (i : InId) (x : Input) : (c.setInp i x).latched = c.latched := rfl
@[simp] theorem Chan.setInp_tick (c : Chan) (i : InId) (x : Input) : (c.setInp i x).tick = c.tick := rfl
@[simp] theorem Chan.setInp_periods (c : Chan) (i : InId) (x : Input) : (c.setInp i x).periods = c.periods := rfl
@[simp] theorem Chan.setInp_sp (c : Chan) (i : InId) (x : Input) : (c.setInp i x).sp = c.sp := rfl
@[simp] theorem Chan.setInp_spNext (c : Chan) (i : InId) (x : Input) : (c.setInp i x).spNext = c.spNext := rfl
@[simp] theorem Chan.setInp_duty (c : Chan) (i : InId) (x : Input) : (c.setInp i x).duty = c.duty := rfl
@[simp] theorem Chan.setInp_ctl (c : Chan) (i : InId) (x : Input) : (c.setInp i x).ctl = c.ctl := rfl
@[simp] theorem Chan.setInp_tags (c : Chan) (i : InId) (x : Input) : (c.setInp i x).tags = c.tags := rfl
@[simp] theorem Chan.setInp_law (c : Chan) (i : InId) (x : Input) : (c.setInp i x).law = c.law := rfl
@[simp] theorem Chan.setInp_pack (c : Chan) (i : InId) (x : Input) : (c.setInp i x).pack = c.pack := rfl
@[simp] theorem Chan.setInp_pwm (c : Chan) (i : InId) (x : Input) : (c.setInp i x).pwm = c.pwm := rfl
@[simp] theorem Chan.setInp_pll (c : Chan) (i : InId) (x : Input) : (c.setInp i x).pll = c.pll := rfl
@[simp] theorem Chan.setInp_pair (c : Chan) (i : InId) (x : Input) : (c.setInp i x).pair = c.pair := rfl
@[simp] theorem Chan.setInp_saf (c : Chan) (i : InId) (x : Input) : (c.setInp i x).saf = c.saf := rfl
@[simp] theorem Chan.setInp_cap (c : Chan) (i : InId) (x : Input) : (c.setInp i x).cap = c.cap := rfl
@[simp] theorem Chan.setInp_tmod (c : Chan) (i : InId) (x : Input) : (c.setInp i x).tmod = c.tmod := rfl
@[simp] theorem Chan.setInp_img (c : Chan) (i : InId) (x : Input) : (c.setInp i x).img = c.img := rfl
@[simp] theorem Chan.setInp_banks (c : Chan) (i : InId) (x : Input) : (c.setInp i x).banks = c.banks := rfl

@[simp] theorem Chan.setCap_regs (c : Chan) (k : SetId) (x : CapSet) : (c.setCap k x).regs = c.regs := rfl
@[simp] theorem Chan.setCap_writes (c : Chan) (k : SetId) (x : CapSet) : (c.setCap k x).writes = c.writes := rfl
@[simp] theorem Chan.setCap_fe (c : Chan) (k : SetId) (x : CapSet) : (c.setCap k x).fe = c.fe := rfl
@[simp] theorem Chan.setCap_me (c : Chan) (k : SetId) (x : CapSet) : (c.setCap k x).me = c.me := rfl
@[simp] theorem Chan.setCap_inputs (c : Chan) (k : SetId) (x : CapSet) : (c.setCap k x).inputs = c.inputs := rfl
@[simp] theorem Chan.setCap_fab (c : Chan) (k : SetId) (x : CapSet) : (c.setCap k x).fab = c.fab := rfl
@[simp] theorem Chan.setCap_posts (c : Chan) (k : SetId) (x : CapSet) : (c.setCap k x).posts = c.posts := rfl
@[simp] theorem Chan.setCap_latched (c : Chan) (k : SetId) (x : CapSet) : (c.setCap k x).latched = c.latched := rfl
@[simp] theorem Chan.setCap_tick (c : Chan) (k : SetId) (x : CapSet) : (c.setCap k x).tick = c.tick := rfl
@[simp] theorem Chan.setCap_periods (c : Chan) (k : SetId) (x : CapSet) : (c.setCap k x).periods = c.periods := rfl
@[simp] theorem Chan.setCap_sp (c : Chan) (k : SetId) (x : CapSet) : (c.setCap k x).sp = c.sp := rfl
@[simp] theorem Chan.setCap_spNext (c : Chan) (k : SetId) (x : CapSet) : (c.setCap k x).spNext = c.spNext := rfl
@[simp] theorem Chan.setCap_duty (c : Chan) (k : SetId) (x : CapSet) : (c.setCap k x).duty = c.duty := rfl
@[simp] theorem Chan.setCap_ctl (c : Chan) (k : SetId) (x : CapSet) : (c.setCap k x).ctl = c.ctl := rfl
@[simp] theorem Chan.setCap_tags (c : Chan) (k : SetId) (x : CapSet) : (c.setCap k x).tags = c.tags := rfl
@[simp] theorem Chan.setCap_law (c : Chan) (k : SetId) (x : CapSet) : (c.setCap k x).law = c.law := rfl
@[simp] theorem Chan.setCap_pack (c : Chan) (k : SetId) (x : CapSet) : (c.setCap k x).pack = c.pack := rfl
@[simp] theorem Chan.setCap_pwm (c : Chan) (k : SetId) (x : CapSet) : (c.setCap k x).pwm = c.pwm := rfl
@[simp] theorem Chan.setCap_pll (c : Chan) (k : SetId) (x : CapSet) : (c.setCap k x).pll = c.pll := rfl
@[simp] theorem Chan.setCap_pair (c : Chan) (k : SetId) (x : CapSet) : (c.setCap k x).pair = c.pair := rfl
@[simp] theorem Chan.setCap_saf (c : Chan) (k : SetId) (x : CapSet) : (c.setCap k x).saf = c.saf := rfl
@[simp] theorem Chan.setCap_tmod (c : Chan) (k : SetId) (x : CapSet) : (c.setCap k x).tmod = c.tmod := rfl
@[simp] theorem Chan.setCap_img (c : Chan) (k : SetId) (x : CapSet) : (c.setCap k x).img = c.img := rfl
@[simp] theorem Chan.setCap_banks (c : Chan) (k : SetId) (x : CapSet) : (c.setCap k x).banks = c.banks := rfl

@[simp] theorem Chan.setEngine_regs (c : Chan) (e : Eng) (x : Engine) : (c.setEngine e x).regs = c.regs := by cases e <;> rfl
@[simp] theorem Chan.setEngine_writes (c : Chan) (e : Eng) (x : Engine) : (c.setEngine e x).writes = c.writes := by cases e <;> rfl
@[simp] theorem Chan.setEngine_inputs (c : Chan) (e : Eng) (x : Engine) : (c.setEngine e x).inputs = c.inputs := by cases e <;> rfl
@[simp] theorem Chan.setEngine_fab (c : Chan) (e : Eng) (x : Engine) : (c.setEngine e x).fab = c.fab := by cases e <;> rfl
@[simp] theorem Chan.setEngine_posts (c : Chan) (e : Eng) (x : Engine) : (c.setEngine e x).posts = c.posts := by cases e <;> rfl
@[simp] theorem Chan.setEngine_latched (c : Chan) (e : Eng) (x : Engine) : (c.setEngine e x).latched = c.latched := by cases e <;> rfl
@[simp] theorem Chan.setEngine_tick (c : Chan) (e : Eng) (x : Engine) : (c.setEngine e x).tick = c.tick := by cases e <;> rfl
@[simp] theorem Chan.setEngine_periods (c : Chan) (e : Eng) (x : Engine) : (c.setEngine e x).periods = c.periods := by cases e <;> rfl
@[simp] theorem Chan.setEngine_sp (c : Chan) (e : Eng) (x : Engine) : (c.setEngine e x).sp = c.sp := by cases e <;> rfl
@[simp] theorem Chan.setEngine_spNext (c : Chan) (e : Eng) (x : Engine) : (c.setEngine e x).spNext = c.spNext := by cases e <;> rfl
@[simp] theorem Chan.setEngine_duty (c : Chan) (e : Eng) (x : Engine) : (c.setEngine e x).duty = c.duty := by cases e <;> rfl
@[simp] theorem Chan.setEngine_ctl (c : Chan) (e : Eng) (x : Engine) : (c.setEngine e x).ctl = c.ctl := by cases e <;> rfl
@[simp] theorem Chan.setEngine_tags (c : Chan) (e : Eng) (x : Engine) : (c.setEngine e x).tags = c.tags := by cases e <;> rfl
@[simp] theorem Chan.setEngine_law (c : Chan) (e : Eng) (x : Engine) : (c.setEngine e x).law = c.law := by cases e <;> rfl
@[simp] theorem Chan.setEngine_pack (c : Chan) (e : Eng) (x : Engine) : (c.setEngine e x).pack = c.pack := by cases e <;> rfl
@[simp] theorem Chan.setEngine_pwm (c : Chan) (e : Eng) (x : Engine) : (c.setEngine e x).pwm = c.pwm := by cases e <;> rfl
@[simp] theorem Chan.setEngine_pll (c : Chan) (e : Eng) (x : Engine) : (c.setEngine e x).pll = c.pll := by cases e <;> rfl
@[simp] theorem Chan.setEngine_pair (c : Chan) (e : Eng) (x : Engine) : (c.setEngine e x).pair = c.pair := by cases e <;> rfl
@[simp] theorem Chan.setEngine_saf (c : Chan) (e : Eng) (x : Engine) : (c.setEngine e x).saf = c.saf := by cases e <;> rfl
@[simp] theorem Chan.setEngine_cap (c : Chan) (e : Eng) (x : Engine) : (c.setEngine e x).cap = c.cap := by cases e <;> rfl
@[simp] theorem Chan.setEngine_tmod (c : Chan) (e : Eng) (x : Engine) : (c.setEngine e x).tmod = c.tmod := by cases e <;> rfl
@[simp] theorem Chan.setEngine_img (c : Chan) (e : Eng) (x : Engine) : (c.setEngine e x).img = c.img := by cases e <;> rfl
@[simp] theorem Chan.setEngine_banks (c : Chan) (e : Eng) (x : Engine) : (c.setEngine e x).banks = c.banks := by cases e <;> rfl

@[simp] theorem Chan.setFld_eq (c : Chan) (o : Nat) (f : BitField) (n : Nat) :
    c.setFld o f n = c.put o (setField (c.get o) f n) := rfl

@[simp] theorem Chan.onInp_eq (c : Chan) (i : InId) (f : Input → Input) : c.onInp i f = c.setInp i (f (c.inp i)) := rfl

@[simp] theorem Chan.get_put (c : Chan) (o : Nat) (w : Word) (p : Nat) :
    (c.put o w).get p = if p = o then w else c.get p := by
  simp [Chan.get, Chan.put]

@[simp] theorem Chan.get_setEngine (c : Chan) (e : Eng) (x : Engine) (p : Nat) : (c.setEngine e x).get p = c.get p := by
  cases e <;> rfl

@[simp] theorem Chan.get_setInp (c : Chan) (i : InId) (x : Input) (p : Nat) : (c.setInp i x).get p = c.get p := rfl

@[simp] theorem Chan.get_setCap (c : Chan) (k : SetId) (x : CapSet) (p : Nat) : (c.setCap k x).get p = c.get p := rfl

@[simp] theorem Chan.engine_setEngine (c : Chan) (e : Eng) (x : Engine) : (c.setEngine e x).engine e = x := by
  cases e <;> rfl

theorem Chan.engine_setEngine_ne (c : Chan) {e d : Eng} (x : Engine) (h : d ≠ e) : (c.setEngine e x).engine d = c.engine d := by
  cases e <;> cases d <;> first | rfl | exact absurd rfl h

@[simp] theorem Chan.engine_put (c : Chan) (o : Nat) (w : Word) (e : Eng) : (c.put o w).engine e = c.engine e := by
  cases e <;> rfl

@[simp] theorem Chan.setEngine_setEngine (c : Chan) (e : Eng) (x y : Engine) :
    (c.setEngine e x).setEngine e y = c.setEngine e y := by
  cases e <;> rfl

@[simp] theorem Chan.inp_setInp (c : Chan) (i : InId) (x : Input) : (c.setInp i x).inp i = x := by
  simp [Chan.inp, Chan.setInp]

@[simp] theorem Chan.capSet_setCap (c : Chan) (k : SetId) (x : CapSet) : (c.setCap k x).capSet k = x := by
  simp [Chan.capSet, Chan.setCap]

/-! ## Engines -/

@[simp] theorem Engine.wv_acc0 (e : Engine) (d : VReg) (x : Word) : (e.wv d x).acc0 = e.acc0 := rfl
@[simp] theorem Engine.wv_acc1 (e : Engine) (d : VReg) (x : Word) : (e.wv d x).acc1 = e.acc1 := rfl
@[simp] theorem Engine.wv_fl (e : Engine) (d : VReg) (x : Word) : (e.wv d x).fl = e.fl := rfl
@[simp] theorem Engine.wv_prog (e : Engine) (d : VReg) (x : Word) : (e.wv d x).prog = e.prog := rfl
@[simp] theorem Engine.wv_data (e : Engine) (d : VReg) (x : Word) : (e.wv d x).data = e.data := rfl
@[simp] theorem Engine.wv_atEnd (e : Engine) (d : VReg) (x : Word) : (e.wv d x).atEnd = e.atEnd := rfl
@[simp] theorem Engine.wv_coef (e : Engine) (d : VReg) (x : Word) : (e.wv d x).coef = e.coef := rfl
@[simp] theorem Engine.wv_pc (e : Engine) (d : VReg) (x : Word) : (e.wv d x).pc = e.pc := rfl
@[simp] theorem Engine.wv_loops (e : Engine) (d : VReg) (x : Word) : (e.wv d x).loops = e.loops := rfl
@[simp] theorem Engine.wv_calls (e : Engine) (d : VReg) (x : Word) : (e.wv d x).calls = e.calls := rfl
@[simp] theorem Engine.wv_run (e : Engine) (d : VReg) (x : Word) : (e.wv d x).run = e.run := rfl
@[simp] theorem Engine.wv_cycle (e : Engine) (d : VReg) (x : Word) : (e.wv d x).cycle = e.cycle := rfl
@[simp] theorem Engine.wv_fst (e : Engine) (d : VReg) (x : Word) : (e.wv d x).fst = e.fst := rfl
@[simp] theorem Engine.wv_fstNext (e : Engine) (d : VReg) (x : Word) : (e.wv d x).fstNext = e.fstNext := rfl
@[simp] theorem Engine.wv_slots (e : Engine) (d : VReg) (x : Word) : (e.wv d x).slots = e.slots := rfl
@[simp] theorem Engine.wv_slotMap (e : Engine) (d : VReg) (x : Word) : (e.wv d x).slotMap = e.slotMap := rfl
@[simp] theorem Engine.wv_mail (e : Engine) (d : VReg) (x : Word) : (e.wv d x).mail = e.mail := rfl
@[simp] theorem Engine.wv_eventSent (e : Engine) (d : VReg) (x : Word) : (e.wv d x).eventSent = e.eventSent := rfl
@[simp] theorem Engine.wv_track (e : Engine) (d : VReg) (x : Word) : (e.wv d x).track = e.track := rfl
@[simp] theorem Engine.wv_staged (e : Engine) (d : VReg) (x : Word) : (e.wv d x).staged = e.staged := rfl
@[simp] theorem Engine.wv_scrub (e : Engine) (d : VReg) (x : Word) : (e.wv d x).scrub = e.scrub := rfl

@[simp] theorem Engine.retire_v (e : Engine) (n : Nat) : (e.retire n).v = e.v := rfl
@[simp] theorem Engine.retire_acc0 (e : Engine) (n : Nat) : (e.retire n).acc0 = e.acc0 := rfl
@[simp] theorem Engine.retire_acc1 (e : Engine) (n : Nat) : (e.retire n).acc1 = e.acc1 := rfl
@[simp] theorem Engine.retire_fl (e : Engine) (n : Nat) : (e.retire n).fl = e.fl := rfl
@[simp] theorem Engine.retire_prog (e : Engine) (n : Nat) : (e.retire n).prog = e.prog := rfl
@[simp] theorem Engine.retire_data (e : Engine) (n : Nat) : (e.retire n).data = e.data := rfl
@[simp] theorem Engine.retire_atEnd (e : Engine) (n : Nat) : (e.retire n).atEnd = e.atEnd := rfl
@[simp] theorem Engine.retire_coef (e : Engine) (n : Nat) : (e.retire n).coef = e.coef := rfl
@[simp] theorem Engine.retire_calls (e : Engine) (n : Nat) : (e.retire n).calls = e.calls := rfl
@[simp] theorem Engine.retire_run (e : Engine) (n : Nat) : (e.retire n).run = e.run := rfl
@[simp] theorem Engine.retire_fst (e : Engine) (n : Nat) : (e.retire n).fst = e.fst := rfl
@[simp] theorem Engine.retire_fstNext (e : Engine) (n : Nat) : (e.retire n).fstNext = e.fstNext := rfl
@[simp] theorem Engine.retire_slots (e : Engine) (n : Nat) : (e.retire n).slots = e.slots := rfl
@[simp] theorem Engine.retire_slotMap (e : Engine) (n : Nat) : (e.retire n).slotMap = e.slotMap := rfl
@[simp] theorem Engine.retire_mail (e : Engine) (n : Nat) : (e.retire n).mail = e.mail := rfl
@[simp] theorem Engine.retire_eventSent (e : Engine) (n : Nat) : (e.retire n).eventSent = e.eventSent := rfl
@[simp] theorem Engine.retire_track (e : Engine) (n : Nat) : (e.retire n).track = e.track := rfl
@[simp] theorem Engine.retire_staged (e : Engine) (n : Nat) : (e.retire n).staged = e.staged := rfl
@[simp] theorem Engine.retire_scrub (e : Engine) (n : Nat) : (e.retire n).scrub = e.scrub := rfl

@[simp] theorem Engine.setData_v (e : Engine) (a : Nat) (x : Word) : (e.setData a x).v = e.v := rfl
@[simp] theorem Engine.setData_acc0 (e : Engine) (a : Nat) (x : Word) : (e.setData a x).acc0 = e.acc0 := rfl
@[simp] theorem Engine.setData_acc1 (e : Engine) (a : Nat) (x : Word) : (e.setData a x).acc1 = e.acc1 := rfl
@[simp] theorem Engine.setData_fl (e : Engine) (a : Nat) (x : Word) : (e.setData a x).fl = e.fl := rfl
@[simp] theorem Engine.setData_prog (e : Engine) (a : Nat) (x : Word) : (e.setData a x).prog = e.prog := rfl
@[simp] theorem Engine.setData_atEnd (e : Engine) (a : Nat) (x : Word) : (e.setData a x).atEnd = e.atEnd := rfl
@[simp] theorem Engine.setData_coef (e : Engine) (a : Nat) (x : Word) : (e.setData a x).coef = e.coef := rfl
@[simp] theorem Engine.setData_pc (e : Engine) (a : Nat) (x : Word) : (e.setData a x).pc = e.pc := rfl
@[simp] theorem Engine.setData_loops (e : Engine) (a : Nat) (x : Word) : (e.setData a x).loops = e.loops := rfl
@[simp] theorem Engine.setData_calls (e : Engine) (a : Nat) (x : Word) : (e.setData a x).calls = e.calls := rfl
@[simp] theorem Engine.setData_run (e : Engine) (a : Nat) (x : Word) : (e.setData a x).run = e.run := rfl
@[simp] theorem Engine.setData_cycle (e : Engine) (a : Nat) (x : Word) : (e.setData a x).cycle = e.cycle := rfl
@[simp] theorem Engine.setData_fst (e : Engine) (a : Nat) (x : Word) : (e.setData a x).fst = e.fst := rfl
@[simp] theorem Engine.setData_fstNext (e : Engine) (a : Nat) (x : Word) : (e.setData a x).fstNext = e.fstNext := rfl
@[simp] theorem Engine.setData_slots (e : Engine) (a : Nat) (x : Word) : (e.setData a x).slots = e.slots := rfl
@[simp] theorem Engine.setData_slotMap (e : Engine) (a : Nat) (x : Word) : (e.setData a x).slotMap = e.slotMap := rfl
@[simp] theorem Engine.setData_mail (e : Engine) (a : Nat) (x : Word) : (e.setData a x).mail = e.mail := rfl
@[simp] theorem Engine.setData_eventSent (e : Engine) (a : Nat) (x : Word) : (e.setData a x).eventSent = e.eventSent := rfl
@[simp] theorem Engine.setData_track (e : Engine) (a : Nat) (x : Word) : (e.setData a x).track = e.track := rfl
@[simp] theorem Engine.setData_staged (e : Engine) (a : Nat) (x : Word) : (e.setData a x).staged = e.staged := rfl
@[simp] theorem Engine.setData_scrub (e : Engine) (a : Nat) (x : Word) : (e.setData a x).scrub = e.scrub := rfl

@[simp] theorem Engine.rv_wv (e : Engine) (d r : VReg) (x : Word) : (e.wv d x).rv r = if r = d then x else e.rv r := by
  by_cases h : r = d
  · subst h
    simp [Engine.rv, Engine.wv]
  · have h' : d.val ≠ r.val := fun q => h (Fin.ext q.symm)
    simp [Engine.rv, Engine.wv, h, h']

@[simp] theorem Engine.rv_retire (e : Engine) (n : Nat) (r : VReg) : (e.retire n).rv r = e.rv r := rfl

@[simp] theorem Engine.getData_setData (e : Engine) (a b : Nat) (x : Word) :
    (e.setData a x).getData b = if b = a then x else e.getData b := by
  simp [Engine.getData, Engine.setData]

@[simp] theorem Engine.getCoef_setCoef (e : Engine) (k j : Nat) (c : Coef) :
    (e.setCoef k c).getCoef j = if j = k then c else e.getCoef j := by
  simp [Engine.getCoef, Engine.setCoef]

@[simp] theorem Engine.acc_setAcc (e : Engine) (a : Bool) (x : BitVec 72) : (e.setAcc a x).acc a = x := by
  cases a <;> rfl

@[simp] theorem State.eng_putEng (s : State) (x : Site) (e : Engine) : (s.putEng x e).eng x = e := by
  simp [State.eng, State.putEng_eq]

@[simp] theorem State.putEng_putEng (s : State) (x : Site) (e f : Engine) : (s.putEng x e).putEng x f = s.putEng x f := by
  simp [State.putEng_eq]

@[simp] theorem State.putEng_eng (s : State) (x : Site) : s.putEng x (s.eng x) = s := by
  obtain ⟨ch, eng⟩ := x
  have h : ({ s with ch := s.ch.set ch s.ch[ch] } : State) = s := by simp
  cases eng <;> exact h

end Sys2Proof.Machine
end

