-- ==== Sys2Proof/Laws/Ops.lean ====
section
/-! SUPPORT. Laws/Ops.lean: what the shared operations can do: fields of a word, counters, event records, interrupts, SAFE
causes. Each lemma says once what its operation leaves as it was and what it writes. -/

namespace Sys2Proof.Machine

/-! ## Fields -/

theorem getLsbD_mask (f : BitField) (i : Nat) :
    f.mask.getLsbD i = (decide (i < 32) && decide (f.lo ≤ i) && decide (i < f.lo + f.width)) := by
  unfold BitField.mask
  simp only [BitVec.getLsbD_shiftLeft, BitVec.getLsbD_ofNat, Nat.testBit_two_pow_sub_one]
  by_cases h1 : i < 32
  · by_cases h2 : i < f.lo
    · have h3 : ¬ f.lo ≤ i := by omega
      simp [h1, h2, h3]
    · have h3 : f.lo ≤ i := by omega
      have h4 : i - f.lo < 32 := by omega
      have h5 : (i - f.lo < f.width) = (i < f.lo + f.width) := by
        apply propext
        omega
      simp [h1, h2, h3, h4, h5]
  · simp [h1]

theorem getLsbD_setField (w : Word) (f : BitField) (n i : Nat) :
    (setField w f n).getLsbD i =
      if i < 32 ∧ f.lo ≤ i ∧ i < f.lo + f.width then n.testBit (i - f.lo) else w.getLsbD i := by
  unfold setField
  simp only [BitVec.getLsbD_or, BitVec.getLsbD_and, BitVec.getLsbD_not, getLsbD_mask, BitVec.getLsbD_shiftLeft,
    BitVec.getLsbD_ofNat, Nat.testBit_mod_two_pow]
  by_cases h1 : i < 32
  · by_cases h2 : f.lo ≤ i
    · by_cases h3 : i < f.lo + f.width
      · have h4 : i - f.lo < f.width := by omega
        have h5 : ¬ i < f.lo := by omega
        have h6 : i - f.lo < 32 := by omega
        simp [h1, h2, h3, h4, h5, h6]
      · have h4 : ¬ i - f.lo < f.width := by omega
        simp [h1, h2, h3, h4]
    · have h5 : i < f.lo := by omega
      simp [h1, h2, h5]
  · have : w.getLsbD i = false := BitVec.getLsbD_of_ge _ _ (by omega)
    simp [h1, this]

/-- A field written reads back as the value, cut to its width. -/
theorem getField_setField (w : Word) (f : BitField) (n : Nat) (h : f.lo + f.width ≤ 32) :
    getField (setField w f n) f = n % 2 ^ f.width := by
  unfold getField
  apply Nat.eq_of_testBit_eq
  intro i
  rw [BitVec.testBit_toNat, BitVec.getLsbD_extractLsb', getLsbD_setField, Nat.testBit_mod_two_pow]
  by_cases h1 : i < f.width
  · have h2 : f.lo + i < 32 := by omega
    simp [h1, h2]
  · simp [h1]

/-- Writing a field leaves a disjoint one as it was. -/
theorem getField_setField_ne (w : Word) (f g : BitField) (n : Nat)
    (h : f.lo + f.width ≤ g.lo ∨ g.lo + g.width ≤ f.lo) : getField (setField w f n) g = getField w g := by
  unfold getField
  congr 1
  apply BitVec.eq_of_getLsbD_eq
  intro i hi
  rw [BitVec.getLsbD_extractLsb', BitVec.getLsbD_extractLsb', getLsbD_setField]
  have : ¬ (g.lo + i < 32 ∧ f.lo ≤ g.lo + i ∧ g.lo + i < f.lo + f.width) := by omega
  simp [this]

/-! ## Event records (R418 to R425) -/

/-- What a record request may change: the recorder's queue, ring and drop count, and REC_CNT. -/
theorem State.requestRecord_cases (s : State) (r : RecRec) (b : Bool) :
    ∃ q w, s.requestRecord r b = { s.gput Reg.REC_CNT w with rcd := q } ∨ s.requestRecord r b = { s with rcd := q } := by
  have hm : ∀ (s t : State) (r : RecRec), s.mergeRecord r = some t → ∃ q, t = { s with rcd := q } := by
    intro s t r h
    unfold State.mergeRecord at h
    split at h
    · split at h
      · exact ⟨_, (Option.some.inj h).symm⟩
      · cases h
    · dsimp only at h
      split at h
      · exact ⟨_, (Option.some.inj h).symm⟩
      · cases h
  have he : ∀ (s t : State) (r : RecRec) (b : Bool), s.enqueue r b = some t → ∃ q, t = { s with rcd := q } := by
    intro s t r b h
    unfold State.enqueue at h
    split at h
    · rename_i u hu
      cases h
      exact hm _ _ _ hu
    · generalize (if (b || r.sev == 3) = true then 64 else 48) = n at h
      by_cases hn : s.rcd.queue.length < n
      · rw [if_pos hn] at h
        exact ⟨_, (Option.some.inj h).symm⟩
      · rw [if_neg hn] at h
        cases h
  unfold State.requestRecord
  cases h : s.enqueue r b with
  | some t =>
    obtain ⟨q, rfl⟩ := he _ _ _ _ h
    exact ⟨q, 0, .inr rfl⟩
  | none =>
    simp only [Option.getD_none]
    unfold State.dropRecord
    dsimp only
    split
    · generalize hx : State.enqueue _ _ _ = y
      cases y with
      | none => exact ⟨_, _, .inl rfl⟩
      | some t =>
        obtain ⟨q, rfl⟩ := he _ _ _ _ hx
        exact ⟨q, _, .inl rfl⟩
    · exact ⟨_, _, .inl rfl⟩

@[simp] theorem State.requestRecord_pending (s : State) (r : RecRec) (b : Bool) : (s.requestRecord r b).pending = s.pending := by
  obtain ⟨q, w, h | h⟩ := s.requestRecord_cases r b
  · rw [h]
    rfl
  · rw [h]

@[simp] theorem State.requestRecord_free (s : State) (r : RecRec) (b : Bool) : (s.requestRecord r b).free = s.free := by
  obtain ⟨q, w, h | h⟩ := s.requestRecord_cases r b
  · rw [h]
    rfl
  · rw [h]

@[simp] theorem State.requestRecord_time (s : State) (r : RecRec) (b : Bool) : (s.requestRecord r b).time = s.time := by
  obtain ⟨q, w, h | h⟩ := s.requestRecord_cases r b
  · rw [h]
    rfl
  · rw [h]

@[simp] theorem State.requestRecord_ch (s : State) (r : RecRec) (b : Bool) : (s.requestRecord r b).ch = s.ch := by
  obtain ⟨q, w, h | h⟩ := s.requestRecord_cases r b
  · rw [h]
    rfl
  · rw [h]

@[simp] theorem State.requestRecord_host (s : State) (r : RecRec) (b : Bool) : (s.requestRecord r b).host = s.host := by
  obtain ⟨q, w, h | h⟩ := s.requestRecord_cases r b
  · rw [h]
    rfl
  · rw [h]

@[simp] theorem State.requestRecord_grp (s : State) (r : RecRec) (b : Bool) : (s.requestRecord r b).grp = s.grp := by
  obtain ⟨q, w, h | h⟩ := s.requestRecord_cases r b
  · rw [h]
    rfl
  · rw [h]

@[simp] theorem State.requestRecord_mir (s : State) (r : RecRec) (b : Bool) : (s.requestRecord r b).mir = s.mir := by
  obtain ⟨q, w, h | h⟩ := s.requestRecord_cases r b
  · rw [h]
    rfl
  · rw [h]

@[simp] theorem State.requestRecord_clk (s : State) (r : RecRec) (b : Bool) : (s.requestRecord r b).clk = s.clk := by
  obtain ⟨q, w, h | h⟩ := s.requestRecord_cases r b
  · rw [h]
    rfl
  · rw [h]

@[simp] theorem State.requestRecord_link (s : State) (r : RecRec) (b : Bool) : (s.requestRecord r b).link = s.link := by
  obtain ⟨q, w, h | h⟩ := s.requestRecord_cases r b
  · rw [h]
    rfl
  · rw [h]

@[simp] theorem State.requestRecord_saf (s : State) (r : RecRec) (b : Bool) : (s.requestRecord r b).saf = s.saf := by
  obtain ⟨q, w, h | h⟩ := s.requestRecord_cases r b
  · rw [h]
    rfl
  · rw [h]

@[simp] theorem State.requestRecord_knl (s : State) (r : RecRec) (b : Bool) : (s.requestRecord r b).knl = s.knl := by
  obtain ⟨q, w, h | h⟩ := s.requestRecord_cases r b
  · rw [h]
    rfl
  · rw [h]

@[simp] theorem State.requestRecord_sram (s : State) (r : RecRec) (b : Bool) : (s.requestRecord r b).sram = s.sram := by
  obtain ⟨q, w, h | h⟩ := s.requestRecord_cases r b
  · rw [h]
    rfl
  · rw [h]

@[simp] theorem State.requestRecord_dma (s : State) (r : RecRec) (b : Bool) : (s.requestRecord r b).dma = s.dma := by
  obtain ⟨q, w, h | h⟩ := s.requestRecord_cases r b
  · rw [h]
    rfl
  · rw [h]

@[simp] theorem State.requestRecord_cal (s : State) (r : RecRec) (b : Bool) : (s.requestRecord r b).cal = s.cal := by
  obtain ⟨q, w, h | h⟩ := s.requestRecord_cases r b
  · rw [h]
    rfl
  · rw [h]

@[simp] theorem State.requestRecord_die (s : State) (r : RecRec) (b : Bool) : (s.requestRecord r b).die = s.die := by
  obtain ⟨q, w, h | h⟩ := s.requestRecord_cases r b
  · rw [h]
    rfl
  · rw [h]

@[simp] theorem State.requestRecord_ldr (s : State) (r : RecRec) (b : Bool) : (s.requestRecord r b).ldr = s.ldr := by
  obtain ⟨q, w, h | h⟩ := s.requestRecord_cases r b
  · rw [h]
    rfl
  · rw [h]

@[simp] theorem State.requestRecord_store (s : State) (r : RecRec) (b : Bool) : (s.requestRecord r b).store = s.store := by
  obtain ⟨q, w, h | h⟩ := s.requestRecord_cases r b
  · rw [h]
    rfl
  · rw [h]

@[simp] theorem State.requestRecord_pins (s : State) (r : RecRec) (b : Bool) : (s.requestRecord r b).pins = s.pins := by
  obtain ⟨q, w, h | h⟩ := s.requestRecord_cases r b
  · rw [h]
    rfl
  · rw [h]

@[simp] theorem State.requestRecord_chan (s : State) (r : RecRec) (b : Bool) (ch : ChId) :
    (s.requestRecord r b).chan ch = s.chan ch := by
  simp [State.chan]

theorem State.requestRecord_gget (s : State) (r : RecRec) (b : Bool) (o : Nat) (h : o ≠ Reg.REC_CNT) :
    (s.requestRecord r b).gget o = s.gget o := by
  obtain ⟨q, w, e | e⟩ := s.requestRecord_cases r b
  · rw [e]
    exact (s.gget_gput _ w o).trans (if_neg h)
  · rw [e]
    rfl

@[simp] theorem State.record_pending (s : State) (blk ch code sev : Nat) (d : RecData) : (s.record blk ch code sev d).pending = s.pending := by
  simp [State.record]

@[simp] theorem State.record_free (s : State) (blk ch code sev : Nat) (d : RecData) : (s.record blk ch code sev d).free = s.free := by
  simp [State.record]

@[simp] theorem State.record_time (s : State) (blk ch code sev : Nat) (d : RecData) : (s.record blk ch code sev d).time = s.time := by
  simp [State.record]

@[simp] theorem State.record_ch (s : State) (blk ch code sev : Nat) (d : RecData) : (s.record blk ch code sev d).ch = s.ch := by
  simp [State.record]

@[simp] theorem State.record_host (s : State) (blk ch code sev : Nat) (d : RecData) : (s.record blk ch code sev d).host = s.host := by
  simp [State.record]

@[simp] theorem State.record_grp (s : State) (blk ch code sev : Nat) (d : RecData) : (s.record blk ch code sev d).grp = s.grp := by
  simp [State.record]

@[simp] theorem State.record_mir (s : State) (blk ch code sev : Nat) (d : RecData) : (s.record blk ch code sev d).mir = s.mir := by
  simp [State.record]

@[simp] theorem State.record_clk (s : State) (blk ch code sev : Nat) (d : RecData) : (s.record blk ch code sev d).clk = s.clk := by
  simp [State.record]

@[simp] theorem State.record_link (s : State) (blk ch code sev : Nat) (d : RecData) : (s.record blk ch code sev d).link = s.link := by
  simp [State.record]

@[simp] theorem State.record_saf (s : State) (blk ch code sev : Nat) (d : RecData) : (s.record blk ch code sev d).saf = s.saf := by
  simp [State.record]

@[simp] theorem State.record_knl (s : State) (blk ch code sev : Nat) (d : RecData) : (s.record blk ch code sev d).knl = s.knl := by
  simp [State.record]

@[simp] theorem State.record_sram (s : State) (blk ch code sev : Nat) (d : RecData) : (s.record blk ch code sev d).sram = s.sram := by
  simp [State.record]

@[simp] theorem State.record_dma (s : State) (blk ch code sev : Nat) (d : RecData) : (s.record blk ch code sev d).dma = s.dma := by
  simp [State.record]

@[simp] theorem State.record_cal (s : State) (blk ch code sev : Nat) (d : RecData) : (s.record blk ch code sev d).cal = s.cal := by
  simp [State.record]

@[simp] theorem State.record_die (s : State) (blk ch code sev : Nat) (d : RecData) : (s.record blk ch code sev d).die = s.die := by
  simp [State.record]

@[simp] theorem State.record_ldr (s : State) (blk ch code sev : Nat) (d : RecData) : (s.record blk ch code sev d).ldr = s.ldr := by
  simp [State.record]

@[simp] theorem State.record_store (s : State) (blk ch code sev : Nat) (d : RecData) : (s.record blk ch code sev d).store = s.store := by
  simp [State.record]

@[simp] theorem State.record_pins (s : State) (blk ch code sev : Nat) (d : RecData) : (s.record blk ch code sev d).pins = s.pins := by
  simp [State.record]

@[simp] theorem State.record_chan (s : State) (blk ch code sev : Nat) (d : RecData) (c : ChId) : (s.record blk ch code sev d).chan c = s.chan c := by
  simp [State.record]

theorem State.record_gget (s : State) (blk ch code sev : Nat) (d : RecData) (o : Nat) (h : o ≠ Reg.REC_CNT) : (s.record blk ch code sev d).gget o = s.gget o := by
  exact State.requestRecord_gget _ _ _ _ h

@[simp] theorem State.recordReserved_pending (s : State) (blk ch code sev : Nat) (d : RecData) : (s.recordReserved blk ch code sev d).pending = s.pending := by
  simp [State.recordReserved]

@[simp] theorem State.recordReserved_free (s : State) (blk ch code sev : Nat) (d : RecData) : (s.recordReserved blk ch code sev d).free = s.free := by
  simp [State.recordReserved]

@[simp] theorem State.recordReserved_time (s : State) (blk ch code sev : Nat) (d : RecData) : (s.recordReserved blk ch code sev d).time = s.time := by
  simp [State.recordReserved]

@[simp] theorem State.recordReserved_ch (s : State) (blk ch code sev : Nat) (d : RecData) : (s.recordReserved blk ch code sev d).ch = s.ch := by
  simp [State.recordReserved]

@[simp] theorem State.recordReserved_host (s : State) (blk ch code sev : Nat) (d : RecData) : (s.recordReserved blk ch code sev d).host = s.host := by
  simp [State.recordReserved]

@[simp] theorem State.recordReserved_grp (s : State) (blk ch code sev : Nat) (d : RecData) : (s.recordReserved blk ch code sev d).grp = s.grp := by
  simp [State.recordReserved]

@[simp] theorem State.recordReserved_mir (s : State) (blk ch code sev : Nat) (d : RecData) : (s.recordReserved blk ch code sev d).mir = s.mir := by
  simp [State.recordReserved]

@[simp] theorem State.recordReserved_clk (s : State) (blk ch code sev : Nat) (d : RecData) : (s.recordReserved blk ch code sev d).clk = s.clk := by
  simp [State.recordReserved]

@[simp] theorem State.recordReserved_link (s : State) (blk ch code sev : Nat) (d : RecData) : (s.recordReserved blk ch code sev d).link = s.link := by
  simp [State.recordReserved]

@[simp] theorem State.recordReserved_saf (s : State) (blk ch code sev : Nat) (d : RecData) : (s.recordReserved blk ch code sev d).saf = s.saf := by
  simp [State.recordReserved]

@[simp] theorem State.recordReserved_knl (s : State) (blk ch code sev : Nat) (d : RecData) : (s.recordReserved blk ch code sev d).knl = s.knl := by
  simp [State.recordReserved]

@[simp] theorem State.recordReserved_sram (s : State) (blk ch code sev : Nat) (d : RecData) : (s.recordReserved blk ch code sev d).sram = s.sram := by
  simp [State.recordReserved]

@[simp] theorem State.recordReserved_dma (s : State) (blk ch code sev : Nat) (d : RecData) : (s.recordReserved blk ch code sev d).dma = s.dma := by
  simp [State.recordReserved]

@[simp] theorem State.recordReserved_cal (s : State) (blk ch code sev : Nat) (d : RecData) : (s.recordReserved blk ch code sev d).cal = s.cal := by
  simp [State.recordReserved]

@[simp] theorem State.recordReserved_die (s : State) (blk ch code sev : Nat) (d : RecData) : (s.recordReserved blk ch code sev d).die = s.die := by
  simp [State.recordReserved]

@[simp] theorem State.recordReserved_ldr (s : State) (blk ch code sev : Nat) (d : RecData) : (s.recordReserved blk ch code sev d).ldr = s.ldr := by
  simp [State.recordReserved]

@[simp] theorem State.recordReserved_store (s : State) (blk ch code sev : Nat) (d : RecData) : (s.recordReserved blk ch code sev d).store = s.store := by
  simp [State.recordReserved]

@[simp] theorem State.recordReserved_pins (s : State) (blk ch code sev : Nat) (d : RecData) : (s.recordReserved blk ch code sev d).pins = s.pins := by
  simp [State.recordReserved]

@[simp] theorem State.recordReserved_chan (s : State) (blk ch code sev : Nat) (d : RecData) (c : ChId) : (s.recordReserved blk ch code sev d).chan c = s.chan c := by
  simp [State.recordReserved]

theorem State.recordReserved_gget (s : State) (blk ch code sev : Nat) (d : RecData) (o : Nat) (h : o ≠ Reg.REC_CNT) : (s.recordReserved blk ch code sev d).gget o = s.gget o := by
  exact State.requestRecord_gget _ _ _ _ h

@[simp] theorem State.rejectRecord_pending (s : State) (blk ch off : Nat) (v : Word) (src cause : Nat) : (s.rejectRecord blk ch off v src cause).pending = s.pending := by
  simp [State.rejectRecord, State.record]

@[simp] theorem State.rejectRecord_free (s : State) (blk ch off : Nat) (v : Word) (src cause : Nat) : (s.rejectRecord blk ch off v src cause).free = s.free := by
  simp [State.rejectRecord, State.record]

@[simp] theorem State.rejectRecord_time (s : State) (blk ch off : Nat) (v : Word) (src cause : Nat) : (s.rejectRecord blk ch off v src cause).time = s.time := by
  simp [State.rejectRecord, State.record]

@[simp] theorem State.rejectRecord_ch (s : State) (blk ch off : Nat) (v : Word) (src cause : Nat) : (s.rejectRecord blk ch off v src cause).ch = s.ch := by
  simp [State.rejectRecord, State.record]

@[simp] theorem State.rejectRecord_host (s : State) (blk ch off : Nat) (v : Word) (src cause : Nat) : (s.rejectRecord blk ch off v src cause).host = s.host := by
  simp [State.rejectRecord, State.record]

@[simp] theorem State.rejectRecord_grp (s : State) (blk ch off : Nat) (v : Word) (src cause : Nat) : (s.rejectRecord blk ch off v src cause).grp = s.grp := by
  simp [State.rejectRecord, State.record]

@[simp] theorem State.rejectRecord_mir (s : State) (blk ch off : Nat) (v : Word) (src cause : Nat) : (s.rejectRecord blk ch off v src cause).mir = s.mir := by
  simp [State.rejectRecord, State.record]

@[simp] theorem State.rejectRecord_clk (s : State) (blk ch off : Nat) (v : Word) (src cause : Nat) : (s.rejectRecord blk ch off v src cause).clk = s.clk := by
  simp [State.rejectRecord, State.record]

@[simp] theorem State.rejectRecord_link (s : State) (blk ch off : Nat) (v : Word) (src cause : Nat) : (s.rejectRecord blk ch off v src cause).link = s.link := by
  simp [State.rejectRecord, State.record]

@[simp] theorem State.rejectRecord_saf (s : State) (blk ch off : Nat) (v : Word) (src cause : Nat) : (s.rejectRecord blk ch off v src cause).saf = s.saf := by
  simp [State.rejectRecord, State.record]

@[simp] theorem State.rejectRecord_knl (s : State) (blk ch off : Nat) (v : Word) (src cause : Nat) : (s.rejectRecord blk ch off v src cause).knl = s.knl := by
  simp [State.rejectRecord, State.record]

@[simp] theorem State.rejectRecord_sram (s : State) (blk ch off : Nat) (v : Word) (src cause : Nat) : (s.rejectRecord blk ch off v src cause).sram = s.sram := by
  simp [State.rejectRecord, State.record]

@[simp] theorem State.rejectRecord_dma (s : State) (blk ch off : Nat) (v : Word) (src cause : Nat) : (s.rejectRecord blk ch off v src cause).dma = s.dma := by
  simp [State.rejectRecord, State.record]

@[simp] theorem State.rejectRecord_cal (s : State) (blk ch off : Nat) (v : Word) (src cause : Nat) : (s.rejectRecord blk ch off v src cause).cal = s.cal := by
  simp [State.rejectRecord, State.record]

@[simp] theorem State.rejectRecord_die (s : State) (blk ch off : Nat) (v : Word) (src cause : Nat) : (s.rejectRecord blk ch off v src cause).die = s.die := by
  simp [State.rejectRecord, State.record]

@[simp] theorem State.rejectRecord_ldr (s : State) (blk ch off : Nat) (v : Word) (src cause : Nat) : (s.rejectRecord blk ch off v src cause).ldr = s.ldr := by
  simp [State.rejectRecord, State.record]

@[simp] theorem State.rejectRecord_store (s : State) (blk ch off : Nat) (v : Word) (src cause : Nat) : (s.rejectRecord blk ch off v src cause).store = s.store := by
  simp [State.rejectRecord, State.record]

@[simp] theorem State.rejectRecord_pins (s : State) (blk ch off : Nat) (v : Word) (src cause : Nat) : (s.rejectRecord blk ch off v src cause).pins = s.pins := by
  simp [State.rejectRecord, State.record]

@[simp] theorem State.rejectRecord_chan (s : State) (blk ch off : Nat) (v : Word) (src cause : Nat) (c : ChId) : (s.rejectRecord blk ch off v src cause).chan c = s.chan c := by
  simp [State.rejectRecord, State.record]

theorem State.rejectRecord_gget (s : State) (blk ch off : Nat) (v : Word) (src cause : Nat) (o : Nat) (h : o ≠ Reg.REC_CNT) : (s.rejectRecord blk ch off v src cause).gget o = s.gget o := by
  exact State.requestRecord_gget _ _ _ _ h

/-! ## Interrupts (R469, R470) -/

/-- What an interrupt may change: INT_STAT, and of the host port the messages and pending bits. -/
theorem State.irq_cases (s : State) (v : Nat) :
    s.irq v = s ∨ ∃ h, s.irq v = { s.gput Reg.INT_STAT (s.gget Reg.INT_STAT ||| (1#32 <<< v)) with host := h } ∧
      h.ctxs = s.host.ctxs ∧ h.rdata = s.host.rdata ∧ h.qspi = s.host.qspi ∧ h.waiting = s.host.waiting := by
  unfold State.irq
  split
  · exact .inl rfl
  · refine .inr ?_
    dsimp only
    split
    · exact ⟨s.host, rfl, rfl, rfl, rfl, rfl⟩
    · unfold State.message
      split
      · exact ⟨s.host, rfl, rfl, rfl, rfl, rfl⟩
      · split
        · exact ⟨_, rfl, rfl, rfl, rfl, rfl⟩
        · exact ⟨_, rfl, rfl, rfl, rfl, rfl⟩

@[simp] theorem State.irq_pending (s : State) (v : Nat) : (s.irq v).pending = s.pending := by
  obtain h | ⟨h, e, -⟩ := s.irq_cases v
  · rw [h]
  · rw [e]
    rfl

@[simp] theorem State.irq_free (s : State) (v : Nat) : (s.irq v).free = s.free := by
  obtain h | ⟨h, e, -⟩ := s.irq_cases v
  · rw [h]
  · rw [e]
    rfl

@[simp] theorem State.irq_time (s : State) (v : Nat) : (s.irq v).time = s.time := by
  obtain h | ⟨h, e, -⟩ := s.irq_cases v
  · rw [h]
  · rw [e]
    rfl

@[simp] theorem State.irq_ch (s : State) (v : Nat) : (s.irq v).ch = s.ch := by
  obtain h | ⟨h, e, -⟩ := s.irq_cases v
  · rw [h]
  · rw [e]
    rfl

@[simp] theorem State.irq_grp (s : State) (v : Nat) : (s.irq v).grp = s.grp := by
  obtain h | ⟨h, e, -⟩ := s.irq_cases v
  · rw [h]
  · rw [e]
    rfl

@[simp] theorem State.irq_mir (s : State) (v : Nat) : (s.irq v).mir = s.mir := by
  obtain h | ⟨h, e, -⟩ := s.irq_cases v
  · rw [h]
  · rw [e]
    rfl

@[simp] theorem State.irq_clk (s : State) (v : Nat) : (s.irq v).clk = s.clk := by
  obtain h | ⟨h, e, -⟩ := s.irq_cases v
  · rw [h]
  · rw [e]
    rfl

@[simp] theorem State.irq_link (s : State) (v : Nat) : (s.irq v).link = s.link := by
  obtain h | ⟨h, e, -⟩ := s.irq_cases v
  · rw [h]
  · rw [e]
    rfl

@[simp] theorem State.irq_saf (s : State) (v : Nat) : (s.irq v).saf = s.saf := by
  obtain h | ⟨h, e, -⟩ := s.irq_cases v
  · rw [h]
  · rw [e]
    rfl

@[simp] theorem State.irq_knl (s : State) (v : Nat) : (s.irq v).knl = s.knl := by
  obtain h | ⟨h, e, -⟩ := s.irq_cases v
  · rw [h]
  · rw [e]
    rfl

@[simp] theorem State.irq_sram (s : State) (v : Nat) : (s.irq v).sram = s.sram := by
  obtain h | ⟨h, e, -⟩ := s.irq_cases v
  · rw [h]
  · rw [e]
    rfl

@[simp] theorem State.irq_dma (s : State) (v : Nat) : (s.irq v).dma = s.dma := by
  obtain h | ⟨h, e, -⟩ := s.irq_cases v
  · rw [h]
  · rw [e]
    rfl

@[simp] theorem State.irq_rcd (s : State) (v : Nat) : (s.irq v).rcd = s.rcd := by
  obtain h | ⟨h, e, -⟩ := s.irq_cases v
  · rw [h]
  · rw [e]
    rfl

@[simp] theorem State.irq_cal (s : State) (v : Nat) : (s.irq v).cal = s.cal := by
  obtain h | ⟨h, e, -⟩ := s.irq_cases v
  · rw [h]
  · rw [e]
    rfl

@[simp] theorem State.irq_die (s : State) (v : Nat) : (s.irq v).die = s.die := by
  obtain h | ⟨h, e, -⟩ := s.irq_cases v
  · rw [h]
  · rw [e]
    rfl

@[simp] theorem State.irq_ldr (s : State) (v : Nat) : (s.irq v).ldr = s.ldr := by
  obtain h | ⟨h, e, -⟩ := s.irq_cases v
  · rw [h]
  · rw [e]
    rfl

@[simp] theorem State.irq_store (s : State) (v : Nat) : (s.irq v).store = s.store := by
  obtain h | ⟨h, e, -⟩ := s.irq_cases v
  · rw [h]
  · rw [e]
    rfl

@[simp] theorem State.irq_pins (s : State) (v : Nat) : (s.irq v).pins = s.pins := by
  obtain h | ⟨h, e, -⟩ := s.irq_cases v
  · rw [h]
  · rw [e]
    rfl

@[simp] theorem State.irq_ctxs (s : State) (v : Nat) : (s.irq v).host.ctxs = s.host.ctxs := by
  obtain h | ⟨h, e, e1, -⟩ := s.irq_cases v
  · rw [h]
  · rw [e]
    exact e1

@[simp] theorem State.irq_rdata (s : State) (v : Nat) : (s.irq v).host.rdata = s.host.rdata := by
  obtain h | ⟨h, e, -, e1, -⟩ := s.irq_cases v
  · rw [h]
  · rw [e]
    exact e1

@[simp] theorem State.irq_chan (s : State) (v : Nat) (ch : ChId) : (s.irq v).chan ch = s.chan ch := by
  simp [State.chan]

theorem State.irq_gget (s : State) (v o : Nat) (h : o ≠ Reg.INT_STAT) : (s.irq v).gget o = s.gget o := by
  obtain e | ⟨x, e, -⟩ := s.irq_cases v
  · rw [e]
  · rw [e]
    exact (s.gget_gput _ _ o).trans (if_neg h)

/-- The source's bit is set after an occurrence (R469). -/
theorem State.irq_sets (s : State) (v : Nat) (h : v < 32) : ((s.irq v).gget Reg.INT_STAT).getLsbD v = true := by
  unfold State.irq
  split
  · assumption
  · have key : ((s.gget Reg.INT_STAT ||| (1#32 <<< v))).getLsbD v = true := by
      simp [h]
    dsimp only
    split
    · simpa using key
    · unfold State.message
      split
      · simpa using key
      · split
        · exact ((congrArg (fun w : Word => w.getLsbD v) (State.gget_gput s _ _ _)).trans (by simpa using key))
        · exact ((congrArg (fun w : Word => w.getLsbD v) (State.gget_gput s _ _ _)).trans (by simpa using key))

/-! ## Register fields of a channel -/

theorem Chan.fld_setFld (c : Chan) (r : Nat) (f : BitField) (n : Nat) (h : f.lo + f.width ≤ 32) :
    (c.setFld r f n).fld r f = n % 2 ^ f.width := by
  simp [Chan.fld, Chan.setFld, Chan.get, Chan.put, getField_setField _ _ _ h]

theorem Chan.fld_setFld_ne (c : Chan) (r q : Nat) (f g : BitField) (n : Nat) (h : q ≠ r ∨ f.lo + f.width ≤ g.lo ∨ g.lo + g.width ≤ f.lo) :
    (c.setFld r f n).fld q g = c.fld q g := by
  by_cases hq : q = r
  · subst hq
    simp [Chan.fld, Chan.setFld, Chan.get, Chan.put, getField_setField_ne _ _ _ _ (h.resolve_left (by simp))]
  · simp [Chan.fld, Chan.setFld, Chan.get, Chan.put, hq]

theorem Chan.bit_setFld (c : Chan) (r : Nat) (f : BitField) (h : f.lo + f.width ≤ 32) (hw : 0 < f.width) : (c.setFld r f 1).bit r f = true := by
  have h1 : 1 % 2 ^ f.width = 1 := Nat.mod_eq_of_lt (Nat.one_lt_two_pow (by omega))
  simp [Chan.bit, Chan.fld, Chan.setFld, Chan.get, Chan.put, getField_setField _ _ _ h, h1]

theorem Chan.bit_setFld0 (c : Chan) (r : Nat) (f : BitField) (h : f.lo + f.width ≤ 32) : (c.setFld r f 0).bit r f = false := by
  simp only [Chan.bit, Chan.fld_setFld _ _ _ _ h]
  simp

theorem Chan.bit_setFld_ne (c : Chan) (r q : Nat) (f g : BitField) (n : Nat)
    (h : q ≠ r ∨ f.lo + f.width ≤ g.lo ∨ g.lo + g.width ≤ f.lo) : (c.setFld r f n).bit q g = c.bit q g := by
  simp only [Chan.bit, Chan.fld_setFld_ne _ _ _ _ _ _ h]

end Sys2Proof.Machine
end

