-- ==== Sys2Proof/Laws/Engine.lean ====
section
/-! SUPPORT. Laws/Engine.lean: what an engine's instruction can do: nothing where the engine does not run, one cycle where its
condition is false, else its effect and its cycles (R118, R120); and narrowing against the exact value (R115). -/

namespace Sys2Proof.Machine

theorem State.runIf_stopped (s : State) (x : Site) (cc : BitVec 4) (n : Nat) (f : State → State)
    (h : (s.eng x).run ≠ .running) : s.runIf x cc n f = s := by
  simp [State.runIf, h]

theorem State.runIf_false (s : State) (x : Site) (cc : BitVec 4) (n : Nat) (f : State → State)
    (h : (s.eng x).run = .running) (hc : condHolds (s.eng x).fl (s.eng x).fst cc = false) :
    s.runIf x cc n f = s.putEng x ((s.eng x).retire 1) := by
  simp [State.runIf, h, hc]

theorem State.runIf_true (s : State) (x : Site) (cc : BitVec 4) (n : Nat) (f : State → State)
    (h : (s.eng x).run = .running) (hc : condHolds (s.eng x).fl (s.eng x).fst cc = true) :
    s.runIf x cc n f = (f s).putEng x (((f s).eng x).retire n) := by
  simp [State.runIf, h, hc]

/-- An instruction on its engine alone, executed: its effect, and its cycles. -/
theorem State.instr_true (s : State) (x : Site) (cc : BitVec 4) (n : Nat) (f : Engine → Engine)
    (h : (s.eng x).run = .running) (hc : condHolds (s.eng x).fl (s.eng x).fst cc = true) :
    s.instr x cc n f = .next (s.putEng x ((f (s.eng x)).retire n)) := by
  simp [State.instr, State.runIf_true _ _ _ _ _ h hc]

theorem State.instr_false (s : State) (x : Site) (cc : BitVec 4) (n : Nat) (f : Engine → Engine)
    (h : (s.eng x).run = .running) (hc : condHolds (s.eng x).fl (s.eng x).fst cc = false) :
    s.instr x cc n f = .next (s.putEng x ((s.eng x).retire 1)) := by
  simp [State.instr, State.runIf_false _ _ _ _ _ h hc]

/-- Condition 0 always holds (R118). -/
@[simp] theorem condHolds_zero (f : Flags) (b : Bool) : condHolds f b 0 = true := rfl

/-! ## Exact values (R114, R115) -/

theorem rangeStep_eq (w : Nat) (hw : w = 32 ∨ w = 72) (b : Bool) (y : Int) : rangeStep w b y = inRange w b y := by
  unfold rangeStep inRange; split
  · rcases hw with rfl | rfl <;> (simp [Int.bmod_def]; split <;> omega)
  · rcases hw with rfl | rfl <;> omega

theorem narrow_int (f w : Bool) (y : Int) : narrow f w y 1 = (BitVec.ofInt 32 (inRange 32 w y), inRange 32 w y != y) := by
  have h1 : roundQuot f y 1 = y := by unfold roundQuot; split <;> omega
  simp [narrow, h1, rangeStep_eq 32 (.inl rfl)]

theorem floor_div (n : Int) (d : Nat) : ((n : Rat) / (d : Rat)).floor = n / (d : Int) := by
  exact Rat.floor_intCast_div_natCast n d

theorem narrow_eq (f w : Bool) (n : Int) (d : Nat) (hd : 0 < d) : narrow f w n d = narrowed f w ((n : Rat) / d) := by
  have h : roundQuot f n d = if f then ((n : Rat) / d).floor else ((n : Rat) / d + 1 / 2).floor := by
    unfold roundQuot
    split
    · rw [floor_div]
    · have : (n : Rat) / d + 1 / 2 = ((2 * n + d : Int) : Rat) / ((2 * d : Nat) : Rat) := by
        have : (d : Rat) ≠ 0 := by positivity
        push_cast; field_simp
      rw [this, floor_div]
  simp [narrow, narrowed, h, rangeStep_eq 32 (.inl rfl)]

theorem scaled_eq (x e : Int) : (((scaled x e).1 : Int) : Rat) / ((scaled x e).2 : Nat) = x * (2 : Rat) ^ e := by
  unfold scaled; split
  · rename_i h
    obtain ⟨n, rfl⟩ := Int.eq_ofNat_of_zero_le h
    simp
  · rename_i h
    obtain ⟨n, hn⟩ := Int.eq_ofNat_of_zero_le (a := -e) (by omega)
    obtain rfl : e = -n := by omega
    simp [zpow_neg, div_eq_mul_inv]

theorem scaled_pos (x e : Int) : 0 < (scaled x e).2 := by
  unfold scaled; split <;> simp

theorem narrow_scaled (f w : Bool) (x e : Int) : narrow f w (scaled x e).1 (scaled x e).2 = narrowed f w (x * (2 : Rat) ^ e) := by
  rw [narrow_eq _ _ _ _ (scaled_pos x e), scaled_eq]

theorem result_eq (e : Engine) (d : VReg) (r : Word × Bool) : e.result d r = e.withResult d r.1 r.2 := rfl

theorem State.instrC_true (s : State) (x : Site) (cc : BitVec 4) (f : Engine → Engine × Bool) (h : s.executes x cc) :
    s.instrC x cc f = .next ((s.putEng x ((f (s.eng x)).1.retire 1)).setCsat x (f (s.eng x)).2) := by
  unfold State.instrC
  rw [State.runIf_true _ _ _ _ _ h.1 h.2]
  obtain ⟨ch, e⟩ := x
  cases e <;> cases (f (s.eng _)).2 <;> simp [State.setCsat, State.putEng_eq, State.eng, Chan.engine, Chan.setEngine, Chan.put, Chan.setFld, Chan.get]

theorem macTerm_eq (m : Bool) (A : BitVec 72) (X : Word) (c : Coef) :
    macTerm m A X c = ⟨(accPlus A c (if m then (-(macTermOf X c).1, (macTermOf X c).2) else macTermOf X c)).1,
      (accPlus A c (if m then (-(macTermOf X c).1, (macTermOf X c).2) else macTermOf X c)).2,
      (accPlus A c (if m then (-(macTermOf X c).1, (macTermOf X c).2) else macTermOf X c)).2 && c.sat == 2⟩ := by
  have h : coefTerm X c = (((X.toInt * c.mant.toInt : Int) : Rat) * (2 : Rat) ^ c.shift.toInt).floor := by
    unfold coefTerm; dsimp only
    split
    · rename_i hk
      obtain ⟨n, hn⟩ := Int.eq_ofNat_of_zero_le hk
      rw [hn]
      have : ((X.toInt * c.mant.toInt : Int) : Rat) * (2 : Rat) ^ (Int.ofNat n) = ((X.toInt * c.mant.toInt * 2 ^ n : Int) : Rat) := by
        push_cast; simp
      erw [this]
      exact (Rat.floor_intCast _).symm
    · rename_i hk
      obtain ⟨n, hn⟩ := Int.eq_ofNat_of_zero_le (a := -c.shift.toInt) (by omega)
      have hk' : c.shift.toInt = -(n : Int) := by omega
      have : ((X.toInt * c.mant.toInt : Int) : Rat) * (2 : Rat) ^ c.shift.toInt = ((X.toInt * c.mant.toInt : Int) : Rat) / ((2 ^ n : Nat) : Rat) := by
        rw [hk', zpow_neg]; push_cast; simp [div_eq_mul_inv]
      rw [this, floor_div, hn]
      push_cast; rfl
  have h' : accRange c.wraps (coefTerm X c) = macTermOf X c := by
    simp only [accRange, macTermOf, rangeStep_eq 72 (.inr rfl), Coef.wraps, h]
  cases m <;> simp only [macTerm, h'] <;> simp [accPlus, accRange, rangeStep_eq 72 (.inr rfl), Coef.wraps, Coef.reports, sub_eq_add_neg]

theorem setCsat_false (s : State) (x : Site) : s.setCsat x false = s := rfl

theorem succ_toNat (k : BitVec 10) : (k + 1).toNat = (k.toNat + 1) % 1024 := by simp [BitVec.toNat_add]

theorem isqrtFrom_eq (n : Nat) : ∀ (i r : Nat), r * r ≤ n → n < (r + 2 ^ i) * (r + 2 ^ i) → isqrtFrom i n r = Nat.sqrt n
  | 0, r, h1, h2 => by
    simp only [isqrtFrom]
    exact (Nat.eq_sqrt.2 ⟨h1, by simpa using h2⟩)
  | i + 1, r, h1, h2 => by
    simp only [isqrtFrom]
    apply isqrtFrom_eq n i
    · split <;> assumption
    · split
      · rw [pow_succ] at h2; have : r + 2 ^ i + 2 ^ i = r + 2 ^ i * 2 := by ring
        rw [this]; exact h2
      · omega

theorem isqrt_eq (n : Nat) (h : n < 2 ^ 84) : isqrt n = Nat.sqrt n :=
  isqrtFrom_eq n 42 0 (by simp) (by simpa using h)

theorem floor_sqrt (n : Nat) : ⌊Real.sqrt n⌋ = (Nat.sqrt n : Int) := by
  exact Real.floor_real_sqrt_eq_nat_sqrt

theorem floor_sqrt_half (n : Nat) : ⌊Real.sqrt n + 1 / 2⌋ = ((Nat.sqrt (4 * n) + 1) / 2 : Nat) := by
  have h4 : Real.sqrt ((4 * n : Nat) : ℝ) = 2 * Real.sqrt n := by
    push_cast
    rw [Real.sqrt_mul (by norm_num)]
    congr 1
    rw [show (4 : ℝ) = 2 ^ 2 by norm_num]; exact Real.sqrt_sq (by norm_num)
  have hq : Real.sqrt n + 1 / 2 = (Real.sqrt ((4 * n : Nat) : ℝ) + 1 : ℝ) / ((2 : Nat) : ℝ) := by rw [h4]; push_cast; ring
  rw [hq, Int.floor_div_natCast, Int.floor_add_one, floor_sqrt]
  push_cast; rfl

theorem loopStep (pc : BitVec 12) : ∀ l : List LoopFrame, LoopStep pc l (loopNext pc l).1 (loopNext pc l).2
  | [] => .none pc
  | f :: t => by
    unfold loopNext
    split
    · rename_i h
      split
      · rename_i hn; exact .done pc f t _ _ h hn (loopStep pc t)
      · rename_i hn; exact .again pc f t _ h (by omega)
    · rename_i h; exact .inside pc f t h

/-! ## Ports and the end of a tick -/

theorem setIf_eq {α : Type} {n : Nat} (v : Vector α n) (i : Nat) (x : α) (h : i < n) : v.setIfInBounds i x = v.set i x h := by
  apply Vector.ext
  intro j hj
  simp [Vector.getElem_setIfInBounds, Vector.getElem_set]

theorem execIn_port (s : State) (x : Site) (cc : BitVec 4) (d : VReg) (m : BitVec 11) (h : s.executes x cc)
    (hm : m.toNat < 0x50 ∨ 0x54 ≤ m.toNat) (w : Word) (tag : BitVec 4) (hp : s.portIn x m.toNat = some (w, tag)) :
    exec (.inPort x cc d m) s = .next (s.putEng x (({ s.eng x with v := (s.eng x).v.set d w, fl := { (s.eng x).fl with
      tu := tag.getLsbD 0, ts := tag.getLsbD 1, tt := tag.getLsbD 2, tx := tag.getLsbD 3 } } : Engine).retire 1)) := by
  have hb : (decide (0x50 ≤ m.toNat) && decide (m.toNat < 0x54)) = false := by
    rcases hm with hm | hm
    · simp [Nat.not_le.2 hm]
    · simp [Nat.not_lt.2 hm]
  have hr : ((s.eng x).run != .running) = false := by simp [h.1]
  show execIn x cc d m s = _
  unfold execIn
  simp only [hr, h.2, hb, hp]
  rfl

theorem execIn_mail (s : State) (x : Site) (cc : BitVec 4) (d : VReg) (m : BitVec 11) (h : s.executes x cc) (j : Fin 4)
    (hm : m.toNat = 0x50 + j.val) :
    exec (.inPort x cc d m) s = match s.mailRead x d j with
      | some t => .next (t.onEng x fun e => e.retire 1)
      | none => .next (s.onEng x fun e => { e with run := .waiting d j }) := by
  have hb : (decide (0x50 ≤ m.toNat) && decide (m.toNat < 0x54)) = true := by
    simp; omega
  have hr : ((s.eng x).run != .running) = false := by simp [h.1]
  have hj : Fin.ofNat 4 (m.toNat - 0x50) = j := by
    apply Fin.ext; simp [Fin.ofNat]; omega
  show execIn x cc d m s = _
  unfold execIn
  simp only [hr, h.2, hb, hj]
  rfl

theorem tickMax_fld (c : Chan) (f : BitField) (n : Nat) (h : f.lo + f.width ≤ 32) (hn : n < 2 ^ f.width) :
    (c.tickMax f n).fld Reg.CH_TICK_MAX f = max (c.fld Reg.CH_TICK_MAX f) n := by
  unfold Chan.tickMax
  split
  · rw [Chan.fld_setFld _ _ _ _ h, Nat.mod_eq_of_lt hn]; omega
  · omega

theorem tickMax_fld_ne (c : Chan) (f g : BitField) (n q : Nat) (h : q ≠ Reg.CH_TICK_MAX ∨ f.lo + f.width ≤ g.lo ∨ g.lo + g.width ≤ f.lo) :
    (c.tickMax f n).fld q g = c.fld q g := by
  unfold Chan.tickMax
  split
  · rw [Chan.fld_setFld_ne _ _ _ _ _ _ h]
  · rfl

theorem tickMax_fe (c : Chan) (f : BitField) (n : Nat) : (c.tickMax f n).fe = c.fe ∧ (c.tickMax f n).me = c.me ∧ (c.tickMax f n).tick = c.tick := by
  unfold Chan.tickMax; split <;> exact ⟨rfl, rfl, rfl⟩

theorem tickMax_get (c : Chan) (f : BitField) (n q : Nat) (h : q ≠ Reg.CH_TICK_MAX) : (c.tickMax f n).get q = c.get q := by
  unfold Chan.tickMax; split
  · simp [Chan.setFld, Chan.get, Chan.put, h]
  · rfl

end Sys2Proof.Machine
end

