-- ==== Sys2Proof/Laws/Reports.lean ====
section
/-! SUPPORT. Laws/Reports.lean: requesting records and raising interrupts only reports. -/

namespace Sys2Proof.Machine

theorem State.reports_refl (s : State) : s.reports s := ⟨rfl, fun _ _ _ => rfl⟩

theorem State.reports.trans {s t u : State} (h : s.reports t) (k : t.reports u) : s.reports u := by
  obtain ⟨h1, h2⟩ := h
  obtain ⟨k1, k2⟩ := k
  refine ⟨?_, fun o a b => (k2 o a b).trans (h2 o a b)⟩
  rw [k1, h1]

theorem State.reports_requestRecord (s : State) (r : RecRec) (b : Bool) : s.reports (s.requestRecord r b) := by
  obtain ⟨q, w, h | h⟩ := s.requestRecord_cases r b
  · refine ⟨by rw [h]; rfl, fun o ho _ => ?_⟩
    exact s.requestRecord_gget r b o ho
  · exact ⟨by rw [h], fun o ho _ => s.requestRecord_gget r b o ho⟩

theorem State.reports_record (s : State) (blk ch code sev : Nat) (d : RecData) : s.reports (s.record blk ch code sev d) :=
  s.reports_requestRecord _ _

theorem State.reports_recordReserved (s : State) (blk ch code sev : Nat) (d : RecData) :
    s.reports (s.recordReserved blk ch code sev d) := s.reports_requestRecord _ _

theorem State.reports_rejectRecord (s : State) (blk ch off : Nat) (v : Word) (src cause : Nat) :
    s.reports (s.rejectRecord blk ch off v src cause) := s.reports_requestRecord _ _

theorem State.reports_irq (s : State) (v : Nat) : s.reports (s.irq v) := by
  refine ⟨?_, fun o _ ho => s.irq_gget v o ho⟩
  unfold State.irq
  split
  · rfl
  · dsimp only
    split
    · rfl
    · unfold State.message
      split
      · rfl
      · split <;> rfl

theorem State.reports.irq {s t : State} (h : s.reports t) (v : Nat) : s.reports (t.irq v) := h.trans (t.reports_irq v)

theorem State.reports.record {s t : State} (h : s.reports t) (blk ch code sev : Nat) (d : RecData) :
    s.reports (t.record blk ch code sev d) := h.trans (t.reports_record ..)

theorem State.reports.chan {s t : State} (h : s.reports t) (c : ChId) : t.chan c = s.chan c := by
  rw [h.1]
  rfl

theorem State.reports.gget {s t : State} (h : s.reports t) (o : Nat) (a : o ≠ Reg.REC_CNT) (b : o ≠ Reg.INT_STAT) :
    t.gget o = s.gget o := h.2 o a b

/-- Only records were requested and interrupts raised around an update of one channel. -/
theorem State.reports.putChan {s t : State} (h : s.reports t) (ch : ChId) (c : Chan) : (s.putChan ch c).reports (t.putChan ch c) := by
  obtain ⟨h1, h2⟩ := h
  refine ⟨?_, h2⟩
  rw [h1]
  rfl

/-- A channel's counter: the register, and at most a record. -/
theorem State.reports_countCh (s : State) (ch : ChId) (reg : Nat) (hi ev : Bool) :
    (s.putChan ch ((s.chan ch).put reg (counterStep ((s.chan ch).get reg) hi))).reports (s.countCh ch reg hi ev) := by
  unfold State.countCh
  dsimp only
  split
  · exact State.reports_requestRecord _ _ _
  · exact State.reports_refl _

theorem State.reports_countG (s : State) (reg : Nat) (hi ev : Bool) :
    (s.gput reg (counterStep (s.gget reg) hi)).reports (s.countG reg hi ev) := by
  unfold State.countG
  dsimp only
  split
  · exact State.reports_requestRecord _ _ _
  · exact State.reports_refl _

end Sys2Proof.Machine
end

