-- ==== Sys2Proof/Laws/Fault.lean ====
section
/-! SUPPORT. Laws/Fault.lean: what capture, an entry of a mode and a hard channel fault leave of a channel. -/

namespace Sys2Proof.Machine

theorem State.putChan_self (s : State) (ch : ChId) : s.putChan ch (s.chan ch) = s := by simp [State.putChan, State.chan]

theorem foldl_rel {α β : Type} (R : β → β → Prop) (refl : ∀ b, R b b) (trans : ∀ a b c, R a b → R b c → R a c)
    (f : β → α → β) (hf : ∀ b a, R b (f b a)) (l : List α) (b : β) : R b (l.foldl f b) := by
  induction l generalizing b with
  | nil => exact refl b
  | cons a t ih => exact trans _ _ _ (hf b a) (ih (f b a))

/-- A channel after capture has worked on it: its capture registers and sets alone. -/
def Chan.CapOnly (c d : Chan) : Prop := d = { c with regs := d.regs, cap := d.cap } ∧ ∀ o, o < 0x2C00 → d.get o = c.get o

theorem Chan.CapOnly.refl (c : Chan) : c.CapOnly c := ⟨rfl, fun _ _ => rfl⟩

theorem Chan.CapOnly.trans {a b c : Chan} (h : a.CapOnly b) (k : b.CapOnly c) : a.CapOnly c := by
  refine ⟨?_, fun o ho => (k.2 o ho).trans (h.2 o ho)⟩
  rw [k.1, h.1]

theorem Chan.CapOnly.put (c : Chan) (r : Nat) (w : Word) (h : 0x2C00 ≤ r) : c.CapOnly (c.put r w) :=
  ⟨rfl, fun o ho => (c.get_put r w o).trans (if_neg (by omega))⟩

theorem Chan.CapOnly.cap (c : Chan) (k : SetId) (x : CapSet) : c.CapOnly (c.setCap k x) := ⟨rfl, fun _ _ => rfl⟩

theorem Chan.capOnly_setFld (c : Chan) (r : Nat) (f : BitField) (n : Nat) (h : 0x2C00 ≤ r) : c.CapOnly (c.setFld r f n) :=
  Chan.CapOnly.put c r _ h

theorem Chan.capOnly_setSeg (c : Chan) (k : SetId) (i : Fin 64) (x : SegSt) : c.CapOnly (c.setSeg k i x) :=
  (Chan.CapOnly.cap c k _).trans (Chan.capOnly_setFld _ _ _ _ (by unfold Reg.CAP_STAT; omega))

theorem Chan.capOnly_setCapState (c : Chan) (k : SetId) (n : Nat) : c.CapOnly (c.setCapState k n) :=
  Chan.capOnly_setFld _ _ _ _ (by unfold Reg.CAP_STAT; omega)

theorem Chan.capOnly_setPp (c : Chan) (k : SetId) (l : List (Fin 64)) : c.CapOnly (c.setPp k l) :=
  (Chan.CapOnly.cap c k _).trans (Chan.capOnly_setFld _ _ _ _ (by unfold Reg.CAP_STAT; omega))

theorem Chan.CapOnly.ite {c d e : Chan} {b : Prop} [Decidable b] (h : c.CapOnly d) (k : c.CapOnly e) :
    c.CapOnly (if b then d else e) := by
  split
  · exact h
  · exact k

theorem Chan.capOnly_capClosed (c : Chan) (k : SetId) (p : Bool) : c.CapOnly (c.capClosed k p) := by
  unfold Chan.capClosed
  extract_lets seg rseq h c1 c2 x c3 c4 c5
  have h1 : c.CapOnly c1 := (Chan.CapOnly.put _ _ _ (by unfold Reg.CAP_RSEQ_LO; omega)).trans
    (Chan.CapOnly.put _ _ _ (by unfold Reg.CAP_RSEQ_HI; omega))
  have h2 : c.CapOnly c2 := h1.trans (Chan.capOnly_setSeg _ _ _ _)
  have h3 : c.CapOnly c3 := h2.trans (Chan.CapOnly.cap _ _ _)
  have h4 : c.CapOnly c4 := Chan.CapOnly.ite (h3.trans (Chan.capOnly_setPp _ _ _)) h3
  have h5 : c.CapOnly c5 := Chan.CapOnly.ite
    (h4.trans (Chan.capOnly_setFld _ _ _ _ (by unfold Reg.CAP_STAT; omega))) h4
  exact h5.trans (Chan.capOnly_setCapState _ _ _)

theorem Chan.capOnly_capIdle (c : Chan) (k : SetId) : c.CapOnly (c.capIdle k) := by
  unfold Chan.capIdle
  dsimp only
  refine Chan.CapOnly.trans ?_ (Chan.capOnly_setCapState _ _ _)
  refine Chan.CapOnly.trans ?_ (Chan.CapOnly.cap _ _ _)
  split
  · exact Chan.capOnly_setSeg _ _ _ _
  · exact Chan.CapOnly.refl _

/-- The state after capture has worked on a channel: that channel, the capture memory, and at most reports. -/
structure State.CapOnly (s t : State) (ch : ChId) : Prop where
  chan : (s.chan ch).CapOnly (t.chan ch)
  rest : ({ s.putChan ch (t.chan ch) with sram := t.sram } : State).reports t

theorem State.CapOnly.refl (s : State) (ch : ChId) : s.CapOnly s ch := by
  refine ⟨Chan.CapOnly.refl _, ?_⟩
  have h : ({ s.putChan ch (s.chan ch) with sram := s.sram } : State) = s := s.putChan_self ch
  rw [h]
  exact State.reports_refl s

theorem State.CapOnly.trans {s t u : State} {ch : ChId} (h : s.CapOnly t ch) (k : t.CapOnly u ch) : s.CapOnly u ch := by
  refine ⟨h.chan.trans k.chan, State.reports.trans ?_ k.rest⟩
  obtain ⟨h1, h2⟩ := h.rest
  refine ⟨?_, h2⟩
  rw [h1]
  simp [State.putChan]

theorem State.CapOnly.put (s : State) (ch : ChId) (c : Chan) (h : (s.chan ch).CapOnly c) : s.CapOnly (s.putChan ch c) ch := by
  refine ⟨by simpa using h, ?_⟩
  have e : ({ s.putChan ch ((s.putChan ch c).chan ch) with sram := (s.putChan ch c).sram } : State) = s.putChan ch c := by
    rw [State.chan_putChan_same]
  rw [e]
  exact State.reports_refl _

theorem State.CapOnly.sram (s : State) (ch : ChId) (m : List (Nat × Word)) : s.CapOnly { s with sram := m } ch := by
  refine ⟨Chan.CapOnly.refl _, ?_⟩
  have e : ({ s.putChan ch (({ s with sram := m } : State).chan ch) with sram := m } : State) = { s with sram := m } := by
    simp [State.putChan, State.chan]
  rw [e]
  exact State.reports_refl _

theorem State.CapOnly.reports {s t : State} (h : s.reports t) (ch : ChId) : s.CapOnly t ch := by
  have hc := h.chan ch
  refine ⟨hc ▸ Chan.CapOnly.refl _, ?_⟩
  have e : ({ s.putChan ch (t.chan ch) with sram := t.sram } : State) = s := by
    rw [hc, show t.sram = s.sram by rw [h.1]]
    exact s.putChan_self ch
  rw [e]
  exact h

theorem State.capOnly_sramPut (s : State) (ch : ChId) (a : Nat) (ws : List Word) : s.CapOnly (s.sramPut a ws) ch :=
  State.CapOnly.sram s ch _

theorem State.capOnly_onCap (s : State) (ch : ChId) (k : SetId) (f : CapSet → CapSet) : s.CapOnly (s.onCap ch k f) ch :=
  State.CapOnly.put _ ch _ (Chan.CapOnly.cap _ _ _)

theorem State.capOnly_capStore (s : State) (ch : ChId) (k : SetId) (row : List Word) : s.CapOnly (s.capStore ch k row) ch := by
  unfold State.capStore
  extract_lets c t
  have h : s.CapOnly t ch := State.capOnly_sramPut s ch _ _
  exact h.trans (State.capOnly_onCap _ _ _ _)

theorem State.capOnly_capClose (s : State) (ch : ChId) (k : SetId) (b : Bool) : s.CapOnly (s.capClose ch k b) ch := by
  unfold State.capClose
  dsimp only
  split
  · exact State.CapOnly.put _ _ _ (Chan.capOnly_capIdle _ _)
  · exact (State.capOnly_sramPut s ch _ _).trans (State.CapOnly.put _ ch _ (Chan.capOnly_capClosed (s.chan ch) _ _))

theorem State.capOnly_capTrigger (s : State) (ch : ChId) (k : SetId) (m : CapSample) (mask q : Nat) (b : Bool) :
    s.CapOnly (s.capTrigger ch k m mask q b) ch := by
  unfold State.capTrigger
  extract_lets c x prev t s1 s2
  have h1 : s.CapOnly s1 ch := State.capOnly_onCap _ _ _ _
  have h2 : s.CapOnly s2 ch := (h1.trans (State.capOnly_capStore _ _ _ _)).trans
    (State.CapOnly.put _ ch _ (Chan.capOnly_setCapState _ _ _))
  split
  · exact h2.trans (State.capOnly_capClose _ _ _ _)
  · exact h2

theorem State.capOnly_capFault (s : State) (ch : ChId) : s.CapOnly (s.capFault ch) ch := by
  refine foldl_rel (fun a b => a.CapOnly b ch) (fun b => State.CapOnly.refl b ch) (fun _ _ _ => State.CapOnly.trans) _ ?_ _ _
  intro s k
  dsimp only
  split
  · exact State.capOnly_capClose _ _ _ _
  · split
    · split
      · exact (State.capOnly_onCap _ _ _ _).trans (State.capOnly_capTrigger _ _ _ _ _ _ _)
      · exact State.CapOnly.refl _ _
    · exact State.CapOnly.refl _ _

theorem State.capOnly_capClearHist (s : State) (ch : ChId) (k : SetId) : s.CapOnly (s.capClearHist ch k) ch :=
  (State.CapOnly.sram s ch _).trans (State.CapOnly.put _ ch _ (Chan.capOnly_setFld _ _ _ _ (by unfold Reg.CAP_STAT; omega)))

theorem State.capOnly_capFree (s : State) (ch : ChId) : s.CapOnly (s.capFree ch) ch := by
  refine foldl_rel (fun a b => a.CapOnly b ch) (fun b => State.CapOnly.refl b ch) (fun _ _ _ => State.CapOnly.trans) _ ?_ _ _
  intro s k
  exact (State.capOnly_capClearHist s ch k).trans (State.CapOnly.put _ ch _ (((Chan.CapOnly.cap _ _ _).trans
    (Chan.capOnly_setPp _ _ _)).trans (Chan.capOnly_setFld _ _ _ _ (by unfold Reg.CAP_STAT; omega))))

/-! ## Hard channel faults (R36, R180) -/

/-- What the bookkeeping around an entry of a mode leaves: the mode registers, whether the engines run, gates and pads that
do not drive, and GSTAT. -/
structure State.Stays (ch : ChId) (s t : State) : Prop where
  cur : (t.chan ch).get Reg.CH_MODE_CUR = (s.chan ch).get Reg.CH_MODE_CUR
  fe : (t.chan ch).fe.run = (s.chan ch).fe.run
  me : (t.chan ch).me.run = (s.chan ch).me.run
  drv : (s.chan ch).pwm.driving = false → (t.chan ch).pwm.driving = false
  drive : (s.chan ch).pair.drive = false → (t.chan ch).pair.drive = false
  pads : (s.chan ch).pair.padsEn = false → (t.chan ch).pair.padsEn = false
  gstat : t.gget Reg.GSTAT = s.gget Reg.GSTAT

theorem State.Stays.refl (ch : ChId) (s : State) : State.Stays ch s s := ⟨rfl, rfl, rfl, id, id, id, rfl⟩

theorem State.Stays.trans {ch : ChId} {s t u : State} (h : State.Stays ch s t) (k : State.Stays ch t u) : State.Stays ch s u :=
  ⟨k.cur.trans h.cur, k.fe.trans h.fe, k.me.trans h.me, k.drv ∘ h.drv, k.drive ∘ h.drive, k.pads ∘ h.pads, k.gstat.trans h.gstat⟩

theorem State.Stays.ite {ch : ChId} {s t u : State} {p : Prop} [Decidable p] (h : State.Stays ch s t) (k : State.Stays ch s u) :
    State.Stays ch s (if p then t else u) := by
  split
  · exact h
  · exact k

theorem State.Stays.reports {ch : ChId} {s t : State} (h : s.reports t) : State.Stays ch s t := by
  have hc := h.chan ch
  exact ⟨by rw [hc], by rw [hc], by rw [hc], by rw [hc]; exact id, by rw [hc]; exact id, by rw [hc]; exact id,
    h.gget _ (by decide) (by decide)⟩

theorem State.Stays.gput (ch : ChId) (s : State) (o : Nat) (w : Word) (h : o ≠ Reg.GSTAT) : State.Stays ch s (s.gput o w) :=
  ⟨rfl, rfl, rfl, id, id, id, (s.gget_gput o w _).trans (if_neg h.symm)⟩

theorem State.Stays.thenGput {ch : ChId} {s t : State} {o : Nat} {w : Word} (k : State.Stays ch s t) (h : o ≠ Reg.GSTAT) :
    State.Stays ch s (t.gput o w) := k.trans (State.Stays.gput ch t o w h)

theorem State.Stays.put {ch : ChId} {s : State} {c : Chan} (h1 : c.get Reg.CH_MODE_CUR = (s.chan ch).get Reg.CH_MODE_CUR)
    (h2 : c.fe.run = (s.chan ch).fe.run) (h3 : c.me.run = (s.chan ch).me.run)
    (h4 : (s.chan ch).pwm.driving = false → c.pwm.driving = false) (h5 : (s.chan ch).pair.drive = false → c.pair.drive = false)
    (h6 : (s.chan ch).pair.padsEn = false → c.pair.padsEn = false) : State.Stays ch s (s.putChan ch c) := by
  refine ⟨?_, ?_, ?_, ?_, ?_, ?_, rfl⟩ <;> simpa

theorem State.Stays.onPair (ch : ChId) (s : State) (f : PairCh → PairCh) (h : ∀ p : PairCh, p.drive = false → (f p).drive = false)
    (h' : ∀ p : PairCh, p.padsEn = false → (f p).padsEn = false) : State.Stays ch s (s.onPair ch f) :=
  State.Stays.put rfl rfl rfl id (h _) (h' _)

theorem State.Stays.capOnly {ch : ChId} {s t : State} (h : s.CapOnly t ch) : State.Stays ch s t := by
  obtain ⟨⟨h1, h2⟩, h3⟩ := h
  refine ⟨h2 _ (by decide), by rw [h1], by rw [h1], by rw [h1]; exact id, by rw [h1]; exact id, by rw [h1]; exact id, ?_⟩
  exact h3.gget _ (by decide) (by decide)

theorem State.stays_countCh (s : State) (ch : ChId) (reg : Nat) (hi ev : Bool) (h : reg ≠ Reg.CH_MODE_CUR) :
    State.Stays ch s (s.countCh ch reg hi ev) := by
  exact State.Stays.trans (t := s.putChan ch ((s.chan ch).put reg (counterStep ((s.chan ch).get reg) hi)))
    (State.Stays.put ((Chan.get_put _ _ _ _).trans (if_neg h.symm)) rfl rfl id id id)
    (State.Stays.reports (State.reports_countCh s ch reg hi ev))

theorem State.stays_countG (s : State) (ch : ChId) (reg : Nat) (hi ev : Bool) (h : reg ≠ Reg.GSTAT) :
    State.Stays ch s (s.countG reg hi ev) :=
  (State.Stays.gput ch s _ _ h).trans (State.Stays.reports (State.reports_countG s reg hi ev))

theorem State.stays_groupDiscard (s : State) (ch : ChId) : State.Stays ch s (s.groupDiscard ch) := by
  unfold State.groupDiscard
  split
  · unfold State.groupOutcome
    dsimp only
    apply State.Stays.thenGput _ (by decide)
    exact ⟨rfl, rfl, rfl, id, id, id, rfl⟩
  · exact State.Stays.refl _ _

theorem State.stays_showBrake (s : State) (ch : ChId) : State.Stays ch s (s.showBrake ch) :=
  State.Stays.put ((Chan.get_put _ Reg.PWM_STAT _ _).trans (if_neg (by decide))) rfl rfl id id id

theorem State.stays_brakeTurn (s : State) (ch : ChId) (on : Bool) (now : Nat) :
    State.Stays ch s (s.putChan ch ((s.chan ch).brakeTurn on now)) := State.Stays.put rfl rfl rfl id id id

theorem State.stays_brakeFollow (s : State) (ch : ChId) : State.Stays ch s (s.brakeFollow ch) := by
  unfold State.brakeFollow
  extract_lets c t
  split
  · exact State.stays_showBrake s ch
  split
  · refine State.Stays.trans ?_ (State.stays_showBrake _ ch)
    split
    · exact State.stays_brakeTurn s ch _ _
    · exact State.Stays.refl _ _
  split
  · exact State.stays_showBrake s ch
  have h : State.Stays ch s t := (State.stays_brakeTurn s ch _ _).trans (State.stays_showBrake _ ch)
  split
  · exact h
  · exact h.trans (State.stays_countCh _ _ _ _ _ (by decide))

theorem State.stays_gatesFollow (s : State) (ch : ChId) : State.Stays ch s (s.gatesFollow ch) := by
  have h : ∀ b : Bool, State.Stays ch s (s.onChan ch (·.gatesOff b)) := fun b =>
    State.Stays.put rfl rfl rfl (fun _ => rfl) id id
  unfold State.gatesFollow
  refine State.Stays.trans ?_ (State.stays_brakeFollow _ ch)
  split
  · exact State.Stays.refl _ _
  split
  · exact h false
  split
  · exact h true
  · exact State.Stays.refl _ _

theorem State.stays_chinhFollow (s : State) (ch : ChId) : State.Stays ch s (s.chinhFollow ch) := by
  unfold State.chinhFollow
  dsimp only
  exact (State.Stays.gput ch s _ _ (by decide)).trans (State.stays_gatesFollow _ _)

theorem State.stays_contactors (s : State) (ch : ChId) : State.Stays ch s (s.contactors ch) := by
  have h : ∀ (c : Chan) (b : Bool) (f : BitField) (n : Nat) (x : SafCh),
      let d := if b then c else { c.setFld Reg.SAF_CH_STAT f n with saf := x }
      d.get Reg.CH_MODE_CUR = c.get Reg.CH_MODE_CUR ∧ d.fe = c.fe ∧ d.me = c.me ∧ d.pwm = c.pwm ∧ d.pair = c.pair := by
    intro c b f n x
    cases b
    · exact ⟨(Chan.get_put c Reg.SAF_CH_STAT _ _).trans (if_neg (by decide)), rfl, rfl, rfl, rfl⟩
    · exact ⟨rfl, rfl, rfl, rfl, rfl⟩
  unfold State.contactors
  dsimp only
  generalize (_ == (s.chan ch).bit Reg.SAF_CH_STAT Fld.SAF_CH_STAT_K1CMD) = b1
  generalize hd : (if b1 = true then s.chan ch else _) = d
  obtain ⟨h1, h2, h3, h4, h5⟩ := h (s.chan ch) b1 Fld.SAF_CH_STAT_K1CMD _ _
  dsimp only at h1 h2 h3 h4 h5
  rw [hd] at h1 h2 h3 h4 h5
  obtain ⟨k1, k2, k3, k4, k5⟩ := h d _ Fld.SAF_CH_STAT_K2CMD _ _
  refine State.Stays.put (k1.trans h1) (by rw [k2, h2]) (by rw [k3, h3]) (by rw [k4, h4]; exact id) (by rw [k5, h5]; exact id)
    (by rw [k5, h5]; exact id)

theorem State.stays_pairLeaveShadow (s : State) (ch : ChId) : State.Stays ch s (s.pairLeaveShadow ch) := by
  unfold State.pairLeaveShadow
  dsimp only
  refine State.Stays.trans (t := State.gput _ (Reg.HND_HEALTH ch) 0) ?_
    (State.Stays.put ((Chan.get_put _ Reg.CH_ALIGN _ _).trans ((if_neg (by decide)).trans
      ((Chan.get_put _ Reg.PLL_STAT _ _).trans (if_neg (by decide))))) rfl rfl id id id)
  refine State.Stays.thenGput (State.Stays.thenGput (State.Stays.thenGput (State.Stays.onPair ch s _ ?_ ?_) ?_) ?_) ?_
  · intro p hp
    split
    · rfl
    · exact hp
  · intro p hp
    split
    · rfl
    · exact hp
  all_goals
    revert ch
    decide

theorem State.stays_repairEnds (s : State) (ch : ChId) (err : Nat) : State.Stays ch s (s.repairEnds ch err) := by
  unfold State.repairEnds
  dsimp only
  refine State.Stays.trans ?_ (State.Stays.capOnly (State.capOnly_capFree _ ch))
  refine State.Stays.trans ?_ (State.Stays.reports (State.reports_irq _ 7))
  refine State.Stays.trans ?_ (State.Stays.reports (State.reports_record ..))
  exact ⟨rfl, rfl, rfl, id, id, id, (s.gget_gput Reg.IMG_STAT _ _).trans (if_neg (by decide))⟩

theorem State.stays_releaseGivenUp (s : State) (ch : ChId) (cause : Nat) : State.Stays ch s (s.releaseGivenUp ch cause) ∧
    ((s.releaseGivenUp ch cause).chan ch).pair.drive = false ∧ ((s.releaseGivenUp ch cause).chan ch).pair.padsEn = false := by
  unfold State.releaseGivenUp
  dsimp only
  have h1 : State.Stays ch s ((s.groupDiscard ch).onPair ch PairCh.letGo) :=
    (State.stays_groupDiscard s ch).trans (State.Stays.onPair ch _ _ (fun _ _ => rfl) (fun _ _ => rfl))
  have d1 : (((s.groupDiscard ch).onPair ch PairCh.letGo).chan ch).pair.drive = false ∧
      (((s.groupDiscard ch).onPair ch PairCh.letGo).chan ch).pair.padsEn = false := by
    simp [PairCh.letGo]
  generalize (s.groupDiscard ch).onPair ch PairCh.letGo = u at h1 d1
  have hcs : ∀ c : ChId, Reg.PAIR_CHSTAT c ≠ Reg.GSTAT := by decide
  have hlw : ∀ (v : State) (a : Nat) (b : Byte) (w : Word), State.Stays ch v (v.lastWord a b w) := fun v a b w =>
    ⟨rfl, rfl, rfl, id, id, id, rfl⟩
  have h2 : State.Stays ch u ((((((u.gatesFollow ch).setCs ch Fld.PAIR_CHSTAT_GAVEUP 1).setCs ch Fld.PAIR_CHSTAT_GUCAUSE cause).countG
      Reg.PAIR_CNT1 true true).irq 3).record 0x10 0xF 4 3 (recData [(0, 2, 2 ^ ch.val), (2, 1, cause)])) := by
    refine State.Stays.trans ?_ (State.Stays.reports (State.reports_record ..))
    refine State.Stays.trans ?_ (State.Stays.reports (State.reports_irq ..))
    refine State.Stays.trans ?_ (State.stays_countG _ _ _ _ _ (by decide))
    refine State.Stays.trans ?_ (State.Stays.gput ch _ _ _ (hcs ch))
    exact State.Stays.trans (State.stays_gatesFollow _ _) (State.Stays.gput ch _ _ _ (hcs ch))
  split
  · exact ⟨h1.trans h2, h2.drive d1.1, h2.pads d1.2⟩
  · have h3 := h2.trans (hlw _ 5 0 (BitVec.ofNat 32 (2 ^ ch.val + 4096 * cause)))
    exact ⟨h1.trans h3, h3.drive d1.1, h3.pads d1.2⟩

/-- An entry of HALT, inside: engines and pair state as they were, gates that do not drive. -/
theorem Chan.enterInner_halt (c : Chan) :
    (c.enterInner 1).fe.run = c.fe.run ∧ (c.enterInner 1).me.run = c.me.run ∧ (c.enterInner 1).pwm.driving = false ∧
      (c.enterInner 1).pair = c.pair := by
  unfold Chan.enterInner
  simp only [show ¬((1 : Nat) = 4) by decide, if_false, if_true, show ((decide (3 ≤ 1) && decide (1 ≤ 7)) = false) by decide,
    Bool.false_eq_true]
  split <;> exact ⟨rfl, rfl, rfl, rfl⟩

/-- An entry of HALT by a fault: the mode registers, and gates that no longer drive. -/
theorem State.enterMode_halt (s : State) (ch : ChId) :
    let t := s.enterMode ch 1 8
    (t.chan ch).mode = 1 ∧ (t.chan ch).fld Reg.CH_MODE_CUR Fld.CH_MODE_CUR_TCAUSE = 8 ∧ (t.chan ch).pwm.driving = false ∧
    (t.chan ch).fe.run = (s.chan ch).fe.run ∧ (t.chan ch).me.run = (s.chan ch).me.run ∧
    ((s.chan ch).pair.drive = false → (t.chan ch).pair.drive = false) ∧
    ((s.chan ch).pair.padsEn = false → (t.chan ch).pair.padsEn = false) ∧ t.gget Reg.GSTAT = s.gget Reg.GSTAT := by
  generalize hc : (((s.chan ch).enterInner 1).enterRegs 1 8).capEntered = c
  have hcur : getField (c.get Reg.CH_MODE_CUR) Fld.CH_MODE_CUR_MODE = 1 ∧
      getField (c.get Reg.CH_MODE_CUR) Fld.CH_MODE_CUR_TCAUSE = 8 := by
    subst hc
    show getField ((((s.chan ch).enterInner 1).enterRegs 1 8).get Reg.CH_MODE_CUR) _ = 1 ∧
      getField ((((s.chan ch).enterInner 1).enterRegs 1 8).get Reg.CH_MODE_CUR) _ = 8
    generalize (s.chan ch).enterInner 1 = d
    unfold Chan.enterRegs
    extract_lets old cur st1 st2 st3 st4
    rw [Chan.get_put, if_neg (by decide), Chan.get_put, if_pos rfl]
    refine ⟨?_, getField_setField _ _ _ (by decide)⟩
    rw [getField_setField_ne _ _ _ _ (by decide), getField_setField_ne _ _ _ _ (by decide), getField_setField _ _ _ (by decide)]
    decide
  have hrun : c.fe.run = (s.chan ch).fe.run ∧ c.me.run = (s.chan ch).me.run ∧ c.pwm.driving = false ∧ c.pair = (s.chan ch).pair := by
    subst hc
    exact Chan.enterInner_halt (s.chan ch)
  have e : State.Stays ch (s.putChan ch c) (s.enterMode ch 1 8) := by
    unfold State.enterMode
    extract_lets c0 old s1 s2 s3 s4 s5
    have h1 : s.putChan ch c = s1 := congrArg (s.putChan ch) hc.symm
    have h2 : State.Stays ch s1 s2 := State.Stays.ite (State.stays_groupDiscard s1 ch) (State.Stays.refl ch s1)
    have h3 : State.Stays ch s2 s3 := State.Stays.ite (State.Stays.refl ch s2)
      ((State.stays_countCh _ _ _ _ _ (by decide)).trans (State.Stays.reports (State.reports_irq ..)))
    have h4 : State.Stays ch s3 s4 := State.Stays.reports (State.reports_record ..)
    have h5 : State.Stays ch s4 s5 := State.Stays.ite (State.stays_pairLeaveShadow s4 ch) (State.Stays.refl ch s4)
    rw [h1]
    exact ((((h2.trans h3).trans h4).trans h5).trans (State.stays_chinhFollow _ _)).trans (State.stays_contactors _ _)
  generalize s.enterMode ch 1 8 = u at e ⊢
  intro t
  have hm : (s.putChan ch c).chan ch = c := State.chan_putChan_same _ _ _
  refine ⟨?_, ?_, e.drv (by rw [hm]; exact hrun.2.2.1), by rw [e.fe, hm, hrun.1], by rw [e.me, hm, hrun.2.1],
    fun h => e.drive (by rw [hm, hrun.2.2.2]; exact h), fun h => e.pads (by rw [hm, hrun.2.2.2]; exact h), e.gstat⟩
  · show getField ((t.chan ch).get Reg.CH_MODE_CUR) _ = _
    rw [e.cur, hm]
    exact hcur.1
  · show getField ((t.chan ch).get Reg.CH_MODE_CUR) _ = _
    rw [e.cur, hm]
    exact hcur.2

/-- HALT with FAULT (R180): entered, where a fault does not hold the channel there already. -/
theorem State.faultHalt_sets (s : State) (ch : ChId) :
    let t := s.faultHalt ch
    let d := t.chan ch
    d.mode = 1 ∧ d.faulted = true ∧ d.fe.run = .stopped ∧ d.me.run = .stopped ∧
    (((s.chan ch).faulted = false ∨ (s.chan ch).mode ≠ 1) →
      d.fld Reg.CH_MODE_CUR Fld.CH_MODE_CUR_TCAUSE = 8 ∧ d.pwm.driving = false) ∧
    (BitVec.ofNat 12 (t.gfld Reg.GSTAT Fld.GSTAT_CH_FAULT)).getLsbD ch.val = true ∧
    ((s.chan ch).pair.drive = false → d.pair.drive = false) ∧ ((s.chan ch).pair.padsEn = false → d.pair.padsEn = false) := by
  unfold State.faultHalt
  extract_lets u was w x y z v t d
  have hg := State.stays_groupDiscard s ch
  have hu : u.chan ch = ((s.groupDiscard ch).chan ch).stopEngines.dropProfile := State.chan_putChan_same _ _ _
  have ucur : (u.chan ch).get Reg.CH_MODE_CUR = (s.chan ch).get Reg.CH_MODE_CUR := by
    rw [hu, ← hg.cur]
    unfold Chan.dropProfile
    extract_lets c1
    unfold Chan.setFld
    rw [Chan.get_put, if_neg (by decide), Chan.get_put, if_neg (by decide), Chan.get_put, if_neg (by decide)]
    rfl
  have urun : (u.chan ch).fe.run = .stopped ∧ (u.chan ch).me.run = .stopped ∧
      (u.chan ch).pair = ((s.groupDiscard ch).chan ch).pair := by
    rw [hu]
    exact ⟨rfl, rfl, rfl⟩
  have hw : State.Stays ch u w := State.Stays.ite (State.stays_repairEnds u ch 8) (State.Stays.refl ch u)
  have he := State.enterMode_halt w ch
  extract_lets e at he
  obtain ⟨m1, m2, m3, m4, m5, m6, m7, -⟩ := he
  have wmode : (w.chan ch).mode = (s.chan ch).mode := by
    show getField ((w.chan ch).get Reg.CH_MODE_CUR) _ = getField ((s.chan ch).get Reg.CH_MODE_CUR) _
    rw [hw.cur, ucur]
  have hwas : was = (s.chan ch).faulted := by
    show (getField ((u.chan ch).get Reg.CH_MODE_CUR) Fld.CH_MODE_CUR_FAULT != 0) = (getField ((s.chan ch).get Reg.CH_MODE_CUR) _ != 0)
    rw [ucur]
  have hx : (x.chan ch).mode = 1 ∧ (x.chan ch).fe.run = .stopped ∧ (x.chan ch).me.run = .stopped ∧
      (((s.chan ch).faulted = false ∨ (s.chan ch).mode ≠ 1) →
        (x.chan ch).fld Reg.CH_MODE_CUR Fld.CH_MODE_CUR_TCAUSE = 8 ∧ (x.chan ch).pwm.driving = false) ∧
      ((s.chan ch).pair.drive = false → (x.chan ch).pair.drive = false) ∧
      ((s.chan ch).pair.padsEn = false → (x.chan ch).pair.padsEn = false) := by
    have kd : (s.chan ch).pair.drive = false → (w.chan ch).pair.drive = false := fun h =>
      hw.drive (by rw [urun.2.2]; exact hg.drive h)
    have kp : (s.chan ch).pair.padsEn = false → (w.chan ch).pair.padsEn = false := fun h =>
      hw.pads (by rw [urun.2.2]; exact hg.pads h)
    by_cases hh : (was && decide ((w.chan ch).mode = 1)) = true
    · have ex : x = w := if_pos hh
      rw [Bool.and_eq_true, hwas, decide_eq_true_eq, wmode] at hh
      rw [ex]
      exact ⟨wmode.trans hh.2, hw.fe.trans urun.1, hw.me.trans urun.2.1,
        fun h => absurd h (by rw [hh.1]; simpa using hh.2), kd, kp⟩
    · have ex : x = e := if_neg hh
      rw [ex]
      exact ⟨m1, m4.trans (hw.fe.trans urun.1), m5.trans (hw.me.trans urun.2.1), fun _ => ⟨m2, m3⟩,
        fun h => m6 (kd h), fun h => m7 (kp h)⟩
  have hy : y.chan ch = (x.chan ch).setFld Reg.CH_MODE_CUR Fld.CH_MODE_CUR_FAULT 1 := State.chan_putChan_same _ _ _
  have hz : z.chan ch = y.chan ch := rfl
  have zg : z.gget Reg.GSTAT = setField (y.gget Reg.GSTAT) Fld.GSTAT_CH_FAULT (y.gfld Reg.GSTAT Fld.GSTAT_CH_FAULT ||| 2 ^ ch.val) :=
    (y.gget_gput Reg.GSTAT _ _).trans (if_pos rfl)
  have ht : State.Stays ch z t :=
    (State.Stays.ite (State.Stays.refl ch z) (State.Stays.reports (State.reports_irq _ _))).trans
      (State.Stays.capOnly (State.capOnly_capFault _ ch))
  have cur : d.get Reg.CH_MODE_CUR = setField ((x.chan ch).get Reg.CH_MODE_CUR) Fld.CH_MODE_CUR_FAULT 1 := by
    rw [ht.cur, hz, hy]
    exact (Chan.get_put _ _ _ _).trans (if_pos rfl)
  have same : d.fe.run = (x.chan ch).fe.run ∧ d.me.run = (x.chan ch).me.run := by
    rw [ht.fe, ht.me, hz, hy]
    exact ⟨rfl, rfl⟩
  obtain ⟨x1, x2, x3, x4, x5, x6⟩ := hx
  clear_value t v z y x w was u
  refine ⟨?_, ?_, same.1.trans x2, same.2.trans x3, fun h => ⟨?_, ?_⟩, ?_, fun h => ?_, fun h => ?_⟩
  · unfold Chan.mode Chan.fld
    rw [cur, getField_setField_ne _ _ _ _ (by decide)]
    exact x1
  · unfold Chan.faulted Chan.bit Chan.fld
    rw [cur, getField_setField _ _ _ (by decide)]
    decide
  · unfold Chan.fld
    rw [cur, getField_setField_ne _ _ _ _ (by decide)]
    exact (x4 h).1
  · apply ht.drv
    rw [hz, hy]
    exact (x4 h).2
  · unfold State.gfld
    rw [ht.gstat, zg, getField_setField _ _ _ (by decide)]
    have hl := ch.isLt
    simp only [BitVec.getLsbD_ofNat, Nat.testBit_mod_two_pow, Nat.testBit_or, Nat.testBit_two_pow_self, hl, decide_true,
      Bool.or_true, Bool.true_and]
  · apply ht.drive
    rw [hz, hy]
    exact x5 h
  · apply ht.pads
    rw [hz, hy]
    exact x6 h

end Sys2Proof.Machine
end

