-- ==== Sys2Proof/Laws/Host.lean ====
section
/-! SUPPORT. Laws/Host.lean: how an accepted write and a read reach their block. -/

namespace Sys2Proof.Machine

/-- A write by a context's window that its block accepts. -/
theorem State.writeWindow_ok {s t : State} {k : Ctx} {ch : ChId} {off : Nat} {v : Word} (h : s.reaches k ch)
    (hlo : 0x10 ≤ off) (hhi : off < 0x4000) (hal : off % 4 = 0) (hp : (findRow chanRows off).isSome = true)
    (ha : s.capAbsent k off = false) (hr : s.keepsRo k ch off v) (hw : s.chanWrite ch off v (.host k) = (t, .ok)) :
    s.writeWindow k off v = t.answered := by
  obtain ⟨⟨h1, h2⟩, h3, h4, h5⟩ := h
  have hk := k.isLt
  have hb : windowAddr k off < 2 ^ 18 := by unfold windowAddr; omega
  have haddr : (BitVec.ofNat 18 (windowAddr k off)).toNat = windowAddr k off := by
    rw [BitVec.toNat_ofNat]
    exact Nat.mod_eq_of_lt hb
  have hplace : placeOf (windowAddr k off) = .chan off := by
    have e1 : ¬ windowAddr k off < 0x8000 := by unfold windowAddr; omega
    have e2 : ¬ windowAddr k off < 0x10000 := by unfold windowAddr; omega
    have e3 : windowAddr k off < 0x20000 := by unfold windowAddr; omega
    have e4 : (windowAddr k off - 0x10000) % 0x4000 = off := by unfold windowAddr; omega
    have e5 : ¬ off < 0x10 := by omega
    simp only [placeOf, e1, e2, e3, e4, e5, if_true, if_false]
  have hctx : s.ctxOf (windowAddr k off) = k := by
    have e1 : ¬ windowAddr k off < 0x8000 := by unfold windowAddr; omega
    have e2 : ¬ windowAddr k off < 0x10000 := by unfold windowAddr; omega
    have e3 : windowAddr k off < 0x20000 := by unfold windowAddr; omega
    have e6 : ¬ 0x40000 ≤ windowAddr k off := by omega
    have e4 : (windowAddr k off - 0x10000) / 0x4000 = k.val := by unfold windowAddr; omega
    simp only [State.ctxOf, e1, e2, e3, e4, e6, decide_false, Bool.or_self, Bool.false_eq_true, if_true, if_false]
    exact Fin.ext (Nat.mod_eq_of_lt hk)
  have hal' : windowAddr k off % 4 = 0 := by unfold windowAddr; omega
  have hpres : s.present k (.chan off) = true := by simp [State.present, hp, ha]
  have hst : (getField s.host.ctxs[k].chsel Fld.CTX_CHSEL_STAGE = 1) = False := by rw [h5]; simp
  have hwc : s.writeChan k off v = ⟨t, 0, none, []⟩ := by
    unfold State.keepsRo at hr
    simp only [State.writeChan, h3, h4, hst, if_false, hr, writeCause, hw, Bool.false_eq_true]
  have hacc : s.access k (windowAddr k off) false (some v) = ⟨t, 0, none, []⟩ := by
    simp only [State.access, hplace, hpres, Bool.not_true, Bool.false_eq_true, if_false, State.writePlace, hwc]
  unfold State.writeWindow State.writeAt State.request
  simp only [h1, Bool.not_true, h2, if_false, Bool.false_eq_true]
  simp only [haddr, hal', State.answer, hctx, hacc, hplace]
  rfl

/-- A write through a context's alias of the global registers that its block accepts. -/
theorem State.writeAlias_ok {s t : State} {k : Ctx} {off : Nat} {v : Word} (h : s.serves) (hhi : off < 0x8000)
    (hal : off % 4 = 0) (hm : isMsix off = false) (hp : (findRow globalRows off).isSome = true) (hr : s.keepsRoG k off v)
    (hw : s.globalWrite k off v = (t, false)) : s.writeAlias k off v = t.answered := by
  obtain ⟨h1, h2⟩ := h
  have hk := k.isLt
  have hb : aliasAddr k off < 2 ^ 18 := by unfold aliasAddr; omega
  have haddr : (BitVec.ofNat 18 (aliasAddr k off)).toNat = aliasAddr k off := by
    rw [BitVec.toNat_ofNat]
    exact Nat.mod_eq_of_lt hb
  have e1 : ¬ aliasAddr k off < 0x8000 := by unfold aliasAddr; omega
  have e2 : ¬ aliasAddr k off < 0x10000 := by unfold aliasAddr; omega
  have e3 : ¬ aliasAddr k off < 0x20000 := by unfold aliasAddr; omega
  have e4 : aliasAddr k off < 0x40000 := by unfold aliasAddr; omega
  have hplace : placeOf (aliasAddr k off) = .glob off := by
    have e5 : (aliasAddr k off - 0x20000) % 0x8000 = off := by unfold aliasAddr; omega
    simp only [placeOf, e1, e2, e3, e4, e5, if_true, if_false]
  have hctx : s.ctxOf (aliasAddr k off) = k := by
    have e6 : ¬ 0x40000 ≤ aliasAddr k off := by omega
    have e5 : (aliasAddr k off - 0x20000) / 0x8000 = k.val := by unfold aliasAddr; omega
    simp only [State.ctxOf, e1, e2, e3, e5, e6, decide_false, Bool.or_self, Bool.false_eq_true, if_false]
    exact Fin.ext (Nat.mod_eq_of_lt hk)
  have hal' : aliasAddr k off % 4 = 0 := by unfold aliasAddr; omega
  have hpres : s.present k (.glob off) = true := by simp [State.present, hm, hp]
  have hwg : s.writeGlob k off v = ⟨t, 0, none, []⟩ := by
    unfold State.keepsRoG at hr
    simp only [State.writeGlob, hr, hw, writeCause, Bool.false_and, Bool.false_eq_true, if_false]
  have hacc : s.access k (aliasAddr k off) false (some v) = ⟨t, 0, none, []⟩ := by
    simp only [State.access, hplace, hpres, Bool.not_true, Bool.false_eq_true, if_false, State.writePlace, hwg]
  unfold State.writeAlias State.writeAt State.request
  simp only [h1, Bool.not_true, h2, if_false, Bool.false_eq_true]
  simp only [haddr, hal', State.answer, hctx, hacc, hplace]
  rfl

/-- A register whose row has no sticky bits keeps what it reads when its sticky bits are written. -/
theorem RegRow.sticky_none (r : RegRow) (old v : Word) (h1 : r.w1c = 0) (h2 : r.rws = 0) : r.sticky old v = old := by
  have e : (4294967295#32) = BitVec.allOnes 32 := by decide
  simp only [RegRow.sticky, h1, h2, bitsOf]
  simp
  rw [e, BitVec.and_allOnes, BitVec.and_allOnes]

/-- An accepted write that waits: it joins the queue, after what it does on arrival. -/
theorem State.chanWrite_queues {s u : State} {ch : ChId} {off : Nat} {v : Word} {src : WriteSrc} {r : RegRow}
    (hrow : findRow chanRows off = some r) (hc : r.counter = false) (hrw : (r.rw = 0 ∧ r.rwl = 0 ∧ r.wo = 0) → False)
    (h1 : off < 0x3000) (hn : off ∉ [Reg.CH_MODE_REQ, Reg.PWM_TRIP, Reg.CH_SAFE_LATCH, Reg.ENG_CDAT, Reg.ENG_DDAT, Reg.PLL_CTL])
    (hst : s.stickyWrite ch r off v = u) (hlost : (u.chan ch).clockLost = false)
    (ha : s.arrivalCause ch off v = none) (hp : plainAtOnce off = false) (hk : capCtlOf off = none)
    (hs : ∀ i, sdiSlot off ≠ some (i, 0x14)) (hw : ((u.arrivalEffect ch off v).chan ch).ticking = true) :
    s.chanWrite ch off v src = ((u.arrivalEffect ch off v).onChan ch fun c =>
      { c with writes := c.writes ++ [(u.chan ch).arriving off v src none] }, .ok) := by
  simp only [List.mem_cons, not_or, List.not_mem_nil, not_false_eq_true, and_true] at hn
  obtain ⟨n1, n2, n3, n4, n5, n6⟩ := hn
  have hm : ¬ 0x3000 ≤ off := by omega
  have hq : ∀ (x : State) (w : ChanWrite), (x.chan ch).ticking = true → x.enqueueWrite ch w =
      x.onChan ch fun c => { c with writes := c.writes ++ [w] } := by
    intro x w hx
    unfold State.enqueueWrite
    have : (((x.onChan ch fun c => { c with writes := c.writes ++ [w] }).chan ch).ticking) = true := by
      have e : ((x.onChan ch fun c => { c with writes := c.writes ++ [w] }).chan ch).ticking =
        (x.chan ch).ticking := by simp [Chan.ticking, Chan.mode, Chan.faulted, Chan.bit, Chan.fld, Chan.get]
      rw [e, hx]
    simp only [this, Bool.not_true, Bool.and_false, Bool.false_eq_true, if_false]
  have hrw' : ¬ (r.rw = 0 && r.rwl = 0 && r.wo = 0) = true := by
    intro hh
    simp only [Bool.and_eq_true, decide_eq_true_eq] at hh
    exact hrw ⟨hh.1.1, hh.1.2, hh.2⟩
  have hb : (s.chan ch).blockShut off = false := by
    by_contra hne
    rw [Bool.not_eq_false] at hne
    simp [State.arrivalCause, hne] at ha
  simp only [State.chanWrite, n1, hm, hb, n2, n3, n4, n5, if_false, hrow, hc, Bool.false_eq_true, State.fieldWrite, ha, hst, hrw',
    hlost, State.takeWrite, hp, n6]
  congr 1
  rw [← hq _ _ hw, hk]
  split
  · rename_i h
    cases h
  · rename_i hi
    exact absurd hi (hs _)
  · rfl

/-- An accepted write that waits for its boundary, and does nothing else on its arrival (R10, R32). -/
theorem State.writeWindow_queues {s : State} {k : Ctx} {ch : ChId} {off : Nat} {v : Word} (h : s.reaches k ch)
    (hq : waitsForBoundary off = true) (ha : s.capAbsent k off = false) (hr : s.keepsRo k ch off v)
    (ht : (s.chan ch).ticking = true) (hl : (s.chan ch).clockLost = false) (hc : s.arrivalCause ch off v = none) :
    s.writeWindow k off v = (s.onChan ch fun c => { c with writes := c.writes ++ [⟨off, v, .host k, none, []⟩] }).answered := by
  unfold waitsForBoundary at hq
  cases hrow : findRow chanRows off with
  | none => rw [hrow] at hq; cases hq
  | some r =>
  rw [hrow] at hq
  simp only [Bool.and_eq_true, Bool.not_eq_true', decide_eq_true_eq, beq_iff_eq] at hq
  obtain ⟨⟨⟨⟨⟨⟨⟨⟨⟨⟨q1, q2⟩, q3⟩, q4⟩, q5⟩, q6⟩, q7⟩, q8⟩, q9⟩, q10⟩, q11⟩ := hq
  simp only [commandReg, Bool.or_eq_false_iff, decide_eq_false_iff_not] at q9
  simp only [List.contains_eq_mem, List.mem_cons, List.not_mem_nil, or_false, decide_eq_false_iff_not, not_or] at q11
  obtain ⟨m1, m2, m3, m4, m5, m6, m7, m8⟩ := q11
  simp only [isPort, Bool.or_eq_false_iff, decide_eq_false_iff_not] at q10
  obtain ⟨⟨p1, p2⟩, p3⟩ := q10
  have hst : s.stickyWrite ch r off v = s := by
    simp [State.stickyWrite, m8, q6, q7]
  have hu : s.arrivalEffect ch off v = s := by
    simp only [State.arrivalEffect, m5, decide_false, Bool.false_and, Bool.false_eq_true, if_false]
  have hv : (s.chan ch).arriving off v (.host k) none = ⟨off, v, .host k, none, []⟩ := by
    simp only [Chan.arriving, m6, m7, decide_false, Bool.false_and, Bool.false_eq_true, if_false]
  have hw := State.chanWrite_queues (src := .host k) hrow q4 (fun z => by simp [z.1, z.2.1] at q5) q3
    (by simp only [List.mem_cons, not_or, List.not_mem_nil, not_false_eq_true, and_true]; exact ⟨m1, m2, m3, p1, p2, m4⟩)
    hst hl hc q8 (Option.isNone_iff_eq_none.1 (by simpa using q9.2))
    (by
      intro i hi
      rw [hi] at p3
      simp at p3)
    (by rw [hu]; exact ht)
  rw [hu, hv] at hw
  exact State.writeWindow_ok h q2 (by omega) q1 (by simp [hrow]) ha hr hw

end Sys2Proof.Machine
end

