-- ==== Sys2Proof/Laws/Memory.lean ====
section
/-! SUPPORT. Laws/Memory.lean: the capture SRAM: what a word reads as after each operation over it, and that every one keeps
the canonical form. -/

namespace Sys2Proof.Machine

/-- Leaving entries out keeps the canonical form. -/
theorem swfFrom_filter {α : Type} [DecidableEq α] (d : Nat → α) (f : Nat × α → Bool) :
    ∀ (m : List (Nat × α)) (lo : Nat), swfFrom d lo m = true → swfFrom d lo (m.filter f) = true
  | [], _, _ => rfl
  | (k, v) :: t, lo, h => by
    simp only [swfFrom, Bool.and_eq_true, decide_eq_true_eq] at h
    have ih := swfFrom_filter d f t (k + 1) h.2
    rw [List.filter_cons]
    split
    · simp only [swfFrom, Bool.and_eq_true, decide_eq_true_eq]
      exact ⟨h.1, ih⟩
    · exact swfFrom_mono d (by omega) _ ih

/-- A word after another word is written. -/
theorem State.sramGet_sramSet (s : State) (a : Nat) (w : Word) (i : Nat) :
    (s.sramSet a w).sramGet i = if i = a then w else s.sramGet i := by
  simp [State.sramGet, State.sramSet]

/-- Writing a word keeps the canonical form. -/
theorem State.sramSet_swf (s : State) (a : Nat) (w : Word) (h : Memory.wf s.sram = true) :
    Memory.wf (s.sramSet a w).sram = true := swf_sset _ _ _ _ h

/-- Writing a run of words keeps the canonical form. -/
theorem State.sramPut_swf (s : State) (a : Nat) (ws : List Word) (h : Memory.wf s.sram = true) :
    Memory.wf (s.sramPut a ws).sram = true := swf_ssetMany _ _ _ _ h

/-- Clearing a set's histograms keeps the canonical form. -/
theorem State.capClearHist_swf (s : State) (ch : ChId) (k : SetId) (h : Memory.wf s.sram = true) :
    Memory.wf (s.capClearHist ch k).sram = true := swfFrom_filter _ _ _ _ h

/-- The capture SRAM is in its canonical form after reset. -/
theorem State.reset_swf : Memory.wf State.reset.sram = true := rfl

end Sys2Proof.Machine
end

