-- ==== Sys2Proof/Laws/PerInstr.lean ====
section
/-! SUPPORT. Laws/PerInstr.lean: the family Encoding, command by command: an instruction that has a program word is what an
engine decodes from it (R119, R120); the other commands have none. -/

namespace Sys2Proof.Laws.Encoding

/-- The fields of a word of fields. -/
theorem ofWord_word (f : WordFields) : WordFields.ofWord f.word = f := by
  obtain ⟨op, d, a, b, ac, rm, e, cc, k, m, lo⟩ := f
  simp only [WordFields.ofWord, WordFields.word, WordFields.mk.injEq]
  refine ⟨?_, ?_, ?_, ?_, ?_, ?_, ?_, ?_, ?_, ?_, ?_⟩ <;>
  · ext i hi
    simp only [BitVec.getElem_extractLsb', BitVec.getLsbD_append]
    repeat (first | rw [if_pos (by omega)] | rw [if_neg (by omega)])
    rw [← BitVec.getLsbD_eq_getElem]
    congr 1
    omega

/-- The register that a register's field names. -/
@[simp] theorem fieldReg_regField (r : VReg) : fieldReg (regField r) = r := by
  apply Fin.ext
  simp [fieldReg, regField]

@[simp] theorem op_withTgt (f : WordFields) (t : BitVec 12) : (f.withTgt t).op = f.op := rfl
@[simp] theorem cc_withTgt (f : WordFields) (t : BitVec 12) : (f.withTgt t).cc = f.cc := rfl
@[simp] theorem k_withTgt (f : WordFields) (t : BitVec 12) : (f.withTgt t).k = f.k := rfl
@[simp] theorem op_withImm (f : WordFields) (x : Word) : (f.withImm x).op = f.op := rfl
@[simp] theorem d_withImm (f : WordFields) (x : Word) : (f.withImm x).d = f.d := rfl

/-- TGT of fields that were given it. -/
@[simp] theorem tgt_withTgt (f : WordFields) (t : BitVec 12) : (f.withTgt t).tgt = t := by
  unfold WordFields.tgt WordFields.withTgt
  apply BitVec.eq_of_getLsbD_eq
  intro i hi
  simp only [BitVec.getLsbD_append, BitVec.getLsbD_extractLsb', BitVec.getLsbD_setWidth]
  by_cases h : i < 10
  · simp [h]
  · have h1 : i - 10 < 2 := by omega
    have h2 : 10 + (i - 10) = i := by omega
    have h3 : i - 10 < 11 := by omega
    simp [h, h1, h2, h3]

/-- IMM of fields that were given it. -/
@[simp] theorem imm_withImm (f : WordFields) (x : Word) : (f.withImm x).imm = x := by
  unfold WordFields.imm WordFields.withImm
  apply BitVec.eq_of_getLsbD_eq
  intro i hi
  simp only [BitVec.getLsbD_append, BitVec.getLsbD_extractLsb', BitVec.getLsbD_setWidth]
  by_cases h : i < 10
  · simp [h]
  · by_cases g : i - 10 < 11
    · have h2 : 10 + (i - 10) = i := by omega
      simp [h, g, h2]
    · by_cases k : i - 10 - 11 < 10
      · have h2 : 21 + (i - 10 - 11) = i := by omega
        simp [h, g, k, h2]
      · have h2 : i = 31 := by omega
        subst h2
        simp

/-- What is claimed of an instruction: it is what some engine decodes from its program word. -/
def Statement (i : Instr) : Prop := ∀ w, encodeEngine i = some w → ∃ x, decodeEngine x w = some i

/-- The bit of IMM that lies in CC leaves the rest of CC 0. -/
theorem imm_top (b : BitVec 1) : b.setWidth 4 &&& 0xE = 0 := by
  revert b
  decide

/-- The bits of TGT that lie in M leave the rest of M 0. -/
theorem tgt_top (b : BitVec 2) : b.setWidth 11 &&& 0x7FC = 0 := by
  revert b
  decide

/-- An instruction that its fields, which keep to their format, give back. -/
theorem of_fields {i : Instr} {f : WordFields} (x : Site) (h : i.fields = some f) (hk : f.formatOk = true)
    (hi : instrOf x f = some i) : Statement i := by
  intro w hw
  refine ⟨x, ?_⟩
  have e : w = f.word := by
    rw [encodeEngine, h] at hw
    exact (Option.some.inj hw).symm
  subst e
  simp only [decodeEngine, ofWord_word, hi, hk, if_true]

/-- A command without a program word. -/
theorem of_none {i : Instr} (h : i.fields = none) : Statement i := by
  intro w hw
  rw [encodeEngine, h] at hw
  cases hw

theorem tickBoundary (ch : ChId) (env : TickEnv) : Statement (.tickBoundary ch env) := of_none rfl

theorem carrierUpdatePoint (ch : ChId) : Statement (.carrierUpdatePoint ch) := of_none rfl

theorem refreshInsert (ch : ChId) (sw : Fin 12) : Statement (.refreshInsert ch sw) := of_none rfl

theorem tickOverrun (ch : ChId) (cause : OvrCause) : Statement (.tickOverrun ch cause) := of_none rfl

theorem lockstepMismatch (ch : ChId) (eng : Eng) (pc : BitVec 12) (cls : BitVec 8) : Statement (.lockstepMismatch ch eng pc cls) := of_none rfl

theorem uncorrectableEcc (ch : ChId) (eng : Eng) (mem : EngMem) (addr : BitVec 16) (byScrubber : Bool) : Statement (.uncorrectableEcc ch eng mem addr byScrubber) := of_none rfl

theorem fabricParityError (ch : ChId) (word : BitVec 64) : Statement (.fabricParityError ch word) := of_none rfl

theorem mirrorFrameSend (ch : ChId) (txOfs : BitVec 18) : Statement (.mirrorFrameSend ch txOfs) := of_none rfl

theorem nop (at_ : Site) (cc : BitVec 4) : Statement (.nop at_ cc) :=
  of_fields at_ rfl rfl (by simp [instrOf, opWord])

theorem ldi (at_ : Site) (d : VReg) (imm : Word) : Statement (.ldi at_ d imm) :=
  of_fields at_ rfl (by simp [WordFields.formatOk, opWord, WordFields.withImm]; exact decide_eq_true (imm_top _)) (by simp [instrOf, opWord])

theorem mov (at_ : Site) (cc : BitVec 4) (d a : VReg) : Statement (.mov at_ cc d a) :=
  of_fields at_ rfl rfl (by simp [instrOf, opWord])

theorem ld (at_ : Site) (cc : BitVec 4) (d : VReg) (m : BitVec 11) : Statement (.ld at_ cc d m) :=
  of_fields at_ rfl rfl (by simp [instrOf, opWord])

theorem ldx (at_ : Site) (cc : BitVec 4) (d a : VReg) (m : BitVec 11) : Statement (.ldx at_ cc d a m) :=
  of_fields at_ rfl rfl (by simp [instrOf, opWord])

theorem st (at_ : Site) (cc : BitVec 4) (a : VReg) (m : BitVec 11) : Statement (.st at_ cc a m) :=
  of_fields at_ rfl rfl (by simp [instrOf, opWord])

theorem stx (at_ : Site) (cc : BitVec 4) (a b : VReg) (m : BitVec 11) : Statement (.stx at_ cc a b m) :=
  of_fields at_ rfl rfl (by simp [instrOf, opWord])

theorem inPort (at_ : Site) (cc : BitVec 4) (d : VReg) (m : BitVec 11) : Statement (.inPort at_ cc d m) :=
  of_fields at_ rfl rfl (by simp [instrOf, opWord])

theorem mailboxWaitEnd (at_ : Site) : Statement (.mailboxWaitEnd at_) := of_none rfl

theorem outPort (at_ : Site) (cc : BitVec 4) (a b : VReg) (m : BitVec 11) : Statement (.outPort at_ cc a b m) :=
  of_fields at_ rfl rfl (by simp [instrOf, opWord])

theorem pub (at_ : Site) (cc : BitVec 4) (a b : VReg) (m : BitVec 11) : Statement (.pub at_ cc a b m) :=
  of_fields at_ rfl rfl (by simp [instrOf, opWord])

theorem ldc (at_ : Site) (cc : BitVec 4) (d : VReg) (k : BitVec 10) : Statement (.ldc at_ cc d k) :=
  of_fields at_ rfl rfl (by simp [instrOf, opWord])

theorem sel (at_ : Site) (cc : BitVec 4) (d a b : VReg) : Statement (.sel at_ cc d a b) :=
  of_fields at_ rfl rfl (by simp [instrOf, opWord])

theorem add (at_ : Site) (cc : BitVec 4) (rm : BitVec 2) (d a b : VReg) : Statement (.add at_ cc rm d a b) :=
  of_fields at_ rfl rfl (by simp [instrOf, opWord])

theorem sub (at_ : Site) (cc : BitVec 4) (rm : BitVec 2) (d a b : VReg) : Statement (.sub at_ cc rm d a b) :=
  of_fields at_ rfl rfl (by simp [instrOf, opWord])

theorem neg (at_ : Site) (cc : BitVec 4) (rm : BitVec 2) (d a : VReg) : Statement (.neg at_ cc rm d a) :=
  of_fields at_ rfl rfl (by simp [instrOf, opWord])

theorem abs (at_ : Site) (cc : BitVec 4) (rm : BitVec 2) (d a : VReg) : Statement (.abs at_ cc rm d a) :=
  of_fields at_ rfl rfl (by simp [instrOf, opWord])

theorem min (at_ : Site) (cc : BitVec 4) (d a b : VReg) : Statement (.min at_ cc d a b) :=
  of_fields at_ rfl rfl (by simp [instrOf, opWord])

theorem max (at_ : Site) (cc : BitVec 4) (d a b : VReg) : Statement (.max at_ cc d a b) :=
  of_fields at_ rfl rfl (by simp [instrOf, opWord])

theorem cmp (at_ : Site) (cc : BitVec 4) (a b : VReg) : Statement (.cmp at_ cc a b) :=
  of_fields at_ rfl rfl (by simp [instrOf, opWord])

theorem and (at_ : Site) (cc : BitVec 4) (d a b : VReg) : Statement (.and at_ cc d a b) :=
  of_fields at_ rfl rfl (by simp [instrOf, opWord])

theorem or (at_ : Site) (cc : BitVec 4) (d a b : VReg) : Statement (.or at_ cc d a b) :=
  of_fields at_ rfl rfl (by simp [instrOf, opWord])

theorem xor (at_ : Site) (cc : BitVec 4) (d a b : VReg) : Statement (.xor at_ cc d a b) :=
  of_fields at_ rfl rfl (by simp [instrOf, opWord])

theorem ash (at_ : Site) (cc : BitVec 4) (rm : BitVec 2) (e : BitVec 5) (d a : VReg) : Statement (.ash at_ cc rm e d a) :=
  of_fields at_ rfl rfl (by simp [instrOf, opWord])

theorem lsh (at_ : Site) (cc : BitVec 4) (e : BitVec 5) (d a : VReg) : Statement (.lsh at_ cc e d a) :=
  of_fields at_ rfl rfl (by simp [instrOf, opWord])

theorem mul (at_ : Site) (cc : BitVec 4) (rm : BitVec 2) (d a : VReg) (k : BitVec 10) : Statement (.mul at_ cc rm d a k) :=
  of_fields at_ rfl rfl (by simp [instrOf, opWord])

theorem mulv (at_ : Site) (cc : BitVec 4) (rm : BitVec 2) (e : BitVec 5) (d a b : VReg) : Statement (.mulv at_ cc rm e d a b) :=
  of_fields at_ rfl rfl (by simp [instrOf, opWord])

theorem clr (at_ : Site) (cc : BitVec 4) (ac : Bool) : Statement (.clr at_ cc ac) :=
  of_fields at_ rfl rfl (by simp [instrOf, opWord])

theorem lda (at_ : Site) (cc : BitVec 4) (ac : Bool) (a : VReg) : Statement (.lda at_ cc ac a) :=
  of_fields at_ rfl rfl (by simp [instrOf, opWord])

theorem mac (at_ : Site) (cc : BitVec 4) (ac : Bool) (a : VReg) (k : BitVec 10) : Statement (.mac at_ cc ac a k) :=
  of_fields at_ rfl rfl (by simp [instrOf, opWord])

theorem msu (at_ : Site) (cc : BitVec 4) (ac : Bool) (a : VReg) (k : BitVec 10) : Statement (.msu at_ cc ac a k) :=
  of_fields at_ rfl rfl (by simp [instrOf, opWord])

theorem dmac (at_ : Site) (cc : BitVec 4) (ac : Bool) (a b : VReg) (k : BitVec 10) : Statement (.dmac at_ cc ac a b k) :=
  of_fields at_ rfl rfl (by simp [instrOf, opWord])

theorem pmac (at_ : Site) (cc : BitVec 4) (a b : VReg) (k : BitVec 10) : Statement (.pmac at_ cc a b k) :=
  of_fields at_ rfl rfl (by simp [instrOf, opWord])

theorem macv (at_ : Site) (cc : BitVec 4) (rm : BitVec 2) (ac : Bool) (a b : VReg) : Statement (.macv at_ cc rm ac a b) :=
  of_fields at_ rfl rfl (by simp [instrOf, opWord])

theorem ext (at_ : Site) (cc : BitVec 4) (rm : BitVec 2) (e : BitVec 5) (ac : Bool) (d : VReg) : Statement (.ext at_ cc rm e ac d) :=
  of_fields at_ rfl rfl (by simp [instrOf, opWord])

theorem div (at_ : Site) (cc : BitVec 4) (rm : BitVec 2) (e : BitVec 5) (d a b : VReg) : Statement (.div at_ cc rm e d a b) :=
  of_fields at_ rfl rfl (by simp [instrOf, opWord])

theorem sqrt (at_ : Site) (cc : BitVec 4) (rm : BitVec 2) (e : BitVec 5) (d a : VReg) : Statement (.sqrt at_ cc rm e d a) :=
  of_fields at_ rfl rfl (by simp [instrOf, opWord])

theorem br (at_ : Site) (cc : BitVec 4) (tgt : BitVec 12) : Statement (.br at_ cc tgt) :=
  of_fields at_ rfl (by simp [WordFields.formatOk, opWord, WordFields.withTgt]; exact decide_eq_true (tgt_top _)) (by simp [instrOf, opWord])

theorem call (at_ : Site) (tgt : BitVec 12) : Statement (.call at_ tgt) :=
  of_fields at_ rfl (by simp [WordFields.formatOk, opWord, WordFields.withTgt]; exact decide_eq_true (tgt_top _)) (by simp [instrOf, opWord])

theorem ret (at_ : Site) (cc : BitVec 4) : Statement (.ret at_ cc) :=
  of_fields at_ rfl rfl (by simp [instrOf, opWord])

theorem loop (at_ : Site) (count : BitVec 10) (tgt : BitVec 12) : Statement (.loop at_ count tgt) :=
  of_fields at_ rfl (by simp [WordFields.formatOk, opWord, WordFields.withTgt]; exact decide_eq_true (tgt_top _)) (by simp [instrOf, opWord])

theorem tend (at_ : Site) (cc : BitVec 4) : Statement (.tend at_ cc) :=
  of_fields at_ rfl rfl (by simp [instrOf, opWord])

theorem reservedOpcode (at_ : Site) (op : BitVec 6) : Statement (.reservedOpcode at_ op) := of_none rfl

theorem firOutput (ch : ChId) (i : InId) (bits : List Bool) (age : BitVec 16) : Statement (.firOutput ch i bits age) := of_none rfl

theorem chainOutput (ch : ChId) (i : InId) (age : BitVec 16) : Statement (.chainOutput ch i age) := of_none rfl

theorem substituteWord (ch : ChId) (i : InId) : Statement (.substituteWord ch i) := of_none rfl

theorem mclkLoss (ch : ChId) (i : InId) : Statement (.mclkLoss ch i) := of_none rfl

theorem clockRecovery (ch : ChId) (i : InId) : Statement (.clockRecovery ch i) := of_none rfl

theorem fastPathFillEnd (ch : ChId) (i : InId) (bits : List Bool) : Statement (.fastPathFillEnd ch i bits) := of_none rfl

theorem fastComparatorChange (ch : ChId) (i : InId) (bits : List Bool) : Statement (.fastComparatorChange ch i bits) := of_none rfl

theorem skarm (ctx : Ctx) (v : Word) : Statement (.skarm ctx v) := of_none rfl

theorem skewCrossing (ch : ChId) (i : InId) (at_ : BitVec 20) (bits : List Bool) (below above : BitVec 16) : Statement (.skewCrossing ch i at_ bits below above) := of_none rfl

theorem skewWindowExpiry (ch : ChId) (i : InId) : Statement (.skewWindowExpiry ch i) := of_none rfl

theorem firCdatWrite (ctx : Ctx) (i : InId) (v : Word) : Statement (.firCdatWrite ctx i v) := of_none rfl

theorem firXfGo (ctx : Ctx) (i : InId) (v : Word) : Statement (.firXfGo ctx i v) := of_none rfl

theorem firBankWrite (ctx : Ctx) (i : InId) (v : Word) : Statement (.firBankWrite ctx i v) := of_none rfl

theorem dcbEstWrite (ctx : Ctx) (i : InId) (v : Word) : Statement (.dcbEstWrite ctx i v) := of_none rfl

theorem sdiTrimWrite (ctx : Ctx) (i : InId) (v : Word) : Statement (.sdiTrimWrite ctx i v) := of_none rfl

theorem sdiSrcWrite (ctx : Ctx) (i : InId) (v : Word) : Statement (.sdiSrcWrite ctx i v) := of_none rfl

theorem engCdatWrite (ctx : Ctx) (v : Word) : Statement (.engCdatWrite ctx v) := of_none rfl

theorem engDdatWrite (ctx : Ctx) (v : Word) : Statement (.engDdatWrite ctx v) := of_none rfl

theorem engDdatRead (ctx : Ctx) : Statement (.engDdatRead ctx) := of_none rfl

theorem engDdatReadServe (ctx : Ctx) : Statement (.engDdatReadServe ctx) := of_none rfl

theorem lawParamWrite (ctx : Ctx) (off : BitVec 14) (v : Word) : Statement (.lawParamWrite ctx off v) := of_none rfl

theorem measLost (ch : ChId) (slot : BitVec 6) : Statement (.measLost ch slot) := of_none rfl

theorem limRelease (ch : ChId) : Statement (.limRelease ch) := of_none rfl

theorem modeRequest (ctx : Ctx) (v : Word) : Statement (.modeRequest ctx v) := of_none rfl

theorem safeLatchClear (ctx : Ctx) (v : Word) : Statement (.safeLatchClear ctx v) := of_none rfl

theorem preDone (ch : ChId) : Statement (.preDone ch) := of_none rfl

theorem prechargeTimeout (ch : ChId) : Statement (.prechargeTimeout ch) := of_none rfl

theorem deadBusTimeout (ch : ChId) : Statement (.deadBusTimeout ch) := of_none rfl

theorem busFoundLive (ch : ChId) : Statement (.busFoundLive ch) := of_none rfl

theorem bsDone (ch : ChId) : Statement (.bsDone ch) := of_none rfl

theorem rsyMatchComplete (ch : ChId) : Statement (.rsyMatchComplete ch) := of_none rfl

theorem resyncTimeout (ch : ChId) : Statement (.resyncTimeout ch) := of_none rfl

theorem rideReturn (ch : ChId) : Statement (.rideReturn ch) := of_none rfl

theorem rideTimeout (ch : ChId) : Statement (.rideTimeout ch) := of_none rfl

theorem handoverBlendEnd (ch : ChId) : Statement (.handoverBlendEnd ch) := of_none rfl

theorem packChip (ch : ChId) (mean : Word) : Statement (.packChip ch mean) := of_none rfl

theorem packCodePeriod (ch : ChId) : Statement (.packCodePeriod ch) := of_none rfl

theorem fingerAcquired (ch : ChId) (f : Fin 64) : Statement (.fingerAcquired ch f) := of_none rfl

theorem fingerLost (ch : ChId) (f : Fin 64) : Statement (.fingerLost ch f) := of_none rfl

theorem packFrameReceived (ch : ChId) (f : Fin 64) : Statement (.packFrameReceived ch f) := of_none rfl

theorem packFrameEnd (ch : ChId) : Statement (.packFrameEnd ch) := of_none rfl

theorem packDuplicate (ch : ChId) : Statement (.packDuplicate ch) := of_none rfl

theorem packBackoffEnd (ch : ChId) : Statement (.packBackoffEnd ch) := of_none rfl

theorem stiffSet (ch : ChId) : Statement (.stiffSet ch) := of_none rfl

theorem stiffClear (ch : ChId) : Statement (.stiffClear ch) := of_none rfl

theorem packEnable (ctx : Ctx) (v : Word) : Statement (.packEnable ctx v) := of_none rfl

theorem packDisable (ctx : Ctx) (v : Word) : Statement (.packDisable ctx v) := of_none rfl

theorem packPselWrite (ctx : Ctx) (v : Word) : Statement (.packPselWrite ctx v) := of_none rfl

theorem driverFaultFiltered (ch : ChId) (pad : Fin 12) (asserted : Bool) : Statement (.driverFaultFiltered ch pad asserted) := of_none rfl

theorem blankingEnd (ch : ChId) (pad : Fin 12) : Statement (.blankingEnd ch pad) := of_none rfl

theorem tsoftExpiry (ch : ChId) (pad : Fin 12) : Statement (.tsoftExpiry ch pad) := of_none rfl

theorem toffExpiry (ch : ChId) : Statement (.toffExpiry ch) := of_none rfl

theorem tordExpiry (ch : ChId) (leg : Option (Fin 3)) : Statement (.tordExpiry ch leg) := of_none rfl

theorem desatWindowClose (ch : ChId) : Statement (.desatWindowClose ch) := of_none rfl

theorem legFaultRelease (ch : ChId) (leg : Fin 3) : Statement (.legFaultRelease ch leg) := of_none rfl

theorem legOffTimeout (ch : ChId) (leg : Fin 3) : Statement (.legOffTimeout ch leg) := of_none rfl

theorem tripClear (ctx : Ctx) (v : Word) : Statement (.tripClear ctx v) := of_none rfl

theorem brakeMinTimeExpiry (ch : ChId) : Statement (.brakeMinTimeExpiry ch) := of_none rfl

theorem calFail (ch : ChId) : Statement (.calFail ch) := of_none rfl

theorem refActivityWindow (ref : RefId) (kHz : Nat) : Statement (.refActivityWindow ref kHz) := of_none rfl

theorem refMismatchWindow (bEdges : Nat) : Statement (.refMismatchWindow bEdges) := of_none rfl

theorem refEdgeMissing (ch : ChId) (further : Bool) : Statement (.refEdgeMissing ch further) := of_none rfl

theorem bandSearchEnd (ch : ChId) (band : BitVec 4) : Statement (.bandSearchEnd ch band) := of_none rfl

theorem lockWindow (ch : ChId) (count since : Nat) : Statement (.lockWindow ch count since) := of_none rfl

theorem lockTimeout (ch : ChId) : Statement (.lockTimeout ch) := of_none rfl

theorem ceilingGuard (ch : ChId) (what : CeilObs) : Statement (.ceilingGuard ch what) := of_none rfl

theorem channelStart (ch : ChId) : Statement (.channelStart ch) := of_none rfl

theorem pllRelock (ctx : Ctx) (v : Word) : Statement (.pllRelock ctx v) := of_none rfl

theorem pllRampGo (ctx : Ctx) (v : Word) : Statement (.pllRampGo ctx v) := of_none rfl

theorem pllRampHold (ctx : Ctx) (v : Word) : Statement (.pllRampHold ctx v) := of_none rfl

theorem pllLevel (ctx : Ctx) (v : Word) : Statement (.pllLevel ctx v) := of_none rfl

theorem rampSegmentEnd (ch : ChId) (since : Nat) : Statement (.rampSegmentEnd ch since) := of_none rfl

theorem hostPllLock : Statement .hostPllLock := of_none rfl

theorem hostPllLoss : Statement .hostPllLoss := of_none rfl

theorem linkTrainingEnd (rsp : TrainObs) : Statement (.linkTrainingEnd rsp) := of_none rfl

theorem retrain (ctx : Ctx) (v : Word) : Statement (.retrain ctx v) := of_none rfl

theorem linkDown (rxDir : Bool) (lane : Bool) : Statement (.linkDown rxDir lane) := of_none rfl

theorem mirrorFrameReceive (frame : List Word) (since : Nat) : Statement (.mirrorFrameReceive frame since) := of_none rfl

theorem heartbeatSend : Statement .heartbeatSend := of_none rfl

theorem heartbeatReceive (packet : List Word) : Statement (.heartbeatReceive packet) := of_none rfl

theorem heartbeatTimeout : Statement .heartbeatTimeout := of_none rfl

theorem leashToggle (ch : ChId) : Statement (.leashToggle ch) := of_none rfl

theorem leashStateChange (ch : ChId) (samples : List (Bool × Bool)) : Statement (.leashStateChange ch samples) := of_none rfl

theorem leashReadbackFault (ch : ChId) (what : ReadbackObs) : Statement (.leashReadbackFault ch what) := of_none rfl

theorem leashClaim (ctx : Ctx) (v : Word) : Statement (.leashClaim ctx v) := of_none rfl

theorem leashRelease (ctx : Ctx) (v : Word) : Statement (.leashRelease ctx v) := of_none rfl

theorem releaseGuardExpiry (ch : ChId) : Statement (.releaseGuardExpiry ch) := of_none rfl

theorem alignLocked (ch : ChId) : Statement (.alignLocked ch) := of_none rfl

theorem alignUnlocked (ch : ChId) : Statement (.alignUnlocked ch) := of_none rfl

theorem houndTestEnd (ch : ChId) (test : HoundTest) (ok : Bool) : Statement (.houndTestEnd ch test ok) := of_none rfl

theorem houndHealthReport : Statement .houndHealthReport := of_none rfl

theorem testEnd (ch : ChId) : Statement (.testEnd ch) := of_none rfl

theorem safetyStrobe (env : StrobeEnv) : Statement (.safetyStrobe env) := of_none rfl

theorem discrepancyLatch (ch : ChId) : Statement (.discrepancyLatch ch) := of_none rfl

theorem contactorSettleEnd (ch : ChId) (k2 : Bool) : Statement (.contactorSettleEnd ch k2) := of_none rfl

theorem contactorDebounceEnd (ch : ChId) (k2 : Bool) : Statement (.contactorDebounceEnd ch k2) := of_none rfl

theorem safetyFrameSubmit (ctx : Ctx) (v : Word) : Statement (.safetyFrameSubmit ctx v) := of_none rfl

theorem bcWatchdogExpiry : Statement .bcWatchdogExpiry := of_none rfl

theorem safetyFramePublish : Statement .safetyFramePublish := of_none rfl

theorem safTxf0Read (ctx : Ctx) : Statement (.safTxf0Read ctx) := of_none rfl

theorem safetyParamWrite (ctx : Ctx) (reg : SafParam) (v : Word) : Statement (.safetyParamWrite ctx reg v) := of_none rfl

theorem safetyCheckDone (a b : Option Word) : Statement (.safetyCheckDone a b) := of_none rfl

theorem safetyConfirm (ctx : Ctx) (v : Word) : Statement (.safetyConfirm ctx v) := of_none rfl

theorem ackDisc (ctx : Ctx) : Statement (.ackDisc ctx) := of_none rfl

theorem ackCont (ctx : Ctx) : Statement (.ackCont ctx) := of_none rfl

theorem ginhSet (src : Accessor) : Statement (.ginhSet src) := of_none rfl

theorem ginhClr (src : Accessor) (key : BitVec 16) : Statement (.ginhClr src key) := of_none rfl

theorem snSet (src : Accessor) : Statement (.snSet src) := of_none rfl

theorem snClr (src : Accessor) (key : BitVec 16) : Statement (.snClr src key) := of_none rfl

theorem krst (src : Accessor) (key : BitVec 16) : Statement (.krst src key) := of_none rfl

theorem knlInhWrite (src : Accessor) (v : Word) : Statement (.knlInhWrite src v) := of_none rfl

theorem hostWatchdogEnable (src : Accessor) (v : Word) : Statement (.hostWatchdogEnable src v) := of_none rfl

theorem hostWatchdogKick (src : Accessor) (v : Word) : Statement (.hostWatchdogKick src v) := of_none rfl

theorem hostWatchdogExpiry : Statement .hostWatchdogExpiry := of_none rfl

theorem safetySlotExpiry (aMissing bMissing : Bool) : Statement (.safetySlotExpiry aMissing bMissing) := of_none rfl

theorem supplyGiveUp (inWindow : BitVec 4) : Statement (.supplyGiveUp inWindow) := of_none rfl

theorem kennelPowerOn (retainedOk : Bool) : Statement (.kennelPowerOn retainedOk) := of_none rfl

theorem resetRelease (hostMode prio : Bool) : Statement (.resetRelease hostMode prio) := of_none rfl

theorem padRelease : Statement .padRelease := of_none rfl

theorem lastWordCommit (src : Accessor) (v : Word) : Statement (.lastWordCommit src v) := of_none rfl

theorem lastWordSelect (src : Accessor) (v : Word) : Statement (.lastWordSelect src v) := of_none rfl

theorem kennelPortWrite (bytes : List Byte) : Statement (.kennelPortWrite bytes) := of_none rfl

theorem kennelPortRead (pointer : Byte) : Statement (.kennelPortRead pointer) := of_none rfl

theorem kennelPortTimeout : Statement .kennelPortTimeout := of_none rfl

theorem capArm (ctx : Ctx) (set : Fin 4) (v : Word) : Statement (.capArm ctx set v) := of_none rfl

theorem capDisarm (ctx : Ctx) (set : Fin 4) (v : Word) : Statement (.capDisarm ctx set v) := of_none rfl

theorem capForce (ctx : Ctx) (set : Fin 4) (v : Word) : Statement (.capForce ctx set v) := of_none rfl

theorem capGlobalForce (ctx : Ctx) (v : Word) : Statement (.capGlobalForce ctx v) := of_none rfl

theorem capHclr (ctx : Ctx) (set : Fin 4) (v : Word) : Statement (.capHclr ctx set v) := of_none rfl

theorem capAck (ctx : Ctx) (set : Fin 4) (v : Word) : Statement (.capAck ctx set v) := of_none rfl

theorem captureBaseSample (ch : ChId) (set : Fin 4) : Statement (.captureBaseSample ch set) := of_none rfl

theorem holdoffEnd (ch : ChId) (set : Fin 4) : Statement (.holdoffEnd ch set) := of_none rfl

theorem postprocDone (ch : ChId) (set : Fin 4) : Statement (.postprocDone ch set) := of_none rfl

theorem captureDmaGo (ctx : Ctx) (v : Word) : Statement (.captureDmaGo ctx v) := of_none rfl

theorem captureDmaDone (err : DmaEnd) : Statement (.captureDmaDone err) := of_none rfl

theorem captureEccAbort (ch : ChId) (set : Fin 4) (reader : Fin 4) (addr : Word) : Statement (.captureEccAbort ch set reader addr) := of_none rfl

theorem recordRequest (req : RecReq) : Statement (.recordRequest req) := of_none rfl

theorem recordWrite : Statement .recordWrite := of_none rfl

theorem recordCloseTimeout : Statement .recordCloseTimeout := of_none rfl

theorem recorderStartSearchEnd (storeOk : Bool) : Statement (.recorderStartSearchEnd storeOk) := of_none rfl

theorem recRptrWrite (ctx : Ctx) (v : Word) : Statement (.recRptrWrite ctx v) := of_none rfl

theorem storeFetchDone : Statement .storeFetchDone := of_none rfl

theorem persistBatchStart (byTime : Bool) (failing : Option (Fin 8192)) : Statement (.persistBatchStart byTime failing) := of_none rfl

theorem persistBatchCommit (retries : Nat) : Statement (.persistBatchCommit retries) := of_none rfl

theorem storeFail (cause : BitVec 8) (slot : BitVec 24) : Statement (.storeFail cause slot) := of_none rfl

theorem storeRetry (ctx : Ctx) (v : Word) : Statement (.storeRetry ctx v) := of_none rfl

theorem storeProbeDone (ok : Bool) : Statement (.storeProbeDone ok) := of_none rfl

theorem calSet (ctx : Ctx) (v : Word) : Statement (.calSet ctx v) := of_none rfl

theorem calSetpps (ctx : Ctx) (v : Word) : Statement (.calSetpps ctx v) := of_none rfl

theorem setppsTimeout : Statement .setppsTimeout := of_none rfl

theorem ppsEdge : Statement .ppsEdge := of_none rfl

theorem ppsLost : Statement .ppsLost := of_none rfl

theorem dieSensorConversion (n : Fin 16) (reading : BitVec 12) : Statement (.dieSensorConversion n reading) := of_none rfl

theorem throttleWindow (runPart : Bool) : Statement (.throttleWindow runPart) := of_none rfl

theorem chselWrite (ctx : Ctx) (v : Word) : Statement (.chselWrite ctx v) := of_none rfl

theorem counterLowRead (ctx : Ctx) (addr : BitVec 18) : Statement (.counterLowRead ctx addr) := of_none rfl

theorem qspiFrame (frame : QspiFrame) : Statement (.qspiFrame frame) := of_none rfl

theorem hostReset (kind : HostResetKind) : Statement (.hostReset kind) := of_none rfl

theorem intMaskWrite (ctx : Ctx) (v : Word) : Statement (.intMaskWrite ctx v) := of_none rfl

theorem groupOpen (ctx : Ctx) (v : Word) : Statement (.groupOpen ctx v) := of_none rfl

theorem groupAbort (ctx : Ctx) (v : Word) : Statement (.groupAbort ctx v) := of_none rfl

theorem groupStagedWrite (ctx : Ctx) (off : BitVec 14) (v : Word) : Statement (.groupStagedWrite ctx off v) := of_none rfl

theorem groupGo (ctx : Ctx) (v : Word) : Statement (.groupGo ctx v) := of_none rfl

theorem groupDone : Statement .groupDone := of_none rfl

theorem mirrorWriteReceive (pkt : MirWrite) : Statement (.mirrorWriteReceive pkt) := of_none rfl

theorem mirrorWriteAnswer (seq : Nat) (ok : Bool) (reason : BitVec 8) : Statement (.mirrorWriteAnswer seq ok reason) := of_none rfl

theorem mirrorWriteTimeout (seq : Nat) : Statement (.mirrorWriteTimeout seq) := of_none rfl

theorem mirrorResync (ctx : Ctx) (v : Word) : Statement (.mirrorResync ctx v) := of_none rfl

theorem registerWrite (acc : HostAccess) (v : Word) : Statement (.registerWrite acc v) := of_none rfl

theorem stage (ctx : Ctx) (v : Word) : Statement (.stage ctx v) := of_none rfl

theorem stageFlash (ctx : Ctx) (v : Word) : Statement (.stageFlash ctx v) := of_none rfl

theorem loadFull (ctx : Ctx) (v : Word) : Statement (.loadFull ctx v) := of_none rfl

theorem updOpen (ctx : Ctx) (v : Word) : Statement (.updOpen ctx v) := of_none rfl

theorem updCommit (ctx : Ctx) (v : Word) : Statement (.updCommit ctx v) := of_none rfl

theorem imgAbort (ctx : Ctx) (v : Word) : Statement (.imgAbort ctx v) := of_none rfl

theorem imgDataWrite (ctx : Ctx) (v : Word) : Statement (.imgDataWrite ctx v) := of_none rfl

theorem imageVerifyDone (found : ImageObs) : Statement (.imageVerifyDone found) := of_none rfl

theorem flashOpDone (ok : Bool) : Statement (.flashOpDone ok) := of_none rfl

theorem repairLoadEnd (ch : ChId) (res : LoadObs) : Statement (.repairLoadEnd ch res) := of_none rfl

theorem fuseProg (ctx : Ctx) (v : Word) : Statement (.fuseProg ctx v) := of_none rfl

theorem fuseRevoke (ctx : Ctx) (v : Word) : Statement (.fuseRevoke ctx v) := of_none rfl

theorem fuseOpDone : Statement .fuseOpDone := of_none rfl

theorem paramSave (ctx : Ctx) (v : Word) : Statement (.paramSave ctx v) := of_none rfl

theorem paramSaveDone (res : SaveObs) : Statement (.paramSaveDone res) := of_none rfl

theorem channelReset (ctx : Ctx) (v : Word) : Statement (.channelReset ctx v) := of_none rfl

theorem hostRead (acc : HostAccess) : Statement (.hostRead acc) := of_none rfl

theorem voltageClassLatch (bank : Fin 15) (milliVolt : Nat) : Statement (.voltageClassLatch bank milliVolt) := of_none rfl

theorem refIntervalFail (ref : RefId) : Statement (.refIntervalFail ref) := of_none rfl

theorem claimCheckEnd (ch : ChId) : Statement (.claimCheckEnd ch) := of_none rfl

theorem d3hotTransition (enter : Bool) : Statement (.d3hotTransition enter) := of_none rfl

theorem pcieLinkTrainingEnd (gen width : BitVec 2) : Statement (.pcieLinkTrainingEnd gen width) := of_none rfl

theorem testReset (level : Bool) : Statement (.testReset level) := of_none rfl

theorem vbatKnlChange (ok : Bool) : Statement (.vbatKnlChange ok) := of_none rfl

theorem supplyReturn : Statement .supplyReturn := of_none rfl

theorem kennelPowerOff : Statement .kennelPowerOff := of_none rfl

end Sys2Proof.Laws.Encoding
end

