-- ==== Sys2Proof/Tests/Slice0.lean ====
section
/-! SUPPORT. Tests/Slice0.lean: ill-formed terms that the well-formedness check refuses, the spec's own worked examples, and for
every statement states and operands that meet its hypotheses. -/

open Sys2Proof Sys2Proof.Machine

set_option Elab.async false

namespace Sys2Proof.Tests

/-- Channel 0 in a mode, locked, as far as it matters else at reset. -/
def chan (m : Nat) : Chan :=
  (Chan.reset.setFld Reg.CH_MODE_CUR Fld.CH_MODE_CUR_MODE m).put Reg.PLL_STAT (1#32 <<< Fld.PLL_STAT_LOCK.lo)

/-- A device out of reset whose channel 0 is as given. -/
def st (m : Nat) (f : Chan → Chan := fun c => c) : State := State.reset.putChan 0 (f (chan m))

/-- With engine FE of channel 0 as given. -/
def run (f : Engine → Engine := fun e => e) : State := st 4 fun c => { c with fe := f { c.fe with run := .running } }

abbrev fe : Site := ⟨0, .fe⟩

/-- Whether a step answers a next state that passes a check. -/
def after (o : Host.Outcome State Fault Refusal) (f : State → Bool) : Bool :=
  match o with
  | .next t => f t
  | _ => false

/-- A device whose channel 0 drives its gates, pad 0 on switch 0, 1 µs (n = 1: 200 ns) after the update point: beyond its
blanking window of 200 ns after a dead time of 100 ns, in it, and (n = 2) commanded off. -/
def gated (n : Nat) : State :=
  let s := (st 4 fun c => { c.put Reg.PWM_MAP0 0xFFFFFFF0 with
    pll := { c.pll with nint := 200, post := 10 }
    pwm := { c.pwm with
      driving := true, started := true, h := 40000, pt := 2 ^ 30
      cmds := c.pwm.cmds.set 0 ⟨false, if n = 2 then 0 else 40000⟩
      times := { c.pwm.times with dt13 := 400, blank := c.pwm.times.blank.set 0 100 } } }).gset
    Reg.GSTAT Fld.GSTAT_PADS_RELEASED 1
  { s with time := { s.time with refNs := if n = 1 then 200 else 1000 } }

/-- Channel 0 with a lock point of 20 times the reference. -/
def lockChan : Chan := { chan 0 with pll := { (chan 0).pll with nint := 200, post := 10 } }

/-- EngineMovesAndMemory, EngineIntegers, EngineScaled, EngineAccumulators: an engine that runs, and a condition that holds. -/
theorem witness_engine :
    (run.eng fe).run = .running ∧
    run.executes fe 0 ∧
    (run fun e => { e with fl := { e.fl with z := true } }).executes fe 1 ∧
    (st 4 fun c => { c with me := { c.me with run := .running } }).executes ⟨0, .me⟩ 2 := by
  unfold State.executes
  decide +kernel

/-- EngineDivideAndRoot: a divisor that is zero and one that is not, a negative operand and zero. -/
theorem witness_divide :
    (run fun e => { e with v := e.v.set 1 (-1) }).executes fe 0 ∧
    (((run fun e => { e with v := e.v.set 1 (-1) }).eng fe).rv 1).toInt ≠ 0 ∧ (((run fun e => { e with v := e.v.set 1 (-1) }).eng fe).rv 1).toInt < 0 ∧
    ((run.eng fe).rv 1).toInt = 0 ∧ 0 ≤ ((run.eng fe).rv 1).toInt := by
  unfold State.executes
  decide +kernel

/-- EngineFlow: stacks with room, full stacks, an empty call stack. -/
theorem witness_flow :
    (run fun e => { e with calls := List.replicate 7 0, loops := [⟨0, 0, 0⟩] }).executes fe 0 ∧
    ((run fun e => { e with calls := List.replicate 7 0 }).eng fe).calls.length < 8 ∧
    ((run fun e => { e with calls := [5] }).eng fe).calls = [5] ∧
    ((run fun e => { e with loops := [⟨0, 0, 0⟩] }).eng fe).loops.length < 2 ∧
    (run fun e => { e with calls := List.replicate 8 0, loops := List.replicate 2 ⟨0, 0, 0⟩ }).executes fe 0 ∧
    8 ≤ ((run fun e => { e with calls := List.replicate 8 0 }).eng fe).calls.length ∧
    2 ≤ ((run fun e => { e with loops := List.replicate 2 ⟨0, 0, 0⟩ }).eng fe).loops.length ∧
    (run.eng fe).calls = [] := by
  unfold State.executes
  decide +kernel

/-- EngineConditions: an ADD whose condition Z does not hold, and an engine that is idle. -/
theorem witness_conditions :
    instrOf fe (WordFields.ofWord 0x4000000080000000) = some (.add fe 1 0 0 0 0) ∧
    condHolds (run.eng fe).fl (run.eng fe).fst (WordFields.ofWord 0x4000000080000000).cc = false ∧
    (run.eng fe).run = .running ∧ (WordFields.ofWord 0x4000000080000000).op ∉ [0x01, 0x0B, 0x39, 0x3B] ∧
    ((st 4).eng fe).run ≠ .running := by decide +kernel

/-- EnginePorts, IN: the ends of each range of ports, a full and an empty mailbox entry with the other engine idle and running, a law register. -/
theorem witness_in :
    (0 : BitVec 11).toNat = (0 : Fin 64).val ∧ (0x3F : BitVec 11).toNat = (63 : Fin 64).val ∧
    (0x40 : BitVec 11).toNat = 0x40 + (0 : Fin 16).val ∧ (0x4F : BitVec 11).toNat = 0x40 + (15 : Fin 16).val ∧
    (0x50 : BitVec 11).toNat = 0x50 + (0 : Fin 4).val ∧ (0x53 : BitVec 11).toNat = 0x50 + (3 : Fin 4).val ∧
    ((run fun e => { e with mail := e.mail.set 3 (some ⟨7, 9⟩) }).eng fe).mail[(3 : Fin 4)] = some ⟨7, 9⟩ ∧
    (run.eng fe).mail[(3 : Fin 4)] = none ∧ ((run.chan 0).engine (otherEng .fe)).run = .idle ∧
    (((st 4 fun c => { c with fe := { c.fe with run := .running }, me := { c.me with run := .running } }).chan 0).engine (otherEng .fe)).run ≠ .idle ∧
    (findRow chanRows (0x1400 + 4 * ((0x100 : BitVec 11).toNat - 0x100))).isSome = true ∧
    0x1400 + 4 * ((0x100 : BitVec 11).toNat - 0x100) ≠ Reg.LAW_IMAX ∧ 0x1400 + 4 * ((0x100 : BitVec 11).toNat - 0x100) ≠ Reg.LAW_TVI_ITH ∧
    ((run fun e => { e with run := .waiting 2 3, mail := e.mail.set 3 (some ⟨7, 9⟩) }).eng fe).run = .waiting 2 3 ∧
    (0x40 : BitVec 11).toNat = 0x40 ∧ (0x41 : BitVec 11).toNat = 0x40 + (1 : Fin 16).val := by decide +kernel

/-- EnginePorts, OUT and PUB: DUTY_DONE before and at the last cycle that is in time, and a second one; an event code, and a second event. -/
theorem witness_out :
    run.executes fe 0 ∧
    (run.eng fe).cycle + 8 ≤ (run.chan 0).fld Reg.CH_TICK_DIV Fld.CH_TICK_DIV_LEAD ∧ (run.chan 0).duty.done = false ∧
    (run fun e => { e with cycle := 292 }).executes fe 0 ∧
    ((run fun e => { e with cycle := 292 }).eng fe).cycle + 8 = ((run fun e => { e with cycle := 292 }).chan 0).fld Reg.CH_TICK_DIV Fld.CH_TICK_DIV_LEAD ∧
    ((st 4 fun c => { c with duty := { c.duty with done := true } }).chan 0).duty.done = true ∧
    (run.eng fe).eventSent = false ∧ ((1 : Word).extractLsb' 0 16).toNat ∉ [0, 0xF0, 0xFFFF] ∧
    ((run fun e => { e with eventSent := true }).eng fe).eventSent = true := by
  unfold State.executes
  decide +kernel

/-- EngineTickEnd: the first cycle and the last of the budget, the other engine idle. -/
theorem witness_tend :
    (run fun e => { e with cycle := 4500 }).executes fe 0 ∧
    ((run fun e => { e with cycle := 4500 }).eng fe).cycle = ((run fun e => { e with cycle := 4500 }).chan 0).budget ∧
    ((run fun e => { e with cycle := 4500 }).eng fe).cycle < 2 ^ 16 ∧ (run.eng ⟨0, otherEng .fe⟩).cycle < 2 ^ 16 ∧ (run.eng ⟨0, otherEng .fe⟩).run = .idle := by
  unfold State.executes
  decide +kernel

/-- HardFault: a member of a pair that holds channel 0's LEASH. -/
theorem witness_hardFault :
    ((st 4 fun c => { c with pair := { c.pair with drive := true } }).gset Reg.GSTAT Fld.GSTAT_PAIR 1).isPair = true ∧
    ((st 4 fun c => { c with pair := { c.pair with drive := true } }).gset Reg.GSTAT Fld.GSTAT_PAIR 1).holds 0 = true ∧
    ((st 4).chan 0).faulted = false ∧ ((st 1 fun c => c.setFld Reg.CH_MODE_CUR Fld.CH_MODE_CUR_FAULT 1).chan 0).faulted = true := by decide +kernel

/-- EngineFaults: a channel whose tick runs, with each cause of an overrun. -/
theorem witness_engineFaults :
    (run.chan 0).ticking = true ∧ (run.eng fe).run = .running ∧
    (run.chan 0).canOverrun .fe = true ∧ (run.chan 0).canOverrun .duty = true ∧
    ((st 4 fun c => { c with fe := { c.fe with run := .running }, me := { c.me with run := .running } }).chan 0).canOverrun .both = true ∧
    ((st 4 fun c => { c with me := { c.me with run := .running } }).chan 0).canOverrun .me = true ∧
    ((st 0 fun c => { c with pll := { c.pll with phase := .calibrate } }).chan 0).loadsEngines = true ∧ (run.chan 0).chainRuns = true ∧ oddParity (1 : BitVec 64) = true := by decide +kernel

/-- FirOutput: an input with its modulator's clock good and no output due; a fade, and its last output. -/
theorem witness_firOutput :
    ((st 4 fun c => (c.setFld (Reg.SDI_CFG 0) Fld.SDI_CFG_MODE 1).setFld (Reg.SDI_STAT 0) Fld.SDI_STAT_CLK_OK 1).chan 0).chainRuns = true ∧
    ((st 4 fun c => c.setFld (Reg.SDI_CFG 0) Fld.SDI_CFG_MODE 1).chan 0).inMode 0 ≠ 0 ∧
    ((st 4 fun c => c.setFld (Reg.SDI_STAT 0) Fld.SDI_STAT_CLK_OK 1).chan 0).bit (Reg.SDI_STAT 0) Fld.SDI_STAT_CLK_OK = true ∧
    ((st 4).chan 0 |>.inp 0).fade = none ∧ (List.replicate 64 true).length = ((st 4 fun c => (c.setFld (Reg.SINC_CFG 0) Fld.SINC_CFG_OSR 32).setFld (Reg.FIR_CFG 0) Fld.FIR_CFG_DEC 2).chan 0).fld (Reg.SINC_CFG 0) Fld.SINC_CFG_OSR * ((st 4 fun c => (c.setFld (Reg.SINC_CFG 0) Fld.SINC_CFG_OSR 32).setFld (Reg.FIR_CFG 0) Fld.FIR_CFG_DEC 2).chan 0).fld (Reg.FIR_CFG 0) Fld.FIR_CFG_DEC ∧
    ((st 4 fun c => c.setFld (Reg.DCB_CFG 0) Fld.DCB_CFG_EN 1).chan 0).bit (Reg.DCB_CFG 0) Fld.DCB_CFG_EN = true ∧ ((st 4).chan 0).bit (Reg.DCB_CFG 0) Fld.DCB_CFG_FREEZE = false ∧ 0 < ((st 4 fun c => c.setFld (Reg.FIR_CFG 0) Fld.FIR_CFG_TAPS 1).chan 0).fld (Reg.FIR_CFG 0) Fld.FIR_CFG_TAPS ∧
    ((st 4 fun c => c.setInp 0 { c.inp 0 with fade := some (3, 4) }).chan 0 |>.inp 0).fade = some (3, 4) ∧
    (sincSums 4 3 (List.replicate 10 16)).headD 0 = 1024 ∧
    (sincSums 4 3 (List.replicate 10 4)).headD 0 = 256 := by decide +kernel

/-- ChainOutput: an output that awaits its posting with a good clock; a substitute that is due. -/
theorem witness_chainOutput :
    ((st 4 fun c => (((c.setFld (Reg.SDI_CFG 0) Fld.SDI_CFG_MODE 1).setFld (Reg.SDI_STAT 0) Fld.SDI_STAT_CLK_OK 1).setInp 0 { c.inp 0 with out := some ⟨5, false, 0⟩ })).chan 0).chainRuns = true ∧
    ((st 4 fun c => (((c.setFld (Reg.SDI_CFG 0) Fld.SDI_CFG_MODE 1).setFld (Reg.SDI_STAT 0) Fld.SDI_STAT_CLK_OK 1).setInp 0 { c.inp 0 with out := some ⟨5, false, 0⟩ })).chan 0 |>.inp 0).out = some ⟨5, false, 0⟩ ∧
    ((st 4 fun c => c.setFld (Reg.SDI_STAT 0) Fld.SDI_STAT_CLK_OK 1).chan 0).bit (Reg.SDI_STAT 0) Fld.SDI_STAT_CLK_OK = true ∧ ((st 4 fun c => c.setFld (Reg.SDI_CFG 0) Fld.SDI_CFG_MODE 1).chan 0).inMode 0 ≠ 0 ∧
    2 ≤ ((st 4 fun c => c.setFld (Reg.SDI_CFG 0) Fld.SDI_CFG_MODE 2).chan 0).inMode 0 ∧ ((st 4 fun c => c.setInp 0 { c.inp 0 with subst := true }).chan 0 |>.inp 0).subst = true := by decide +kernel

/-- ModulatorClocks: an input with a Manchester clock and one on its group's clock, good and lost, its fast path off. -/
theorem witness_modulatorClocks :
    ((st 4).chan 0).chainMode = true ∧ ((st 4).chan 0).chainRuns = true ∧
    ((st 4 fun c => c.setFld (Reg.SDI_CFG 15) Fld.SDI_CFG_MODE 3).chan 0).inMode 15 = 3 ∧
    ((st 4 fun c => c.setFld (Reg.SDI_CFG 15) Fld.SDI_CFG_MODE 2).chan 0).inMode 15 = 2 ∧
    ((st 4 fun c => c.setFld (Reg.SDI_STAT 15) Fld.SDI_STAT_CLK_OK 1).chan 0).bit (Reg.SDI_STAT 15) Fld.SDI_STAT_CLK_OK = true ∧
    ((st 4).chan 0).bit (Reg.SDI_STAT 15) Fld.SDI_STAT_CLK_OK = false ∧ ((st 4).chan 0).bit (Reg.FAST_CFG 15) Fld.FAST_CFG_EN = false ∧
    ((st 4 fun c => c.setFld (Reg.SDI_CFG 15) Fld.SDI_CFG_MODE 3).chan 0).inMode 15 = 3 → ((st 4).chan 0).chainRuns = true := by decide +kernel

/-- FastPath: a running fast path; a fill whose filter is one bit short of full, and bits that fill it. -/
theorem witness_fastPath :
    ((st 4 fun c => ((c.setFld (Reg.SDI_CFG 0) Fld.SDI_CFG_MODE 1).setFld (Reg.SDI_STAT 0) Fld.SDI_STAT_CLK_OK 1).setFld (Reg.FAST_CFG 0) Fld.FAST_CFG_EN 1).chan 0).fastRuns 0 = true ∧
    ((st 4 fun c => c.setInp 0 { c.inp 0 with fastHold := .firstFill }).chan 0 |>.inp 0).fastHold.filling = true ∧
    ((st 4 fun c => (c.setFld (Reg.FAST_CFG 0) Fld.FAST_CFG_OSR 8).setInp 0 { c.inp 0 with fastBits := List.replicate 14 true }).chan 0 |>.inp 0).fastBits.length + 1 = ((st 4 fun c => c.setFld (Reg.FAST_CFG 0) Fld.FAST_CFG_OSR 8).chan 0).fastLen 0 ∧
    ((st 4).chan 0 |>.inp 0).fastBits.length + (List.replicate 15 true).length = ((st 4 fun c => c.setFld (Reg.FAST_CFG 0) Fld.FAST_CFG_OSR 8).chan 0).fastLen 0 ∧
    (List.replicate 15 true).length = 2 * 8 - 1 := by decide +kernel

/-- SkewUnits: an armed unit, samples of a tenth of the range, no other unit armed. -/
theorem witness_skew :
    ((st 4 fun c => c.setInp 0 { c.inp 0 with skewArmed := true }).chan 0 |>.inp 0).skewArmed = true ∧
    ((st 4).chan 0).chainRuns = true ∧ ((st 4).chan 0).chainMode = true ∧ 2 ^ 15 ≤ 10 * (3277 : BitVec 16).toNat ∧
    skewSum (List.replicate 23 true ++ List.replicate 24 false).tail < 0 ∧ 0 ≤ skewSum (List.replicate 23 true ++ List.replicate 24 false) ∧
    (∀ j : InId, j ≠ 0 → ((st 4 fun c => c.setInp 0 { c.inp 0 with skewArmed := true }).chan 0 |>.inp j).skewArmed = false) := by decide +kernel

/-- ChannelWritesWait: context 0 reaches a ticking channel; accepted values of each register; a value outside its range. -/
theorem witness_writesWait :
    (st 4).reaches 0 0 ∧ ((st 4).chan 0).ticking = true ∧ ((st 4).chan 0).clockLost = false ∧
    waitsForBoundary Reg.CH_RIDE = true ∧ (st 4).capAbsent 0 Reg.CH_RIDE = false ∧
    (st 4).keepsRo 0 0 Reg.CH_RIDE 1 ∧ (st 4).arrivalCause 0 Reg.CH_RIDE 1 = none ∧
    (st 4).keepsRo 0 0 Reg.CH_RIDE 0 ∧ (st 4).arrivalCause 0 Reg.CH_RIDE 0 = some 3 ∧
    (st 1).keepsRo 0 0 (Reg.DCB_EST 15) 0 ∧ (st 1).arrivalCause 0 (Reg.DCB_EST 15) 0 = none ∧ (st 1).reaches 0 0 ∧
    (st 1).keepsRo 0 0 (Reg.SDI_TRIM 0) 0 ∧ (st 1).arrivalCause 0 (Reg.SDI_TRIM 0) 0 = none ∧ ((st 1).chan 0).ticking = true ∧
    (st 4).keepsRo 0 0 (Reg.SDI_CFG 0) ((st 4).chanValue 0 0 (Reg.SDI_CFG 0)) ∧ (st 4).arrivalCause 0 (Reg.SDI_CFG 0) ((st 4).chanValue 0 0 (Reg.SDI_CFG 0)) = none ∧
    waitsForBoundary 0x1400 = true ∧ (st 1).keepsRo 0 0 0x1400 1000 ∧ (st 1).arrivalCause 0 0x1400 1000 = none ∧
    (st 4).keepsRo 0 0 Reg.PACK_CFG (setField ((st 4).chanValue 0 0 Reg.PACK_CFG) Fld.PACK_CFG_EN 0) ∧ (st 4).arrivalCause 0 Reg.PACK_CFG (setField ((st 4).chanValue 0 0 Reg.PACK_CFG) Fld.PACK_CFG_EN 0) = none ∧
    (st 4).keepsRo 0 0 (Reg.FIR_XF 0) (setField 1024 Fld.FIR_XF_GO 1) ∧ (st 4).arrivalCause 0 (Reg.FIR_XF 0) (setField 1024 Fld.FIR_XF_GO 1) = none := by
  unfold State.reaches State.serves State.keepsRo
  decide +kernel

/-- ChannelWritesAtOnce: accepted values of each register, a coefficient that the host may write, and HALT for the data memory. -/
theorem witness_writesAtOnce :
    (st 1).reaches 0 0 ∧ ((st 1).chan 0).ticking = true ∧ ((st 1).chan 0).clockLost = false ∧ ((st 1).chan 0).mode = 1 ∧
    (st 1).keepsRo 0 0 (Reg.FIR_CFG 0) ((st 1).chanValue 0 0 (Reg.FIR_CFG 0)) ∧ (st 1).arrivalCause 0 (Reg.FIR_CFG 0) ((st 1).chanValue 0 0 (Reg.FIR_CFG 0)) = none ∧
    (st 1 fun c => c.setFld (Reg.FIR_CADR 0) Fld.FIR_CADR_BANK 1).keepsRo 0 0 (Reg.FIR_CDAT 0) 0 ∧ (st 1 fun c => c.setFld (Reg.FIR_CADR 0) Fld.FIR_CADR_BANK 1).arrivalCause 0 (Reg.FIR_CDAT 0) 0 = none ∧
    ((st 1 fun c => { c with fe := { c.fe with coef := [(0, ⟨0, 0, 0, 3⟩)] } }).chan 0).coefCause .fe 0 = 0 ∧
    (st 1).keepsRo 0 0 Reg.ENG_CDAT 1 ∧ (st 1).arrivalCause 0 Reg.ENG_CDAT 1 = none ∧
    (st 1).keepsRo 0 0 Reg.ENG_DDAT 1 ∧ (st 1).arrivalCause 0 Reg.ENG_DDAT 1 = none ∧
    (st 1).keepsRo 0 0 Reg.PACK_PSEL 63 ∧ (st 1).arrivalCause 0 Reg.PACK_PSEL 63 = none ∧
    (st 1).keepsRo 0 0 Reg.SDI_CHCTL (setField ((st 1).chanValue 0 0 Reg.SDI_CHCTL) Fld.SDI_CHCTL_SKARM 1) ∧ (st 1).arrivalCause 0 Reg.SDI_CHCTL (setField ((st 1).chanValue 0 0 Reg.SDI_CHCTL) Fld.SDI_CHCTL_SKARM 1) = none ∧
    (st 1).keepsRo 0 0 Reg.PLL_RAMP (setField 1 Fld.PLL_RAMP_GO 0) ∧ (st 1).arrivalCause 0 Reg.PLL_RAMP (setField 1 Fld.PLL_RAMP_GO 0) = none ∧
    (st 1 fun c => { c with pll := { c.pll with nint := 200, post := 10 } }).keepsRo 0 0 Reg.PLL_RAMP (setField 1 Fld.PLL_RAMP_GO 1) ∧ (st 1 fun c => { c with pll := { c.pll with nint := 200, post := 10 } }).arrivalCause 0 Reg.PLL_RAMP (setField 1 Fld.PLL_RAMP_GO 1) = none ∧
    (st 1 fun c => { c with pll := { c.pll with nint := 200, post := 10 } }).keepsRo 0 0 Reg.PLL_LEVEL 0x40000 ∧ (st 1 fun c => { c with pll := { c.pll with nint := 200, post := 10 } }).arrivalCause 0 Reg.PLL_LEVEL 0x40000 = none ∧
    (st 1).keepsRo 0 0 Reg.PLL_CTL (setField 0 Fld.PLL_CTL_RELOCK 1) ∧ (st 1).arrivalCause 0 Reg.PLL_CTL (setField 0 Fld.PLL_CTL_RELOCK 1) = none := by
  unfold State.reaches State.serves State.keepsRo
  decide +kernel

/-- ModeAndLatchWrites: a request in a mode with ticks and one in OFF; latches to clear; a trip to clear in HALT. -/
theorem witness_modeWrites :
    (st 4).reaches 0 0 ∧ (st 4).keepsRo 0 0 Reg.CH_MODE_REQ 1 ∧ ((st 4).chan 0).mode ≠ 0 ∧ ((st 4).chan 0).faulted = false ∧ ((st 4).chan 0).ticking = true ∧
    (st 0).reaches 0 0 ∧ (st 0).keepsRo 0 0 Reg.CH_MODE_REQ 1 ∧ ((st 0).chan 0).pll.phase = .idle ∧ getField 1 Fld.CH_MODE_REQ_MODE = 1 ∧ ((st 0).gset Reg.GSTAT Fld.GSTAT_IMAGE_OK 1).gbit Reg.GSTAT Fld.GSTAT_IMAGE_OK = true ∧
    ((st 0 fun c => { c with img := some ⟨0, 0, [], 0, ⟨[], [], [], []⟩, ⟨[], [], [], []⟩, [], [], false, [], [], 0⟩ }).chan 0).img.isSome = true ∧ ((st 0).chan 0).lockCause (st 0).fnom = 0 ∧
    (st 1).keepsRo 0 0 Reg.CH_SAFE_LATCH 0xFFF ∧ (st 1).keepsRo 0 0 Reg.PWM_TRIP 0xF ∧
    ((st 1 fun c => c.put Reg.PWM_TRIP 8).chan 0).tripStuck 0xF = [] ∧ 3 ∈ ((st 1 fun c => c.put Reg.PWM_TRIP 8).chan 0).tripClearable 0xF := by
  unfold State.reaches State.serves State.keepsRo
  decide +kernel

/-- ModeRules: requests that each clause takes, and boundaries at which each transition is due. -/
theorem witness_modeRules :
    ((st 11).chan 0).mode = 11 ∧ ((st 1).chan 0).mode ≠ 11 ∧
    ((st 1 fun c => c.setFld Reg.CH_MODE_CUR Fld.CH_MODE_CUR_FAULT 1).chan 0).faulted = true ∧ ((st 1).chan 0).faulted = false ∧
    3 ∉ hostTargets ((st 1).chan 0).mode ∧ 2 ∈ hostTargets ((st 1).chan 0).mode ∧
    (st 1).requestCause 0 0 = 0 ∧ (2 : Nat) < 12 ∧
    (st 1 fun c => (c.setFld Reg.CH_MODE_CFG Fld.CH_MODE_CFG_ALLOW 0xFFF).put Reg.CH_SAFE_LATCH 0 |>.put Reg.CH_SAFE_LIVE 0).requestCause 0 2 = 0 ∧
    ((st 4 fun c => c.put Reg.CH_SAFE_LATCH 1).chan 0).safeBits ≠ 0 ∧ ((st 4 fun c => c.put Reg.CH_SAFE_LATCH 0 |>.put Reg.CH_SAFE_LIVE 0).chan 0).safeDue = false ∧
    ((st 4).chan 0).rideDue = false ∧ ((st 4).chan 0).mode ≠ 8 ∧
    ((st 4 fun c => (c.put Reg.CH_MODE_CFG 0xFFFFFFFF).put Reg.LAW_STAT 0xFFFFFFFF).chan 0).rideDue = true ∧
    ((st 9 fun c => { c.setFld Reg.CH_MODE_CFG Fld.CH_MODE_CFG_ALLOW 0xFFF with ctl := { c.ctl with testDone := true } }).chan 0).autoTarget = some (1, 12) := by decide +kernel

/-- LawEvents: LIM set with TREL ticks below the release level; a slot over its tolerance; a cause that is not live. -/
theorem witness_lawEvents :
    ((st 4 fun c => { c with law := { c.law with on := true, status := 1, relRun := 65535 } }).chan 0).law.status.getLsbD 0 = true ∧
    ((st 4 fun c => { c with law := { c.law with relRun := 65535 } }).chan 0).fld Reg.LAW_TVI_REL Fld.LAW_TVI_REL_TREL ≤ 65535 ∧
    ((st 4).chan 0).fld Reg.LAW_TAG Fld.LAW_TAG_STALE_MAX < 256 ∧
    (7 : BitVec 6).toNat < 10 ∧ (((st 4).chan 0).get Reg.CH_SAFE_LIVE).getLsbD 11 = false := by decide +kernel

/-- ModeEvents: each mode with the counts at the level that its event waits for. -/
theorem witness_modeEvents :
    ((st 2 fun c => { c with ctl := { c.ctl with preRun := 100 } }).chan 0).mode = 2 ∧
    ((st 2 fun c => { c.setFld Reg.SAF_CH_STAT Fld.SAF_CH_STAT_K2CMD 1 with saf := { c.saf with k2 := ⟨false, true, true⟩ } }).chan 0).k2Closed = true ∧
    ((st 2).chan 0).bit Reg.CH_MODE_STAT Fld.CH_MODE_STAT_PRE_DONE = false ∧
    ((st 3 fun c => { c with ctl := { c.ctl with bsCheck := true, deadRun := 1, liveRun := 10 } }).chan 0).ctl.bsCheck = true ∧
    ((st 3 fun c => { c with ctl := { c.ctl with ramp := 2 ^ 48 } }).chan 0).ctl.ramp = 2 ^ 48 ∧
    ((st 7 fun c => { c with ctl := { c.ctl with matched := 65535 } }).chan 0).fld Reg.CH_RSY_CFG2 Fld.CH_RSY_CFG2_NMATCH ≤ 65535 ∧
    ((st 7).chan 0).bit Reg.CH_MODE_STAT Fld.CH_MODE_STAT_K1_REQ = false ∧
    ((st 6).chan 0).fld Reg.CH_RIDE Fld.CH_RIDE_DWELL ≤ 65535 ∧ ((st 6 fun c => c.setFld Reg.CH_MODE_CFG Fld.CH_MODE_CFG_RIDE_RET 1).chan 0).bit Reg.CH_MODE_CFG Fld.CH_MODE_CFG_RIDE_RET = true ∧
    ((st 6 fun c => c.setFld Reg.CH_RIDE Fld.CH_RIDE_TMAX 1).chan 0).fld Reg.CH_RIDE Fld.CH_RIDE_TMAX ≠ 0 ∧ (((st 6).chan 0).get Reg.CH_SAFE_LATCH).getLsbD 10 = false ∧
    (((st 6 fun c => c.put Reg.CH_SAFE_LATCH 0x400).chan 0).get Reg.CH_SAFE_LATCH).getLsbD 10 = true ∧
    ((st 4 fun c => c.setFld Reg.HO_STAT Fld.HO_STAT_ACT 1).chan 0).bit Reg.HO_STAT Fld.HO_STAT_ACT = true ∧ ((st 4).chan 0).fld Reg.HO_STAT Fld.HO_STAT_REM = 0 := by decide +kernel

/-- PackPeriods: a channel that listens, one that injects, one at the end of a code period; a chip that counts and one that is excluded. -/
theorem witness_packPeriods :
    ((st 4).chan 0).packListens = true ∧ ((st 4).chan 0).packMayInject = false ∧
    ((st 4 fun c => { (((c.setFld Reg.PACK_CFG Fld.PACK_CFG_TXEN 1).setFld Reg.PACK_STAT Fld.PACK_STAT_TX 1).setFld Reg.SAF_CH_STAT Fld.SAF_CH_STAT_K1CMD 1) with pack := { c.pack with enabled := true }, saf := { c.saf with k1 := ⟨false, true, true⟩ } }).chan 0).packMayInject = true ∧
    ((st 4 fun c => c.setFld Reg.PACK_STAT Fld.PACK_STAT_TX 1).chan 0).bit Reg.PACK_STAT Fld.PACK_STAT_TX = true ∧ ((st 4).chan 0).pack.stopAtChip = false ∧
    ((st 4 fun c => { c with pack := { c.pack with chipBad := true } }).chan 0).pack.chipBad = true ∧ ((st 4 fun c => { c with pack := { c.pack with chipBad := false } }).chan 0).pack.chipBad = false ∧
    ((st 4 fun c => { c with pack := { c.pack with periodEnd := true } }).chan 0).pack.periodEnd = true ∧ ((st 4).chan 0).pack.periodMean = none ∧
    ((st 4 fun c => { c with pack := { c.pack with chip := 254 } }).chan 0).pack.chip + 1 = 255 := by decide +kernel

/-- PackFingers: fingers in the states that the events need, with the run lengths at their bounds. -/
theorem witness_packFingers :
    ((st 4 fun c => { c with pack := { c.pack with enabled := true, fingers := c.pack.fingers.set 63 { Finger.reset with high := 2 } } }).chan 0).pack.enabled = true ∧
    (((st 4 fun c => { c with pack := { c.pack with fingers := c.pack.fingers.set 63 { Finger.reset with high := 2 } } }).chan 0).pack.fingers[(63 : Fin 64)]).state = .free ∧
    8 ≤ (((st 4 fun c => { c with pack := { c.pack with fingers := c.pack.fingers.set 0 { Finger.reset with state := .valid, low := 8 } } }).chan 0).pack.fingers[(0 : Fin 64)]).low ∧
    8 ≤ ((st 4 fun c => { c with pack := { c.pack with ownLow := 8 } }).chan 0).pack.ownLow ∧ 2 ≤ ((st 4 fun c => { c with pack := { c.pack with ownHigh := 2 } }).chan 0).pack.ownHigh := by decide +kernel

/-- PackFrames: an acquired finger whose bits make a frame; an aligned one whose 24 bits fail the test, the first and the second time. -/
theorem witness_packFrames :
    (((st 4 fun c => { c with pack := { c.pack with fingers := c.pack.fingers.set 0 { Finger.reset with state := .acq, bits := packFrame 1 7, nbits := 24 } } }).chan 0).pack.fingers[(0 : Fin 64)]).frameDue = true ∧
    (((st 4 fun c => { c with pack := { c.pack with fingers := c.pack.fingers.set 0 { Finger.reset with state := .acq, bits := packFrame 1 7, nbits := 24 } } }).chan 0).pack.fingers[(0 : Fin 64)]).state = .acq ∧
    packFrameOk 0 = false ∧ (((st 4 fun c => { c with pack := { c.pack with fingers := c.pack.fingers.set 0 { Finger.reset with state := .valid, aligned := true, since := 24 } } }).chan 0).pack.fingers[(0 : Fin 64)]).frameDue = true ∧
    (((st 4 fun c => { c with pack := { c.pack with fingers := c.pack.fingers.set 0 { Finger.reset with state := .valid, aligned := true, since := 24, bad := 1 } } }).chan 0).pack.fingers[(0 : Fin 64)]).bad = 1 ∧ Finger.reset.bad = 0 ∧
    (5 : BitVec 4).toNat ∉ [1, 2, 3, 4] := by decide +kernel

/-- PackDuplicates: a frame's end; a duplicate that has been seen with no backoff and no window, in a backoff and in the window; a backoff of 0 frames left. -/
theorem witness_packDuplicates :
    ((st 4 fun c => { c with pack := { c.pack with frameEnd := true } }).chan 0).pack.frameEnd = true ∧ ((st 4).chan 0).packListens = true ∧ ((st 4).chan 0).pack.plain = false ∧
    ((st 4 fun c => { c with pack := { c.pack with leaving := 1 } }).chan 0).pack.leaving = 1 ∧ ((st 4 fun c => { c with pack := { c.pack with leaving := 2 } }).chan 0).pack.leaving = 2 ∧
    ((st 4 fun c => { c with pack := { c.pack with enabled := true, dup := { c.pack.dup with seen := some .outside } } }).chan 0).pack.dup.seen = some .outside ∧ ((st 4 fun c => { c with pack := { c.pack with enabled := true } }).chan 0).pack.enabled = true ∧
    ((st 4).chan 0).bit Reg.PACK_STAT Fld.PACK_STAT_BACKOFF = false ∧ ((st 4).chan 0).pack.window = none ∧
    ((st 4 fun c => c.setFld Reg.PACK_STAT Fld.PACK_STAT_BACKOFF 1).chan 0).bit Reg.PACK_STAT Fld.PACK_STAT_BACKOFF = true ∧
    ((st 4 fun c => { c with pack := { c.pack with window := some 63, newPhase := some 254 } }).chan 0).pack.window.isSome = true ∧ ((st 4).chan 0).fld Reg.PACK_OWN Fld.PACK_OWN_BOFF = 0 := by decide +kernel

/-- Desaturation: a fault input that is enabled, a channel that judges its inputs and one that does not, a pad that is on, in its blanking window and beyond, and off; a blanked switch. -/
theorem witness_desaturation :
    (BitVec.ofNat 12 ((st 4 fun c => c.setFld Reg.FLT_CFG Fld.FLT_CFG_EN 0xFFF).chan 0 |>.fld Reg.FLT_CFG Fld.FLT_CFG_EN)).getLsbD 11 = true ∧
    ((gated 0).putChan 0 (((gated 0).chan 0).setFault 0 true)).faultsIdle 0 = false ∧ ((st 1).putChan 0 (((st 1).chan 0).setFault 0 true)).faultsIdle 0 = true ∧
    (((gated 0).chan 0).setFault 0 true).padOn 0 ((((gated 0).chan 0).setFault 0 true).gatePos (gated 0).time.refNs) = true ∧ (((gated 0).chan 0).setFault 0 true).blanking 0 ((((gated 0).chan 0).setFault 0 true).gatePos (gated 0).time.refNs) = false ∧
    (((gated 1).chan 0).setFault 0 true).padOn 0 ((((gated 1).chan 0).setFault 0 true).gatePos (gated 1).time.refNs) = true ∧ (((gated 1).chan 0).setFault 0 true).blanking 0 ((((gated 1).chan 0).setFault 0 true).gatePos (gated 1).time.refNs) = true ∧
    (((gated 2).chan 0).setFault 0 true).padOn 0 ((((gated 2).chan 0).setFault 0 true).gatePos (gated 2).time.refNs) = false ∧ ((gated 2).chan 0).mode ≠ 8 ∧
    ((st 4 fun c => { c with pwm := { c.pwm with blanked := 0x800 } }).chan 0).pwm.blanked.getLsbD 11 = true ∧
    ((st 4).chan 0).pwm.window = none ∧ ((st 4).chan 0).pwm.seqOn = false := by decide +kernel

/-- ProtectionTimes: no live fault; a sequence with no pad left; an open window; a leg that is off. -/
theorem witness_protectionTimes :
    ((st 4).chan 0).pwm.judges = false ∧ ((st 4 fun c => { c with pwm := { c.pwm with seqOn := true } }).chan 0).pwm.seqOn = true ∧ ((st 4).chan 0).pwm.soft ||| ((st 4).chan 0).pwm.other ||| ((st 4).chan 0).pwm.late = 0 ∧
    ((st 4 fun c => { c with pwm := { c.pwm with window := some 1 } }).chan 0).pwm.window = some 1 ∧
    ((st 4 fun c => { c with pwm := { c.pwm with legs := c.pwm.legs.set 2 .off } }).chan 0).pwm.legs[(2 : Fin 3)] = .off ∧ ((st 4).chan 0).bit Reg.PWM_TRIP Fld.PWM_TRIP_UVREP = false := by decide +kernel

/-- PadLevels: pads in high impedance and not; a gate pad that does not drive, one that is held off, one that is unused; the pad of a switch whose leg is on. -/
theorem witness_padLevels :
    (st 4).padsHiz 0 = true ∧ (gated 0).padsHiz 0 = false ∧
    ((gated 0).chan 0).pwm.lag.getLsbD 0 = false ∧ ((st 4).chan 0).pwm.driving = false ∧ ((st 4 fun c => { c with pwm := { c.pwm with held := 1 } }).chan 0).pwm.held.getLsbD 0 = true ∧
    ((st 4 fun c => c.put (Reg.PWM_MAP0) 0xFFFFFFFF).chan 0).padSwitch 0 = 15 ∧ ((st 4).chan 0).pwm.soft.getLsbD 0 = false ∧
    ((gated 0).chan 0).switchOf 0 = some 0 ∧ ((gated 0).chan 0).pwm.driving = true ∧ ((gated 0).chan 0).pwm.held.getLsbD 0 = false ∧ ((gated 0).chan 0).pwm.soft.getLsbD 0 = false ∧
    ((gated 0).chan 0).pwm.legs.toList.getD ((0 : Fin 12).val / 4) .on = .on ∧ ((gated 0).chan 0).pwm.ilkOff.getLsbD (0 : Fin 12).val = false := by decide +kernel

/-- UpdatePointsAndLegs: a ticking two-level channel; compares at the bounds of MINP; legs in each state; a due refresh. -/
theorem witness_updatePoints :
    ((st 4).chan 0).ticking = true ∧ ((st 4 fun c => c.put Reg.PWM_TOPO 0).chan 0).threeLevel = false ∧
    (⟨false, 0⟩ : SwCmd).cmp ≤ 100 ∧ (⟨true, 100⟩ : SwCmd).cmp ≤ 100 ∧ (10 : Nat) ≤ 10 ∧
    ((st 4).chan 0).pwm.legs[(0 : Fin 3)] ≠ .off ∧ ((st 4 fun c => { c with pwm := { c.pwm with legs := c.pwm.legs.set 0 .off } }).chan 0).pwm.legs[(0 : Fin 3)] = .off ∧
    ((st 4 fun c => c.setFld Reg.BST_CFG Fld.BST_CFG_EN 1).chan 0).bit Reg.BST_CFG Fld.BST_CFG_EN = true ∧ (((st 4 fun c => c.put Reg.BST_MASK 0xFFF).chan 0).get Reg.BST_MASK).getLsbD 11 = true ∧
    ((st 4 fun c => c.put Reg.BST_CFG 1).chan 0).fld Reg.BST_CFG Fld.BST_CFG_NPER ≤ (((st 4 fun c => { c with pwm := { c.pwm with refCount := c.pwm.refCount.set 11 65535 } }).chan 0).pwm.refCount[(11 : Fin 12)]) := by decide +kernel

/-- ReferencesAndRamps: windows at both ends of ±10 % and just beyond, none and one good window before; a profile of one segment and of two. -/
theorem witness_references :
    9 * (State.reset).fnom ≤ 10 * 22500 ∧ 10 * 27500 ≤ 11 * (State.reset).fnom ∧ ¬ (9 * (State.reset).fnom ≤ 10 * 22499) ∧
    (State.reset).goodWindows .a = 0 ∧ 1 ≤ ((State.reset).setGoodWindows .b 1).goodWindows .b ∧
    ((State.reset).gset Reg.REF_STAT Fld.REF_STAT_A_ACT 1 |>.gset Reg.REF_STAT Fld.REF_STAT_B_ACT 1).gbit Reg.REF_STAT Fld.REF_STAT_A_ACT = true ∧
    ((st 4 fun c => { (c.put Reg.PLL_OFS 5) with pll := { c.pll with profile := [⟨5, 1⟩] } }).chan 0).pll.profile = ⟨5, 1⟩ :: [] ∧ (((st 4 fun c => { (c.put Reg.PLL_OFS 5) with pll := { c.pll with profile := [⟨5, 1⟩] } }).chan 0).rampTo 0).ofs = 5 ∧ (((st 4 fun c => { c with pll := { c.pll with profile := [⟨5, 1⟩] } }).chan 0).rampTo 0).ofs ≠ 5 ∧ ((st 4).chan 0).bit Reg.PLL_RAMP Fld.PLL_RAMP_HOLD = false := by decide +kernel

/-- Locking: each phase of a lock, windows at 100 ppm, and a start with a committed section. -/
theorem witness_locking :
    ((st 0 fun c => { c with pll := { c.pll with phase := .search } }).chan 0).pll.phase = .search ∧
    ((st 0 fun c => { c with pll := { c.pll with phase := .windows, good := 2 } }).chan 0).pll.phase = .windows ∧ ((st 0).chan 0).pll.start ≠ .relock ∧
    lockChan.pll.area = 0 ∧
    |(20482 : Int) * (lockChan.rampTo 0).windowExpected.2 - (lockChan.rampTo 0).windowExpected.1| * 1000000 ≤ 100 * (lockChan.rampTo 0).windowExpected.1 ∧ ¬ (|(20483 : Int) * (lockChan.rampTo 0).windowExpected.2 - (lockChan.rampTo 0).windowExpected.1| * 1000000 ≤ 100 * (lockChan.rampTo 0).windowExpected.1) ∧
    ((st 4).chan 0).pll.phase ≠ .windows ∧ ((st 4).chan 0).lockHeld = true ∧
    ((st 0 fun c => { c with pll := { c.pll with phase := .calibrate } }).chan 0).pll.phase = .calibrate ∧
    (((st 0 fun c => { c with banks := c.banks.set 0 (some ⟨0, 0, [], 0, ⟨[], [], [], []⟩, ⟨[], [], [], []⟩, [], [], false, [], [], 0⟩) }).gset (Reg.IMG_SECT 0) Fld.IMG_SECT_PRESENT 1).committed 0).isSome = true := by decide +kernel

/-- ClockLosses: a missing edge with and without a usable other reference, the fourth in a row; both forms of the ceiling guard at its bound. -/
theorem witness_clockLosses :
    ((((st 4 fun c => { c with pll := { c.pll with auto := true } }).gset Reg.REF_STAT Fld.REF_STAT_B_ACT 1)).otherRefUsable 0) = true ∧
    (st 4).otherRefUsable 0 = false ∧ ((st 4).chan 0).lockHeld = true ∧
    0 < ((st 4).chan 0).pll.fnom ∧ 550000 * 16 ≤ 352 * ((st 4).chan 0).pll.fnom ∧ 351 * ((st 4).chan 0).pll.fnom < 550000 * 16 := by decide +kernel

/-- PairLink: a pair, a delay of 500 ns and one above, the link in training. -/
theorem witness_pairLink :
    (State.reset.gset Reg.GSTAT Fld.GSTAT_PAIR 1).isPair = true ∧ (2000 : Nat) ≤ 2000 ∧ (2000 : Nat) < 2001 ∧
    (State.reset.gset Reg.PAIR_STAT Fld.PAIR_STAT_LINK 2).gfld Reg.PAIR_STAT Fld.PAIR_STAT_LINK ≠ 0 := by decide +kernel

/-- PairMessages: the link up; a holder whose engines are done; heartbeats and frames of their lengths and types. -/
theorem witness_pairMessages :
    ((st 4 fun c => { c with pair := { c.pair with drive := true } }).gset Reg.GSTAT Fld.GSTAT_PAIR 1 |>.gset Reg.PAIR_STAT Fld.PAIR_STAT_LINK 2).gfld Reg.PAIR_STAT Fld.PAIR_STAT_LINK = 2 ∧
    ((st 4).chan 0).enginesDone = true ∧ ((st 4).chan 0).ticking = true ∧
    (List.replicate 15 (2 : Word)).length = 15 ∧ (((List.replicate 15 (2 : Word)).getD 0 0).extractLsb' 0 8) = 2 ∧
    (State.reset.gset Reg.PAIR_STAT Fld.PAIR_STAT_HB_OK 1).gbit Reg.PAIR_STAT Fld.PAIR_STAT_HB_OK = true ∧ State.reset.gbit Reg.PAIR_STAT Fld.PAIR_STAT_HB_OK = false ∧
    (List.replicate 31 (0x06C00000 : Word)).length = 31 ∧ (((List.replicate 31 (0x06C00000 : Word)).getD 0 0).extractLsb' 22 4).toNat = (11 : ChId).val ∧ (((List.replicate 31 (0x06C00000 : Word)).getD 0 0).extractLsb' 26 4) = 1 ∧
    (State.reset.setCs 11 Fld.PAIR_CHSTAT_LEASH 2).cs 11 Fld.PAIR_CHSTAT_LEASH = 2 ∧ State.reset.cs 11 Fld.PAIR_CHSTAT_LEASH ≠ 2 ∧ (State.reset.chan 11).pair.lastTick = none ∧
    (∀ u, (State.reset.chan 11).pair.lastTick = some u → 1 ≤ (((0x06C00000 : Word).extractLsb' 0 16) - u).toNat ∧ (((0x06C00000 : Word).extractLsb' 0 16) - u).toNat ≤ 4) ∧
    ((st 8 fun c => { c with pair := { c.pair with lastTick := some 0xFFFC } }).chan 0).pair.lastTick = some 0xFFFC ∧ (((0x06C00000 : Word).extractLsb' 0 16) - 0xFFFC).toNat = 4 ∧ (((0x06C00000 : Word).extractLsb' 0 16) - 0xFFFB).toNat = 5 := by decide +kernel

/-- Leash: a holder, a claim of each kind, an armed channel, PRIO 0 and 1, a running release guard. -/
theorem witness_leash :
    (st 4 fun c => { c with pair := { c.pair with drive := true } }).holds 0 = true ∧ (st 4).holds 0 = false ∧
    (State.reset.setCs 0 Fld.PAIR_CHSTAT_ARMED 1).cs 0 Fld.PAIR_CHSTAT_ARMED = 1 ∧ State.reset.cs 0 Fld.PAIR_CHSTAT_ARMED ≠ 1 ∧
    State.reset.prio = 0 ∧ (State.reset.gset Reg.PAIR_STAT Fld.PAIR_STAT_PRIO 1).prio ≠ 0 ∧
    ((st 8 fun c => { c with pair := { c.pair with claim := some .host } }).chan 0).pair.claim = some .host ∧
    ((st 8 fun c => { c with pair := { c.pair with claim := some .forced } }).chan 0).pair.claim = some .forced ∧
    (State.reset.setCs 0 Fld.PAIR_CHSTAT_GUARD 1).cs 0 Fld.PAIR_CHSTAT_GUARD = 1 ∧ ((st 8).chan 0).mode = 8 ∧
    leashSeen ((List.range 101).map fun n => (decide (n / 20 % 2 = 0), decide (n / 20 % 2 = 1))) = some .held ∧
    leashSeen (List.replicate 101 (true, true)) = some .released ∧ leashSeen (List.replicate 201 (false, false)) = some .invalid ∧ leashSeen [] = none := by decide +kernel

/-- PairLink: CLAIM and RELEASE of channels in HALT, and RETRAIN. -/
theorem witness_pairControl :
    State.reset.serves ∧ (State.reset.gset Reg.GSTAT Fld.GSTAT_PAIR 1).isPair = true ∧
    (st 1).keepsRoG 0 Reg.PAIR_CTL (1#32 <<< 11) ∧ (st 1).keepsRoG 0 Reg.PAIR_CTL (1#32 <<< 27) ∧ (st 1).keepsRoG 0 Reg.PAIR_CTL 0x10000000 ∧
    ((st 1).chan 0).mode = 1 ∧ (st 1).cs 0 Fld.PAIR_CHSTAT_LEASH = 0 ∧ ((st 1).chan 0).pair.drive = false := by
  unfold State.serves State.keepsRoG
  decide +kernel

/-- Hound: a standby with 16 good ticks, one with four bad ones, an enabled test, TEST with every test run. -/
theorem witness_hound :
    ((st 8 fun c => { c with pair := { c.pair with good := 16 } }).chan 0).mode = 8 ∧ 16 ≤ ((st 8 fun c => { c with pair := { c.pair with good := 16 } }).chan 0).pair.good ∧
    4 ≤ ((st 8 fun c => { c with pair := { c.pair with badErr := 4 } }).chan 0).pair.badErr ∧ 4 ≤ ((st 8 fun c => { c with pair := { c.pair with noFrame := 4 } }).chan 0).pair.noFrame ∧
    (st 8).houndEnabled &&& 1#4 <<< houndNum .bist ≠ 0 ∧ ((st 9).chan 0).mode = 9 ∧
    ((st 9 fun c => { c with pair := { c.pair with done := 15 } }).chan 0).pair.done &&& (st 9).houndEnabled = (st 9).houndEnabled := by decide +kernel

/-- DiscrepancyAndContactors: a discrepancy at TD that has not latched yet, and one that has. -/
theorem witness_discrepancy :
    ((st 4 fun c => { c with saf := { c.saf with discA := 200000 } }).chan 0).fld Reg.SAF_CH_CFG Fld.SAF_CH_CFG_TD ≤ 200000 ∧ ((st 4).chan 0).saf.discAt < ((st 4).chan 0).fld Reg.SAF_CH_CFG Fld.SAF_CH_CFG_TD ∧
    ((st 4 fun c => { c with saf := { c.saf with discA := 200000, discAt := 200000 } }).chan 0).fld Reg.SAF_CH_CFG Fld.SAF_CH_CFG_TD ≤ 200000 := by decide +kernel

/-- SafetyStrobe: a device in reset and one outside it, with SEDIS not declared. -/
theorem witness_strobe :
    ({ State.reset with knl := { State.reset.knl with up := false } } : State).knl.up = false ∧ State.reset.knl.powered = true ∧ State.reset.knl.up = true ∧
    State.reset.gbit Reg.SAF_STAT Fld.SAF_STAT_SEDIS = false := by decide +kernel

/-- DiscrepancyAndContactors: a settling contactor without checks, consistent, and not; the acknowledgements. -/
theorem witness_contactors :
    ((st 4 fun c => { c with saf := { c.saf with k1 := ⟨true, false, false⟩ } }).chan 0 |>.contactor false).settling = true ∧
    ((st 4 fun c => c.setFld Reg.SAF_K_CFG Fld.SAF_K_CFG_K1EN 0).chan 0).kEnabled false = false ∧ ((st 4 fun c => c.setFld Reg.SAF_K_CFG Fld.SAF_K_CFG_K2EN 1).chan 0).kEnabled true = true ∧
    ((st 4 fun c => c.setFld Reg.SAF_CH_STAT Fld.SAF_CH_STAT_K1CMD 1).chan 0).kConsistent false = false ∧ ((st 4).chan 0).kConsistent true = true ∧
    (st 4).checksContactors 0 = true ∧ ((st 4).gset Reg.GSTAT Fld.GSTAT_PAIR 1).checksContactors 0 = false ∧
    ((st 4).chan 0).fld Reg.SAF_CH_STAT (kFltField true) = 0 ∧ (st 4).blackMask.testBit 0 = false ∧ (st 4).reaches 0 0 ∧
    (st 4).keepsRo 0 0 Reg.SAF_ACK 1 ∧ (st 4).keepsRo 0 0 Reg.SAF_ACK 2 ∧
    ((st 4 fun c => c.setFld Reg.SAF_CH_STAT Fld.SAF_CH_STAT_DISC 1).chan 0).bit Reg.SAF_CH_STAT Fld.SAF_CH_STAT_DISC = true := by
  unfold State.reaches State.serves State.keepsRo
  decide +kernel

/-- BlackChannel: a submitted frame, frames with a bad and a good CRC, an established connection. -/
theorem witness_blackChannel :
    State.reset.serves ∧ State.reset.keepsRoG 0 (Reg.SAF_RXF 7) 5 ∧ State.reset.saf.taken = none ∧
    frameCrcOk 0 (List.replicate 32 0) = false ∧ frameCrcOk (State.reset.gget Reg.SAF_CONNID) State.reset.deviceFrame = true ∧
    (State.reset.gset Reg.SAF_STAT Fld.SAF_STAT_BCST 2).gfld Reg.SAF_STAT Fld.SAF_STAT_BCST = 2 ∧
    (State.reset.gset Reg.SAF_BC_CFG Fld.SAF_BC_CFG_CHMASK 0x800).blackMask.testBit (11 : ChId).val = true ∧
    (State.reset.gset Reg.GSTAT Fld.GSTAT_IMAGE_OK 1).readsBlank = false := by
  unfold State.serves State.keepsRoG
  decide +kernel

/-- SafetyParameters: a change of each register, a due check, a confirmation. -/
theorem witness_safetyParameters :
    State.reset.anyDriving = false ∧ State.reset.keepsRoG 0 Reg.SAF_CONNID 7 ∧ (State.reset.plainWriteG Reg.SAF_CONNID 7).gget Reg.SAF_CONNID ≠ State.reset.gget Reg.SAF_CONNID ∧
    State.reset.keepsRoG 0 Reg.SAF_BC_CFG 0x00101800 ∧ bcCfgOk 0x00101800 = true ∧ (State.reset.plainWriteG Reg.SAF_BC_CFG 0x00101800).gget Reg.SAF_BC_CFG ≠ State.reset.gget Reg.SAF_BC_CFG ∧
    (st 1).reaches 0 0 ∧ (st 1).anyDriving = false ∧
    (st 1).keepsRo 0 0 Reg.SAF_CH_CFG 1001 ∧ chCfgOk 1001 = true ∧ ((st 1).chan 0).plainWord Reg.SAF_CH_CFG 1001 ≠ ((st 1).chan 0).get Reg.SAF_CH_CFG ∧
    kCfgOk (setField (((st 1).chan 0).get Reg.SAF_K_CFG) Fld.SAF_K_CFG_KDEB 49) = true ∧ (st 1).keepsRo 0 0 Reg.SAF_K_CFG (setField (((st 1).chan 0).get Reg.SAF_K_CFG) Fld.SAF_K_CFG_KDEB 49) ∧
    (State.reset.keepsRoG 0 Reg.SAF_CTL (setField (setField 0 Fld.SAF_CTL_CODE 0xC0F1) Fld.SAF_CTL_CONF 1)) ∧ getField (setField 0 Fld.SAF_CTL_CODE 0xC0F1) Fld.SAF_CTL_CODE = 0xC0F1 ∧
    (State.reset.gset Reg.SAF_STAT Fld.SAF_STAT_CHKV 1).gbit Reg.SAF_STAT Fld.SAF_STAT_CHKV = true ∧ State.reset.gget Reg.SAF_CONFIRM = State.reset.gget Reg.SAF_CHECK := by
  unfold State.reaches State.serves State.keepsRo State.keepsRoG
  decide +kernel

/-- KennelInhibits: the KENNEL powered, the global inhibit ready to be cleared, an accepted host write. -/
theorem witness_kennelInhibits :
    State.reset.knl.powered = true ∧
    ((State.reset.gset Reg.KNL_STAT Fld.KNL_STAT_SSARM 1).gset Reg.KNL_STAT Fld.KNL_STAT_PADREL 1).gbit Reg.KNL_STAT Fld.KNL_STAT_SSARM = true ∧ State.reset.gbit Reg.KNL_STAT Fld.KNL_STAT_SSLOT = false ∧
    State.reset.serves ∧ State.reset.keepsRoG 0 Reg.KNL_INH 0x800 ∧ (State.reset.kennelWrite (.host 0) Reg.KNL_INH 0x800).isSome = true ∧
    (0x800 : Word).getLsbD (11 : ChId).val = true ∧ (0 : BitVec 16) ≠ 0x4B4E := by
  unfold State.serves State.keepsRoG
  decide +kernel

/-- KennelWatchdogs: TO at both ends of its range, the watchdog enabled and running, the safety slot not refreshed. -/
theorem witness_kennelWatchdogs :
    getField (setField 1 Fld.KNL_WDT_EN 1) Fld.KNL_WDT_TO = 1 ∧ getField (setField 10000 Fld.KNL_WDT_EN 1) Fld.KNL_WDT_TO = 10000 ∧
    State.reset.gbit Reg.KNL_WDT Fld.KNL_WDT_EN = false ∧ (State.reset.gset Reg.KNL_WDT Fld.KNL_WDT_EN 1).gbit Reg.KNL_WDT Fld.KNL_WDT_EN = true ∧
    ({ State.reset.gset Reg.KNL_WDT Fld.KNL_WDT_ACT 1 with knl := { State.reset.knl with wdRun := true } } : State).knl.wdRun = true ∧
    State.reset.knl.up = true ∧ State.reset.gbit Reg.KNL_STAT Fld.KNL_STAT_SSLOT = false ∧ State.reset.gbit Reg.KNL_STAT Fld.KNL_STAT_SSARM = false ∧ ((st 4).chan 0).mode ≠ 0 := by decide +kernel

/-- KennelResets: a unit that is up, one that waits for a supply, one before its boot, one ready to release its pads. -/
theorem witness_kennelResets :
    State.reset.knl.powered = true ∧ State.reset.knl.up = true ∧ (0 : BitVec 4) ≠ 0xF ∧
    ({ State.reset.gset Reg.KNL_STAT Fld.KNL_STAT_SUPPLY 1 with knl := { State.reset.knl with up := false } } : State).gbit Reg.KNL_STAT Fld.KNL_STAT_SUPPLY = true ∧
    State.reset.knl.boot = false ∧ State.reset.pins.testReset = false ∧ State.reset.gbit Reg.KNL_STAT Fld.KNL_STAT_SUPPLY = false ∧ State.reset.pins.straps = true ∧
    ((State.reset.gset Reg.KNL_STAT Fld.KNL_STAT_SUPV 0xF).gset Reg.GSTAT Fld.GSTAT_IMAGE_OK 1).gfld Reg.KNL_STAT Fld.KNL_STAT_SUPV = 0xF ∧ State.reset.gbit Reg.KNL_STAT Fld.KNL_STAT_PADREL = false ∧
    ({ State.reset with pins := { State.reset.pins with classes := Vector.replicate 15 (some true) } } : State).pins.classed = true := by decide +kernel

/-- LastWords: no commit yet, one just under a millisecond before, an entry to select, the last port number. -/
theorem witness_lastWords :
    State.reset.knl.lwAtPort = none ∧ (99999 : Nat) < 0 + 100000 ∧
    ((State.reset.lastWord 5 1 0).knl.bank[(0 : BitVec 5).toNat]?).isSome = true ∧
    (0x11 : Byte).toNat ≤ 0x11 ∧ 0x11 < (0x12 : Byte).toNat := by decide +kernel

/-- CaptureControl: an accepted write of CAP_CTL; a set in IDLE with a free segment, and with none; one in POST with its trigger. -/
theorem witness_captureControl :
    (st 1).reaches 0 0 ∧ (st 1).capAbsent 0 (Reg.CAP_CTL 3) = false ∧ ((st 1).chan 0).clockLost = false ∧
    (st 1).keepsRo 0 0 (Reg.CAP_CTL 3) (setField 0 Fld.CAP_CTL_ARM 1) ∧ ((st 1).chan 0).capCtlBad 3 (setField 0 Fld.CAP_CTL_FORCE 1) = false ∧
    ((st 1 fun c => { (c.setFld (Reg.CAP_LAYOUT 3) Fld.CAP_LAYOUT_NTR 1) with img := some ⟨0, 0, [], 500000000, ⟨[], [], [], []⟩, ⟨[], [], [], []⟩, [], [], false, [], [], 1000⟩ }).chan 0).capCtlBad 3 (setField 0 Fld.CAP_CTL_ARM 1) = false ∧
    ((st 1 fun c => (c.setFld (Reg.CAP_LAYOUT 3) Fld.CAP_LAYOUT_NTR 1).setFld (Reg.CAP_SEG 3) Fld.CAP_SEG_NSEG 1).chan 0).capFree 3 = some 0 ∧
    ((st 1 fun c => c.setFld (Reg.CAP_SEG 3) Fld.CAP_SEG_NSEG 0).chan 0).capFree 3 = none ∧ ((st 1).chan 0).bit (Reg.CAP_CFG 3) Fld.CAP_CFG_OVW = false ∧
    ((st 1 fun c => (c.setFld (Reg.CAP_STAT 3) Fld.CAP_STAT_STATE 3).setCap 3 { c.capSet 3 with trig := some ⟨1, 0, 0, 0, 0, 0, 0, true⟩ }).chan 0).capState 3 = 3 ∧
    State.reset.serves ∧ State.reset.keepsRoG 0 Reg.GCAP_FORCE 0xFFF := by
  unfold State.reaches State.serves State.keepsRo State.keepsRoG
  decide +kernel

/-- CaptureRecords: a base sample in each state of a set, without a hit; the last stored row; a hold-off by conditions; a pending record. -/
theorem witness_captureRecords :
    ((st 4 fun c => c.setFld (Reg.CAP_LAYOUT 0) Fld.CAP_LAYOUT_NTR 1).chan 0).capNtr 0 ≠ 0 ∧ ((st 4).chan 0).ticking = true ∧ ((st 4).chan 0).bit Reg.CH_MODE_CUR Fld.CH_MODE_CUR_FAULT = false ∧
    ((st 4 fun c => c.setFld (Reg.CAP_STAT 0) Fld.CAP_STAT_STATE 5).chan 0).capState 0 = 5 ∧ ((st 4).chan 0).bit (Reg.CAP_STAT 0) Fld.CAP_STAT_PPEND = false ∧
    (((st 4).chan 0).capConds 0).2.1 + (if (((st 4).chan 0).capSet 0).force then 65536 else 0) = 0 ∧
    1 ≤ ((st 4 fun c => ((c.setFld (Reg.CAP_LAYOUT 0) Fld.CAP_LAYOUT_NTR 1).setFld (Reg.CAP_LAYOUT 0) Fld.CAP_LAYOUT_SIZE 1).setFld (Reg.CAP_SEG 0) Fld.CAP_SEG_NSEG 1).chan 0).capDepth 0 ∧
    (((st 4).chan 0).capSet 0).dec + 1 < ((st 4 fun c => c.setFld (Reg.CAP_CFG 0) Fld.CAP_CFG_DECM1 1).chan 0).capDec 0 ∧ ((st 4 fun c => c.setFld (Reg.CAP_CFG 0) Fld.CAP_CFG_DECM1 0).chan 0).capDec 0 ≤ (((st 4).chan 0).capSet 0).dec + 1 ∧
    ((st 4).chan 0).bit (Reg.CAP_HOLD 0) Fld.CAP_HOLD_KIND = false ∧ (((st 4).chan 0).get (Reg.CAP_HOLD 0)).toNat % 2 ^ 26 ≤ 67108863 ∧
    ((st 4 fun c => c.setCap 0 { c.capSet 0 with pp := [5] }).chan 0 |>.capSet 0).pp = [5] ∧ ((st 4).chan 0).bit (Reg.CAP_STAT 0) Fld.CAP_STAT_THR = false ∧ (st 4).copiesHist 0 0 = false ∧
    ((st 4).chan 0).capDue 0 = true ∧ (0 : Nat) < 1 ∧ ((st 4).capNow 0 0).row.length = (((st 4).chan 0).capRow 0).length := by decide +kernel

/-- CaptureControl: GO with 15 descriptors waiting and with 16; a running copy; the throttle. -/
theorem witness_captureDma :
    State.reset.serves ∧ State.reset.keepsRoG 0 Reg.GCAP_DMA_GO ((0 : Word) ||| 1) ∧
    ({ State.reset with dma := { State.reset.dma with queue := List.replicate 15 ⟨0, 0, 0, 0⟩ } } : State).dma.queue.length < 16 ∧
    16 ≤ ({ State.reset with dma := { State.reset.dma with queue := List.replicate 16 ⟨0, 0, 0, 0⟩ } } : State).dma.queue.length ∧
    ({ State.reset with dma := { State.reset.dma with running := some ⟨0, 0, 0, 0⟩ } } : State).dma.running = some ⟨0, 0, 0, 0⟩ ∧ getField (0 : Word) Fld.GCAP_DMA_SEL_CH < 12 ∧
    ((st 1 fun c => (c.setFld (Reg.CAP_LAYOUT 0) Fld.CAP_LAYOUT_NTR 1).setCap 0 { c.capSet 0 with segs := (c.capSet 0).segs.set 0 .unread }).dmaWords ⟨0, 0, 0, 0⟩).isSome = true ∧
    (State.reset.gset Reg.THM_STAT Fld.THM_STAT_THROT 1).gbit Reg.THM_STAT Fld.THM_STAT_THROT = true := by
  unfold State.serves State.keepsRoG
  decide +kernel

/-- Recorder: the queue with its last ordinary place free; an entry to write; the start search; a slot; a batch; a store that fails and one that has failed. -/
theorem witness_recorder :
    State.reset.mergeRecord (State.reset.newRecord 1 0 5 0 0) = none ∧ State.reset.rcd.queue.length < 48 ∧
    ({ State.reset with rcd := { State.reset.rcd with queue := [ringDefault 0] } } : State).rcd.queue = [ringDefault 0] ∧
    State.reset.cal.waiting = none ∧ State.reset.rcd.drops = 0 ∧ (State.reset.gset Reg.REC_STAT Fld.REC_STAT_SEARCH 1).searching = true ∧ (State.reset.gset Reg.REC_STAT Fld.REC_STAT_SEARCH 0).searching = false ∧
    State.reset.keepsRoG 0 Reg.REC_RPTR 8191 ∧ (8191 : Word).getLsbD 31 = false ∧ getField 8191 Fld.REC_RPTR_SLOT < 8192 ∧
    (State.reset.gset Reg.REC_PCFG Fld.REC_PCFG_SIZE 1).storeSlots ≠ 0 ∧ (0x80001FFF : Word).getLsbD 31 = true ∧ getField 0x80001FFF Fld.REC_RPTR_SLOT < (State.reset.gset Reg.REC_PCFG Fld.REC_PCFG_SIZE 1).storeSlots ∧
    ({ State.reset.gset Reg.REC_STAT Fld.REC_STAT_PERS 1 with rcd := { State.reset.rcd with seq := 1, old := 1 } } : State).rcd.old ≤ ({ State.reset.gset Reg.REC_STAT Fld.REC_STAT_PERS 1 with rcd := { State.reset.rcd with seq := 1, old := 1 } } : State).nextPersist ∧
    0 < min (State.reset.gfld Reg.REC_PCFG Fld.REC_PCFG_BMAX) ({ State.reset with rcd := { State.reset.rcd with seq := 1, old := 1 } } : State).persistable.2 ∧
    State.reset.rcd.batch = none ∧ ({ State.reset with rcd := { State.reset.rcd with batch := some (1, 64) } } : State).rcd.batch = some (1, 64) ∧
    State.reset.gbit Reg.REC_STAT Fld.REC_STAT_RECFAIL = false ∧ State.reset.keepsRoG 0 Reg.REC_CTL ((0 : Word) ||| 1) ∧
    ({ State.reset with rcd := { State.reset.rcd with probing := true } } : State).rcd.probing = true := by
  unfold State.keepsRoG
  decide +kernel

/-- CalendarAndDie: SET and SETPPS accepted, a pending set, edges just under and at 0.9 s, words at the ends of the range. -/
theorem witness_calendar :
    State.reset.serves ∧ State.reset.keepsRoG 0 Reg.CAL_CTL (((0 : Word) &&& 0xFFFFFFFC) ||| 1) ∧ State.reset.keepsRoG 0 Reg.CAL_CTL (((0 : Word) &&& 0xFFFFFFFC) ||| 2) ∧
    State.reset.gbit Reg.CAL_STAT Fld.CAL_STAT_SETPEND = false ∧ (State.reset.gset Reg.CAL_STAT Fld.CAL_STAT_SETPEND 1).gbit Reg.CAL_STAT Fld.CAL_STAT_SETPEND = true ∧
    (State.reset.gset Reg.PPS_CFG Fld.PPS_CFG_EN 1).gbit Reg.PPS_CFG Fld.PPS_CFG_EN = true ∧ (899999999 : Nat) < 0 + 900000000 ∧
    (-221 : BitVec 12).toInt < -220 ∧ (-220 : BitVec 12).toInt = -220 ∧ 600 < (601 : BitVec 12).toInt ∧
    State.reset.die.seen.getLsbD 15 = false ∧ State.reset.dieFailed 15 = false ∧ |(600 : BitVec 12).toInt - 520| ≤ 80 := by
  unfold State.serves State.keepsRoG
  decide +kernel

/-- HostPort: a selected channel and none; a pair's low half and its high half; an access that is no word; a read that waits; frames of both ports. -/
theorem witness_hostPort :
    State.reset.serves ∧ getField 11 Fld.CTX_CHSEL_CH < 12 ∧ 12 ≤ getField 12 Fld.CTX_CHSEL_CH ∧
    (State.reset.gset Reg.GSTAT Fld.GSTAT_IMAGE_OK 1).readsBlank = false ∧ placeOf 0 ≠ .reserved ∧
    (⟨0, 2, 0xF⟩ : HostAccess).len ≠ 1 ∧ (⟨0, 1, 3⟩ : HostAccess).be ≠ 0xF ∧ (⟨2, 1, 0xF⟩ : HostAccess).addr.toNat % 4 ≠ 0 ∧
    (st 1).reaches 0 0 ∧ ((st 1).gset Reg.GSTAT Fld.GSTAT_IMAGE_OK 1).ddatValue ⟨0, 0, .fe, 0⟩ = some 0 ∧ run.ddatValue ⟨0, 0, .fe, 0⟩ = none ∧
    ({ st 1 with host := { (st 1).host with waiting := [⟨0, 0, .fe, 0⟩] } } : State).host.waiting.find? (fun r => r.ctx == 0) = some ⟨0, 0, .fe, 0⟩ ∧ (st 1).pcie = true ∧
    (State.reset.gset Reg.HOST_STAT Fld.HOST_STAT_MODE 1).pcie = false ∧ (⟨List.replicate 4 0, false⟩ : QspiFrame).bytes.length < 5 ∧
    (0x10000 : Nat) < 2 ^ 18 ∧ (0x10000 : Nat) % 4 = 0 ∧ placeOf 0x10000 ≠ .reserved ∧
    State.reset.keepsRoG 0 Reg.INT_MASK 0 ∧ (999 : Nat) < 1000 ∧ (1500 : Nat) < 1501 ∧
    ({ State.reset with pins := { State.reset.pins with classes := Vector.replicate 15 none } } : State).pins.classes[(14 : Fin 15)] = none ∧ (({ State.reset with pins := { State.reset.pins with classes := Vector.replicate 15 (some true) } } : State).pins.classes[(14 : Fin 15)]).isSome = true := by
  unfold State.reaches State.serves State.keepsRoG
  decide +kernel

/-- GroupsAndMirror: no group open, one open for its owner, a staged write that passes and one that does not, GO with and without a staging rejection; a mirrored write in SHADOW; a queued packet; a holder with the link up. -/
theorem witness_groups :
    State.reset.serves ∧ State.reset.keepsRoG 0 Reg.GRP_CTL 1 ∧ State.reset.grpOpen = false ∧ State.reset.gbit Reg.GRP_STAT Fld.GRP_STAT_PEND = false ∧
    (State.reset.openGroup 0).keepsRoG 0 Reg.GRP_CTL 2 ∧ (State.reset.openGroup 0).grpOwner 0 = true ∧
    getField (((st 4).onCtx 0 fun p => { p with chsel := setField 0 Fld.CTX_CHSEL_STAGE 1 }).host.ctxs[(0 : Ctx)]).chsel Fld.CTX_CHSEL_STAGE = 1 ∧
    waitsForBoundary Reg.CH_RIDE = true ∧ (st 4).stagePasses 0 Reg.CH_RIDE 1 [] = true ∧ (st 4).stagePasses 0 Reg.CH_RIDE 0 [] = false ∧
    (State.reset.openGroup 0).keepsRoG 0 Reg.GRP_GO ((0 : Word) ||| 1) ∧ (State.reset.openGroup 0).groupDelay ≤ 60000000000 ∧ (State.reset.openGroup 0).gbit Reg.GRP_STAT Fld.GRP_STAT_SREJ = false ∧
    (State.reset.gset Reg.GRP_STAT Fld.GRP_STAT_PEND 1).gbit Reg.GRP_STAT Fld.GRP_STAT_PEND = true ∧ State.reset.grp.waiting = 0 ∧
    mirrored Reg.CH_RIDE = true ∧ (st 8).arrivalCause 0 Reg.CH_RIDE 1 = none ∧ ((st 8).chan 0).ticking = true ∧ ((st 8).chan 0).mode = 8 ∧
    ({ State.reset with mir := ⟨[⟨⟨3, 0, 0x40, 0, none⟩, true⟩], 4, 0, []⟩ } : State).mir.queue.find? (fun p => p.w.seq == 3) = some ⟨⟨3, 0, 0x40, 0, none⟩, true⟩ ∧
    (State.reset.gfld Reg.MIR_CTL Fld.MIR_CTL_RSBUSY).testBit 0 = false ∧ State.reset.keepsRoG 0 Reg.MIR_CTL 1 := by
  unfold State.serves State.keepsRoG
  decide +kernel

/-- Images: accepted commands in each state, a word to take, a verification that fails and one that passes, flash operations at each retry, a REPAIR load. -/
theorem witness_images :
    State.reset.serves ∧ State.reset.keepsRoG 0 Reg.IMG_CTL (setField 0 Fld.IMG_CTL_OP 1) ∧ State.reset.imgCause (setField 0 Fld.IMG_CTL_OP 6) = 0 ∧
    State.reset.imgCause (setField (setField 0 Fld.IMG_CTL_KEY 0x494D) Fld.IMG_CTL_OP 3) = 0 ∧ State.reset.imgCause (setField (setField 0 Fld.IMG_CTL_KEY 0x494D) Fld.IMG_CTL_OP 4) = 0 ∧
    ({ State.reset.gset Reg.IMG_STAT Fld.IMG_STAT_STATE 1 with ldr := { State.reset.ldr with op := 1 } } : State).imgState = 1 ∧
    State.reset.keepsRoG 0 Reg.IMG_DATA 7 ∧ 4 * State.reset.ldr.got.length < ((State.reset.gput Reg.IMG_LEN 4).gget Reg.IMG_LEN).toNat ∧
    ({ State.reset.gput Reg.IMG_LEN 0 with ldr := { State.reset.ldr with op := 1 } } : State).delivered = true ∧
    State.reset.verifyErr (State.reset.imageFound ⟨[], [], []⟩) = 4 ∧
    (State.reset.gset Reg.IMG_STAT Fld.IMG_STAT_STATE 5).imgState = 5 ∧ ({ State.reset with ldr := { State.reset.ldr with retries := 3 } } : State).ldr.retries = 3 ∧
    ((st 11).chan 0).mode = 11 ∧ ({ st 11 with ldr := { (st 11).ldr with staged := some (0, ⟨0, 0, [], 0, ⟨[], [], [], []⟩, ⟨[], [], [], []⟩, [], [], false, [], [], 0⟩) } } : State).ldr.staged.isSome = true := by
  unfold State.serves State.keepsRoG
  decide +kernel

/-- FusesParametersResets: accepted fuse commands, a save of each result, an accepted reset of channel 11. -/
theorem witness_fuses :
    State.reset.serves ∧ State.reset.keepsRoG 0 Reg.IMG_FUSE (((setField 0 Fld.IMG_FUSE_KEY 0x4655) &&& 0xFFFFFFF3) ||| 4) ∧
    State.reset.ldr.fuse = none ∧ getField (setField 0 Fld.IMG_FUSE_KEY 0x4655) Fld.IMG_FUSE_KEY = 0x4655 ∧ State.reset.store.fuses[(0 : Fin 4)].hash = none ∧
    State.reset.keepsRoG 0 Reg.IMG_FUSE (((setField 0 Fld.IMG_FUSE_KEY 0x4655) &&& 0xFFFFFFF3) ||| 8) ∧ ({ State.reset with store := { State.reset.store with fuses := Vector.replicate 4 ⟨some 0, false⟩ } } : State).otherKey 0 = true ∧
    State.reset.keepsRoG 0 Reg.PAR_CTL 0x800 ∧ State.reset.ldr.queued = [] ∧ (0x800 : Word).extractLsb' 0 12 ≠ 0 ∧
    ({ State.reset with ldr := { State.reset.ldr with save := some ⟨0, [], none⟩ } } : State).ldr.save = some ⟨0, [], none⟩ ∧
    State.reset.keepsRoG 0 Reg.CHRST (setField 0x800 Fld.CHRST_KEY 0x4352) ∧ State.reset.resetAccepted 11 (setField 0x800 Fld.CHRST_KEY 0x4352) = true ∧
    (∀ c : ChId, (setField 0x800 Fld.CHRST_KEY 0x4352).getLsbD c.val = true → c = 11) := by
  unfold State.serves State.keepsRoG
  decide +kernel

/-- TickBoundary: no ticks, a latched fault, an overrun, a boundary; loops that admit a change and one that does not. -/
theorem witness_tickBoundary :
    ((st 0).chan 0).ticking = false ∧ ((st 4).chan 0).ticking = true ∧ ((st 4).chan 0).ctl.starting = false ∧
    ((st 1 fun c => c.setFld Reg.CH_MODE_CUR Fld.CH_MODE_CUR_FAULT 1).chan 0).faulted = true ∧ ((st 1).chan 0).bit Reg.PLL_STAT Fld.PLL_STAT_LOCK = true ∧ ((st 1).chan 0).pll.phase = .idle ∧
    ((st 4).chan 0).unfinished = some .duty ∧ ((st 4 fun c => { c with duty := { c.duty with done := true } }).chan 0).unfinished = none ∧
    lawOwner Reg.LAW_H = some (.me, 0) ∧ ((st 1).chan 0).loopAdmits .me 0 false = true ∧ ((st 4).chan 0).loopAdmits .me 0 true = false ∧
    (0x0800 : Nat) ≤ Reg.PWM_CFG ∧ Reg.PWM_CFG < 0x0C00 ∧ Reg.PWM_CFG ≠ Reg.BRK_CFG ∧ judged Reg.PWM_CFG = false ∧
    ((st 1 fun c => { c with ctl := { c.ctl with starting := true } }).chan 0).mode = 1 ∧ ((st 1).chan 0).ticking = true ∧ ((st 1).chan 0).unfinished = none ∧ ((st 1).chan 0).writes = [] ∧ ((st 1).chan 0).tickCount + 1 < 2 ^ 64 := by decide +kernel

/-- EveryCommandCompletes: a command that breaks no rule, and the three that break R121. -/
theorem witness_everyCommand :
    ¬ run.breaksStacks (.tickOverrun 0 .fe) ∧ ¬ run.breaksStacks (.call fe 0) ∧ ¬ (run fun e => { e with calls := [5] }).breaksStacks (.ret fe 0) ∧
    (run fun e => { e with calls := List.replicate 8 0 }).breaksStacks (.call fe 0) ∧ run.breaksStacks (.ret fe 0) ∧
    (run fun e => { e with loops := List.replicate 2 ⟨0, 0, 0⟩ }).breaksStacks (.loop fe 0 0) := by
  unfold State.breaksStacks State.executes
  decide +kernel

/-- StepKeepsInv: the invariant at reset, and a step from a state that has it. -/
theorem witness_stepKeepsInv :
    (State.reset.knl.bank.length ≤ 32 ∧ State.reset.dma.queue.length ≤ 16) ∧ Memory.wf State.reset.sram = true := by decide +kernel

/-- SafetyParameters: another check value than the engines' own. -/
theorem witness_otherCheck (s : State) : s.safetyCheck + 1 ≠ s.safetyCheck := by
  generalize s.safetyCheck = w
  simp

/-! ## Ill-formed terms: one for each check of Instr.wf, with its nearest well-formed neighbour -/

theorem test_wf_tick : (Instr.tickBoundary 0 ⟨0⟩).wf = false ∧ (Instr.tickBoundary 0 ⟨1⟩).wf = true := by decide

theorem test_wf_engineFaults : (Instr.lockstepMismatch 0 .fe 0 0).wf = false ∧ (Instr.lockstepMismatch 0 .fe 0 7).wf = false ∧
    (Instr.lockstepMismatch 0 .fe 0 6).wf = true ∧ (Instr.uncorrectableEcc 0 .fe .coef 1024 true).wf = false ∧
    (Instr.uncorrectableEcc 0 .fe .data 2047 true).wf = true ∧
    (Instr.reservedOpcode fe 0x3F).wf = false ∧ (Instr.reservedOpcode fe 0x3E).wf = true := by decide

theorem test_wf_firOutput : (Instr.firOutput 0 0 [] 0).wf = false ∧ (Instr.firOutput 0 0 [true] 0).wf = true ∧
    (Instr.skewCrossing 0 0 0 [true] 0 0).wf = false := by decide

/-- R74: a sinc3 of ratio 4 over ones sums to 4^3, its boxcars the weights 1, 3, 6, 10, 12, 12, 10, 6, 3, 1; all ones clamp. -/
theorem test_sinc : (sincSums 4 3 (List.replicate 10 1)).headD 0 = 64 ∧
    (List.range 10).map (fun j => (sincSums 4 3 (List.replicate j 0 ++ [1])).headD 0) = [1, 3, 6, 10, 12, 12, 10, 6, 3, 1] ∧
    sincOut 3 4 (List.replicate 10 16) = (2 ^ 31 - 1, true) := by decide +kernel

/-- R97: a trim of 4/16 bit mixes three quarters of a bit with a quarter of the bit before it. -/
theorem test_trim : trimmed 4 [true, false, false] = [8, -16, -12] := by decide

theorem test_wf_law : (Instr.lawParamWrite 0 0x1420 0).wf = false ∧ (Instr.lawParamWrite 0 0x14C0 0).wf = true := by decide

theorem test_wf_pairAndSafety : (Instr.linkTrainingEnd ⟨0, true, []⟩).wf = false ∧
    (Instr.safetyStrobe ⟨[], [], false, false, false, false, false⟩).wf = false ∧ (Instr.supplyGiveUp 0xF).wf = false := by decide

theorem test_wf_recorder : (Instr.recordRequest ⟨1, 12, 1, 0, 0⟩).wf = false ∧ (Instr.recordRequest ⟨1, 0xF, 1, 4, 0⟩).wf = false ∧
    (Instr.recordRequest ⟨1, 0xF, 1, 3, 0⟩).wf = true := by decide

theorem test_wf_host : (Instr.counterLowRead 1 0x10000).wf = false ∧ (Instr.counterLowRead 1 0x14000).wf = true ∧
    (Instr.qspiFrame ⟨List.replicate 10 0, false⟩).wf = false ∧ (Instr.groupStagedWrite 0 0x00FC 0).wf = false ∧
    (Instr.groupStagedWrite 0 0x0102 0).wf = false := by decide

theorem test_wf_mirror : (Instr.mirrorWriteReceive ⟨0, 0, 0x0C04, 0, none⟩).wf = false ∧ (Instr.mirrorWriteAnswer 0 true 3).wf = false ∧
    (Instr.mirrorWriteAnswer 0 false 0).wf = false := by decide

/-- A section that is well-formed. -/
def aSection : Section := ⟨0, 0, [], 0, ⟨[], [], [], []⟩, ⟨[], [], [], []⟩, [], List.replicate 16 31, false, [], [], 0⟩

theorem test_wf_image : (Instr.imageVerifyDone ⟨[], [], [(3, aSection)]⟩).wf = true ∧
    (Instr.imageVerifyDone ⟨[], [], [(3, aSection), (3, aSection)]⟩).wf = false ∧
    (Instr.imageVerifyDone ⟨[], [], [(3, { aSection with fracs := [] })]⟩).wf = false ∧
    (Instr.imageVerifyDone ⟨[], [], [(3, { aSection with regs := [(0x20, 0)] })]⟩).wf = false := by decide

/-- A signed image: channel 0 present with an empty section. The private key is 1, so its public key is the base point of
P-256; the values of the digests and the signature were computed outside the model (FIPS 180-4, FIPS 186-5). -/
def anImage : List Word :=
  [0x46414c43, 0x5c120001, 0x1000, 0, 0x1, 0, 0x1000, 0] ++
  [0x1000, 0, 0x10000] ++
  List.replicate 33 0 ++
  [0x42c4b0e3, 0x141cfc98, 0xc8f4fb9a, 0x24b96f99, 0xe441ae27, 0x4c939b64, 0x1b9995a4, 0x55b85278] ++
  [0x42c4b0e3, 0x141cfc98, 0xc8f4fb9a, 0x24b96f99, 0xe441ae27, 0x4c939b64, 0x1b9995a4, 0x55b85278] ++
  List.replicate 88 0 ++
  [0xf2d1176b, 0x47422ce1, 0xe5e6bcf8, 0xf240a463, 0x817d0377, 0xa033eb2d, 0x4539a1f4, 0x96c298d8] ++
  [0xe242e34f, 0x9b7f1afe, 0x4aebe78e, 0x169e0f7c, 0x5733ce2b, 0xce5e316b, 0x6840b6cb, 0xf551bf37] ++
  List.replicate 28 0 ++
  [0x47669978, 0xa60b48fc, 0x77f21b35, 0xc08969e2, 0x4b51ac3, 0x8a523803, 0x8d034f7e, 0x7cf27b18] ++
  [0x4f3ae0bb, 0x1f3e3f17, 0x4bfef234, 0x309d9caf, 0x27bd8f83, 0x8255bf29, 0x9b3c1576, 0x27ce7778] ++
  List.replicate 816 0

/-- The digest of its public key, as a fuse slot holds it. -/
def anImageKey : BitVec 256 := 0x9f0db5cbf5eed6fe24dff4d80f5d2f14803ebbb0c638c7ae362223ef7ddb75d8

/-- R490: with a word of the body changed, its digest does not match. -/
theorem test_imageDigest : imageErr (bytesOf (anImage.dropLast ++ [1])) none ≠ 0 := by decide +kernel

theorem test_wf_link : (Instr.pcieLinkTrainingEnd 0 1).wf = false ∧ (Instr.pcieLinkTrainingEnd 1 3).wf = false := by decide

/-- An operation that has received the image, whose key is in fuse slot 0. -/
def loading (op state : Nat) : State :=
  let s := (State.reset.gput Reg.IMG_LEN 0x1000).gset Reg.IMG_STAT Fld.IMG_STAT_STATE state
  { s with
    ldr := { s.ldr with op := op, got := anImage.reverse, image := some (imageView (bytesOf anImage) none ⟨[], [], []⟩) }
    store := { s.store with fuses := s.store.fuses.set 0 ⟨some anImageKey, false⟩ } }

/-- Images: a staged image of channel 0 that verifies, after a full load of the same global section. -/
theorem witness_imageStaged :
    (loading 1 1).delivered = true ∧ (loading 1 1).imgState = 1 ∧
    (loading 1 1).verifyErr ((loading 1 1).imageFound ⟨[], [], [(0, aSection)]⟩) = 0 ∧
    ((loading 1 1).ldr.image.map (·.gdigest)) = some ((loading 1 1).imageFound ⟨[], [], [(0, aSection)]⟩).gdigest ∧
    (((loading 1 1).imageFound ⟨[], [], [(0, aSection)]⟩).sections.find? (fun x => x.1.val == 0)).isSome = true := by
  decide +kernel

/-- Images: a full load that verifies. -/
theorem witness_imageLoaded :
    (loading 3 4).delivered = true ∧ (loading 3 4).imgState = 4 ∧ (loading 3 4).ldr.boot = [] ∧
    (loading 3 4).verifyErr ((loading 3 4).imageFound ⟨[], [], []⟩) = 0 := by decide +kernel

/-- Images: the slot of an image whose header is programmed. -/
def headed : State :=
  let s := loading 4 8
  let f : FlashSlot := ⟨[], some (imageView (bytesOf anImage) none ⟨[], [], []⟩)⟩
  { s with store := { s.store with slots := s.store.slots.set s.ldr.slot f } }

theorem witness_slotCommitted : headed.imgState = 8 ∧ (headed.store.slots[headed.ldr.slot]).image.isSome = true ∧
    headed.bootOrder = [] ∧ ((headed.store.slots[headed.ldr.slot]).stamped 1 true).commit = true := by decide +kernel

/-! ## Program words, written out from R119 and R120 -/

/-- OP 0x10, D 3, A 1, B 2, RM 3, CC 2. -/
theorem test_word_add : decodeEngine fe 0b010000_00011_00001_00010_0_11_00000_0010_0000000000_00000000000_0000000000 =
    some (.add fe 2 3 3 1 2) := by decide +kernel

/-- OP 0x01, D 31, IMM 0x80000001: bit 31 of the word is IMM[31]. -/
theorem test_word_ldi : decodeEngine fe 0b000001_11111_00000_00000_0_00_00000_0001_0000000000_00000000000_0000000001 =
    some (.ldi fe 31 0x80000001) := by decide +kernel

/-- OP 0x26, A 1, B 2, AC 1, K 1023. -/
theorem test_word_dmac : decodeEngine fe 0b100110_00000_00001_00010_1_00_00000_0000_1111111111_00000000000_0000000000 =
    some (.dmac fe 0 true 1 2 1023) := by decide +kernel

/-- OP 0x29, D 4, AC 1, RM 1, E −16. -/
theorem test_word_ext : decodeEngine fe 0b101001_00100_00000_00000_1_01_10000_0000_0000000000_00000000000_0000000000 =
    some (.ext fe 0 1 (-16) true 4) := by decide +kernel

/-- OP 0x08, A 5, M 0x40F. -/
theorem test_word_out : decodeEngine fe 0b001000_00000_00101_00000_0_00_00000_0000_0000000000_10000001111_0000000000 =
    some (.outPort fe 0 5 0 0x40F) := by decide +kernel

/-- An opcode that R120 does not list. -/
theorem test_word_reserved : decodeEngine fe 0xF800000000000000 = none := by decide +kernel

/-! ## The spec's worked examples -/

/-- 19_register_map.md: CAP_COND5_THR of set 1 in context 2 is at BAR0 0x1ADAC. -/
theorem test_windowAddr : windowAddr 2 (Reg.CAP_COND_THR 1 5) = 0x1ADAC := by decide

/-- 13_capture_and_trigger.md: DEPTH, P and Q of the disturbance recorder. -/
theorem test_capDepth : 
    let c := ((Chan.reset.put (Reg.CAP_LAYOUT 0) 0x01800010).setFld (Reg.CAP_SEG 0) Fld.CAP_SEG_NSEG 4).put (Reg.CAP_CFG 0) 0x20990000
    c.capRowWords 0 = 18 ∧ c.capDepth 0 = 0x1554 ∧ c.capP 0 = 1364 ∧ c.capQ 0 = 4095 := by decide +kernel

/-- 16_host_interface.md: eleven applied members and CH07 discarded. -/
theorem test_groupResult : ((List.finRange 12).foldl (fun s ch => s.groupOutcome ch (if ch = 7 then 3 else 1)) State.reset).gget
    Reg.GRP_RESULT = 0x0055D555 := by decide +kernel

/-- 09_clocking.md: PLL_LEVEL = 0x03204E20 is +20,000 ppm at 20 ppm/µs. -/
theorem test_pllLevel : levelProfile 0x03204E20 = [⟨0x1E8480, 200⟩] := by decide

/-- 08_pwm_and_power_stage.md: m = 0.6 at H = 40,000 steps. -/
theorem test_compare : compareOf 40000 1288490189 (2 ^ 31) = 24000 := by decide

/-- 15_thermal.md: at 160 °C, k = 0.6 and KD = 0x99. -/
theorem test_derating : 
    let lim := (Chan.reset.setFld Reg.TMOD_LIM Fld.TMOD_LIM_TDER 600).setFld Reg.TMOD_LIM Fld.TMOD_LIM_TTRIP 700
    let c := lim.setFld Reg.TMOD_CFG Fld.TMOD_CFG_KMIN 128
    let k := c.derating (160 * 2 ^ 32)
    k.1 * 5 = 3 * k.2 ∧ k.1 * 256 / k.2 = 0x99 := by decide +kernel

/-- 14_event_recorder.md: a time set back of 2 s raises EPOCH from 7 to 8, and the record holds both. -/
theorem test_epoch : let s := { State.reset.gset Reg.CAL_STAT Fld.CAL_STAT_EPOCH 7 with
      cal := { State.reset.cal with ns := 1000000002000000000 } }
    let t := s.calSet 1000000000000000000 2
    t.calEpoch = 8 ∧ t.cal.ns = 1000000000000000000 ∧
      t.rcd.queue.map (fun r => (r.epoch, r.time, r.data.extractLsb' 128 40)) = [(7, 1000000002000000000, 0x0200080007)] := by
  decide +kernel

/-- 10_redundant_pair.md: an overrun of the holder of CH05 gives it up with GUCAUSE 2 and CH_FAULT bit 5. -/
theorem test_giveUp : 
    let held : Chan := { chan 4 with pair := { (chan 4).pair with drive := true }, me := { (chan 4).me with run := .running } }
    let s := (State.reset.gset Reg.GSTAT Fld.GSTAT_PAIR 1).putChan 5 held
    let t := s.overrun 5 .me
    t.gfld Reg.GSTAT Fld.GSTAT_CH_FAULT = 0x020 ∧ t.cs 5 Fld.PAIR_CHSTAT_GUCAUSE = 2 ∧ t.cs 5 Fld.PAIR_CHSTAT_GAVEUP = 1 ∧
      (t.chan 5).mode = 1 := by decide +kernel

/-- 04_control_engines.md: 0.0042 as the coefficient 0x44D013A9 with k −7; a current error of 0.5 gives 0.0021. -/
theorem test_mul :
    after (exec (.mul fe 0 0 2 1 5) (run fun e => { e with v := e.v.set 1 0x40000000, coef := [(5, ⟨0x44D013A9, 0x39, 0, 4⟩)] }))
      (fun t => (t.eng fe).rv 2 == 4509716) = true := by decide +kernel

/-! ## The queue -/

/-- The command at the front runs, and an empty queue lets 10 ns pass. -/
theorem test_step :
    after (step { State.reset with pending := [.hostPllLock, .hostPllLoss] })
      (fun t => t.pending == [.hostPllLoss] && t.gbit Reg.GSTAT Fld.GSTAT_HOST_PLL_LOCK) = true ∧
    after (step State.reset) (fun t => t.time.refNs == 10) = true := by decide +kernel

end Sys2Proof.Tests
end

section
/-! SUPPORT. The family of 00_scope.md: a channel register's write that waits for its boundary or is rejected (R10, R32, R479),
and the state after a power-on reset (R9, R10, R520). -/

namespace Sys2Proof.Machine

/-! ## Which registers wait -/

/-- Registers below the capture sets' slots lie in no absent slot (R526). -/
theorem State.capAbsent_eq_false (s : State) (k : Ctx) {off : Nat} (h : off < 0x2C00) : s.capAbsent k off = false := by
  simp [State.capAbsent, Nat.not_le.2 h]

theorem waitsForBoundary_inputRegs : ∀ i : InId, waitsForBoundary (Reg.FIR_XF i) = true ∧
    waitsForBoundary (Reg.DCB_EST i) = true ∧ waitsForBoundary (Reg.SDI_TRIM i) = true ∧
    waitsForBoundary (Reg.SDI_CFG i) = true := by decide +kernel

theorem waitsForBoundary_packCfg : waitsForBoundary Reg.PACK_CFG = true := by decide +kernel

/-- A register that waits lies, aligned, in the channel's blocks below the safety view, in a row whose writes reach its block
through `fieldWrite`. -/
theorem exists_row_of_waitsForBoundary {off : Nat} (h : waitsForBoundary off = true) :
    (∃ r, findRow chanRows off = some r ∧ r.counter = false) ∧ off % 4 = 0 ∧ 0x10 ≤ off ∧ off < 0x3000 ∧
      off ∉ [Reg.CH_MODE_REQ, Reg.PWM_TRIP, Reg.CH_SAFE_LATCH, Reg.ENG_CDAT, Reg.ENG_DDAT] := by
  unfold waitsForBoundary at h
  cases hrow : findRow chanRows off with
  | none => simp [hrow] at h
  | some r =>
    simp only [hrow, Bool.and_eq_true, Bool.not_eq_true', decide_eq_true_eq, beq_iff_eq] at h
    obtain ⟨⟨⟨⟨⟨⟨⟨⟨⟨⟨hal, hlo⟩, hhi⟩, hcnt⟩, -⟩, -⟩, -⟩, -⟩, -⟩, hport⟩, hcmd⟩ := h
    simp only [isPort, Bool.or_eq_false_iff, decide_eq_false_iff_not] at hport
    obtain ⟨⟨hcdat, hddat⟩, -⟩ := hport
    simp only [List.contains_eq_mem, decide_eq_false_iff_not, List.mem_cons, not_or] at hcmd
    obtain ⟨hreq, htrip, hlatch, -⟩ := hcmd
    refine ⟨⟨r, rfl, hcnt⟩, hal, hlo, hhi, ?_⟩
    simp [hreq, htrip, hlatch, hcdat, hddat]

/-! ## What a rejection marks -/

/-- The registers in which the blocks of a channel report a rejected write (R479): their status, and the mode controller's
count. -/
def rejectRegs : List Nat :=
  [Reg.CH_TICK_STAT, Reg.CH_MODE_STAT, Reg.CH_MODE_CNT, Reg.PWM_STAT, Reg.LAW_STAT, Reg.PLL_STAT, Reg.PACK_STAT, Reg.TMOD_STAT] ++
    (List.range 16).map Reg.SDI_STAT ++ (List.range 5).map Reg.SP_STAT ++ (List.range 4).map Reg.CAP_STAT

theorem waitsForBoundary_rejectRegs : ∀ o ∈ rejectRegs, waitsForBoundary o = false := by decide +kernel

theorem not_mem_rejectRegs {off : Nat} (h : waitsForBoundary off = true) : off ∉ rejectRegs := fun hm => by
  simp [waitsForBoundary_rejectRegs off hm] at h

theorem mem_rejectRegs_sdiStat {i : Nat} (h : i < 16) : Reg.SDI_STAT i ∈ rejectRegs := by
  simp only [rejectRegs, List.mem_append, List.mem_map, List.mem_range]
  exact .inl (.inl (.inr ⟨i, h, rfl⟩))

theorem mem_rejectRegs_spStat {i : Nat} (h : i < 5) : Reg.SP_STAT i ∈ rejectRegs := by
  simp only [rejectRegs, List.mem_append, List.mem_map, List.mem_range]
  exact .inl (.inr ⟨i, h, rfl⟩)

theorem mem_rejectRegs_capStat {i : Nat} (h : i < 4) : Reg.CAP_STAT i ∈ rejectRegs := by
  simp only [rejectRegs, List.mem_append, List.mem_map, List.mem_range]
  exact .inr ⟨i, h, rfl⟩

@[simp] theorem Chan.markRejected_writes (c : Chan) (off cause : Nat) : (c.markRejected off cause).writes = c.writes := by
  have frame : ∀ (c : Chan) (r : Nat) (f : BitField) (n : Nat), (c.setFld r f n).writes = c.writes := fun _ _ _ _ => rfl
  unfold Chan.markRejected
  dsimp only
  repeat' split
  all_goals simp only [frame]

/-- Setting a field of a reporting register leaves every other register. -/
theorem Chan.get_setFld_of_not_mem (c : Chan) {o r : Nat} (f : BitField) (n : Nat) (ho : o ∉ rejectRegs) (hr : r ∈ rejectRegs) :
    (c.setFld r f n).get o = c.get o := by
  have hne : o ≠ r := fun e => ho (e ▸ hr)
  simp [hne]

/-- A block marks a rejection in its reporting registers alone. -/
theorem Chan.get_markRejected (c : Chan) {off o : Nat} (cause : Nat) (hoff : off < 0x3000) (ho : o ∉ rejectRegs) :
    (c.markRejected off cause).get o = c.get o := by
  have hsdi : off < 0x0800 → Reg.SDI_STAT ((off - 0x400) / 0x40) ∈ rejectRegs := fun h => mem_rejectRegs_sdiStat (by omega)
  have hsp : off < 0x1CA0 → Reg.SP_STAT ((off - 0x1C00) / 0x20) ∈ rejectRegs := fun h => mem_rejectRegs_spStat (by omega)
  have hcap : Reg.CAP_STAT ((off - 0x2C00) / 0x100) ∈ rejectRegs := mem_rejectRegs_capStat (by omega)
  have frame : ∀ (c : Chan) (r : Nat) (f : BitField) (n : Nat), r ∈ rejectRegs → (c.setFld r f n).get o = c.get o :=
    fun c _ f n hr => c.get_setFld_of_not_mem f n ho hr
  have mode : ∀ n, ((c.setFld Reg.CH_MODE_STAT Fld.CH_MODE_STAT_REJ 1).setFld Reg.CH_MODE_STAT Fld.CH_MODE_STAT_RCAUSE n).get o =
      c.get o := fun n => (frame _ _ _ _ (by decide)).trans (frame _ _ _ _ (by decide))
  unfold Chan.markRejected
  dsimp only
  split
  · exact frame _ _ _ _ (by decide)
  split
  · exact mode _
  split
  · exact frame _ _ _ _ (hsdi ‹_›)
  split
  · exact frame _ _ _ _ (by decide)
  split
  · exact frame _ _ _ _ (by decide)
  split
  · split
    · exact (frame _ _ _ _ (hsp ‹_›)).trans (mode _)
    · exact mode _
  split
  · exact (frame _ _ _ _ (by decide)).trans (frame _ _ _ _ (by decide))
  split
  · exact frame _ _ _ _ (by decide)
  split
  · exact frame _ _ _ _ (by decide)
  · exact frame _ _ _ _ hcap

/-- What a rejection leaves of its channel: the waiting writes, and every register but the reporting ones. -/
theorem State.rejectChan_frame (s : State) (ch : ChId) {off : Nat} (v : Word) (src : WriteSrc) (cause : Nat) (hoff : off < 0x3000) :
    ((s.rejectChan ch off v src cause).chan ch).writes = (s.chan ch).writes ∧
      ∀ o, o ∉ rejectRegs → ((s.rejectChan ch off v src cause).chan ch).get o = (s.chan ch).get o := by
  unfold State.rejectChan
  dsimp only
  rw [State.rejectRecord_chan]
  split
  · rw [(State.reports_countCh _ ch Reg.CH_MODE_CNT true false).chan]
    refine ⟨by simp, fun o ho => ?_⟩
    have hne : o ≠ Reg.CH_MODE_CNT := fun e => ho (e ▸ by decide)
    simp [hne, Chan.get_markRejected _ _ hoff ho]
  · exact ⟨by simp, fun o ho => by simp [Chan.get_markRejected _ _ hoff ho]⟩

/-! ## What a violation reports -/

@[simp] theorem State.violation_chan (s : State) (k : Ctx) (cause addr : Nat) (wr : Bool) (ch : ChId) :
    (s.violation k cause addr wr).chan ch = s.chan ch := by
  unfold State.violation
  dsimp only
  rw [State.irq_chan]
  split <;> simp

/-- A context's registers after a violation: VIO, the cause, the address with the direction, and one more in the count
(R478). -/
def CtxPort.reported (p : CtxPort) (cause addr : Nat) (wr : Bool) : CtxPort :=
  { p with
    stat := setField (setField p.stat Fld.CTX_STAT_VIO 1) Fld.CTX_STAT_VCAUSE cause,
    vaddr := BitVec.ofNat 32 (addr % 2 ^ 18 + 2 ^ 18 * if wr then 1 else 0),
    cnt := counterStep p.cnt false }

theorem CtxPort.reported_vio (p : CtxPort) (cause addr : Nat) (wr : Bool) :
    getField (p.reported cause addr wr).stat Fld.CTX_STAT_VIO = 1 := by
  simp only [CtxPort.reported]
  rw [getField_setField_ne _ _ _ _ (by decide), getField_setField _ _ _ (by decide)]
  rfl

theorem CtxPort.reported_vcause (p : CtxPort) {cause : Nat} (addr : Nat) (wr : Bool) (h : cause < 2 ^ Fld.CTX_STAT_VCAUSE.width) :
    getField (p.reported cause addr wr).stat Fld.CTX_STAT_VCAUSE = cause := by
  simp only [CtxPort.reported]
  rw [getField_setField _ _ _ (by decide), Nat.mod_eq_of_lt h]

theorem CtxPort.reported_vaddr_write (p : CtxPort) (cause : Nat) {addr : Nat} (h : addr < 2 ^ 18) :
    (p.reported cause addr true).vaddr = BitVec.ofNat 32 (addr + 2 ^ 18) := by
  simp only [CtxPort.reported, Nat.mod_eq_of_lt h, if_true, Nat.mul_one]

theorem State.violation_ctxs (s : State) (k : Ctx) (cause addr : Nat) (wr : Bool) :
    (s.violation k cause addr wr).host.ctxs = (s.onCtx k fun p => p.reported cause addr wr).host.ctxs := by
  unfold State.violation
  dsimp only
  rw [State.irq_ctxs]
  split
  · rfl
  · exact congrArg HostPort.ctxs (State.record_host ..)

theorem State.violation_ctx (s : State) (k : Ctx) (cause addr : Nat) (wr : Bool) :
    (s.violation k cause addr wr).host.ctxs[k] = s.host.ctxs[k].reported cause addr wr :=
  (congrArg (fun ctxs : Vector CtxPort 4 => ctxs[k]) (s.violation_ctxs k cause addr wr)).trans
    ((s.ctx_onCtx k k _).trans (if_pos rfl))

theorem State.violation_hostVio (s : State) (k : Ctx) (cause addr : Nat) (wr : Bool) :
    (s.violation k cause addr wr).gbit Reg.HOST_VIO Fld.HOST_VIO_VIO = true := by
  have hvio : ∀ w : Word, getField (setField (setField (setField w Fld.HOST_VIO_VIO 1) Fld.HOST_VIO_VCAUSE cause)
      Fld.HOST_VIO_CTX k.val) Fld.HOST_VIO_VIO = 1 := fun w => by
    rw [getField_setField_ne _ _ _ _ (by decide), getField_setField_ne _ _ _ _ (by decide), getField_setField _ _ _ (by decide)]
    rfl
  unfold State.gbit State.gfld State.violation
  dsimp only
  rw [State.irq_gget _ _ _ (by decide)]
  split
  · simp [hvio]
  · rw [State.record_gget _ _ _ _ _ _ _ (by decide)]
    simp [hvio]

/-! ## A write through a context's window -/

/-- A write through a context's window, of a register of the channel set that is there, is answered by the channel set, which
reports a violation against the context (R461, R478). -/
theorem State.writeWindow_eq {s : State} {k : Ctx} {off : Nat} (v : Word) (h : s.serves) (hlo : 0x10 ≤ off) (hhi : off < 0x4000)
    (hal : off % 4 = 0) (hp : (findRow chanRows off).isSome = true) (ha : s.capAbsent k off = false) :
    s.writeWindow k off v = ((s.writeChan k off v).report k (windowAddr k off) true).answered := by
  obtain ⟨hup, hd3⟩ := h
  have hk := k.isLt
  have haddr : (BitVec.ofNat 18 (windowAddr k off)).toNat = windowAddr k off := by
    rw [BitVec.toNat_ofNat]
    exact Nat.mod_eq_of_lt (by unfold windowAddr; omega)
  have hlow : ¬ windowAddr k off < 0x8000 := by unfold windowAddr; omega
  have hres : ¬ windowAddr k off < 0x10000 := by unfold windowAddr; omega
  have hwin : windowAddr k off < 0x20000 := by unfold windowAddr; omega
  have hplace : placeOf (windowAddr k off) = .chan off := by
    have hoff : (windowAddr k off - 0x10000) % 0x4000 = off := by unfold windowAddr; omega
    simp only [placeOf, hlow, hres, hwin, hoff, Nat.not_lt.2 hlo, if_true, if_false]
  have hctx : s.ctxOf (windowAddr k off) = k := by
    have hhigh : ¬ 0x40000 ≤ windowAddr k off := by omega
    have hidx : (windowAddr k off - 0x10000) / 0x4000 = k.val := by unfold windowAddr; omega
    simp only [State.ctxOf, hlow, hres, hwin, hidx, hhigh, decide_false, Bool.or_self, Bool.false_eq_true, if_true, if_false]
    exact Fin.ext (Nat.mod_eq_of_lt hk)
  have halign : windowAddr k off % 4 = 0 := by unfold windowAddr; omega
  have hpres : s.present k (.chan off) = true := by simp [State.present, hp, ha]
  have hacc : s.access k (windowAddr k off) false (some v) = s.writeChan k off v := by
    simp [State.access, hplace, hpres, State.writePlace]
  simp [State.writeWindow, State.writeAt, State.request, State.readHeld, State.answer, State.answered, hup, hd3, haddr, halign,
    hctx, hacc, hplace]

/-- A block's rejection of a register that waits for its boundary. -/
theorem State.chanWrite_rejected {s : State} {ch : ChId} {off : Nat} {v : Word} {n : Nat} (src : WriteSrc)
    (hq : waitsForBoundary off = true) (hc : s.arrivalCause ch off v = some n) :
    s.chanWrite ch off v src = (s.rejectChan ch off v src n, .bad) := by
  obtain ⟨⟨r, hrow, hcnt⟩, -, -, hhi, hn⟩ := exists_row_of_waitsForBoundary hq
  simp only [List.mem_cons, not_or, List.not_mem_nil, not_false_eq_true, and_true] at hn
  obtain ⟨hreq, htrip, hlatch, hcdat, hddat⟩ := hn
  have hsaf : ¬ 0x3000 ≤ off := by omega
  cases hshut : (s.chan ch).blockShut off with
  | true =>
    have hzero : n = 0 := by simpa [State.arrivalCause, hshut] using hc.symm
    simp [State.chanWrite, hreq, hsaf, hshut, hzero]
  | false =>
    simp only [State.chanWrite, hreq, hsaf, hshut, htrip, hlatch, hcdat, hddat, hrow, hcnt, State.fieldWrite, hc, if_false,
      Bool.false_eq_true]

/-- A host write that its block rejects is a violation with cause 5 (R478, R479). -/
theorem State.writeWindow_rejected {s : State} {k : Ctx} {ch : ChId} {off : Nat} {v : Word} {n : Nat} (h : s.reaches k ch)
    (hq : waitsForBoundary off = true) (ha : s.capAbsent k off = false) (hr : s.keepsRo k ch off v)
    (hc : s.arrivalCause ch off v = some n) :
    s.writeWindow k off v = ((s.rejectChan ch off v (.host k) n).violation k 5 (windowAddr k off) true).answered := by
  obtain ⟨hserves, hsel, hrepair, hstage⟩ := h
  obtain ⟨⟨r, hrow, -⟩, hal, hlo, hhi, -⟩ := exists_row_of_waitsForBoundary hq
  have hwrite : s.writeChan k off v = ⟨s.rejectChan ch off v (.host k) n, 5, none, []⟩ := by
    unfold State.keepsRo at hr
    have hdirect : ¬ getField s.host.ctxs[k].chsel Fld.CTX_CHSEL_STAGE = 1 := by rw [hstage]; decide
    simp only [State.writeChan, hsel, hrepair, hdirect, hr, State.chanWrite_rejected (.host k) hq hc, writeCause, if_false,
      Bool.false_eq_true]
  rw [State.writeWindow_eq v hserves hlo (by omega) hal (by simp [hrow]) ha, hwrite]
  rfl

/-! ## A channel register's write -/

/-- Settles O17: an accepted write joins the queue (`State.writeWindow_queues`), a rejected one is a violation that marks only
reporting registers (`State.writeWindow_rejected`, `State.rejectChan_frame`). -/
theorem channelWritesWait : Obligations.ChannelWritesWait := by
  unfold Obligations.ChannelWritesWait
  refine ⟨fun s k ch hreach htick hlost => ?_, fun s k ch off v n hreach hwait hcap hro hcause => ?_⟩
  · have queued : ∀ {off : Nat} {w : Word}, waitsForBoundary off = true → s.capAbsent k off = false → s.keepsRo k ch off w →
        s.arrivalCause ch off w = none → Host.Outcome.next (s.writeWindow k off w) = (.next ((s.onChan ch fun c =>
          { c with writes := c.writes ++ [⟨off, w, .host k, none, []⟩] }).answered) : Result) :=
      fun hwait hcap hro hcause => congrArg _ (State.writeWindow_queues hreach hwait hcap hro htick hlost hcause)
    refine fun v => ⟨fun off => queued, fun i => ?_, fun off _ hlaw hwait => queued hwait (s.capAbsent_eq_false k (by omega)),
      queued waitsForBoundary_packCfg (s.capAbsent_eq_false k (by decide)),
      queued waitsForBoundary_packCfg (s.capAbsent_eq_false k (by decide))⟩
    obtain ⟨hxf, hest, htrim, hcfg⟩ := waitsForBoundary_inputRegs i
    have hi := i.isLt
    exact ⟨queued hxf (s.capAbsent_eq_false k (by simp only [Reg.FIR_XF]; omega)),
      queued hest (s.capAbsent_eq_false k (by simp only [Reg.DCB_EST]; omega)),
      queued htrim (s.capAbsent_eq_false k (by simp only [Reg.SDI_TRIM]; omega)),
      queued hcfg (s.capAbsent_eq_false k (by simp only [Reg.SDI_CFG]; omega))⟩
  · obtain ⟨-, -, hlo, hhi, -⟩ := exists_row_of_waitsForBoundary hwait
    have hk := k.isLt
    have haddr : windowAddr k off < 2 ^ 18 := by unfold windowAddr; omega
    obtain ⟨hwrites, hregs⟩ := s.rejectChan_frame ch v (.host k) n hhi
    have hctx : ((s.rejectChan ch off v (.host k) n).violation k 5 (windowAddr k off) true).answered.host.ctxs[k] =
        (s.rejectChan ch off v (.host k) n).host.ctxs[k].reported 5 (windowAddr k off) true := State.violation_ctx ..
    refine ⟨_, congrArg Host.Outcome.next (State.writeWindow_rejected hreach hwait hcap hro hcause), rfl,
      (congrArg Chan.writes (State.violation_chan ..)).trans hwrites,
      (congrArg (Chan.get · off) (State.violation_chan ..)).trans (hregs off (not_mem_rejectRegs hwait)), ?_, ?_, ?_,
      State.violation_hostVio ..⟩
    · rw [hctx]
      exact CtxPort.reported_vio ..
    · rw [hctx]
      exact CtxPort.reported_vcause _ _ _ (by decide)
    · rw [hctx]
      exact CtxPort.reported_vaddr_write _ _ haddr

/-! ## Reset -/

@[simp] theorem State.chan_reset (ch : ChId) : State.reset.chan ch = Chan.reset := by
  simp [State.chan, State.reset]

/-- A register that nothing has written since the reset reads its reset value (R9, R527). -/
theorem Chan.get_reset (o : Nat) : Chan.reset.get o = chanReset o := sget_nil chanReset o

theorem State.gget_reset (o : Nat) : State.reset.gget o = globalReset o := sget_nil globalReset o

theorem State.sramGet_reset (a : Nat) : State.reset.sramGet a = 0 := sget_nil _ a

theorem State.reset_inv : State.reset.Inv := ⟨Nat.zero_le _, Nat.zero_le _, State.reset_swf⟩

theorem Chan.reset_mode : Chan.reset.mode = 0 := by decide +kernel

/-- No pads are released at reset, so all are HIZ (R39). -/
theorem State.padsHiz_reset (ch : ChId) : State.reset.padsHiz ch = true := by
  have hpads : State.reset.gbit Reg.GSTAT Fld.GSTAT_PADS_RELEASED = false := by decide +kernel
  simp [State.padsHiz, hpads]

/-- The KENNEL's global inhibit is set at reset (R380), so every channel is inhibited. -/
theorem State.inhibited_reset (ch : ChId) : State.reset.inhibited ch = true := by
  have hginh : State.reset.gbit Reg.KNL_STAT Fld.KNL_STAT_GINH = true := by decide +kernel
  simp [State.inhibited, hginh]

/-- Settles O58: nothing has been written yet, so every register reads its reset value, and the pads, inhibits and SAFE_N follow
from those values. -/
theorem resetState : Obligations.ResetState := by
  unfold Obligations.ResetState
  refine ⟨rfl, State.reset_inv, State.gget_reset, fun ch o => ?_, State.sramGet_reset, rfl, rfl,
    by decide +kernel, by decide +kernel, by decide +kernel, by decide +kernel⟩
  rw [State.chan_reset]
  exact ⟨Chan.get_reset o, Chan.reset_mode, rfl, State.padsHiz_reset ch, State.inhibited_reset ch⟩

end Sys2Proof.Machine
end

section
/-! SUPPORT. The family of 01_architecture.md: hard channel faults (R36, R180), the commands that declare them (R24, R27, R47,
R48, R111, R121, R127, R128), and the tick boundary of a holder that leaves HALT (R33, R174, R192). -/

namespace Sys2Proof.Machine

/-! ## A hard channel fault -/

/-- What stays around an entry of a mode: whether a fault is latched. -/
theorem State.Stays.faulted {ch : ChId} {s t : State} (h : State.Stays ch s t) : (t.chan ch).faulted = (s.chan ch).faulted := by
  unfold Chan.faulted Chan.bit Chan.fld
  rw [h.cur]

/-- What stays around an entry of a mode: the mode. -/
theorem State.Stays.mode {ch : ChId} {s t : State} (h : State.Stays ch s t) : (t.chan ch).mode = (s.chan ch).mode := by
  unfold Chan.mode Chan.fld
  rw [h.cur]

/-- Settles O10: HALT with FAULT is entered (`State.faultHalt_sets`), by a holder after it has given the channel up
(`State.stays_releaseGivenUp`). -/
theorem hardFault : Obligations.HardFault := by
  unfold Obligations.HardFault
  intro s ch cause
  generalize hu : (if s.isPair && s.holds ch then s.releaseGivenUp ch cause else s) = u
  have hfault : s.hardFault ch cause = u.faultHalt ch := congrArg (State.faultHalt · ch) hu
  have hstays : State.Stays ch s u := hu ▸ State.Stays.ite (s.stays_releaseGivenUp ch cause).1 (State.Stays.refl ch s)
  obtain ⟨hmode, hlatched, hfe, hme, hentry, hgstat, hdrive, hpads⟩ := u.faultHalt_sets ch
  rw [hstays.faulted, hstays.mode] at hentry
  rw [hfault]
  refine ⟨hmode, hlatched, hfe, hme, hentry, hgstat, fun hpair hholds => ?_⟩
  obtain ⟨-, hwires, hpins⟩ := s.stays_releaseGivenUp ch cause
  simp only [hpair, hholds, Bool.and_self, if_true] at hu
  rw [hu] at hwires hpins
  exact ⟨hdrive hwires, hpads hpins⟩

/-! ## The fabric's word -/

/-- A bit put ahead of a word is one more term of its parity. -/
theorem oddParity_append_bit {n : Nat} (b : BitVec 1) (x : BitVec n) : oddParity (b ++ x) = (oddParity x != b.getLsbD 0) := by
  have tail : ∀ i ∈ List.range n, ∀ p : Bool, (p != (b ++ x).getLsbD i) = (p != x.getLsbD i) := fun i hi p => by
    rw [BitVec.getLsbD_append, if_pos (List.mem_range.1 hi)]
  have range : List.range (1 + n) = List.range n ++ [n] := by rw [Nat.add_comm, List.range_succ]
  unfold oddParity
  rw [range, List.foldl_append, List.foldl_ext _ _ _ fun p i hi => tail i hi p]
  simp [BitVec.getLsbD_append]

/-- PAR makes the parity of a fabric word even (R24). -/
theorem FabWord.bits_even (w : FabWord) (q : BitVec 8) : oddParity (w.bits q) = false := by
  unfold FabWord.bits
  extract_lets body
  refine (oddParity_append_bit _ body).trans ?_
  cases oddParity body <;> rfl

/-- The bits of a fabric word under PAR, and under the zeros above DEST. -/
theorem FabWord.getLsbD_bits (w : FabWord) (q : BitVec 8) {i : Nat} (h : i < 60) :
    (w.bits q).getLsbD i = (w.dest ++ (w.age ++ (q ++ (w.tag ++ w.data)))).getLsbD i := by
  unfold FabWord.bits
  extract_lets body
  refine (BitVec.getLsbD_append (x := if oddParity body then 1#1 else 0#1) (y := body)).trans ((if_pos (by omega)).trans ?_)
  exact (BitVec.getLsbD_append (x := 0#3)).trans (if_pos h)

/-- A field of a fabric word is what its bits are. -/
theorem FabWord.extractLsb'_bits (w : FabWord) (q : BitVec 8) {n lo : Nat} (x : BitVec n) (hlo : lo + n ≤ 60)
    (hx : ∀ i, i < n → (w.dest ++ (w.age ++ (q ++ (w.tag ++ w.data)))).getLsbD (lo + i) = x.getLsbD i) :
    (w.bits q).extractLsb' lo n = x := by
  ext i hi
  rw [BitVec.getElem_extractLsb', w.getLsbD_bits q (by omega), hx i hi, BitVec.getLsbD_eq_getElem hi]

/-- Where a fabric word holds its quantity, its data and its tag (R24). -/
theorem FabWord.bits_fields (w : FabWord) (q : BitVec 8) : (w.bits q).extractLsb' 36 8 = q ∧
    (w.bits q).extractLsb' 0 32 = w.data ∧ (w.bits q).extractLsb' 32 4 = w.tag := by
  refine ⟨w.extractLsb'_bits q q (by omega) fun i hi => ?_, w.extractLsb'_bits q w.data (by omega) fun i hi => ?_,
    w.extractLsb'_bits q w.tag (by omega) fun i hi => ?_⟩
  all_goals
    simp only [BitVec.getLsbD_append]
    grind

/-! ## The commands that declare a fault -/

/-- A channel whose ticks run loads no engine memories (R489). -/
theorem Chan.loadsEngines_of_ticking {c : Chan} (h : c.ticking = true) : c.loadsEngines = false := by
  simp only [Chan.ticking, Bool.and_eq_true, decide_eq_true_eq] at h
  obtain ⟨⟨-, hidle⟩, -⟩ := h
  simp [Chan.loadsEngines, hidle]

/-- Settles O11: a fabric word is even by its PAR (`FabWord.bits_even`); each command is its arm under its guard, and the two
updates that end a failed load are one of the same channel. -/
theorem engineFaults : Obligations.EngineFaults := by
  unfold Obligations.EngineFaults
  refine ⟨fun w q => ⟨w.bits_even q, w.bits_fields q⟩, fun s ch eng mem pc addr cls byScrubber op cause word => ?_⟩
  intro set ue ecc
  refine ⟨fun h => ?_, fun h => ?_, fun h => ?_, fun h => ?_, fun hrun hodd => ?_, fun h => ?_⟩
  · show execTickOverrun ch cause s = _
    rw [execTickOverrun, if_pos h]
  · show execLockstepMismatch ch eng pc cls s = _
    simp only [execLockstepMismatch, h, Bool.not_true, Bool.false_eq_true, if_false]
    rfl
  · show execUncorrectableEcc ch eng mem addr byScrubber s = _
    simp only [execUncorrectableEcc, h, Chan.loadsEngines_of_ticking h, Bool.not_true, Bool.false_and, Bool.false_eq_true, if_false]
    rfl
  · show execUncorrectableEcc ch eng mem addr byScrubber s = _
    simp only [execUncorrectableEcc, h, Bool.not_true, Bool.and_false, Bool.false_eq_true, if_false, if_true]
    have merged : ((set ue).onChan ch fun c => { c with pll := { c.pll with phase := .idle } }) =
        s.putChan ch (({ s.chan ch with pll := { (s.chan ch).pll with phase := .idle } } : Chan).setFld Reg.ENG_STAT ue 1) := by
      simp only [set, State.onChan_eq, State.chan_putChan_same, State.putChan_putChan]
      rfl
    rw [merged]
    rfl
  · show execFabricParityError ch word s = _
    simp only [execFabricParityError, hrun, hodd, Bool.not_true, Bool.or_self, Bool.false_eq_true, if_false]
  · show execReservedOpcode ⟨ch, eng⟩ op s = _
    simp only [execReservedOpcode, h, bne_self_eq_false, Bool.false_eq_true, if_false]
    rfl

/-! ## The tick boundary of a holder that leaves HALT for SHADOW -/

/-- A tick that has begun, or whose engines have finished, ends in the boundary (R33, R47). -/
theorem exec_tickBoundary_next {s : State} {ch : ChId} (env : TickEnv) (hticking : (s.chan ch).ticking = true)
    (hdone : (s.chan ch).ctl.starting = true ∨ (s.chan ch).unfinished = none) :
    exec (.tickBoundary ch env) s = .next (s.boundary ch env) := by
  have hfault : (s.chan ch).faulted = false := by
    simp only [Chan.ticking, Bool.and_eq_true, Bool.not_eq_true'] at hticking
    exact hticking.2
  have hcause : (if (s.chan ch).ctl.starting then none else (s.chan ch).unfinished) = none := by
    obtain h | h := hdone <;> simp [h]
  show execTickBoundary ch env s = _
  simp only [execTickBoundary, hfault, hticking, hcause, Bool.false_and, Bool.not_true, Bool.false_eq_true, if_false]

/-- Channel 0 of a pair member in HALT, its clock locked, holding its LEASH. -/
def haltedHolder : State :=
  let halted := (Chan.reset.setFld Reg.CH_MODE_CUR Fld.CH_MODE_CUR_MODE 1).setFld Reg.PLL_STAT Fld.PLL_STAT_LOCK 1
  (State.reset.gset Reg.GSTAT Fld.GSTAT_PAIR 1).putChan 0 { halted with pair := { halted.pair with drive := true } }

/-- After the boundary that took the host's request for SHADOW: still in HALT, it lets the LEASH go at the next one (R192). -/
def haltedReleasing : State := haltedHolder.takeRequest 0 8

/-- The holder is in HALT, its ticks run, no write waits, and its tick is complete. -/
theorem haltedReleasing_halted : (haltedReleasing.chan 0).mode = 1 ∧ (haltedReleasing.chan 0).ticking = true ∧
    (haltedReleasing.chan 0).unfinished = none ∧ (haltedReleasing.chan 0).writes = [] ∧
    (haltedReleasing.chan 0).tickCount + 1 < 2 ^ 64 := by decide +kernel

/-- SHADOW begins at the boundary after the one that accepted the request, with no write landing at it (R176, R192). -/
theorem haltedReleasing_boundary_mode : ((haltedReleasing.boundary 0 ⟨65536000⟩).chan 0).mode = 8 := by decide +kernel

/-- Refutes O55: a channel in HALT with no writes does not always stay in HALT. A holder whose request for SHADOW was taken at
the boundary before enters SHADOW at this one. -/
theorem not_tickBoundary : ¬ Obligations.TickBoundary := by
  unfold Obligations.TickBoundary
  intro h
  obtain ⟨-, -, -, -, hhalt, -⟩ := h haltedReleasing 0 ⟨65536000⟩
  obtain ⟨hmode, hticking, hdone, hwrites, hcount⟩ := haltedReleasing_halted
  obtain ⟨t, hrun, hstays, -⟩ := hhalt hticking (.inr hdone) hmode hwrites hcount
  obtain rfl : haltedReleasing.boundary 0 ⟨65536000⟩ = t :=
    Host.Outcome.next.inj ((exec_tickBoundary_next _ hticking (.inr hdone)).symm.trans hrun)
  rw [haltedReleasing_boundary_mode] at hstays
  exact absurd hstays (by decide)

end Sys2Proof.Machine
end

section
/-! SUPPORT. The family of 02_channel_tick.md: the end of an engine's tick (R45, R47, R53, R138). -/

namespace Sys2Proof.Machine

/-! ## The end of an engine's tick -/

theorem otherEng_ne (e : Eng) : otherEng e ≠ e := by
  cases e <;> decide

/-- The register that shows an engine's tracking declaration (R47). -/
def trackReg : Eng → Nat
  | .fe => Reg.ENG_LOOP_TRK_FE
  | .me => Reg.ENG_LOOP_TRK_ME

theorem trackReg_ne (e : Eng) : trackReg e ≠ Reg.CH_TICK_USE ∧ trackReg e ≠ Reg.CH_TICK_MAX ∧
    trackReg e ≠ Reg.CH_OUTER_DIV := by
  cases e <;> decide

theorem Chan.endTick_eq (c : Chan) (e : Eng) :
    c.endTick e = (c.setEngine e { c.engine e with
      run := .idle, atEnd := (c.engine e).data, scrub := ((c.engine e).scrub + 1) % 4096 }).put (trackReg e) (c.engine e).track := by
  cases e <;> rfl

theorem Chan.endTick_engine (c : Chan) (e : Eng) : (c.endTick e).engine e = { c.engine e with
    run := .idle, atEnd := (c.engine e).data, scrub := ((c.engine e).scrub + 1) % 4096 } := by
  rw [Chan.endTick_eq, Chan.engine_put, Chan.engine_setEngine]

theorem Chan.endTick_engine_ne (c : Chan) {e g : Eng} (h : g ≠ e) : (c.endTick e).engine g = c.engine g := by
  rw [Chan.endTick_eq, Chan.engine_put, Chan.engine_setEngine_ne _ _ h]

theorem Chan.get_endTick (c : Chan) (e : Eng) (o : Nat) :
    (c.endTick e).get o = if o = trackReg e then (c.engine e).track else c.get o := by
  rw [Chan.endTick_eq, Chan.get_put, Chan.get_setEngine]

/-- Once the other engine has ended the tick too, TEND ends the channel's tick. -/
theorem Chan.enginesDone_endTick (c : Chan) (e : Eng) (h : (c.engine (otherEng e)).run = .idle) :
    (c.endTick e).enginesDone = true := by
  have hself := congrArg Engine.run (c.endTick_engine e)
  have hother := (congrArg Engine.run (c.endTick_engine_ne (otherEng_ne e))).trans h
  cases e <;> simp_all [Chan.enginesDone, Chan.engine, otherEng]

/-- One engine's use of a tick shows in its fields of CH_TICK_USE and CH_TICK_MAX (R53). -/
def Chan.showUse (c : Chan) (last most : BitField) (n : Nat) : Chan := (c.setFld Reg.CH_TICK_USE last n).tickMax most n

@[simp] theorem Chan.showUse_engine (c : Chan) (f g : BitField) (n : Nat) (e : Eng) : (c.showUse f g n).engine e = c.engine e := by
  obtain ⟨hfe, hme, -⟩ := tickMax_fe (c.setFld Reg.CH_TICK_USE f n) g n
  cases e
  · exact hfe
  · exact hme

theorem Chan.get_showUse (c : Chan) (f g : BitField) (n : Nat) {o : Nat} (huse : o ≠ Reg.CH_TICK_USE) (hmax : o ≠ Reg.CH_TICK_MAX) :
    (c.showUse f g n).get o = c.get o := by
  rw [Chan.showUse, tickMax_get _ _ _ _ hmax, Chan.setFld_eq, Chan.get_put, if_neg huse]

theorem Chan.showUse_last (c : Chan) {f : BitField} (g : BitField) {n : Nat} (h : f.lo + f.width ≤ 32) (hn : n < 2 ^ f.width) :
    (c.showUse f g n).fld Reg.CH_TICK_USE f = n := by
  rw [Chan.showUse, tickMax_fld_ne _ _ _ _ _ (.inl (by decide)), Chan.fld_setFld _ _ _ _ h, Nat.mod_eq_of_lt hn]

theorem Chan.showUse_most (c : Chan) (f : BitField) {g : BitField} {n : Nat} (h : g.lo + g.width ≤ 32) (hn : n < 2 ^ g.width) :
    (c.showUse f g n).fld Reg.CH_TICK_MAX g = max (c.fld Reg.CH_TICK_MAX g) n := by
  rw [Chan.showUse, tickMax_fld _ _ _ h hn, Chan.fld_setFld_ne _ _ _ _ _ _ (.inl (by decide))]

/-- A field that lies beside both of an engine's fields is as it was. -/
theorem Chan.showUse_ne (c : Chan) {f g h : BitField} (n q : Nat) (hf : f.lo + f.width ≤ h.lo ∨ h.lo + h.width ≤ f.lo)
    (hg : g.lo + g.width ≤ h.lo ∨ h.lo + h.width ≤ g.lo) : (c.showUse f g n).fld q h = c.fld q h := by
  rw [Chan.showUse, tickMax_fld_ne _ _ _ _ _ (.inr hg), Chan.fld_setFld_ne _ _ _ _ _ _ (.inr hf)]

theorem Chan.showUse_outer (c : Chan) (f g : BitField) (n : Nat) : (c.showUse f g n).outer = c.outer := by
  have htick : (c.showUse f g n).tick = c.tick := (tickMax_fe _ _ _).2.2
  unfold Chan.outer Chan.fld
  rw [htick, Chan.get_showUse _ _ _ _ (by decide) (by decide)]

/-- The use of a tick shows once both engines have ended it, ME's in an outer tick (R53). -/
theorem Chan.tickUsed_eq (c : Chan) : c.tickUsed = if c.enginesDone then
    (if c.outer then (c.showUse Fld.CH_TICK_USE_FE_LAST Fld.CH_TICK_MAX_FE_MAX c.fe.cycle).showUse
      Fld.CH_TICK_USE_ME_LAST Fld.CH_TICK_MAX_ME_MAX c.me.cycle
    else c.showUse Fld.CH_TICK_USE_FE_LAST Fld.CH_TICK_MAX_FE_MAX c.fe.cycle) else c := by
  generalize hd : c.showUse Fld.CH_TICK_USE_FE_LAST Fld.CH_TICK_MAX_FE_MAX c.fe.cycle = d
  have hused : c.tickUsed = if !c.enginesDone then c else if d.outer then
      d.showUse Fld.CH_TICK_USE_ME_LAST Fld.CH_TICK_MAX_ME_MAX d.me.cycle else d := hd ▸ rfl
  have hme : d.me = c.me := hd ▸ c.showUse_engine _ _ _ .me
  have houter : d.outer = c.outer := hd ▸ c.showUse_outer _ _ _
  rw [hused, hme, houter]
  cases c.enginesDone <;> rfl

@[simp] theorem Chan.tickUsed_engine (c : Chan) (e : Eng) : c.tickUsed.engine e = c.engine e := by
  rw [Chan.tickUsed_eq]
  split
  · split <;> simp
  · rfl

/-- The use of a tick shows in CH_TICK_USE and CH_TICK_MAX alone (R53). -/
theorem Chan.get_tickUsed (c : Chan) {o : Nat} (huse : o ≠ Reg.CH_TICK_USE) (hmax : o ≠ Reg.CH_TICK_MAX) :
    c.tickUsed.get o = c.get o := by
  rw [Chan.tickUsed_eq]
  split
  · split <;> simp only [Chan.get_showUse _ _ _ _ huse hmax]
  · rfl

/-- Once both engines have ended the tick, FE_LAST and FE_MAX take FE's cycles, and in an outer tick ME_LAST and ME_MAX take
ME's (R53). -/
theorem Chan.tickUsed_fields (c : Chan) (hdone : c.enginesDone = true) (hfe : c.fe.cycle < 2 ^ 16) (hme : c.me.cycle < 2 ^ 16) :
    c.tickUsed.fld Reg.CH_TICK_USE Fld.CH_TICK_USE_FE_LAST = c.fe.cycle ∧
    c.tickUsed.fld Reg.CH_TICK_MAX Fld.CH_TICK_MAX_FE_MAX = max (c.fld Reg.CH_TICK_MAX Fld.CH_TICK_MAX_FE_MAX) c.fe.cycle ∧
    (c.outer = true → c.tickUsed.fld Reg.CH_TICK_USE Fld.CH_TICK_USE_ME_LAST = c.me.cycle ∧
      c.tickUsed.fld Reg.CH_TICK_MAX Fld.CH_TICK_MAX_ME_MAX = max (c.fld Reg.CH_TICK_MAX Fld.CH_TICK_MAX_ME_MAX) c.me.cycle) := by
  have hlast := c.showUse_last (f := Fld.CH_TICK_USE_FE_LAST) Fld.CH_TICK_MAX_FE_MAX (by decide) hfe
  have hmost := c.showUse_most (g := Fld.CH_TICK_MAX_FE_MAX) Fld.CH_TICK_USE_FE_LAST (by decide) hfe
  rw [Chan.tickUsed_eq, if_pos hdone]
  cases c.outer
  · exact ⟨hlast, hmost, fun h => absurd h (by decide)⟩
  · rw [if_pos rfl]
    refine ⟨(Chan.showUse_ne _ _ _ (by decide) (by decide)).trans hlast, (Chan.showUse_ne _ _ _ (by decide) (by decide)).trans hmost,
      fun _ => ⟨Chan.showUse_last _ _ (by decide) hme, ?_⟩⟩
    rw [Chan.showUse_most _ _ (by decide) hme, Chan.showUse_ne _ _ _ (by decide) (by decide)]

/-- TEND by the last cycle of the budget ends the engine's tick (R45, R47). -/
theorem exec_tend {s : State} {x : Site} {cc : BitVec 4} (h : s.executes x cc) (hb : (s.eng x).cycle ≤ (s.chan x.ch).budget) :
    exec (.tend x cc) s = .next (s.tickEnds x) := by
  obtain ⟨hrun, hcond⟩ := h
  show execTend x cc s = _
  simp only [execTend, hrun, hcond, bne_self_eq_false, Bool.not_true, Bool.false_eq_true, if_false, Nat.not_lt.2 hb]

/-- Settles O9: TEND is `State.tickEnds` (`exec_tend`), which ends one engine's tick and then shows the tick's use
(`Chan.tickUsed_fields`). -/
theorem engineTickEnd : Obligations.EngineTickEnd := by
  unfold Obligations.EngineTickEnd
  intro s x cc hexec hbudget hcyc hcycOther
  generalize hc : (s.chan x.ch).setEngine x.eng ((s.eng x).corrected (Config.freeNat s.free)) = c
  have hchan : (s.tickEnds x).chan x.ch = (c.endTick x.eng).tickUsed := hc ▸ State.chan_putChan_same ..
  have hself : c.engine x.eng = (s.eng x).corrected (Config.freeNat s.free) := hc ▸ Chan.engine_setEngine ..
  have hother : c.engine (otherEng x.eng) = s.eng ⟨x.ch, otherEng x.eng⟩ := hc ▸ Chan.engine_setEngine_ne _ _ (otherEng_ne _)
  refine ⟨s.tickEnds x, exec_tend hexec hbudget, ?_, ?_, ?_, ?_, fun hidle => ?_⟩
  · rw [hchan, ← hc]
    rfl
  · show ((s.tickEnds x).chan x.ch).engine x.eng = _
    rw [hchan, Chan.tickUsed_engine, Chan.endTick_engine, hself]
    rfl
  · show ((s.tickEnds x).chan x.ch).engine (otherEng x.eng) = _
    rw [hchan, Chan.tickUsed_engine, Chan.endTick_engine_ne _ (otherEng_ne _), hother]
  · show ((s.tickEnds x).chan x.ch).get (trackReg x.eng) = _
    obtain ⟨huse, hmax, -⟩ := trackReg_ne x.eng
    rw [hchan, Chan.get_tickUsed _ huse hmax, Chan.get_endTick, if_pos rfl, hself]
    rfl
  · generalize hd : c.endTick x.eng = d at hchan
    have hdone : d.enginesDone = true := hd ▸ c.enginesDone_endTick _ (hother ▸ hidle)
    have hcycle : d.fe.cycle = (s.chan x.ch).fe.cycle ∧ d.me.cycle = (s.chan x.ch).me.cycle ∧ d.tick = (s.chan x.ch).tick := by
      subst hd hc
      obtain ⟨ch, _ | _⟩ := x <;> exact ⟨rfl, rfl, rfl⟩
    have hbound : (s.chan x.ch).fe.cycle < 2 ^ 16 ∧ (s.chan x.ch).me.cycle < 2 ^ 16 := by
      obtain ⟨ch, _ | _⟩ := x
      · exact ⟨hcyc, hcycOther⟩
      · exact ⟨hcycOther, hcyc⟩
    obtain ⟨-, hmaxReg, houterReg⟩ := trackReg_ne x.eng
    have hreg : ∀ o, o ≠ trackReg x.eng → d.get o = (s.chan x.ch).get o := fun o ho => by
      rw [← hd, Chan.get_endTick, if_neg ho, ← hc, Chan.get_setEngine]
    have hmax : ∀ f, d.fld Reg.CH_TICK_MAX f = (s.chan x.ch).fld Reg.CH_TICK_MAX f := fun f =>
      congrArg (getField · f) (hreg _ hmaxReg.symm)
    obtain ⟨hfe, hme, htick⟩ := hcycle
    have houter : d.outer = (s.chan x.ch).outer := by
      unfold Chan.outer Chan.fld
      rw [htick, hreg _ houterReg.symm]
    have hfields := d.tickUsed_fields hdone (hfe ▸ hbound.1) (hme ▸ hbound.2)
    rw [hfe, hme, hmax, hmax, houter] at hfields
    rw [hchan]
    exact hfields

end Sys2Proof.Machine
end

section
/-! SUPPORT. What the shared operations of a channel leave of its pair state and of its clock: the outputs' updates, entries of
modes, trips of the fast paths, hard channel faults. -/

namespace Sys2Proof.Machine

/-! ## Fields of the global registers -/

theorem State.gfld_gset (s : State) (o : Nat) (f : BitField) (n : Nat) (h : f.lo + f.width ≤ 32) :
    (s.gset o f n).gfld o f = n % 2 ^ f.width := by
  rw [State.gfld, State.gset_eq, State.gget_gput, if_pos rfl, getField_setField _ _ _ h]

theorem State.gfld_gset_ne (s : State) {o p : Nat} {f g : BitField} (n : Nat)
    (h : p ≠ o ∨ f.lo + f.width ≤ g.lo ∨ g.lo + g.width ≤ f.lo) : (s.gset o f n).gfld p g = s.gfld p g := by
  rw [State.gfld, State.gset_eq, State.gget_gput]
  split
  · subst p
    exact getField_setField_ne _ _ _ _ (h.resolve_left (absurd rfl))
  · rfl

theorem State.reports.gfld {s t : State} (h : s.reports t) (o : Nat) (f : BitField) (hcnt : o ≠ Reg.REC_CNT)
    (hint : o ≠ Reg.INT_STAT) : t.gfld o f = s.gfld o f := congrArg (getField · f) (h.gget o hcnt hint)

/-- A counter's step is one global register's write and at most a record. -/
theorem State.countG_gfld (s : State) (reg : Nat) (hi ev : Bool) {o : Nat} (f : BitField) (hreg : o ≠ reg)
    (hcnt : o ≠ Reg.REC_CNT) (hint : o ≠ Reg.INT_STAT) : (s.countG reg hi ev).gfld o f = s.gfld o f := by
  rw [(s.reports_countG reg hi ev).gfld o f hcnt hint, State.gfld, State.gget_gput, if_neg hreg, State.gfld]

@[simp] theorem State.countG_chan (s : State) (reg : Nat) (hi ev : Bool) (ch : ChId) : (s.countG reg hi ev).chan ch = s.chan ch :=
  (s.reports_countG reg hi ev).chan ch

theorem State.countCh_chan (s : State) (ch : ChId) (reg : Nat) (hi ev : Bool) :
    (s.countCh ch reg hi ev).chan ch = (s.chan ch).put reg (counterStep ((s.chan ch).get reg) hi) :=
  ((s.reports_countCh ch reg hi ev).chan ch).trans (State.chan_putChan_same ..)

@[simp] theorem State.setCs_chan (s : State) (ch j : ChId) (f : BitField) (n : Nat) : (s.setCs ch f n).chan j = s.chan j := rfl

@[simp] theorem State.lastWord_chan (s : State) (src : Nat) (code : Byte) (data : Word) (ch : ChId) :
    (s.lastWord src code data).chan ch = s.chan ch := rfl

@[simp] theorem State.groupDiscard_chan (s : State) (ch j : ChId) : (s.groupDiscard ch).chan j = s.chan j := by
  unfold State.groupDiscard
  split <;> rfl

/-! ## The outputs' updates -/

/-- A channel after its gates, brake and contactor commands have followed: its PWM unit, its contactors, and the registers
that show them. -/
def Chan.OutputsOnly (c d : Chan) : Prop := d = { c with regs := d.regs, pwm := d.pwm, saf := d.saf } ∧
  ∀ o, o ≠ Reg.PWM_STAT → o ≠ Reg.PWM_CNT1 → o ≠ Reg.SAF_CH_STAT → d.get o = c.get o

theorem Chan.OutputsOnly.refl (c : Chan) : c.OutputsOnly c := ⟨rfl, fun _ _ _ _ => rfl⟩

theorem Chan.OutputsOnly.trans {a b c : Chan} (h : a.OutputsOnly b) (k : b.OutputsOnly c) : a.OutputsOnly c := by
  obtain ⟨h1, h2⟩ := h
  obtain ⟨k1, k2⟩ := k
  refine ⟨?_, fun o x y z => (k2 o x y z).trans (h2 o x y z)⟩
  rw [k1, h1]

theorem Chan.OutputsOnly.put (c : Chan) (r : Nat) (w : Word) (h : r = Reg.PWM_STAT ∨ r = Reg.PWM_CNT1 ∨ r = Reg.SAF_CH_STAT) :
    c.OutputsOnly (c.put r w) := by
  refine ⟨rfl, fun o x y z => (c.get_put r w o).trans (if_neg ?_)⟩
  rintro rfl
  obtain h | h | h := h
  exacts [x h, y h, z h]

theorem Chan.OutputsOnly.pwm (c : Chan) (p : Pwm) : c.OutputsOnly { c with pwm := p } := ⟨rfl, fun _ _ _ _ => rfl⟩

theorem Chan.OutputsOnly.saf (c : Chan) (x : SafCh) : c.OutputsOnly { c with saf := x } := ⟨rfl, fun _ _ _ _ => rfl⟩

theorem Chan.OutputsOnly.pair {c d : Chan} (h : c.OutputsOnly d) : d.pair = c.pair := by
  rw [h.1]

theorem State.outputsOnly_putChan {s : State} {ch : ChId} {c : Chan} (h : (s.chan ch).OutputsOnly c) :
    (s.chan ch).OutputsOnly ((s.putChan ch c).chan ch) := by
  rwa [State.chan_putChan_same]

theorem State.outputsOnly_showBrake (s : State) (ch : ChId) : (s.chan ch).OutputsOnly ((s.showBrake ch).chan ch) :=
  State.outputsOnly_putChan (Chan.OutputsOnly.put _ _ _ (.inl rfl))

theorem State.outputsOnly_brakeFollow (s : State) (ch : ChId) : (s.chan ch).OutputsOnly ((s.brakeFollow ch).chan ch) := by
  have turn : ∀ on, (s.chan ch).OutputsOnly (((s.putChan ch ((s.chan ch).brakeTurn on s.time.refNs)).showBrake ch).chan ch) :=
    fun on => (State.outputsOnly_putChan (Chan.OutputsOnly.pwm _ _)).trans (State.outputsOnly_showBrake _ ch)
  unfold State.brakeFollow
  extract_lets c t
  split
  · exact s.outputsOnly_showBrake ch
  split
  · split
    · exact turn false
    · exact s.outputsOnly_showBrake ch
  split
  · exact s.outputsOnly_showBrake ch
  split
  · exact turn _
  · rw [State.countCh_chan]
    exact (turn _).trans (Chan.OutputsOnly.put _ _ _ (.inr (.inl rfl)))

theorem State.outputsOnly_gatesFollow (s : State) (ch : ChId) : (s.chan ch).OutputsOnly ((s.gatesFollow ch).chan ch) := by
  have off : ∀ b, (s.chan ch).OutputsOnly ((s.onChan ch (·.gatesOff b)).chan ch) := fun b =>
    State.outputsOnly_putChan (Chan.OutputsOnly.pwm _ _)
  unfold State.gatesFollow
  refine Chan.OutputsOnly.trans ?_ (State.outputsOnly_brakeFollow _ ch)
  split
  · exact Chan.OutputsOnly.refl _
  split
  · exact off false
  split
  · exact off true
  · exact Chan.OutputsOnly.refl _

theorem State.outputsOnly_contactors (s : State) (ch : ChId) : (s.chan ch).OutputsOnly ((s.contactors ch).chan ch) := by
  have command : ∀ (c : Chan) (same : Bool) (f : BitField) (n : Nat) (x : SafCh), c.OutputsOnly
      (if same then c else { c.setFld Reg.SAF_CH_STAT f n with saf := x }) := fun c same f n x => by
    split
    · exact Chan.OutputsOnly.refl c
    · exact (Chan.OutputsOnly.put c _ _ (.inr (.inr rfl))).trans (Chan.OutputsOnly.saf _ _)
  unfold State.contactors
  exact State.outputsOnly_putChan ((command _ _ _ _ _).trans (command _ _ _ _ _))

/-! ## A channel's clock -/

/-- The clock of a channel as other blocks leave it: the PLL's state, and PLL_STAT below the ramp generator's bits. -/
def Chan.SameClock (c d : Chan) : Prop :=
  d.pll = c.pll ∧ ∀ f : BitField, f.lo + f.width ≤ Fld.PLL_STAT_RAMPOWN.lo → d.fld Reg.PLL_STAT f = c.fld Reg.PLL_STAT f

theorem Chan.SameClock.refl (c : Chan) : c.SameClock c := ⟨rfl, fun _ _ => rfl⟩

theorem Chan.SameClock.trans {a b c : Chan} (h : a.SameClock b) (k : b.SameClock c) : a.SameClock c :=
  ⟨k.1.trans h.1, fun f hf => (k.2 f hf).trans (h.2 f hf)⟩

theorem Chan.SameClock.of_get {c d : Chan} (hp : d.pll = c.pll) (hg : d.get Reg.PLL_STAT = c.get Reg.PLL_STAT) : c.SameClock d :=
  ⟨hp, fun f _ => congrArg (getField · f) hg⟩

/-- An update of a part of a channel that is no register and not its PLL. -/
theorem Chan.SameClock.of_regs {c d : Chan} (hp : d.pll = c.pll) (hr : d.regs = c.regs) : c.SameClock d :=
  .of_get hp (congrArg (sget chanReset · Reg.PLL_STAT) hr)

theorem Chan.SameClock.ite {c d e : Chan} {p : Prop} [Decidable p] (h : c.SameClock d) (k : c.SameClock e) :
    c.SameClock (if p then d else e) := by
  split
  · exact h
  · exact k

theorem Chan.sameClock_put (c : Chan) {r : Nat} (w : Word) (h : Reg.PLL_STAT ≠ r) : c.SameClock (c.put r w) :=
  .of_get rfl ((c.get_put r w _).trans (if_neg h))

theorem Chan.sameClock_capEntered (c : Chan) : c.SameClock c.capEntered := .of_regs rfl rfl

theorem Chan.sameClock_capEvent (c : Chan) (b : Nat) : c.SameClock (c.capEvent b) := .of_regs rfl rfl

theorem Chan.sameClock_setFld (c : Chan) {r : Nat} {f : BitField} (n : Nat)
    (h : Reg.PLL_STAT ≠ r ∨ Fld.PLL_STAT_RAMPOWN.lo ≤ f.lo) : c.SameClock (c.setFld r f n) :=
  ⟨rfl, fun _ hg => Chan.fld_setFld_ne _ _ _ _ _ _ (h.imp_right fun hf => .inr (hg.trans hf))⟩

theorem Chan.CapOnly.sameClock {c d : Chan} (h : c.CapOnly d) : c.SameClock d :=
  .of_get (by rw [h.1]) (h.2 _ (by decide))

theorem Chan.OutputsOnly.sameClock {c d : Chan} (h : c.OutputsOnly d) : c.SameClock d :=
  .of_get (by rw [h.1]) (h.2 _ (by decide) (by decide) (by decide))

/-- An operation that leaves the channel's clock. -/
def State.KeepsClock (ch : ChId) (s t : State) : Prop := (s.chan ch).SameClock (t.chan ch)

theorem State.KeepsClock.refl (ch : ChId) (s : State) : State.KeepsClock ch s s := Chan.SameClock.refl _

theorem State.KeepsClock.trans {ch : ChId} {s t u : State} (h : State.KeepsClock ch s t) (k : State.KeepsClock ch t u) :
    State.KeepsClock ch s u := Chan.SameClock.trans h k

theorem State.KeepsClock.of_chan {ch : ChId} {s t : State} (h : t.chan ch = s.chan ch) : State.KeepsClock ch s t := by
  unfold State.KeepsClock
  rw [h]
  exact Chan.SameClock.refl _

theorem State.KeepsClock.put {ch : ChId} {s : State} {c : Chan} (h : (s.chan ch).SameClock c) :
    State.KeepsClock ch s (s.putChan ch c) := by
  unfold State.KeepsClock
  rwa [State.chan_putChan_same]

theorem State.keepsClock_onPair (s : State) (ch : ChId) (f : PairCh → PairCh) : State.KeepsClock ch s (s.onPair ch f) :=
  .put (.of_regs rfl rfl)

theorem State.KeepsClock.ite {ch : ChId} {s t u : State} {p : Prop} [Decidable p] (h : State.KeepsClock ch s t)
    (k : State.KeepsClock ch s u) : State.KeepsClock ch s (if p then t else u) := by
  split
  · exact h
  · exact k

theorem State.keepsClock_countCh (s : State) (ch : ChId) {reg : Nat} (hi ev : Bool) (h : Reg.PLL_STAT ≠ reg) :
    State.KeepsClock ch s (s.countCh ch reg hi ev) := by
  unfold State.KeepsClock
  rw [State.countCh_chan]
  exact Chan.sameClock_put _ _ h

theorem State.keepsClock_capFault (s : State) (ch : ChId) : State.KeepsClock ch s (s.capFault ch) :=
  (s.capOnly_capFault ch).chan.sameClock

theorem State.keepsClock_gatesFollow (s : State) (ch : ChId) : State.KeepsClock ch s (s.gatesFollow ch) :=
  (s.outputsOnly_gatesFollow ch).sameClock

theorem State.keepsClock_chinhFollow (s : State) (ch : ChId) : State.KeepsClock ch s (s.chinhFollow ch) := by
  unfold State.chinhFollow
  extract_lets on old t
  have ht : State.KeepsClock ch s t := .of_chan (s.chan_gput ..)
  exact ht.trans (t.keepsClock_gatesFollow ch)

/-! ## Entries of modes and hard channel faults leave the clock -/

theorem Chan.sameClock_enterInner (c : Chan) (m : Nat) : c.SameClock (c.enterInner m) := by
  unfold Chan.enterInner
  extract_lets old leaves c1 c2 ctl c3 fe me c4 drives
  have h1 : c.SameClock c1 := .ite (.refl c)
    ((c.sameClock_setFld 0 (.inl (by decide))).trans (.of_regs rfl rfl))
  have h2 : c.SameClock c2 := .ite (h1.trans (c1.sameClock_put 0 (by decide))) h1
  have h3 : c.SameClock c3 := h2.trans (.of_regs rfl rfl)
  have h4 : c.SameClock c4 := .ite (h3.trans (.of_regs rfl rfl)) h3
  have h5 : c.SameClock (c4.put Reg.HO_STAT 0) := h4.trans (c4.sameClock_put 0 (by decide))
  exact .ite h4 (h5.trans (.of_regs rfl rfl))

theorem Chan.sameClock_enterRegs (c : Chan) (m tc : Nat) : c.SameClock (c.enterRegs m tc) :=
  (c.sameClock_put _ (by decide)).trans (Chan.sameClock_put _ _ (by decide))

theorem State.keepsClock_pairLeaveShadow (s : State) (ch : ChId) : State.KeepsClock ch s (s.pairLeaveShadow ch) := by
  unfold State.pairLeaveShadow
  extract_lets t
  have ht : State.KeepsClock ch s t := s.keepsClock_onPair ch _
  exact ht.trans (.put ((Chan.sameClock_setFld _ 0 (.inr (by decide))).trans (Chan.sameClock_setFld _ 0 (.inl (by decide)))))

theorem State.keepsClock_enterMode (s : State) (ch : ChId) (m tc : Nat) : State.KeepsClock ch s (s.enterMode ch m tc) := by
  unfold State.enterMode
  extract_lets c old s1 s2 s3 s4 s5
  have h1 : State.KeepsClock ch s s1 :=
    .put (((c.sameClock_enterInner m).trans (Chan.sameClock_enterRegs _ m tc)).trans (Chan.sameClock_capEntered _))
  have h2 : State.KeepsClock ch s1 s2 := .ite (.of_chan (s1.groupDiscard_chan ch ch)) (.refl ch s1)
  have h3 : State.KeepsClock ch s2 s3 := .ite (.refl ch s2)
    ((s2.keepsClock_countCh ch false false (by decide)).trans (.of_chan (State.irq_chan ..)))
  have h4 : State.KeepsClock ch s3 s4 := .of_chan (State.record_chan ..)
  have h5 : State.KeepsClock ch s4 s5 := .ite (s4.keepsClock_pairLeaveShadow ch) (.refl ch s4)
  exact (((((h1.trans h2).trans h3).trans h4).trans h5).trans (s5.keepsClock_chinhFollow ch)).trans
    (State.outputsOnly_contactors _ ch).sameClock

theorem State.keepsClock_repairEnds (s : State) (ch : ChId) (err : Nat) : State.KeepsClock ch s (s.repairEnds ch err) := by
  unfold State.repairEnds
  refine State.KeepsClock.trans (.of_chan ?_) (State.capOnly_capFree _ ch).chan.sameClock
  rw [State.irq_chan, State.record_chan]
  rfl

theorem State.keepsClock_releaseGivenUp (s : State) (ch : ChId) (cause : Nat) :
    State.KeepsClock ch s (s.releaseGivenUp ch cause) := by
  unfold State.releaseGivenUp
  extract_lets s1 s2 s3 s4
  have h1 : State.KeepsClock ch s s1 := ((State.KeepsClock.of_chan (s.groupDiscard_chan ch ch)).trans
    (State.keepsClock_onPair _ ch PairCh.letGo)).trans (State.keepsClock_gatesFollow _ ch)
  have h2 : State.KeepsClock ch s1 s2 := .of_chan ((State.setCs_chan ..).trans (State.setCs_chan ..))
  have h3 : State.KeepsClock ch s2 s3 := .of_chan ((State.irq_chan ..).trans (State.countG_chan ..))
  have h4 : State.KeepsClock ch s3 s4 := .of_chan (State.record_chan ..)
  exact (((h1.trans h2).trans h3).trans h4).trans (.ite (.refl ch s4) (.of_chan (State.lastWord_chan ..)))

/-- The profile is abandoned; the clock is otherwise as it was (R291). -/
theorem Chan.dropProfile_clock (c : Chan) : c.dropProfile.pll = { c.pll with profile := [] } ∧
    ∀ f : BitField, f.lo + f.width ≤ Fld.PLL_STAT_RAMPOWN.lo → c.dropProfile.fld Reg.PLL_STAT f = c.fld Reg.PLL_STAT f := by
  refine ⟨rfl, fun f hf => ?_⟩
  unfold Chan.dropProfile
  extract_lets p d
  exact (((d.sameClock_setFld 0 (.inl (by decide))).trans (Chan.sameClock_setFld _ 0 (.inl (by decide)))).trans
    (Chan.sameClock_setFld _ 0 (.inr (by decide)))).2 f hf

theorem Chan.SameClock.dropProfile {c d : Chan} (h : c.SameClock d) : c.dropProfile.SameClock d.dropProfile := by
  obtain ⟨hp, hf⟩ := h
  refine ⟨?_, fun f w => ?_⟩
  · rw [d.dropProfile_clock.1, c.dropProfile_clock.1, hp]
  · rw [d.dropProfile_clock.2 f w, c.dropProfile_clock.2 f w, hf f w]

/-- Of a channel's clock a hard channel fault stops the ramp generator alone (R180, R291). -/
theorem State.faultHalt_clock (s : State) (ch : ChId) : (s.chan ch).dropProfile.SameClock ((s.faultHalt ch).chan ch) := by
  unfold State.faultHalt
  extract_lets u was w x y z v
  have hu : (s.chan ch).dropProfile.SameClock (u.chan ch) := by
    refine Chan.SameClock.trans (Chan.SameClock.dropProfile (.of_regs (d := (s.chan ch).stopEngines) rfl rfl)) ?_
    rw [show u.chan ch = ((s.groupDiscard ch).chan ch).stopEngines.dropProfile from State.chan_putChan_same .., s.groupDiscard_chan]
    exact .refl _
  have hw : State.KeepsClock ch u w := .ite (u.keepsClock_repairEnds ch 8) (.refl ch u)
  have hx : State.KeepsClock ch w x := .ite (.refl ch w) (w.keepsClock_enterMode ch 1 8)
  have hy : State.KeepsClock ch x y := .put (Chan.sameClock_setFld _ 1 (.inl (by decide)))
  have hz : State.KeepsClock ch y z := .of_chan rfl
  have hv : State.KeepsClock ch z v := .ite (.refl ch z) (.of_chan (State.irq_chan ..))
  exact hu.trans (((((hw.trans hx).trans hy).trans hz).trans hv).trans (v.keepsClock_capFault ch))

theorem State.hardFault_clock (s : State) (ch : ChId) (cause : Nat) :
    (s.chan ch).dropProfile.SameClock ((s.hardFault ch cause).chan ch) := by
  unfold State.hardFault
  refine Chan.SameClock.trans (Chan.SameClock.dropProfile ?_) (State.faultHalt_clock _ ch)
  split
  · exact s.keepsClock_releaseGivenUp ch cause
  · exact .refl _

/-! ## Held fast paths leave the clock -/

theorem State.keepsClock_raiseSafe (s : State) (ch : ChId) (b : Nat) : State.KeepsClock ch s (s.raiseSafe ch b) := by
  unfold State.raiseSafe
  extract_lets c fresh c1 c2 t
  have h : State.KeepsClock ch s t :=
    .put ((c.sameClock_put _ (by decide)).trans (Chan.sameClock_put _ _ (by decide)))
  exact .ite (h.trans (.of_chan (by rw [State.irq_chan, State.record_chan]))) h

theorem Chan.sameClock_tripOff (c : Chan) (faulted : Bool) (on : BitVec 12) : c.SameClock (c.tripOff faulted on) := by
  unfold Chan.tripOff
  refine .ite (.refl c) ?_
  extract_lets live c1 late
  have h1 : c.SameClock c1 := .ite (.refl c) (c.sameClock_setFld _ (.inl (by decide)))
  refine h1.trans (Chan.SameClock.trans (.of_regs (d := { c1 with pwm := _ }) rfl rfl) ?_)
  exact .ite (.of_regs rfl rfl) (.refl _)

theorem State.keepsClock_comparatorTrip (s : State) (ch : ChId) (cls : Nat) : State.KeepsClock ch s (s.comparatorTrip ch cls) := by
  unfold State.comparatorTrip
  extract_lets c f fresh t
  have htrip : c.SameClock (c.setTrip f) := (c.sameClock_setFld 1 (.inl (by decide))).trans (.of_regs rfl rfl)
  have h : State.KeepsClock ch s t := State.KeepsClock.trans (.put (htrip.trans (Chan.sameClock_tripOff _ _ _)))
    (State.keepsClock_raiseSafe _ ch 6)
  exact .ite (h.trans (.of_chan (State.record_chan ..))) h

theorem State.keepsClock_comparatorActs (s : State) (ch : ChId) (i : InId) : State.KeepsClock ch s (s.comparatorActs ch i) := by
  unfold State.comparatorActs
  exact .ite (.refl ch s) (.ite (s.outputsOnly_brakeFollow ch).sameClock (.ite (s.keepsClock_comparatorTrip ch _) (.refl ch s)))

theorem Reg.PLL_STAT_ne_FAST_CFG (i : InId) : Reg.PLL_STAT ≠ Reg.FAST_CFG i := by
  unfold Reg.PLL_STAT Reg.FAST_CFG
  omega

theorem State.keepsClock_fastForce (s : State) (ch : ChId) (i : InId) (on : Bool) : State.KeepsClock ch s (s.fastForce ch i on) := by
  unfold State.fastForce
  extract_lets c d
  have h : c.SameClock d := c.sameClock_setFld _ (.inl (Reg.PLL_STAT_ne_FAST_CFG i))
  exact .ite (.refl ch s) (State.KeepsClock.trans (.put (.ite (h.trans (d.sameClock_capEvent 3)) h)) (State.keepsClock_comparatorActs _ ch i))

theorem State.keepsClock_fastHold (s : State) (ch : ChId) (i : InId) (h : FastHold) : State.KeepsClock ch s (s.fastHold ch i h) := by
  unfold State.fastHold
  extract_lets c t
  have ht : State.KeepsClock ch s t := .put (.of_regs rfl rfl)
  exact .ite (ht.trans (t.keepsClock_fastForce ch i true)) ht

theorem State.keepsClock_holdFastPaths (s : State) (ch : ChId) : State.KeepsClock ch s (s.holdFastPaths ch) :=
  foldl_rel (State.KeepsClock ch) (.refl ch) (fun _ _ _ => .trans) _
    (fun s i => .ite (s.keepsClock_fastHold ch i .bypass) (.refl ch s)) _ s

end Sys2Proof.Machine
end

section
/-! SUPPORT. The family of 02_channel_tick.md: missing reference edges, the ceiling guard and losses of a running channel's
clock (R57, R286, R292 to R294). -/

namespace Sys2Proof.Machine

/-! ## A loss -/

/-- The bit of PLL_STAT that a loss sets: LOR or LOL (R293). -/
def lossBit (lor : Bool) : BitField := if lor then Fld.PLL_STAT_LOR else Fld.PLL_STAT_LOL

/-- A channel at a loss (R293, R294): LOL or LOR, CEIL for the ceiling guard, unlocked on the bypass clock, its thermal model
frozen. -/
def Chan.lost (c : Chan) (lor ceil : Bool) (now : Nat) : Chan :=
  let c := c.setFld Reg.PLL_STAT (lossBit lor) 1
  let c := if ceil then c.setFld Reg.PLL_STAT Fld.PLL_STAT_CEIL 1 else c
  let c := (c.setFld Reg.PLL_STAT Fld.PLL_STAT_LOCK 0).setFld Reg.PLL_STAT Fld.PLL_STAT_BYPASS 1
  { c with pll := { c.pll with phase := .idle } }.freezeThermal now

theorem Chan.sameClock_freezeThermal (c : Chan) (now : Nat) : c.SameClock (c.freezeThermal now) :=
  .ite (.refl c) ((c.sameClock_setFld 1 (.inl (by decide))).trans (.of_regs rfl rfl))

theorem Chan.SameClock.bit {c d : Chan} (h : c.SameClock d) {f : BitField} (hf : f.lo + f.width ≤ Fld.PLL_STAT_RAMPOWN.lo) :
    d.bit Reg.PLL_STAT f = c.bit Reg.PLL_STAT f := congrArg (· != 0) (h.2 f hf)

theorem Chan.lost_bits (c : Chan) (lor ceil : Bool) (now : Nat) : let d := c.lost lor ceil now
    d.bit Reg.PLL_STAT Fld.PLL_STAT_BYPASS = true ∧ d.bit Reg.PLL_STAT Fld.PLL_STAT_LOCK = false ∧
    d.bit Reg.PLL_STAT (lossBit lor) = true := by
  unfold Chan.lost
  extract_lets c1 c2 c3 p d
  have hfrozen : ∀ f : BitField, f.lo + f.width ≤ Fld.PLL_STAT_RAMPOWN.lo →
      d.bit Reg.PLL_STAT f = c3.bit Reg.PLL_STAT f := fun _ hf => (Chan.sameClock_freezeThermal _ now).bit hf
  have hside : ∀ f ∈ [Fld.PLL_STAT_CEIL, Fld.PLL_STAT_LOCK, Fld.PLL_STAT_BYPASS],
      f.lo + f.width ≤ (lossBit lor).lo ∨ (lossBit lor).lo + (lossBit lor).width ≤ f.lo := by
    cases lor <;> decide
  have hc1 : c1.bit Reg.PLL_STAT (lossBit lor) = true := c.bit_setFld _ _ (by cases lor <;> decide) (by cases lor <;> decide)
  have hc2 : c2.bit Reg.PLL_STAT (lossBit lor) = true := by
    unfold c2
    split
    · rwa [Chan.bit_setFld_ne _ _ _ _ _ _ (.inr (hside _ (by decide)))]
    · exact hc1
  refine ⟨?_, ?_, ?_⟩
  · rw [hfrozen Fld.PLL_STAT_BYPASS (by decide)]
    exact Chan.bit_setFld _ _ _ (by decide) (by decide)
  · rw [hfrozen Fld.PLL_STAT_LOCK (by decide), Chan.bit_setFld_ne _ _ _ _ _ _ (.inr (by decide))]
    exact Chan.bit_setFld0 _ _ _ (by decide)
  · rw [hfrozen (lossBit lor) (by cases lor <;> decide), Chan.bit_setFld_ne _ _ _ _ _ _ (.inr (hside _ (by decide))),
      Chan.bit_setFld_ne _ _ _ _ _ _ (.inr (hside _ (by decide)))]
    exact hc2

/-- A hard channel fault ends in HALT with FAULT (R36, R180). -/
theorem State.hardFault_halts (s : State) (ch : ChId) (cause : Nat) :
    ((s.hardFault ch cause).chan ch).mode = 1 ∧ ((s.hardFault ch cause).chan ch).faulted = true := by
  have h := Sys2Proof.Machine.hardFault
  unfold Obligations.HardFault at h
  obtain ⟨hmode, hfaulted, -⟩ := h s ch cause
  exact ⟨hmode, hfaulted⟩

theorem State.clockLoss_eq (s : State) (ch : ChId) (lor ceil : Bool) : ∃ d : RecData, s.clockLoss ch lor ceil =
    (((((s.putChan ch ((s.chan ch).lost lor ceil s.time.refNs)).holdFastPaths ch).hardFault ch 3).countCh ch Reg.PLL_CNT
      false true).record 0x08 ch.val 1 3 d).landAll ch := ⟨_, rfl⟩

/-- A loss is a hard channel fault of the channel as `Chan.lost` has it, before the waiting writes land (R293, R294). -/
theorem State.clockLoss_landAll (s : State) (ch : ChId) (lor ceil : Bool) : ∃ v : State, s.clockLoss ch lor ceil = v.landAll ch ∧
    (v.chan ch).mode = 1 ∧ (v.chan ch).faulted = true ∧
    ((s.chan ch).lost lor ceil s.time.refNs).dropProfile.SameClock (v.chan ch) := by
  obtain ⟨d, hd⟩ := s.clockLoss_eq ch lor ceil
  have hheld := State.keepsClock_holdFastPaths (s.putChan ch ((s.chan ch).lost lor ceil s.time.refNs)) ch
  unfold State.KeepsClock at hheld
  rw [State.chan_putChan_same] at hheld
  generalize (s.putChan ch _).holdFastPaths ch = x at hd hheld
  have hhalts := x.hardFault_halts ch 3
  have hclock := x.hardFault_clock ch 3
  generalize x.hardFault ch 3 = w at hd hhalts hclock
  obtain ⟨hmode, hfaulted⟩ := hhalts
  have hcount : State.Stays ch w (w.countCh ch Reg.PLL_CNT false true) := w.stays_countCh ch _ _ _ (by decide)
  refine ⟨_, hd, ?_⟩
  rw [State.record_chan]
  exact ⟨hcount.mode.trans hmode, hcount.faulted.trans hfaulted,
    (hheld.dropProfile.trans hclock).trans (w.keepsClock_countCh ch false true (by decide))⟩

/-! ## Missing edges and the ceiling guard -/

/-- A bound by the ceiling guard's count (R292). -/
theorem ceilDiv_le_iff {a b n : Nat} (h : 0 < b) : ceilDiv a b ≤ n ↔ a ≤ n * b := by
  rw [ceilDiv, Nat.div_le_iff_le_mul_add_pred h, Nat.mul_comm]
  omega

/-- The PLL's status registers do not show whether ticks run, but for LOCK (R33). -/
theorem Chan.ticking_setFld (c : Chan) {f : BitField} (n : Nat)
    (h : f.lo + f.width ≤ Fld.PLL_STAT_LOCK.lo ∨ Fld.PLL_STAT_LOCK.lo + Fld.PLL_STAT_LOCK.width ≤ f.lo) :
    (c.setFld Reg.PLL_STAT f n).ticking = c.ticking := by
  have hcur : ∀ g, (c.setFld Reg.PLL_STAT f n).fld Reg.CH_MODE_CUR g = c.fld Reg.CH_MODE_CUR g := fun g =>
    Chan.fld_setFld_ne _ _ _ _ _ _ (.inl (by decide))
  have hlock : (c.setFld Reg.PLL_STAT f n).bit Reg.PLL_STAT Fld.PLL_STAT_LOCK = c.bit Reg.PLL_STAT Fld.PLL_STAT_LOCK :=
    Chan.bit_setFld_ne _ _ _ _ _ _ (.inr h)
  have hmode : (c.setFld Reg.PLL_STAT f n).mode = c.mode := hcur _
  have hfault : (c.setFld Reg.PLL_STAT f n).faulted = c.faulted := congrArg (· != 0) (hcur _)
  unfold Chan.ticking
  rw [hmode, hfault, hlock]
  rfl

/-- A channel whose PLL changes over to its other reference (R286). -/
def Chan.switchRef (c : Chan) : Chan :=
  let c' := (c.setFld Reg.PLL_STAT Fld.PLL_STAT_ACTREF (if c.bit Reg.PLL_STAT Fld.PLL_STAT_ACTREF then 0 else 1)).setFld
    Reg.PLL_STAT Fld.PLL_STAT_REFSW 1
  { c' with pll := { c'.pll with missing := 0, good := 0, pwHold := c'.ticking } }

theorem Chan.switchRef_actref (c : Chan) :
    c.switchRef.bit Reg.PLL_STAT Fld.PLL_STAT_ACTREF = !c.bit Reg.PLL_STAT Fld.PLL_STAT_ACTREF := by
  refine (Chan.bit_setFld_ne _ _ _ _ _ _ (.inr (by decide))).trans ?_
  cases c.bit Reg.PLL_STAT Fld.PLL_STAT_ACTREF
  · exact c.bit_setFld _ _ (by decide) (by decide)
  · exact c.bit_setFld0 _ _ (by decide)

theorem Chan.switchRef_refsw (c : Chan) : c.switchRef.bit Reg.PLL_STAT Fld.PLL_STAT_REFSW = true :=
  Chan.bit_setFld _ _ _ (by decide) (by decide)

theorem Chan.switchRef_pll (c : Chan) : c.switchRef.pll = { c.pll with missing := 0, good := 0, pwHold := c.ticking } := by
  unfold Chan.switchRef
  extract_lets d
  have hticking : d.ticking = c.ticking := (Chan.ticking_setFld _ _ (.inr (by decide))).trans (Chan.ticking_setFld _ _ (.inr (by decide)))
  rw [hticking]
  rfl

/-- A missing edge while a lock is held or under way (R286). -/
theorem exec_refEdgeMissing {s : State} {ch : ChId} (further : Bool)
    (h : (s.chan ch).lockHeld = true ∨ (s.chan ch).pll.phase = .search ∨ (s.chan ch).pll.phase = .windows) :
    (s.otherRefUsable ch = true → exec (.refEdgeMissing ch further) s =
      .next (((s.putChan ch (s.chan ch).switchRef).countCh ch Reg.PLL_CNT true false).record 0x08 ch.val 3 1
        (recData [(0, 1, if (s.chan ch).bit Reg.PLL_STAT Fld.PLL_STAT_ACTREF then 0 else 1)]))) ∧
    (s.otherRefUsable ch = false →
      let n := if further then (s.chan ch).pll.missing + 1 else 1
      let t := s.putChan ch { s.chan ch with pll := { (s.chan ch).pll with missing := n, pwHold := (s.chan ch).ticking } }
      exec (.refEdgeMissing ch further) s = .next (if n < 4 then t
        else if (s.chan ch).pll.phase = .search ∨ (s.chan ch).pll.phase = .windows then t.lockFail ch
        else t.clockLoss ch true false)) := by
  have hguard : (!((s.chan ch).lockHeld || (decide ((s.chan ch).pll.phase = .search) ||
      decide ((s.chan ch).pll.phase = .windows)))) = false := by
    obtain h | h | h := h <;> simp [h]
  refine ⟨fun hother => ?_, fun hother => ?_⟩
  · show execRefEdgeMissing ch further s = _
    unfold execRefEdgeMissing
    simp only [hguard, hother, Bool.false_eq_true, if_false, if_true]
    rfl
  · intro n t
    rw [apply_ite Host.Outcome.next, apply_ite Host.Outcome.next]
    show execRefEdgeMissing ch further s = _
    unfold execRefEdgeMissing
    simp only [hguard, hother, Bool.false_eq_true, if_false, Bool.or_eq_true, decide_eq_true_eq]
    rfl

/-- Settles O34: each command by its guard (`exec_refEdgeMissing`, `ceilDiv_le_iff`), and what a loss leaves from the channel as
`Chan.lost` has it (`State.clockLoss_landAll`). -/
theorem clockLosses : Obligations.ClockLosses := by
  unfold Obligations.ClockLosses
  intro s ch further c locking
  refine ⟨fun hseeks hother => ?_, fun hseeks => (exec_refEdgeMissing further hseeks).2, fun n hlock hf hn => ?_,
    fun n hf hn => ?_, fun ps hlock hps => ?_, fun u lor ceil => ?_⟩
  · have hd := (exec_refEdgeMissing further hseeks).1 hother
    have hchan := State.countCh_chan (s.putChan ch (s.chan ch).switchRef) ch Reg.PLL_CNT true false
    rw [State.chan_putChan_same] at hchan
    have hkept := Chan.sameClock_put (s.chan ch).switchRef (counterStep ((s.chan ch).switchRef.get Reg.PLL_CNT) true)
      (r := Reg.PLL_CNT) (by decide)
    refine ⟨_, hd, ?_⟩
    rw [State.record_chan, hchan, hkept.bit (by decide), hkept.bit (by decide), hkept.1, Chan.switchRef_pll]
    exact ⟨Chan.switchRef_actref _, Chan.switchRef_refsw _, rfl, rfl⟩
  · have hacts : ceilDiv (550000 * 16) (s.chan ch).pll.fnom ≤ n := (ceilDiv_le_iff hf).2 hn
    show execCeilingGuard ch (.count n) s = _
    simp [execCeilingGuard, hacts, show (s.chan ch).lockHeld = true from hlock]
  · have hquiet : ¬ ceilDiv (550000 * 16) (s.chan ch).pll.fnom ≤ n := fun h => absurd ((ceilDiv_le_iff hf).1 h) (Nat.not_le.2 hn)
    show execCeilingGuard ch (.count n) s = _
    simp [execCeilingGuard, hquiet]
  · show execCeilingGuard ch (.period ps) s = _
    simp [execCeilingGuard, hps, show (s.chan ch).lockHeld = true from hlock]
  · obtain ⟨v, hv, hmode, hfaulted, hclock⟩ := u.clockLoss_landAll ch lor ceil
    obtain ⟨hbypass, hlock, hloss⟩ := (u.chan ch).lost_bits lor ceil u.time.refNs
    have hstat : ∀ f : BitField, f.lo + f.width ≤ Fld.PLL_STAT_RAMPOWN.lo → (v.chan ch).bit Reg.PLL_STAT f =
        ((u.chan ch).lost lor ceil u.time.refNs).bit Reg.PLL_STAT f := fun f hf =>
      (hclock.bit hf).trans (congrArg (· != 0) ((Chan.dropProfile_clock _).2 f hf))
    refine ⟨v, hv, hmode, hfaulted, (hstat _ (by decide)).trans hbypass, (hstat _ (by decide)).trans hlock,
      (hstat (lossBit lor) (by cases lor <;> decide)).trans hloss, ?_⟩
    rw [hclock.1, (Chan.dropProfile_clock _).1]

end Sys2Proof.Machine
end

section
/-! SUPPORT. The family of 02_channel_tick.md: the pair's link and LEASH (R66, R307, R312, R323, R325, R335). -/

namespace Sys2Proof.Machine

/-! ## One update for each channel -/

/-- A fold of updates over the channels, each of which works on its own channel's part of the state alone. -/
theorem foldl_eachChannel {β : Type} (f : State → ChId → State) (view : State → ChId → β) (g : ChId → β → β)
    (hown : ∀ s i, view (f s i) i = g i (view s i)) (hother : ∀ s i j, j ≠ i → view (f s i) j = view s j) (j : ChId) :
    ∀ (l : List ChId), l.Nodup → ∀ s, view (l.foldl f s) j = if j ∈ l then g j (view s j) else view s j
  | [], _, s => by simp
  | i :: l, hl, s => by
    obtain ⟨hi, hl⟩ := List.nodup_cons.1 hl
    rw [List.foldl_cons, foldl_eachChannel f view g hown hother j l hl]
    by_cases h : j = i
    · subst h
      simp [hi, hown]
    · simp [h, hother s i j h]

/-- The same fold over all twelve channels. -/
theorem foldl_finRange_channel {β : Type} {f : State → ChId → State} {view : State → ChId → β} {g : ChId → β → β}
    (hown : ∀ s i, view (f s i) i = g i (view s i)) (hother : ∀ s i j, j ≠ i → view (f s i) j = view s j) (s : State) (j : ChId) :
    view ((List.finRange 12).foldl f s) j = g j (view s j) :=
  (foldl_eachChannel f view g hown hother j _ (List.nodup_finRange 12) s).trans (if_pos (List.mem_finRange j))

/-! ## The link -/

theorem State.setLink_chan (s : State) (l t r : Nat) (ch : ChId) : (s.setLink l t r).chan ch = s.chan ch := by
  unfold State.setLink
  extract_lets was u
  split
  · rfl
  · rw [State.record_chan]
    rfl

/-- A change of the link leaves every field beside LINK, TXUP and RXUP. -/
theorem State.setLink_gfld_ne (s : State) (l t r : Nat) {o : Nat} {f : BitField} (hcnt : o ≠ Reg.REC_CNT) (hint : o ≠ Reg.INT_STAT)
    (hlink : o ≠ Reg.PAIR_STAT ∨ Fld.PAIR_STAT_LINK.lo + Fld.PAIR_STAT_LINK.width ≤ f.lo ∨ f.lo + f.width ≤ Fld.PAIR_STAT_LINK.lo)
    (htx : o ≠ Reg.PAIR_LINK ∨ Fld.PAIR_LINK_TXUP.lo + Fld.PAIR_LINK_TXUP.width ≤ f.lo ∨ f.lo + f.width ≤ Fld.PAIR_LINK_TXUP.lo)
    (hrx : o ≠ Reg.PAIR_LINK ∨ Fld.PAIR_LINK_RXUP.lo + Fld.PAIR_LINK_RXUP.width ≤ f.lo ∨ f.lo + f.width ≤ Fld.PAIR_LINK_RXUP.lo) :
    (s.setLink l t r).gfld o f = s.gfld o f := by
  unfold State.setLink
  extract_lets was u
  have hu : u.gfld o f = s.gfld o f := (State.gfld_gset_ne _ _ hrx).trans (State.gfld_gset_ne _ _ htx)
  split
  · exact hu
  · rw [(State.reports_record ..).gfld o f hcnt hint, State.gfld_gset_ne _ _ hlink, hu]

/-- A change of the link sets LINK, TXUP and RXUP (R307). -/
theorem State.setLink_fields (s : State) {l t r : Nat} (hl : l < 4) (ht : t < 4) (hr : r < 4) :
    (s.setLink l t r).gfld Reg.PAIR_STAT Fld.PAIR_STAT_LINK = l ∧ (s.setLink l t r).gfld Reg.PAIR_LINK Fld.PAIR_LINK_TXUP = t ∧
    (s.setLink l t r).gfld Reg.PAIR_LINK Fld.PAIR_LINK_RXUP = r := by
  unfold State.setLink
  extract_lets was u
  have hwas : u.gfld Reg.PAIR_STAT Fld.PAIR_STAT_LINK = was :=
    (State.gfld_gset_ne _ _ (.inl (by decide))).trans (State.gfld_gset_ne _ _ (.inl (by decide)))
  have htx : u.gfld Reg.PAIR_LINK Fld.PAIR_LINK_TXUP = t := by
    rw [State.gfld_gset_ne _ _ (.inr (by decide)), State.gfld_gset _ _ _ _ (by decide)]
    exact Nat.mod_eq_of_lt ht
  have hrx : u.gfld Reg.PAIR_LINK Fld.PAIR_LINK_RXUP = r := by
    rw [State.gfld_gset _ _ _ _ (by decide)]
    exact Nat.mod_eq_of_lt hr
  clear_value u
  split
  · exact ⟨hwas.trans ‹_›, htx, hrx⟩
  · rw [(State.reports_record ..).gfld _ _ (by decide) (by decide), (State.reports_record ..).gfld _ _ (by decide) (by decide),
      (State.reports_record ..).gfld _ _ (by decide) (by decide), State.gfld_gset _ _ _ _ (by decide),
      State.gfld_gset_ne _ _ (.inl (by decide)), State.gfld_gset_ne _ _ (.inl (by decide))]
    exact ⟨Nat.mod_eq_of_lt hl, htx, hrx⟩

/-! ## The partner's PRIO and layouts -/

theorem State.gbit_gset_bit (s : State) (o : Nat) {f : BitField} (b : Bool) (h : f.lo + f.width ≤ 32) (hw : f.width = 1) :
    (s.gset o f (if b then 1 else 0)).gbit o f = b := by
  rw [State.gbit, State.gfld_gset _ _ _ _ h, hw]
  cases b <;> rfl

/-- The partner's PRIO shows in PPRIO; one that equals the own sets PRIOERR (R325). -/
theorem State.setPartnerPrio_fields (s : State) (p : Bool) :
    (s.setPartnerPrio p).gbit Reg.PAIR_STAT Fld.PAIR_STAT_PPRIO = p ∧
    (p = s.gbit Reg.PAIR_STAT Fld.PAIR_STAT_PRIO → (s.setPartnerPrio p).gbit Reg.PAIR_STAT Fld.PAIR_STAT_PRIOERR = true) := by
  unfold State.setPartnerPrio
  extract_lets u
  have hu : u.gbit Reg.PAIR_STAT Fld.PAIR_STAT_PPRIO = p := State.gbit_gset_bit _ _ _ (by decide) rfl
  have hprio : u.gbit Reg.PAIR_STAT Fld.PAIR_STAT_PRIO = s.gbit Reg.PAIR_STAT Fld.PAIR_STAT_PRIO :=
    congrArg (· != 0) (State.gfld_gset_ne _ _ (.inr (by decide)))
  refine ⟨?_, fun h => ?_⟩
  · split
    · exact (congrArg (· != 0) (State.gfld_gset_ne _ _ (.inr (by decide)))).trans hu
    · exact hu
  · rw [hprio, if_pos (beq_iff_eq.2 h)]
    exact State.gbit_gset_bit u _ true (by decide) rfl

theorem State.setPartnerPrio_gfld_ne (s : State) (p : Bool) {o : Nat} {f : BitField}
    (h : o ≠ Reg.PAIR_STAT ∨ Fld.PAIR_STAT_PRIOERR.lo + Fld.PAIR_STAT_PRIOERR.width ≤ f.lo) :
    (s.setPartnerPrio p).gfld o f = s.gfld o f := by
  unfold State.setPartnerPrio
  extract_lets u
  have hu : u.gfld o f = s.gfld o f := State.gfld_gset_ne _ _ (h.imp_right fun hf => .inl (Nat.le_trans (by decide) hf))
  split
  · exact (State.gfld_gset_ne _ _ (h.imp_right .inl)).trans hu
  · exact hu

theorem State.setPartnerPrio_chan (s : State) (p : Bool) (ch : ChId) : (s.setPartnerPrio p).chan ch = s.chan ch := by
  unfold State.setPartnerPrio
  extract_lets u
  split <;> rfl

theorem Reg.PAIR_CHSTAT_ne {i j : ChId} (h : j ≠ i) : Reg.PAIR_CHSTAT j ≠ Reg.PAIR_CHSTAT i := fun he =>
  h (Fin.ext (by unfold Reg.PAIR_CHSTAT at he; omega))

theorem State.cs_setCs (s : State) (ch : ChId) {f : BitField} {n : Nat} (h : f.lo + f.width ≤ 32) (hn : n < 2 ^ f.width) :
    (s.setCs ch f n).cs ch f = n := (s.gfld_gset _ _ _ h).trans (Nat.mod_eq_of_lt hn)

/-- What the comparison of layouts leaves: all but the partner's identities and PAIR_CHSTAT. -/
theorem State.compareMlids_frame (s : State) (ids : List (BitVec 16)) : (s.compareMlids ids).link = { s.link with mlids := ids } ∧
    (∀ ch, (s.compareMlids ids).chan ch = s.chan ch) ∧
    ∀ o, (∀ ch : ChId, o ≠ Reg.PAIR_CHSTAT ch) → ∀ f, (s.compareMlids ids).gfld o f = s.gfld o f := by
  unfold State.compareMlids
  refine foldl_rel (fun a b : State => b.link = a.link ∧ (∀ ch, b.chan ch = a.chan ch) ∧
    ∀ o, (∀ ch : ChId, o ≠ Reg.PAIR_CHSTAT ch) → ∀ f, b.gfld o f = a.gfld o f) ?_ ?_ _ ?_ _ _
  · exact fun _ => ⟨rfl, fun _ => rfl, fun _ _ _ => rfl⟩
  · rintro a b c ⟨hlink, hchan, hreg⟩ ⟨klink, kchan, kreg⟩
    exact ⟨klink.trans hlink, fun ch => (kchan ch).trans (hchan ch), fun o ho f => (kreg o ho f).trans (hreg o ho f)⟩
  · exact fun a ch => ⟨rfl, fun _ => rfl, fun o ho f => State.gfld_gset_ne _ _ (.inl (ho ch))⟩

/-- XLAYOUT shows where the partner's layout differs (R312). -/
theorem State.compareMlids_xlayout (s : State) (ids : List (BitVec 16)) (ch : ChId) :
    (s.compareMlids ids).cs ch Fld.PAIR_CHSTAT_XLAYOUT = if ids.getD ch.val 0 = (s.chan ch).mlid then 0 else 1 := by
  refine congrArg Prod.fst (foldl_finRange_channel (view := fun s ch => (s.cs ch Fld.PAIR_CHSTAT_XLAYOUT, s.chan ch))
    (g := fun ch v => (if ids.getD ch.val 0 = v.2.mlid then 0 else 1, v.2)) ?_ ?_ _ ch)
  · intro s i
    refine Prod.ext (State.cs_setCs _ _ (by decide) ?_) rfl
    split <;> decide
  · exact fun s i j h => Prod.ext (State.gfld_gset_ne _ _ (.inl (Reg.PAIR_CHSTAT_ne h))) rfl

/-! ## Training and loss of the link -/

theorem Reg.ne_PAIR_CHSTAT {o : Nat} (h : o < 0x4100) (ch : ChId) : o ≠ Reg.PAIR_CHSTAT ch := by
  unfold Reg.PAIR_CHSTAT
  omega

/-- Training that ends within 500 ns (R307, R312, R325). -/
theorem exec_linkTrainingEnd_up {s : State} {rsp : TrainObs} (hpair : s.isPair = true) (hdelay : rsp.delay ≤ 2000) :
    ∃ t, exec (.linkTrainingEnd rsp) s = .next t ∧
      t.gfld Reg.PAIR_STAT Fld.PAIR_STAT_LINK = 2 ∧ t.gfld Reg.PAIR_LINK Fld.PAIR_LINK_TXUP = 3 ∧
      t.gfld Reg.PAIR_LINK Fld.PAIR_LINK_RXUP = 3 ∧ t.gfld Reg.PAIR_LINK Fld.PAIR_LINK_DELAY = rsp.delay ∧
      t.gbit Reg.PAIR_STAT Fld.PAIR_STAT_PPRIO = rsp.prio ∧ t.link.mlids = rsp.mlids ∧
      (rsp.prio = s.gbit Reg.PAIR_STAT Fld.PAIR_STAT_PRIO → t.gbit Reg.PAIR_STAT Fld.PAIR_STAT_PRIOERR = true) ∧
      ∀ ch : ChId, t.cs ch Fld.PAIR_CHSTAT_XLAYOUT = if rsp.mlids.getD ch.val 0 = (s.chan ch).mlid then 0 else 1 := by
  generalize hu : s.gset Reg.PAIR_LINK Fld.PAIR_LINK_DELAY (min 4095 rsp.delay) = u
  have hexec : exec (.linkTrainingEnd rsp) s = .next (((u.setLink 2 3 3).setPartnerPrio rsp.prio).compareMlids rsp.mlids) := by
    show execLinkTrainingEnd rsp s = _
    simp only [execLinkTrainingEnd, hpair, Nat.not_lt.2 hdelay, hu, Bool.not_true, Bool.false_eq_true, if_false]
  have hmeasured : u.gfld Reg.PAIR_LINK Fld.PAIR_LINK_DELAY = rsp.delay := by
    rw [← hu, State.gfld_gset _ _ _ _ (by decide), Nat.min_eq_right (by omega)]
    exact Nat.mod_eq_of_lt (Nat.lt_of_le_of_lt hdelay (by decide))
  have hown : (u.setLink 2 3 3).gbit Reg.PAIR_STAT Fld.PAIR_STAT_PRIO = s.gbit Reg.PAIR_STAT Fld.PAIR_STAT_PRIO := by
    rw [← hu]
    exact congrArg (· != 0) ((State.setLink_gfld_ne _ _ _ _ (by decide) (by decide) (.inr (by decide)) (.inl (by decide))
      (.inl (by decide))).trans (State.gfld_gset_ne _ _ (.inl (by decide))))
  obtain ⟨hlink, htx, hrx⟩ := u.setLink_fields (l := 2) (t := 3) (r := 3) (by decide) (by decide) (by decide)
  have hchan : ∀ ch, (u.setLink 2 3 3).chan ch = s.chan ch := fun ch => (u.setLink_chan 2 3 3 ch).trans (hu ▸ rfl)
  have hdelay' := (u.setLink_gfld_ne 2 3 3 (f := Fld.PAIR_LINK_DELAY) (by decide : Reg.PAIR_LINK ≠ _) (by decide) (.inl (by decide))
    (.inr (by decide)) (.inr (by decide))).trans hmeasured
  generalize u.setLink 2 3 3 = w at hexec hown hlink htx hrx hchan hdelay'
  obtain ⟨hpprio, herr⟩ := w.setPartnerPrio_fields rsp.prio
  have hkept := fun o f h => w.setPartnerPrio_gfld_ne rsp.prio (o := o) (f := f) h
  have hxchan := w.setPartnerPrio_chan rsp.prio
  generalize w.setPartnerPrio rsp.prio = x at hexec hpprio herr hkept hxchan
  obtain ⟨hmlids, -, hreg⟩ := x.compareMlids_frame rsp.mlids
  have hstat := hreg Reg.PAIR_STAT (Reg.ne_PAIR_CHSTAT (by decide))
  have hlane := hreg Reg.PAIR_LINK (Reg.ne_PAIR_CHSTAT (by decide))
  refine ⟨_, hexec, ?_, ?_, ?_, ?_, ?_, ?_, fun h => ?_, fun ch => ?_⟩
  · rw [hstat, hkept _ _ (.inr (by decide)), hlink]
  · rw [hlane, hkept _ _ (.inl (by decide)), htx]
  · rw [hlane, hkept _ _ (.inl (by decide)), hrx]
  · rw [hlane, hkept _ _ (.inl (by decide)), hdelay']
  · rw [State.gbit, hstat]
    exact hpprio
  · rw [hmlids]
  · rw [State.gbit, hstat]
    exact herr (h.trans hown.symm)
  · rw [State.compareMlids_xlayout, hxchan, hchan]

/-- Training whose delay is beyond 500 ns stays in training (R307). -/
theorem exec_linkTrainingEnd_far {s : State} {rsp : TrainObs} (hpair : s.isPair = true) (hdelay : 2000 < rsp.delay) :
    exec (.linkTrainingEnd rsp) s =
      .next ((s.gset Reg.PAIR_LINK Fld.PAIR_LINK_DELAY (min 4095 rsp.delay)).setLink 1 0 0) := by
  show execLinkTrainingEnd rsp s = _
  simp only [execLinkTrainingEnd, hpair, hdelay, Bool.not_true, Bool.false_eq_true, if_false, if_true]

/-- No frame shows any more on any channel (R66). -/
def State.clearFrames (s : State) : State :=
  (List.finRange 12).foldl (fun s ch => s.onChan ch fun c => c.setFld Reg.CH_ALIGN Fld.CH_ALIGN_FRAMES 0) s

theorem State.clearFrames_chan (s : State) (ch : ChId) :
    s.clearFrames.chan ch = (s.chan ch).setFld Reg.CH_ALIGN Fld.CH_ALIGN_FRAMES 0 :=
  foldl_finRange_channel (view := State.chan) (g := fun _ c => c.setFld Reg.CH_ALIGN Fld.CH_ALIGN_FRAMES 0)
    (fun _ _ => State.chan_putChan_same ..) (fun _ _ _ h => State.chan_putChan_ne _ _ h) s ch

theorem State.clearFrames_gfld (s : State) (o : Nat) (f : BitField) : s.clearFrames.gfld o f = s.gfld o f := by
  unfold State.clearFrames
  refine foldl_rel (fun a b : State => b.gfld o f = a.gfld o f) (fun _ => rfl) (fun _ _ _ h k => k.trans h) _ ?_ _ s
  exact fun _ _ => rfl

/-- The lanes of a direction that stay up when `lane` goes down (R307). -/
def lanesLeft (lane : Bool) (n : Nat) : Nat := if lane then n % 2 else n / 2 * 2

theorem lanesLeft_lt {n : Nat} (lane : Bool) (h : n < 4) : lanesLeft lane n < 4 := by
  unfold lanesLeft
  split <;> omega

theorem State.gfld_lt (s : State) (o : Nat) (f : BitField) : s.gfld o f < 2 ^ f.width := BitVec.isLt _

/-- A count that a change of the link may make (R307, R340). -/
theorem State.countG_ite (s : State) (p : Prop) [Decidable p] (reg : Nat) (hi ev : Bool) {t : State}
    (ht : t = if p then s.countG reg hi ev else s) : (∀ ch, t.chan ch = s.chan ch) ∧
    ∀ o f, o ≠ reg → o ≠ Reg.REC_CNT → o ≠ Reg.INT_STAT → t.gfld o f = s.gfld o f := by
  subst ht
  split
  · exact ⟨s.countG_chan reg hi ev, fun _ f => s.countG_gfld reg hi ev f⟩
  · exact ⟨fun _ => rfl, fun _ _ _ _ _ => rfl⟩

/-- A lane that goes down takes the link down (R307); without the receive direction no frame shows (R66). -/
theorem exec_linkDown {s : State} (rxDir lane : Bool) (h : s.gfld Reg.PAIR_STAT Fld.PAIR_STAT_LINK ≠ 0) :
    ∃ u : State, (∀ ch, u.chan ch = s.chan ch) ∧ (let t := s.gfld Reg.PAIR_LINK Fld.PAIR_LINK_TXUP
      let r := s.gfld Reg.PAIR_LINK Fld.PAIR_LINK_RXUP
      exec (.linkDown rxDir lane) s = .next (if rxDir then (u.setLink 1 t (lanesLeft lane r)).clearFrames
        else u.setLink 1 (lanesLeft lane t) r)) := by
  show ∃ u : State, (∀ ch, u.chan ch = s.chan ch) ∧ execLinkDown rxDir lane s = _
  unfold execLinkDown
  extract_lets t r clear u
  obtain ⟨hchan, hreg⟩ := s.countG_ite _ Reg.PAIR_CNT0 true false (t := u) rfl
  refine ⟨u, hchan, ?_⟩
  rw [hreg _ _ (by decide) (by decide) (by decide), if_neg h]
  cases rxDir <;> rfl

/-! ## CLAIM, RELEASE and RETRAIN -/

theorem State.claimBits_none (v : Word) (s : State) (rej : Bool) : ∀ l : List ChId, (∀ ch ∈ l, v.getLsbD ch.val = false) →
    State.claimBits v l (s, rej) = (s, rej)
  | [], _ => rfl
  | ch :: l, h => by
    obtain ⟨hch, hl⟩ := List.forall_mem_cons.1 h
    rw [State.claimBits, hch, Bool.not_false, if_pos rfl, State.claimBits_none v s rej l hl]

theorem State.releaseBits_none (v : Word) (s : State) (rej : Bool) : ∀ l : List ChId,
    (∀ ch ∈ l, v.getLsbD (16 + ch.val) = false) → State.releaseBits v l (s, rej) = (s, rej)
  | [], _ => rfl
  | ch :: l, h => by
    obtain ⟨hch, hl⟩ := List.forall_mem_cons.1 h
    rw [State.releaseBits, hch, Bool.not_false, if_pos rfl, State.releaseBits_none v s rej l hl]

/-- A channel's bit in a mask (R335). -/
theorem getLsbD_chanBit : ∀ ch j : ChId, (1#32 <<< ch.val).getLsbD j.val = decide (j = ch) := by decide

theorem getLsbD_chanBit_high : ∀ ch j : ChId, (1#32 <<< (16 + ch.val)).getLsbD (16 + j.val) = decide (j = ch) := by decide

/-- The CLAIM bit of a channel in HALT whose LEASH is released and that does not drive it (R323). -/
theorem State.claimBits_one {s : State} {ch : ChId} (rej : Bool) (hmode : (s.chan ch).mode = 1)
    (hfree : s.cs ch Fld.PAIR_CHSTAT_LEASH = 0) (hdrive : (s.chan ch).pair.drive = false) : ∀ l : List ChId, ch ∈ l → l.Nodup →
    State.claimBits (1#32 <<< ch.val) l (s, rej) =
      (s.onPair ch fun p => { p with drive := true, aLow := true, claim := some .host }, rej)
  | j :: l, hmem, hl => by
    obtain ⟨hj, hl⟩ := List.nodup_cons.1 hl
    by_cases h : j = ch
    · subst h
      have hrest : ∀ i ∈ l, (1#32 <<< j.val).getLsbD i.val = false := fun i hi => by
        rw [getLsbD_chanBit]
        exact decide_eq_false fun e => hj (e ▸ hi)
      rw [State.claimBits, getLsbD_chanBit]
      simp only [hmode, hfree, hdrive, decide_true, Bool.not_true, Bool.not_false, Bool.and_self, Bool.false_eq_true, if_true, if_false]
      exact State.claimBits_none _ _ _ l hrest
    · rw [State.claimBits, getLsbD_chanBit, decide_eq_false h, Bool.not_false, if_pos rfl]
      exact State.claimBits_one rej hmode hfree hdrive l ((List.mem_cons.1 hmem).resolve_left (Ne.symm h)) hl

/-- The RELEASE bit of a channel in HALT that holds its LEASH (R323). -/
theorem State.releaseBits_one {s : State} {ch : ChId} (rej : Bool) (hmode : (s.chan ch).mode = 1) (hholds : s.holds ch = true) :
    ∀ l : List ChId, ch ∈ l → l.Nodup → State.releaseBits (1#32 <<< (16 + ch.val)) l (s, rej) = (s.hostRelease ch, rej)
  | j :: l, hmem, hl => by
    obtain ⟨hj, hl⟩ := List.nodup_cons.1 hl
    by_cases h : j = ch
    · subst h
      have hrest : ∀ i ∈ l, (1#32 <<< (16 + j.val)).getLsbD (16 + i.val) = false := fun i hi => by
        rw [getLsbD_chanBit_high]
        exact decide_eq_false fun e => hj (e ▸ hi)
      rw [State.releaseBits, getLsbD_chanBit_high]
      simp only [hmode, hholds, decide_true, Bool.not_true, Bool.and_self, Bool.false_eq_true, if_true, if_false]
      exact State.releaseBits_none _ _ _ l hrest
    · rw [State.releaseBits, getLsbD_chanBit_high, decide_eq_false h, Bool.not_false, if_pos rfl]
      exact State.releaseBits_one rej hmode hholds l ((List.mem_cons.1 hmem).resolve_left (Ne.symm h)) hl

/-- A write of PAIR_CTL in a pair that has one channel's CLAIM bit (R323, R335). -/
theorem State.writePairCtl_claim {s : State} {ch : ChId} (hpair : s.isPair = true) (hmode : (s.chan ch).mode = 1)
    (hfree : s.cs ch Fld.PAIR_CHSTAT_LEASH = 0) (hdrive : (s.chan ch).pair.drive = false) : s.writePairCtl (1#32 <<< ch.val) =
      (s.onPair ch fun p => { p with drive := true, aLow := true, claim := some .host }, false) := by
  have hbits : ∀ ch : ChId, (∀ j ∈ List.finRange 12, (1#32 <<< ch.val).getLsbD (16 + j.val) = false) ∧
      (1#32 <<< ch.val).getLsbD 28 = false := by decide
  obtain ⟨hrelease, hretrain⟩ := hbits ch
  unfold State.writePairCtl
  extract_lets r r'
  have hr : r = _ := State.claimBits_one false hmode hfree hdrive _ (List.mem_finRange ch) (List.nodup_finRange 12)
  have hr' : r' = r := State.releaseBits_none _ _ _ _ hrelease
  rw [hr', hr, hpair, hretrain]
  rfl

/-- A write of PAIR_CTL in a pair that has one channel's RELEASE bit (R323, R335). -/
theorem State.writePairCtl_release {s : State} {ch : ChId} (hpair : s.isPair = true) (hmode : (s.chan ch).mode = 1)
    (hholds : s.holds ch = true) : s.writePairCtl (1#32 <<< (16 + ch.val)) = (s.hostRelease ch, false) := by
  have hbits : ∀ ch : ChId, (∀ j ∈ List.finRange 12, (1#32 <<< (16 + ch.val)).getLsbD j.val = false) ∧
      (1#32 <<< (16 + ch.val)).getLsbD 28 = false := by decide
  obtain ⟨hclaim, hretrain⟩ := hbits ch
  unfold State.writePairCtl
  extract_lets r r'
  have hr : r = (s, false) := State.claimBits_none _ _ _ _ hclaim
  have hr' : r' = (s.hostRelease ch, false) := by
    unfold r'
    rw [hr]
    exact State.releaseBits_one false hmode hholds _ (List.mem_finRange ch) (List.nodup_finRange 12)
  rw [hr', hpair, hretrain]
  rfl

/-- A write of PAIR_CTL in a pair that has RETRAIN alone (R307). -/
theorem State.writePairCtl_retrain {s : State} (hpair : s.isPair = true) : s.writePairCtl 0x10000000 = (s.retrain, false) := by
  unfold State.writePairCtl
  extract_lets r r'
  have hr : r = (s, false) := State.claimBits_none _ _ _ _ (by decide)
  have hr' : r' = r := State.releaseBits_none _ _ _ _ (by decide)
  rw [hr', hr, hpair]
  rfl

/-- A write of PAIR_CTL that its block does not reject (R335, R461). -/
theorem State.writeAlias_pairCtl {s t : State} {k : Ctx} {v : Word} (hserves : s.serves) (hkeeps : s.keepsRoG k Reg.PAIR_CTL v)
    (hw : s.writePairCtl v = (t, false)) : s.writeAlias k Reg.PAIR_CTL v = t.answered := by
  have hglobal : s.globalWrite k Reg.PAIR_CTL v = (t, false) := by
    simp [State.globalWrite, Reg.PAIR_CTL, hw]
  exact State.writeAlias_ok hserves (by decide) (by decide) (by decide) (by decide +kernel) hkeeps hglobal

/-- RELEASE lets the wires and the pads go; GUCAUSE 9 (R323, R331). -/
theorem State.hostRelease_fields (s : State) (ch : ChId) :
    ((s.hostRelease ch).chan ch).pair = (s.chan ch).pair.letGo ∧ (s.hostRelease ch).cs ch Fld.PAIR_CHSTAT_GUCAUSE = 9 := by
  refine ⟨?_, State.cs_setCs _ _ (by decide) (by decide)⟩
  unfold State.hostRelease
  rw [State.setCs_chan, (State.outputsOnly_contactors _ ch).pair, (State.outputsOnly_gatesFollow _ ch).pair, State.onPair_eq,
    State.chan_putChan_same, s.groupDiscard_chan]

/-- RETRAIN takes both directions back to training, and no channel is touched (R307). -/
theorem State.retrain_fields (s : State) : s.retrain.gfld Reg.PAIR_STAT Fld.PAIR_STAT_LINK = 1 ∧
    s.retrain.gfld Reg.PAIR_LINK Fld.PAIR_LINK_TXUP = 0 ∧ s.retrain.gfld Reg.PAIR_LINK Fld.PAIR_LINK_RXUP = 0 ∧
    ∀ j, s.retrain.chan j = s.chan j := by
  unfold State.retrain
  extract_lets t r s1 s2
  obtain ⟨hlink, htx, hrx⟩ := s2.setLink_fields (l := 1) (t := 0) (r := 0) (by decide) (by decide) (by decide)
  have h1 := (s.countG_ite _ Reg.PAIR_CNT0 true false (t := s1) rfl).1
  have h2 := (s1.countG_ite _ Reg.PAIR_CNT0 true false (t := s2) rfl).1
  exact ⟨hlink, htx, hrx, fun j => (s2.setLink_chan 1 0 0 j).trans ((h2 j).trans (h1 j))⟩

/-- Settles O35: training and loss of the link by `State.setLink_fields`, the commands of PAIR_CTL by what each of its bits does
alone (`State.writePairCtl_claim`, `State.writePairCtl_release`, `State.writePairCtl_retrain`). -/
theorem pairLink : Obligations.PairLink := by
  unfold Obligations.PairLink
  intro s rsp rxDir lane k ch
  refine ⟨exec_linkTrainingEnd_up, fun hpair hdelay => ⟨_, exec_linkTrainingEnd_far hpair hdelay, ?_⟩, fun hlink => ?_,
    fun hserves hpair => ⟨fun hkeeps hmode hfree hdrive => ?_, fun hkeeps hmode hholds => ⟨?_, s.hostRelease_fields ch⟩,
      fun hkeeps => ⟨s.retrain.answered, ?_, s.retrain_fields⟩⟩⟩
  · exact State.setLink_fields _ (by decide) (by decide) (by decide)
  · obtain ⟨u, hchan, hexec⟩ := exec_linkDown rxDir lane hlink
    refine ⟨_, hexec, ?_⟩
    have htx := s.gfld_lt Reg.PAIR_LINK Fld.PAIR_LINK_TXUP
    have hrx := s.gfld_lt Reg.PAIR_LINK Fld.PAIR_LINK_RXUP
    cases rxDir
    · obtain ⟨hlinkUp, hup, -⟩ := u.setLink_fields (l := 1) (by decide) (lanesLeft_lt lane htx) hrx
      exact ⟨hlinkUp, hup, fun j => (u.setLink_chan ..).trans (hchan j)⟩
    · obtain ⟨hlinkUp, -, hup⟩ := u.setLink_fields (l := 1) (by decide) htx (lanesLeft_lt lane hrx)
      refine ⟨(State.clearFrames_gfld ..).trans hlinkUp, (State.clearFrames_gfld ..).trans hup, fun j => ?_⟩
      exact (State.clearFrames_chan _ j).trans (by rw [State.setLink_chan, hchan, if_pos rfl])
  · show Host.Outcome.next (s.writeAlias k Reg.PAIR_CTL _) = _
    have hv : ∀ ch : ChId, (1#32 <<< ch.val) &&& 0x00000FFF = 1#32 <<< ch.val := by decide
    rw [hv, State.writeAlias_pairCtl hserves hkeeps (State.writePairCtl_claim hpair hmode hfree hdrive)]
  · show Host.Outcome.next (s.writeAlias k Reg.PAIR_CTL _) = _
    have hv : ∀ ch : ChId, (1#32 <<< (16 + ch.val)) &&& 0x0FFF0000 = 1#32 <<< (16 + ch.val) := by decide
    rw [hv, State.writeAlias_pairCtl hserves hkeeps (State.writePairCtl_release hpair hmode hholds)]
  · show Host.Outcome.next (s.writeAlias k Reg.PAIR_CTL _) = _
    exact congrArg _ (State.writeAlias_pairCtl hserves hkeeps (State.writePairCtl_retrain hpair))

end Sys2Proof.Machine
end

section
/-! SUPPORT. The family of 02_channel_tick.md: alignment counts and HOUND (R64, R176, R327 to R330). -/

namespace Sys2Proof.Machine

/-! ## Packed words -/

/-- A field of a packed word beside its first entry. -/
theorem getField_packFields_cons {lo w : Nat} (v : Nat) (t : List (Nat × Nat × Nat)) {f : BitField}
    (h : lo + w ≤ f.lo ∨ f.lo + f.width ≤ lo) : getField (packFields ((lo, w, v) :: t)) f = getField (packFields t) f := by
  unfold getField
  congr 1
  apply BitVec.eq_of_getLsbD_eq
  intro i hi
  have hzero : (BitVec.ofNat 32 (v % 2 ^ w) <<< lo).getLsbD (f.lo + i) = false := by
    rw [BitVec.getLsbD_shiftLeft, BitVec.getLsbD_ofNat, Nat.testBit_mod_two_pow]
    obtain h | h := h
    · simp [show ¬ f.lo + i - lo < w by omega]
    · simp [show f.lo + i < lo by omega]
  simp [packFields, BitVec.getLsbD_extractLsb', hzero]

theorem getField_packFields_last (lo w v : Nat) (h : lo + w ≤ 32) : getField (packFields [(lo, w, v)]) ⟨lo, w⟩ = v % 2 ^ w := by
  refine Eq.trans ?_ (getField_setField 0 ⟨lo, w⟩ v h)
  simp [packFields, setField]

/-! ## Health reports -/

/-- The health register after a report (R330, R339). -/
def healthWord (c : Chan) (old : Word) : Word :=
  packFields [(0, 1, if !c.pair.failed then 1 else 0), (1, 1, if c.pair.diverge then 1 else 0), (2, 4, c.pair.results.toNat),
    (6, 1, if decide (100 ≤ c.pair.reports + 1) then 1 else 0), (7, 1, if !c.pair.framesIn then 1 else 0),
    (8, 1, c.fld Reg.CH_ALIGN Fld.CH_ALIGN_LOCKED), (9, 1, if c.pair.disarm then 1 else 0),
    (16, 8, if !c.pair.failed then min 255 (getField old Fld.HND_HEALTH_VRUN + 1) else 0),
    (24, 8, getField old Fld.HND_HEALTH_SEQ + 1)]

/-- SEQ counts the reports (R330). -/
theorem healthWord_seq (c : Chan) (old : Word) :
    getField (healthWord c old) Fld.HND_HEALTH_SEQ = (getField old Fld.HND_HEALTH_SEQ + 1) % 256 := by
  unfold healthWord
  iterate 8 rw [getField_packFields_cons _ _ (by decide)]
  exact getField_packFields_last 24 8 _ (by decide)

/-- What a report restarts of a channel's pair state (R329, R330). -/
def Chan.reported (c : Chan) : Chan :=
  { c with pair := { c.pair with failed := false, diverge := false, framesIn := false, reports := c.pair.reports + 1 } }

/-- A channel and its health register before a report, and after it: only a channel in SHADOW reports (R330). -/
def healthStep (v : Chan × Word) : Chan × Word := if v.1.mode = 8 then (v.1.reported, healthWord v.1 v.2) else v

theorem Reg.HND_HEALTH_ne {i j : ChId} (h : j ≠ i) : Reg.HND_HEALTH j ≠ Reg.HND_HEALTH i := fun he =>
  h (Fin.ext (by unfold Reg.HND_HEALTH at he; omega))

theorem Reg.HND_HEALTH_ne_PAIR_CHSTAT (i j : ChId) : Reg.HND_HEALTH i ≠ Reg.PAIR_CHSTAT j := by
  unfold Reg.HND_HEALTH Reg.PAIR_CHSTAT
  omega

theorem Reg.HND_HEALTH_ne_reports (i : ChId) : Reg.HND_HEALTH i ≠ Reg.REC_CNT ∧ Reg.HND_HEALTH i ≠ Reg.INT_STAT := by
  unfold Reg.HND_HEALTH Reg.REC_CNT Reg.INT_STAT
  omega

/-- A channel's report is its health register, its restart, and at most a record. -/
theorem State.healthReport_reports (s : State) (ch : ChId) (h : (s.chan ch).mode = 8) :
    ((s.gput (Reg.HND_HEALTH ch) (healthWord (s.chan ch) (s.gget (Reg.HND_HEALTH ch)))).putChan ch (s.chan ch).reported).reports
      (s.healthReport ch) := by
  unfold State.healthReport
  extract_lets c p old xok bit vrun new u
  have hmode : (c.mode != 8) = false := by rw [show c.mode = 8 from h]; rfl
  rw [hmode, if_neg (by decide)]
  split
  · exact State.reports_refl _
  · exact State.reports_record ..

theorem State.healthReport_own (s : State) (ch : ChId) : ((s.healthReport ch).chan ch, (s.healthReport ch).gget (Reg.HND_HEALTH ch)) =
    healthStep (s.chan ch, s.gget (Reg.HND_HEALTH ch)) := by
  unfold healthStep
  by_cases h : (s.chan ch).mode = 8
  · have hrep := s.healthReport_reports ch h
    obtain ⟨hcnt, hint⟩ := Reg.HND_HEALTH_ne_reports ch
    rw [hrep.chan, hrep.gget _ hcnt hint, if_pos h]
    simp
  · rw [if_neg h]
    simp [State.healthReport, h]

theorem State.healthReport_other (s : State) (i j : ChId) (h : j ≠ i) :
    ((s.healthReport i).chan j, (s.healthReport i).gget (Reg.HND_HEALTH j)) = (s.chan j, s.gget (Reg.HND_HEALTH j)) := by
  by_cases hm : (s.chan i).mode = 8
  · have hrep := s.healthReport_reports i hm
    obtain ⟨hcnt, hint⟩ := Reg.HND_HEALTH_ne_reports j
    rw [hrep.chan, hrep.gget _ hcnt hint, State.chan_putChan_ne _ _ h, State.gget_putChan, State.gget_gput,
      if_neg (Reg.HND_HEALTH_ne h)]
    rfl
  · simp [State.healthReport, hm]

/-- HOUND_HEALTH_REPORT is one report for each channel (R330). -/
theorem exec_houndHealthReport (s : State) : ∃ t, exec .houndHealthReport s = .next t ∧
    ∀ j : ChId, (t.chan j, t.gget (Reg.HND_HEALTH j)) = healthStep (s.chan j, s.gget (Reg.HND_HEALTH j)) :=
  ⟨_, rfl, fun j => foldl_finRange_channel (view := fun s j => (s.chan j, s.gget (Reg.HND_HEALTH j))) (g := fun _ => healthStep)
    State.healthReport_own State.healthReport_other s j⟩

/-! ## Background tests -/

/-- A disarmed channel is not ARMED; it withdraws a claim from SHADOW (R321, R328). -/
theorem State.rearm_disarmed (s : State) (ch : ChId) (h : (s.chan ch).pair.disarm = true) :
    s.rearm ch = s.setCs ch Fld.PAIR_CHSTAT_ARMED 0 ∨
    s.rearm ch = (s.setCs ch Fld.PAIR_CHSTAT_ARMED 0).onPair ch PairCh.letGo := by
  have harmed : (decide ((s.chan ch).mode = 8) && (s.chan ch).pair.eligible && !(s.chan ch).pair.disarm && !s.inhibited ch) = false := by
    simp [h]
  unfold State.rearm
  simp only [harmed, Bool.false_eq_true, if_false]
  split
  · exact .inr rfl
  · exact .inl rfl

/-- A channel's tests after one has completed (R328, R329): its result, and a complete pass of SHADOW begins the next. -/
def PairCh.tested (p : PairCh) (b : BitVec 4) (ok full : Bool) : PairCh :=
  { p with
    results := if ok then p.results ||| b else p.results &&& ~~~b, done := if full then 0 else p.done ||| b,
    reports := if full then 0 else p.reports }

/-- A failed background test of a channel in SHADOW shows in its health register and disarms it (R328). -/
def State.failTest (s : State) (ch : ChId) (test : HoundTest) : State :=
  ((s.gset (Reg.HND_HEALTH ch) ⟨2 + houndNum test, 1⟩ 0).gset (Reg.HND_HEALTH ch) Fld.HND_HEALTH_DISARM 1).onPair ch
    fun p => { p with disarm := true }

/-- An enabled test of a channel in SHADOW or TEST has completed (R328, R329). -/
theorem exec_houndTestEnd {s : State} {ch : ChId} {test : HoundTest} (hmode : (s.chan ch).mode = 8 ∨ (s.chan ch).mode = 9)
    (hen : s.houndEnabled &&& 1#4 <<< houndNum test ≠ 0) : ∃ full, ∀ ok,
      let u := s.onPair ch fun p => p.tested (1#4 <<< houndNum test) ok full
      let v := u.record 0x10 0xF 6 2 (recData [(0, 1, ch.val), (1, 1, houndNum test + 1)])
      exec (.houndTestEnd ch test ok) s =
        .next (if ok then u else if (s.chan ch).mode = 8 then (v.failTest ch test).rearm ch else v) := by
  have hguard : (!((decide ((s.chan ch).mode = 8) || decide ((s.chan ch).mode = 9)) &&
      (s.houndEnabled &&& 1#4 <<< houndNum test != 0))) = false := by
    have hmode' : (decide ((s.chan ch).mode = 8) || decide ((s.chan ch).mode = 9)) = true := by simpa using hmode
    rw [hmode', bne_iff_ne.2 hen]
    rfl
  refine ⟨decide (((s.chan ch).pair.done ||| 1#4 <<< houndNum test) &&& s.houndEnabled = s.houndEnabled) &&
    decide ((s.chan ch).mode = 8), fun ok => ?_⟩
  intro u v
  rw [apply_ite Host.Outcome.next, apply_ite Host.Outcome.next]
  show execHoundTestEnd ch test ok s = _
  unfold execHoundTestEnd
  simp only [hguard, Bool.false_eq_true, if_false]
  rfl

theorem State.gbit_putChan (s : State) (ch : ChId) (c : Chan) (o : Nat) (f : BitField) : (s.putChan ch c).gbit o f = s.gbit o f := rfl

/-- What a failed background test in SHADOW leaves: DISARM, a channel that is not ARMED, and the result (R328). -/
theorem State.failTest_rearm (s : State) (ch : ChId) (test : HoundTest) : let t := (s.failTest ch test).rearm ch
    t.gbit (Reg.HND_HEALTH ch) Fld.HND_HEALTH_DISARM = true ∧ t.cs ch Fld.PAIR_CHSTAT_ARMED = 0 ∧
    (t.chan ch).pair.disarm = true ∧ (t.chan ch).pair.results = (s.chan ch).pair.results := by
  have hpair : ((s.failTest ch test).chan ch).pair = { (s.chan ch).pair with disarm := true } :=
    congrArg Chan.pair (State.chan_putChan_same ..)
  have hdisarm : (s.failTest ch test).gbit (Reg.HND_HEALTH ch) Fld.HND_HEALTH_DISARM = true := by
    unfold State.failTest
    rw [State.onPair_eq, State.gbit_putChan]
    exact State.gbit_gset_bit _ _ true (by decide) rfl
  generalize s.failTest ch test = u at hpair hdisarm
  have harmed : (u.setCs ch Fld.PAIR_CHSTAT_ARMED 0).cs ch Fld.PAIR_CHSTAT_ARMED = 0 := State.cs_setCs _ _ (by decide) (by decide)
  have hkept : (u.setCs ch Fld.PAIR_CHSTAT_ARMED 0).gbit (Reg.HND_HEALTH ch) Fld.HND_HEALTH_DISARM = true :=
    (congrArg (· != 0) (State.gfld_gset_ne _ _ (.inl (Reg.HND_HEALTH_ne_PAIR_CHSTAT ch ch)))).trans hdisarm
  intro t
  obtain ht | ht : t = _ ∨ t = _ := u.rearm_disarmed ch (by rw [hpair])
  · rw [ht, State.setCs_chan, hpair]
    exact ⟨hkept, harmed, rfl, rfl⟩
  · rw [ht, State.onPair_eq, State.chan_putChan_same, State.setCs_chan, hpair]
    exact ⟨hkept, harmed, rfl, rfl⟩

/-- Settles O38: each command by its guard; a test's end by `exec_houndTestEnd` and `State.failTest_rearm`, a report by what it
does to each channel (`exec_houndHealthReport`). -/
theorem hound : Obligations.Hound := by
  unfold Obligations.Hound
  intro s ch test c b
  refine ⟨fun hmode hgood => ?_, fun hbad => ?_, fun hmode hen => ⟨?_, ?_⟩, ?_, fun hmode hdone => ?_⟩
  · show execAlignLocked ch s = _
    have h : (decide ((s.chan ch).mode = 8) && decide (16 ≤ (s.chan ch).pair.good)) = true := by simpa using ⟨hmode, hgood⟩
    simp only [execAlignLocked, h, if_true]
    rfl
  · show execAlignUnlocked ch s = _
    have h : (decide (4 ≤ (s.chan ch).pair.badErr) || decide (4 ≤ (s.chan ch).pair.noFrame)) = true := by simpa using hbad
    simp only [execAlignUnlocked, h, if_true]
    rfl
  · obtain ⟨full, hexec⟩ := exec_houndTestEnd hmode hen
    refine ⟨_, hexec true, ?_⟩
    rw [if_pos rfl, State.onPair_eq, State.chan_putChan_same]
    exact ⟨rfl, rfl, rfl⟩
  · obtain ⟨full, hexec⟩ := exec_houndTestEnd hmode hen
    refine ⟨_, hexec false, ?_⟩
    generalize hv : (s.onPair ch fun p => p.tested b false full).record 0x10 0xF 6 2
      (recData [(0, 1, ch.val), (1, 1, houndNum test + 1)]) = v
    have hresults : (v.chan ch).pair.results = c.pair.results &&& ~~~b := by
      rw [← hv, State.record_chan, State.onPair_eq, State.chan_putChan_same]
      rfl
    rw [if_neg (by decide)]
    split
    · obtain ⟨hdis, harmed, hpair, hres⟩ := v.failTest_rearm ch test
      exact ⟨hres.trans hresults, fun _ => ⟨hdis, harmed, hpair⟩⟩
    · exact ⟨hresults, fun h => absurd h ‹_›⟩
  · obtain ⟨t, hexec, ht⟩ := exec_houndHealthReport s
    have hchan : ∀ j, t.chan j = if (s.chan j).mode = 8 then (s.chan j).reported else s.chan j := fun j => by
      refine (congrArg Prod.fst (ht j)).trans ?_
      unfold healthStep
      split <;> rfl
    have hreg : ∀ j : ChId, t.gget (Reg.HND_HEALTH j) = if (s.chan j).mode = 8 then
        healthWord (s.chan j) (s.gget (Reg.HND_HEALTH j)) else s.gget (Reg.HND_HEALTH j) := fun j => by
      refine (congrArg Prod.snd (ht j)).trans ?_
      unfold healthStep
      split <;> rfl
    refine ⟨t, hexec, fun j => ?_, fun j hj => ?_, fun j hj => ?_⟩
    · rw [hchan]
      split <;> rfl
    · rw [hchan, hreg, if_neg hj, if_neg hj]
      exact ⟨rfl, rfl⟩
    · rw [State.gfld, hchan, hreg, if_pos hj, if_pos hj, healthWord_seq]
      exact ⟨rfl, rfl⟩
  · show execTestEnd ch s = _
    have h : (decide ((s.chan ch).mode = 9) && decide ((s.chan ch).pair.done &&& s.houndEnabled = s.houndEnabled)) = true := by
      simpa using ⟨hmode, hdone⟩
    simp only [execTestEnd, h, if_true]
    rfl

end Sys2Proof.Machine
end

section
/-! SUPPORT. The family of 03_sample_chain.md: the sinc stage, the FIR, its fade and the DC blocker (R74, R75, R77, R79,
R97). -/

namespace Sys2Proof.Machine

/-! ## Fields and inputs of a channel -/

/-- A bit written reads back. -/
theorem Chan.bit_setFld_ite (c : Chan) (r : Nat) {f : BitField} (b : Bool) (h : f.lo + f.width ≤ 32) (hw : f.width = 1) :
    (c.setFld r f (if b then 1 else 0)).bit r f = b := by
  cases b
  · exact c.bit_setFld0 r f h
  · exact c.bit_setFld r f h (by omega)

@[simp] theorem Chan.inp_put (c : Chan) (o : Nat) (w : Word) (i : InId) : (c.put o w).inp i = c.inp i := rfl

@[simp] theorem Chan.inp_setFld (c : Chan) (o : Nat) (f : BitField) (n : Nat) (i : InId) :
    (c.setFld o f n).inp i = c.inp i := rfl

@[simp] theorem Chan.inp_postAged (c : Chan) (q : Nat) (w : Word) (tag : BitVec 4) (n : Nat) (i : InId) :
    (c.postAged q w tag n).inp i = c.inp i := rfl

@[simp] theorem Chan.get_postAged (c : Chan) (q : Nat) (w : Word) (tag : BitVec 4) (n o : Nat) :
    (c.postAged q w tag n).get o = c.get o := rfl

/-- A posted word is its quantity's latest (R24). -/
@[simp] theorem Chan.fabGet_postAged (c : Chan) (q : Nat) (w : Word) (tag : BitVec 4) (n : Nat) :
    (c.postAged q w tag n).fabGet q = ⟨w, tag, c.route q, n, c.posts + 1⟩ := by
  simp [Chan.fabGet, Chan.postAged]

/-! ## Rounding and clamping -/

/-- The rounding to nearest, ties upward, of an exact quotient (R75, R115). -/
theorem roundQuot_nearest (n : Int) {d : Nat} (hd : 0 < d) : roundQuot false n d = ((n : Rat) / d + 1 / 2).floor := by
  have hd' : (d : Rat) ≠ 0 := by positivity
  have hsum : (n : Rat) / d + 1 / 2 = ((2 * n + d : Int) : Rat) / ((2 * d : Nat) : Rat) := by
    push_cast
    field_simp
  rw [hsum, floor_div]
  rfl

/-- The quotient rounded down lies within one below the exact one. -/
theorem ediv_near (n : Int) {d : Int} (hd : 0 < d) : ((n / d : Int) : Rat) ≤ n / d ∧ (n : Rat) / d < (n / d : Int) + 1 := by
  have hd' : (0 : Rat) < d := by exact_mod_cast hd
  rw [le_div_iff₀ hd', div_lt_iff₀ hd']
  exact ⟨by exact_mod_cast Int.ediv_mul_le n hd.ne', by exact_mod_cast Int.lt_ediv_add_one_mul_self n hd⟩

theorem clamp32_fst (y : Int) : (clamp32 y).1 = max (-2 ^ 31) (min (2 ^ 31 - 1) y) := by
  show min (max y (-2 ^ 31)) (2 ^ 31 - 1) = _
  omega

theorem ceilDiv_mul {m : Nat} (h : 0 < m) (d : Nat) : ceilDiv (m * d) m = d := by
  rw [ceilDiv, Nat.add_sub_assoc h, Nat.mul_add_div h, Nat.div_eq_of_lt (Nat.sub_one_lt h.ne'), Nat.add_zero]

/-! ## The sinc filter -/

/-- Where the newest values are equal, so are the newest sums over windows within them. -/
theorem movingSum_take {a : Int} {p : Nat} : ∀ (j : Nat) (xs : List Int), xs.take (j + p) = List.replicate (j + p) a →
    (movingSum (p + 1) xs).take j = List.replicate j ((p + 1 : Nat) * a)
  | 0, _, _ => by simp
  | j + 1, [], h => by simp [List.replicate_succ, Nat.succ_add] at h
  | j + 1, x :: xs, h => by
    have hwindow : (x :: xs).take (p + 1) = List.replicate (p + 1) a := by
      have hsub : ((x :: xs).take (j + 1 + p)).take (p + 1) = (x :: xs).take (p + 1) := by
        rw [List.take_take, Nat.min_eq_left (by omega)]
      rw [← hsub, h, List.take_replicate, Nat.min_eq_left (by omega)]
    have hrest : xs.take (j + p) = List.replicate (j + p) a := by
      rw [Nat.succ_add, List.take_succ_cons, List.replicate_succ] at h
      exact (List.cons.inj h).2
    rw [movingSum, List.take_succ_cons, List.replicate_succ, hwindow, movingSum_take j xs hrest, List.sum_replicate, nsmul_eq_mul]

/-- Equal bits fill a sinc filter of order k to (p + 1)^k of one. -/
theorem sincSums_replicate (p : Nat) (b : Int) : ∀ k j : Nat,
    (sincSums (p + 1) k (List.replicate (k * p + j) b)).take j = List.replicate j ((p + 1 : Nat) ^ k * b)
  | 0, j => by simp [sincSums]
  | k + 1, j => by
    rw [sincSums, Nat.succ_mul, Nat.add_assoc, Nat.add_comm p j, movingSum_take j _ (sincSums_replicate p b k (j + p))]
    congr 1
    ring

/-- All ones in sixteenths sum to 16 M^N (R74). -/
theorem sincSums_ones (k : Nat) {q : Nat} (hq : 0 < q) :
    (sincSums q k (List.replicate (sincLen k q) 16)).headD 0 = 16 * (q : Int) ^ k := by
  obtain ⟨p, rfl⟩ := Nat.exists_eq_succ_of_ne_zero hq.ne'
  have hone := sincSums_replicate p 16 k 1
  unfold sincLen
  rw [Nat.succ_sub_one, Nat.succ_eq_add_one]
  generalize sincSums (p + 1) k (List.replicate (k * p + 1) 16) = ys at hone
  cases ys with
  | nil => simp at hone
  | cons y ys => simpa [mul_comm] using hone

/-- A sinc output is normalised by 1 / M^N with an error below 2^-24 of full scale (R74). -/
theorem sincOut_error (k : Nat) {q : Nat} (xs : List Int) (hq : 0 < q) (hle : |(sincSums q k xs).headD 0| ≤ 16 * (q : Int) ^ k)
    (hne : (sincSums q k xs).headD 0 ≠ 16 * (q : Int) ^ k) :
    |((sincOut k q xs).1 : Rat) - (sincSums q k xs).headD 0 * 2 ^ 31 / (16 * q ^ k)| < 2 ^ 7 := by
  have hfst : (sincOut k q xs).1 = max (-2 ^ 31) (min (2 ^ 31 - 1) ((sincSums q k xs).headD 0 * 2 ^ 31 / (16 * (q : Int) ^ k) +
      ((Config.sincError k q xs % 255 : Nat) : Int) - 127)) := by
    unfold sincOut
    rw [if_neg hne, clamp32_fst]
  have herr : Config.sincError k q xs % 255 < 255 := Nat.mod_lt _ (by decide)
  generalize Config.sincError k q xs % 255 = err at hfst herr
  generalize (sincSums q k xs).headD 0 = y at hfst hle hne
  have hden : (0 : Int) < 16 * (q : Int) ^ k := by positivity
  have hdenRat : (16 * (q : Rat) ^ k) = ((16 * (q : Int) ^ k : Int) : Rat) := by push_cast; rfl
  rw [hdenRat]
  generalize 16 * (q : Int) ^ k = den at hfst hle hne hden
  have hden' : (0 : Rat) < den := by exact_mod_cast hden
  obtain ⟨hlo, hhi⟩ := abs_le.1 hle
  obtain ⟨hfloorLo, hfloorHi⟩ := ediv_near (y * 2 ^ 31) hden
  rw [Int.cast_mul, Int.cast_pow, Int.cast_ofNat] at hfloorLo hfloorHi
  have hexactLo : (-2 ^ 31 : Rat) ≤ y * 2 ^ 31 / den := by
    rw [le_div_iff₀ hden']
    have : (-den : Rat) ≤ y := by exact_mod_cast hlo
    linarith
  have hexactHi : (y : Rat) * 2 ^ 31 / den < 2 ^ 31 := by
    rw [div_lt_iff₀ hden']
    have : (y : Rat) < den := by exact_mod_cast lt_of_le_of_ne hhi hne
    linarith
  generalize (y : Rat) * 2 ^ 31 / den = v at *
  generalize y * 2 ^ 31 / den = f at *
  generalize (sincOut k q xs).1 = r at *
  have hlow : f - 127 ≤ r ∨ 2 ^ 31 - 1 ≤ r := by omega
  have hhigh : r ≤ f + 127 ∨ r ≤ -2 ^ 31 := by omega
  rw [abs_lt]
  constructor
  · obtain h | h := hlow
    · have : (f : Rat) - 127 ≤ r := by exact_mod_cast h
      linarith
    · have : (2 : Rat) ^ 31 - 1 ≤ r := by exact_mod_cast h
      linarith
  · obtain h | h := hhigh
    · have : (r : Rat) ≤ f + 127 := by exact_mod_cast h
      linarith
    · have : (r : Rat) ≤ -2 ^ 31 := by exact_mod_cast h
      linarith

/-- The sinc outputs, one for every M bits, newest first. -/
theorem sincWords_eq (n m : Nat) : ∀ (k : Nat) (xs : List Int), sincWords n m k xs =
    (List.range k).map fun j => sincOut n m ((xs.drop (j * m)).take (sincLen n m))
  | 0, _ => rfl
  | k + 1, xs => by
    rw [sincWords, sincWords_eq n m k, List.range_succ_eq_map]
    simp [Function.comp_def, Nat.succ_mul, Nat.add_comm]

/-! ## The sinc stage -/

/-- The trimmed bits of an input, newest first, whole-bit part delayed, once `bits` have come (R97). -/
def Chan.lateBits (c : Chan) (i : InId) (bits : List Bool) : List Bool :=
  ((bits.map fun b => b != c.bit (Reg.SDI_CFG i) Fld.SDI_CFG_INV).reverse ++ (c.inp i).bits).drop
    (c.fld (Reg.SDI_TRIM i) Fld.SDI_TRIM_BITS)

/-- The sinc outputs that `bits` make, newest first. -/
def Chan.sincNew (c : Chan) (i : InId) (bits : List Bool) : List (Int × Bool) :=
  let m := c.fld (Reg.SINC_CFG i) Fld.SINC_CFG_OSR
  sincWords (c.fld (Reg.SINC_CFG i) Fld.SINC_CFG_ORDER) m (ceilDiv bits.length m)
    (trimmed (c.fld (Reg.SDI_TRIM i) Fld.SDI_TRIM_FRAC) (c.lateBits i bits))

/-- Bits for d sinc outputs make d of them, one for every M (R74). -/
theorem Chan.sincNew_eq (c : Chan) (i : InId) {bits : List Bool} {d : Nat}
    (hm : 0 < c.fld (Reg.SINC_CFG i) Fld.SINC_CFG_OSR) (hlen : bits.length = c.fld (Reg.SINC_CFG i) Fld.SINC_CFG_OSR * d) :
    let order := c.fld (Reg.SINC_CFG i) Fld.SINC_CFG_ORDER
    let m := c.fld (Reg.SINC_CFG i) Fld.SINC_CFG_OSR
    let xs := trimmed (c.fld (Reg.SDI_TRIM i) Fld.SDI_TRIM_FRAC) (c.lateBits i bits)
    c.sincNew i bits = (List.range d).map fun j => sincOut order m ((xs.drop (j * m)).take (sincLen order m)) := by
  intro order m xs
  refine Eq.trans (congrArg (sincWords order m · xs) ?_) (sincWords_eq order m d xs)
  rw [hlen, ceilDiv_mul hm]

/-- An input after the sinc stage has taken `bits`: its bits, the delay line with the new outputs, their clamps, and the
longest run. -/
def Chan.sincInput (c : Chan) (i : InId) (bits : List Bool) : Input :=
  let x := c.inp i
  let all := (bits.map fun b => b != c.bit (Reg.SDI_CFG i) Fld.SDI_CFG_INV).reverse ++ x.bits
  let taps := c.fld (Reg.FIR_CFG i) Fld.FIR_CFG_TAPS
  { x with
    bits := all.take (c.fld (Reg.SDI_TRIM i) Fld.SDI_TRIM_BITS + c.spanLen i + 1),
    delay := ((c.sincNew i bits).map (fun w => BitVec.ofInt 32 w.1) ++ x.delay).take taps,
    clamps := ((c.sincNew i bits).map Prod.snd ++ x.clamps).take taps,
    run := longestRun none 0 ((c.lateBits i bits).take (c.spanLen i)) }

/-- The newest of some sinc outputs is posted (R25). -/
def Chan.postNewest (c : Chan) (i : InId) (age : Nat) : List (Int × Bool) → Chan
  | [] => c
  | w :: _ => c.postAged (0x10 + i.val) (BitVec.ofInt 32 w.1) (if w.2 then 2 else 0) age

theorem Chan.sincStep_eq (c : Chan) (i : InId) (bits : List Bool) (age : Nat) :
    c.sincStep i bits age = (c.setInp i (c.sincInput i bits)).postNewest i age (c.sincNew i bits) := rfl

theorem Chan.sincStep_inp (c : Chan) (i : InId) (bits : List Bool) (age : Nat) :
    (c.sincStep i bits age).inp i = c.sincInput i bits := by
  rw [Chan.sincStep_eq]
  cases c.sincNew i bits <;> exact Chan.inp_setInp ..

/-- The sinc stage changes no register. -/
theorem Chan.sincStep_get (c : Chan) (i : InId) (bits : List Bool) (age o : Nat) :
    (c.sincStep i bits age).get o = c.get o := by
  rw [Chan.sincStep_eq]
  cases c.sincNew i bits <;> rfl

theorem Chan.sincStep_posts (c : Chan) (i : InId) (bits : List Bool) (age : Nat) {w : Int × Bool} {ws : List (Int × Bool)}
    (h : c.sincNew i bits = w :: ws) : (c.sincStep i bits age).fabGet (0x10 + i.val) =
      ⟨BitVec.ofInt 32 w.1, if w.2 then 2 else 0, c.route (0x10 + i.val), age, c.posts + 1⟩ := by
  rw [Chan.sincStep_eq, h]
  exact Chan.fabGet_postAged ..

/-! ## The FIR and its fade -/

/-- The sum of R75 in 2^-93 of full scale. -/
theorem firSum_eq (bank : List (Nat × FirTap)) : ∀ (xs : List Word) (k : Nat),
    (firSum bank k xs : Rat) = firExact bank k xs * 2 ^ 93
  | [], _ => by simp [firSum, firExact]
  | x :: xs, k => by
    unfold firSum firExact
    generalize sget (fun _ => (⟨0, 0⟩ : FirTap)) bank k = t
    have hshift : t.shift.toNat ≤ 31 := by have := t.shift.isLt; omega
    have hpow : (2 : Rat) ^ (31 - t.shift.toNat) = 2 ^ 31 / 2 ^ t.shift.toNat := by
      rw [eq_div_iff (by positivity), ← pow_add, Nat.sub_add_cancel hshift]
    push_cast
    rw [firSum_eq bank xs (k + 1), hpow]
    field_simp

/-- A FIR output is the exact sum, to nearest with ties upward, clamped (R75). -/
theorem firOut_exact (bank : List (Nat × FirTap)) (frac : Nat) (xs : List Word) : (firOut bank frac xs).1 =
    max (-2 ^ 31) (min (2 ^ 31 - 1) (firExact bank 0 xs * 2 ^ frac + 1 / 2).floor) := by
  have hquot : ((firSum bank 0 xs * 2 ^ frac : Int) : Rat) / ((2 ^ 93 : Nat) : Rat) = firExact bank 0 xs * 2 ^ frac := by
    rw [div_eq_iff (by positivity)]
    push_cast
    rw [firSum_eq]
    ring
  unfold firOut
  rw [clamp32_fst, roundQuot_nearest _ (by positivity), hquot]

/-- With no fade the output comes from the active bank (R75). -/
theorem Chan.firStep_steady (c : Chan) (i : InId) (h : (c.inp i).fade = none) : c.firStep i =
    ((firOut (if c.bit (Reg.FIR_CFG i) Fld.FIR_CFG_BANK then (c.inp i).bank1 else (c.inp i).bank0) (c.inp i).frac
      (c.inp i).delay).1, (c.firStep i).2.1, c) := by
  unfold Chan.firStep
  simp only [h]

/-- What a FIR output leaves: of its input everything but the fade, and every register but FIR_CFG and FIR_XF. -/
theorem Chan.firStep_frame (c : Chan) (i : InId) :
    (∃ fade, (c.firStep i).2.2.inp i = { c.inp i with fade := fade }) ∧
    ∀ o, o ≠ Reg.FIR_CFG i → o ≠ Reg.FIR_XF i → (c.firStep i).2.2.get o = c.get o := by
  unfold Chan.firStep
  extract_lets x b1 act new y0
  cases hfade : x.fade with
  | none => exact ⟨⟨_, rfl⟩, fun _ _ _ => rfl⟩
  | some kl =>
    obtain ⟨k, l⟩ := kl
    dsimp only
    split
    · exact ⟨⟨_, Chan.inp_setInp ..⟩, fun _ _ _ => rfl⟩
    · refine ⟨⟨_, Chan.inp_setInp ..⟩, fun o hcfg hxf => ?_⟩
      simp [hcfg, hxf]

/-- The last output of a fade ends it: BANK flips and BUSY clears (R77). -/
theorem Chan.firStep_fadeEnd (c : Chan) (i : InId) {k l : Nat} (h : (c.inp i).fade = some (k, l)) (hl : k + 1 = l) :
    let d := (c.firStep i).2.2
    (d.inp i).fade = none ∧ d.bit (Reg.FIR_XF i) Fld.FIR_XF_BUSY = false ∧
      d.bit (Reg.FIR_CFG i) Fld.FIR_CFG_BANK = !c.bit (Reg.FIR_CFG i) Fld.FIR_CFG_BANK := by
  have hend : (c.firStep i).2.2 = ((c.setInp i { c.inp i with fade := none }).setFld (Reg.FIR_CFG i) Fld.FIR_CFG_BANK
      (if !c.bit (Reg.FIR_CFG i) Fld.FIR_CFG_BANK then 1 else 0)).setFld (Reg.FIR_XF i) Fld.FIR_XF_BUSY 0 := by
    unfold Chan.firStep
    simp only [h, hl, lt_irrefl, if_false]
    cases c.bit (Reg.FIR_CFG i) Fld.FIR_CFG_BANK <;> rfl
  intro d
  have hd : d = _ := hend
  rw [hd]
  refine ⟨congrArg Input.fade (Chan.inp_setInp ..), Chan.bit_setFld0 _ _ _ (by decide), ?_⟩
  rw [Chan.bit_setFld_ne _ _ _ _ _ _ (.inl (by unfold Reg.FIR_CFG Reg.FIR_XF; omega))]
  exact Chan.bit_setFld_ite _ _ _ (by decide) rfl

/-- A running DC blocker steps its estimate (R79). -/
theorem Chan.dcBlock_estimate (c : Chan) (i : InId) (x : Int) (hen : c.bit (Reg.DCB_CFG i) Fld.DCB_CFG_EN = true)
    (hfreeze : c.bit (Reg.DCB_CFG i) Fld.DCB_CFG_FREEZE = false) :
    ((c.dcBlock i x).2.2.inp i).e = BitVec.ofInt 56 (dcbNext (c.inp i).alpha x (c.inp i).e.toInt) := by
  simp [Chan.dcBlock, hen, hfreeze]

/-! ## A FIR output -/

/-- The bits of one FIR output pass the chain (R73 to R81). -/
theorem exec_firOutput {s : State} {ch : ChId} {i : InId} {bits : List Bool} (age : BitVec 16)
    (hruns : (s.chan ch).chainRuns = true) (hmode : (s.chan ch).inMode i ≠ 0)
    (hclk : (s.chan ch).bit (Reg.SDI_STAT i) Fld.SDI_STAT_CLK_OK = true) (hlen : bits.length = (s.chan ch).firBits i)
    (hbits : bits ≠ []) : let r := (s.chan ch).firPass i bits age.toNat
    exec (.firOutput ch i bits age) s = .next (if r.2 then (s.putChan ch r.1).countOvwr ch else s.putChan ch r.1) := by
  show execFirOutput ch i bits age s = _
  unfold execFirOutput
  have hguard : (!(s.chan ch).chainRuns || decide ((s.chan ch).inMode i = 0) ||
      !(s.chan ch).bit (Reg.SDI_STAT i) Fld.SDI_STAT_CLK_OK || bits.isEmpty || bits.length != (s.chan ch).firBits i) = false := by
    simp [hruns, hmode, hclk, hlen, hbits]
  simp only [hguard, Bool.false_eq_true, if_false]

/-- Settles O12: the command is the pass of its bits (`exec_firOutput`), each stage as its own lemma gives it: the sinc stage
(`Chan.sincStep_frame`, `Chan.sincStep_posts`, `sincOut_error`), the FIR (`firOut_exact`), the fade's end
(`Chan.firStep_fadeEnd`) and the DC blocker (`Chan.dcBlock_estimate`). -/
theorem firOutput : Obligations.FirOutput := by
  unfold Obligations.FirOutput
  intro s ch i bits age c x n order m late r b d hruns hmode hclk hlen hbits
  have hn : n.inp i = c.sincInput i bits := c.sincStep_inp ..
  have hbit : ∀ o f, n.bit o f = c.bit o f := fun o f => congrArg (getField · f != 0) (c.sincStep_get ..)
  obtain ⟨⟨fade, hfir⟩, hregs⟩ := n.firStep_frame i
  have hdcb : ∀ f, r.2.2.bit (Reg.DCB_CFG i) f = c.bit (Reg.DCB_CFG i) f := fun f =>
    (congrArg (getField · f != 0) (hregs _ (by unfold Reg.DCB_CFG Reg.FIR_CFG; omega)
      (by unfold Reg.DCB_CFG Reg.FIR_XF; omega))).trans (hbit _ f)
  have hpos : 0 < m * c.fld (Reg.FIR_CFG i) Fld.FIR_CFG_DEC := hlen ▸ List.length_pos_of_ne_nil hbits
  have hnew := c.sincNew_eq i (Nat.pos_of_mul_pos_right hpos) hlen
  refine ⟨exec_firOutput age hruns hmode hclk hlen hbits, fun hen hfreeze => ?_, fun htaps => ?_, fun hfade => ?_, ?_,
    fun k q xs hq => ?_, fun k q hq => sincSums_ones k hq, firOut_exact, fun k l hfade hl => ?_⟩
  · refine (r.2.2.dcBlock_estimate i r.1 ((hdcb _).trans hen) ((hdcb _).trans hfreeze)).trans ?_
    rw [hfir, hn]
    rfl
  · obtain ⟨t, ht⟩ := Nat.exists_eq_succ_of_ne_zero htaps.ne'
    cases hws : c.sincNew i bits with
    | nil => simp [hnew, (Nat.pos_of_mul_pos_left hpos).ne'] at hws
    | cons w ws =>
      intro p
      have hp : p = _ := c.sincStep_posts i bits age.toNat hws
      have hdelay : (n.inp i).delay.headD 0 = BitVec.ofInt 32 w.1 := by simp [hn, Chan.sincInput, hws, ht]
      rw [hp, hdelay]
      exact ⟨rfl, rfl, rfl⟩
  · refine (n.firStep_steady i ((congrArg Input.fade hn).trans hfade)).trans ?_
    rw [hbit, congrArg Input.bank0 hn, congrArg Input.bank1 hn, congrArg Input.frac hn]
    rfl
  · rw [hn]
    simp only [Chan.sincInput, hnew, List.map_map, Function.comp_def]
    rfl
  · intro y hy
    exact ⟨fun heq => if_pos heq, sincOut_error k xs hq hy⟩
  · obtain ⟨hnone, hbusy, hbank⟩ := n.firStep_fadeEnd i ((congrArg Input.fade hn).trans hfade) hl
    exact ⟨hnone, hbusy, hbank.trans (congrArg (! ·) (hbit _ _))⟩

end Sys2Proof.Machine
end

section
/-! SUPPORT. The family of 03_sample_chain.md: chain outputs and substitutes, the clocks of the modulators, and the skew units
(R67 to R72, R86 to R90, R96). -/

namespace Sys2Proof.Machine

theorem Chan.inp_setInp_ne (c : Chan) {i j : InId} (x : Input) (h : j ≠ i) : (c.setInp i x).inp j = c.inp j := by
  have h' : i.val ≠ j.val := fun e => h (Fin.ext e.symm)
  simp [Chan.inp, Chan.setInp, h']

/-- An update of one channel alone is that channel's new content. -/
theorem State.putChan_own (s : State) (ch : ChId) (c : Chan) : s.putChan ch c = s.putChan ch ((s.putChan ch c).chan ch) := by
  rw [State.chan_putChan_same]

/-! ## Chain outputs and substitutes -/

/-- An input after its chain output (R86, R88, R89): it is the last good one, and substitution ends. -/
def Input.posts (x : Input) (o : ChainOut) : Input :=
  { x with out := none, phaseOpen := false, settle := x.settle - 1, subst := false, lastGood := o.data, posted := true }

/-- SATURATED and SUBSTITUTED of SDI_STAT are the tag's (R106). -/
theorem Chan.showTags_bits (c : Chan) (i : InId) (tag : BitVec 4) :
    (c.showTags i tag).bit (Reg.SDI_STAT i) Fld.SDI_STAT_SATURATED = tag.getLsbD 1 ∧
    (c.showTags i tag).bit (Reg.SDI_STAT i) Fld.SDI_STAT_SUBSTITUTED = tag.getLsbD 3 := by
  unfold Chan.showTags
  extract_lets r c1 c2 c3
  have hsat : c3.bit r Fld.SDI_STAT_SATURATED = tag.getLsbD 1 :=
    (Chan.bit_setFld_ne _ _ _ _ _ _ (.inr (by decide))).trans (Chan.bit_setFld_ite _ _ _ (by decide) rfl)
  have hsubst : c3.bit r Fld.SDI_STAT_SUBSTITUTED = tag.getLsbD 3 := Chan.bit_setFld_ite _ _ _ (by decide) rfl
  split
  · exact ⟨(Chan.bit_setFld_ne _ _ _ _ _ _ (.inr (by decide))).trans hsat,
      (Chan.bit_setFld_ne _ _ _ _ _ _ (.inr (by decide))).trans hsubst⟩
  · exact ⟨hsat, hsubst⟩

@[simp] theorem Chan.showTags_inp (c : Chan) (i j : InId) (tag : BitVec 4) : (c.showTags i tag).inp j = c.inp j := by
  unfold Chan.showTags
  dsimp only
  split <;> rfl

@[simp] theorem Chan.showTags_fabGet (c : Chan) (i : InId) (tag : BitVec 4) (q : Nat) :
    (c.showTags i tag).fabGet q = c.fabGet q := by
  unfold Chan.showTags
  dsimp only
  split <;> rfl

/-- A chain output has the tags UNSETTLED and SATURATED alone (R86). -/
theorem Chan.chainTag_eq (c : Chan) (i : InId) (o : ChainOut) : let lim := c.fld (Reg.DEC_CFG i) Fld.DEC_CFG_SAT_RUN
    c.chainTag i o = BitVec.ofBool false ++ BitVec.ofBool false ++ BitVec.ofBool (o.sat || (lim ≠ 0 && lim < o.run)) ++
      BitVec.ofBool (decide (0 < (c.inp i).settle)) := by
  intro lim
  unfold Chan.chainTag
  dsimp only
  cases (o.sat || (decide (lim ≠ 0) && decide (lim < o.run))) <;>
    by_cases h : 0 < (c.inp i).settle <;> simp [h]

theorem getLsbD_tagBits : ∀ a b : Bool,
    (BitVec.ofBool false ++ BitVec.ofBool false ++ BitVec.ofBool a ++ BitVec.ofBool b).getLsbD 1 = a ∧
    (BitVec.ofBool false ++ BitVec.ofBool false ++ BitVec.ofBool a ++ BitVec.ofBool b).getLsbD 3 = false := by decide

/-- A chain output that awaits its posting (R81 to R88). -/
theorem exec_chainOutput {s : State} {ch : ChId} {i : InId} {o : ChainOut} (age : BitVec 16)
    (hruns : (s.chan ch).chainRuns = true) (hout : ((s.chan ch).inp i).out = some o) (hmode : (s.chan ch).inMode i ≠ 0)
    (hclk : (s.chan ch).bit (Reg.SDI_STAT i) Fld.SDI_STAT_CLK_OK = true) : let c := s.chan ch
    exec (.chainOutput ch i age) s = .next (s.putChan ch
      (((c.onInp i (·.posts o)).postAged i.val o.data (c.chainTag i o) age.toNat).showTags i (c.chainTag i o))) := by
  show execChainOutput ch i age s = _
  unfold execChainOutput
  simp only [hout, hruns, hclk, hmode, decide_false, Bool.not_true, Bool.or_self, Bool.false_eq_true, if_false]
  rfl

/-- A substitute word at its nominal output time (R72, R89). -/
theorem exec_substituteWord {s : State} {ch : ChId} {i : InId} (hruns : (s.chan ch).chainRuns = true)
    (hmode : 2 ≤ (s.chan ch).inMode i) (hsubst : ((s.chan ch).inp i).subst = true) : let c := s.chan ch
    exec (.substituteWord ch i) s = .next (s.putChan ch (((c.setInp i { c.inp i with posted := true }).postAged i.val
      (if c.bit (Reg.DEC_CFG i) Fld.DEC_CFG_SUBST then 0 else (c.inp i).lastGood) 8 0).showTags i 8)) := by
  show execSubstituteWord ch i s = _
  unfold execSubstituteWord
  simp only [hruns, hsubst, Nat.not_lt.2 hmode, decide_false, Bool.not_true, Bool.or_self, Bool.false_eq_true, if_false]
  rfl

/-- Settles O13: each command is a posting under its guard (`exec_chainOutput`, `exec_substituteWord`), the tags as
`Chan.chainTag_eq` and `Chan.showTags_bits` give them. -/
theorem chainOutput : Obligations.ChainOutput := by
  unfold Obligations.ChainOutput
  intro s ch i age c x hruns
  refine ⟨fun o hout hmode hclk => ?_, fun hmode hsubst => ?_⟩
  · intro sat
    obtain ⟨hsat, hsub⟩ := ((c.onInp i (·.posts o)).postAged i.val o.data (c.chainTag i o) age.toNat).showTags_bits i
      (c.chainTag i o)
    have htag : c.chainTag i o = _ := c.chainTag_eq i o
    have hinp : (((c.onInp i (·.posts o)).postAged i.val o.data (c.chainTag i o) age.toNat).showTags i (c.chainTag i o)).inp i =
        x.posts o := by simp [x]
    refine ⟨_, exec_chainOutput age hruns hout hmode hclk, State.putChan_own .., ?_⟩
    rw [State.chan_putChan_same, hinp, hsat, hsub, Chan.showTags_fabGet, Chan.fabGet_postAged, htag]
    exact ⟨rfl, rfl, rfl, rfl, rfl, getLsbD_tagBits _ _⟩
  · obtain ⟨-, hsub⟩ := ((c.setInp i { c.inp i with posted := true }).postAged i.val
      (if c.bit (Reg.DEC_CFG i) Fld.DEC_CFG_SUBST then 0 else (c.inp i).lastGood) 8 0).showTags_bits i 8
    refine ⟨_, exec_substituteWord hruns hmode hsubst, State.putChan_own .., ?_⟩
    rw [State.chan_putChan_same, hsub, Chan.showTags_fabGet, Chan.fabGet_postAged]
    exact ⟨rfl, rfl⟩

/-! ## Loss and recovery of a modulator clock -/

/-- A fast path that is off is held without an act of its comparator (R94). -/
theorem State.fastHold_off (s : State) (ch : ChId) (i : InId) (h : FastHold)
    (hoff : (s.chan ch).bit (Reg.FAST_CFG i) Fld.FAST_CFG_EN = false) : s.fastHold ch i h =
      s.onChan ch fun c => c.onInp i fun x => { x with fastHold := h, fastBits := [], fastHi := 0, fastLo := 0 } := by
  unfold State.fastHold
  simp only [hoff, Bool.false_and, Bool.false_eq_true, if_false]
  rfl

theorem Reg.FAST_CFG_ne_SDI_STAT (i : InId) : Reg.FAST_CFG i ≠ Reg.SDI_STAT i := by
  unfold Reg.FAST_CFG Reg.SDI_STAT
  omega

theorem Reg.SDI_STAT_ne_SDI_CNT (i : InId) : Reg.SDI_STAT i ≠ Reg.SDI_CNT i := by
  unfold Reg.SDI_STAT Reg.SDI_CNT
  omega

/-- A channel at a loss of an input's clock (R90). -/
def Chan.clockGone (c : Chan) (i : InId) (now : Nat) : Chan :=
  (((c.setFld (Reg.SDI_STAT i) Fld.SDI_STAT_CLK_OK 0).setFld (Reg.SDI_STAT i) Fld.SDI_STAT_LOSS 1).setFld (Reg.SDI_STAT i)
    Fld.SDI_STAT_MAN_LOCK 0).onInp i fun x => { x with out := none, subst := true, lossAt := some now }

theorem Chan.clockGone_bits (c : Chan) (i : InId) (now : Nat) :
    (c.clockGone i now).bit (Reg.SDI_STAT i) Fld.SDI_STAT_CLK_OK = false ∧
    (c.clockGone i now).bit (Reg.SDI_STAT i) Fld.SDI_STAT_LOSS = true := by
  refine ⟨(Chan.bit_setFld_ne _ _ _ _ _ _ (.inr (by decide))).trans ?_,
    (Chan.bit_setFld_ne _ _ _ _ _ _ (.inr (by decide))).trans (Chan.bit_setFld _ _ _ (by decide) (by decide))⟩
  exact (Chan.bit_setFld_ne _ _ _ _ _ _ (.inr (by decide))).trans (Chan.bit_setFld0 _ _ _ (by decide))

/-- A loss at an input whose fast path is off: the channel as `Chan.clockGone` has it, its fast path held, the loss counted. -/
theorem State.mclkLost_chan {s : State} {ch : ChId} {i : InId}
    (hclk : (s.chan ch).bit (Reg.SDI_STAT i) Fld.SDI_STAT_CLK_OK = true)
    (hoff : (s.chan ch).bit (Reg.FAST_CFG i) Fld.FAST_CFG_EN = false) :
    let d := (s.chan ch).clockGone i s.time.refNs
    ∃ w, (s.mclkLost ch i).chan ch = (d.onInp i fun x => { x with
      fastHold := .loss, fastBits := [], fastHi := 0, fastLo := 0 }).put (Reg.SDI_CNT i) w := by
  intro d
  have hd : ((s.putChan ch d).chan ch).bit (Reg.FAST_CFG i) Fld.FAST_CFG_EN = false := by
    rw [State.chan_putChan_same, ← hoff]
    have hne := Reg.FAST_CFG_ne_SDI_STAT i
    exact (Chan.bit_setFld_ne _ _ _ _ _ _ (.inl hne)).trans ((Chan.bit_setFld_ne _ _ _ _ _ _ (.inl hne)).trans
      (Chan.bit_setFld_ne _ _ _ _ _ _ (.inl hne)))
  have hlost : s.mclkLost ch i = (((s.putChan ch d).fastHold ch i .loss).countCh ch (Reg.SDI_CNT i) false true).record 0x03
      ch.val 1 2 (recData [(0, 1, i.val), (1, 1, d.inMode i)]) := by
    unfold State.mclkLost
    simp only [hclk, Bool.not_true, Bool.false_eq_true, if_false]
    rfl
  rw [hlost, State.record_chan, State.countCh_chan, State.fastHold_off _ _ _ _ hd, State.onChan_eq, State.chan_putChan_same,
    State.chan_putChan_same]
  exact ⟨_, rfl⟩

/-- What a loss leaves of an input whose fast path is off (R90). -/
theorem State.mclkLost_fields {s : State} {ch : ChId} {i : InId}
    (hclk : (s.chan ch).bit (Reg.SDI_STAT i) Fld.SDI_STAT_CLK_OK = true)
    (hoff : (s.chan ch).bit (Reg.FAST_CFG i) Fld.FAST_CFG_EN = false) : let d := (s.mclkLost ch i).chan ch
    d.bit (Reg.SDI_STAT i) Fld.SDI_STAT_CLK_OK = false ∧ d.bit (Reg.SDI_STAT i) Fld.SDI_STAT_LOSS = true ∧
      (d.inp i).out = none ∧ (d.inp i).subst = true := by
  obtain ⟨w, hw⟩ := State.mclkLost_chan hclk hoff
  obtain ⟨hok, hloss⟩ := (s.chan ch).clockGone_bits i s.time.refNs
  rw [hw]
  have hget : ∀ c : Chan, (c.put (Reg.SDI_CNT i) w).get (Reg.SDI_STAT i) = c.get (Reg.SDI_STAT i) := fun c =>
    (c.get_put ..).trans (if_neg (Reg.SDI_STAT_ne_SDI_CNT i))
  exact ⟨(congrArg (getField · _ != 0) (hget _)).trans hok, (congrArg (getField · _ != 0) (hget _)).trans hloss,
    by simp [Chan.clockGone], by simp [Chan.clockGone]⟩

/-- After a restart of its filters an input is UNSETTLED for SETTLE outputs (R88). -/
theorem Chan.restartFilters_settle (c : Chan) (i : InId) :
    ((c.restartFilters i).inp i).settle = c.fld (Reg.SINC_CFG i) Fld.SINC_CFG_SETTLE := by
  simp [Chan.restartFilters, Chan.clearFilters]

/-- A channel at the recovery of an input's clock (R72, R88). -/
def Chan.clockBack (c : Chan) (i : InId) : Chan :=
  (((c.setFld (Reg.SDI_STAT i) Fld.SDI_STAT_CLK_OK 1).setFld (Reg.SDI_STAT i) Fld.SDI_STAT_MAN_LOCK
    (if c.inMode i = 3 then 1 else 0)).restartFilters i).onInp i fun x => { x with recovered := true, lossAt := none }

theorem Chan.clockBack_fields (c : Chan) (i : InId) :
    (c.clockBack i).bit (Reg.SDI_STAT i) Fld.SDI_STAT_CLK_OK = true ∧
    ((c.clockBack i).inp i).settle = c.fld (Reg.SINC_CFG i) Fld.SINC_CFG_SETTLE ∧
    (c.clockBack i).bit (Reg.FAST_CFG i) Fld.FAST_CFG_EN = c.bit (Reg.FAST_CFG i) Fld.FAST_CFG_EN := by
  refine ⟨(Chan.bit_setFld_ne _ _ _ _ _ _ (.inr (by decide))).trans (Chan.bit_setFld _ _ _ (by decide) (by decide)), ?_, ?_⟩
  · have hne : Reg.SINC_CFG i ≠ Reg.SDI_STAT i := by
      unfold Reg.SINC_CFG Reg.SDI_STAT
      omega
    refine (congrArg Input.settle (Chan.inp_setInp ..)).trans ((Chan.restartFilters_settle _ i).trans ?_)
    exact (Chan.fld_setFld_ne _ _ _ _ _ _ (.inl hne)).trans (Chan.fld_setFld_ne _ _ _ _ _ _ (.inl hne))
  · have hne := Reg.FAST_CFG_ne_SDI_STAT i
    exact (Chan.bit_setFld_ne _ _ _ _ _ _ (.inl hne)).trans (Chan.bit_setFld_ne _ _ _ _ _ _ (.inl hne))

/-- A recovery at an input whose fast path is off: the channel as `Chan.clockBack` has it, its fast path in a fill. -/
theorem State.mclkBack_chan {s : State} {ch : ChId} {i : InId}
    (hclk : (s.chan ch).bit (Reg.SDI_STAT i) Fld.SDI_STAT_CLK_OK = false)
    (hoff : (s.chan ch).bit (Reg.FAST_CFG i) Fld.FAST_CFG_EN = false) : let d := (s.chan ch).clockBack i
    ∃ hold hi lo, (s.mclkBack ch i).chan ch = d.onInp i fun x => { x with
      fastHold := hold, fastBits := [], fastHi := hi, fastLo := lo } := by
  intro d
  have hd : ((s.putChan ch d).chan ch).bit (Reg.FAST_CFG i) Fld.FAST_CFG_EN = false := by
    obtain ⟨-, -, hfast⟩ := (s.chan ch).clockBack_fields i
    rw [State.chan_putChan_same]
    exact hfast.trans hoff
  have hback : (s.mclkBack ch i).chan ch = (if ((s.chan ch).inp i).recovered then (s.putChan ch d).fastHold ch i .fill
      else (s.putChan ch d).onChan ch fun c => c.onInp i fun x => { x with fastHold := .firstFill, fastBits := [] }).chan ch := by
    unfold State.mclkBack
    simp only [hclk, Bool.false_eq_true, if_false]
    cases ((s.chan ch).inp i).lossAt with
    | none => rfl
    | some t => exact State.record_chan ..
  rw [hback]
  split
  · rw [State.fastHold_off _ _ _ _ hd, State.onChan_eq, State.chan_putChan_same, State.chan_putChan_same]
    exact ⟨_, _, _, rfl⟩
  · rw [State.onChan_eq, State.chan_putChan_same, State.chan_putChan_same]
    exact ⟨_, _, _, rfl⟩

/-- What a recovery leaves of an input whose fast path is off (R72, R88). -/
theorem State.mclkBack_fields {s : State} {ch : ChId} {i : InId}
    (hclk : (s.chan ch).bit (Reg.SDI_STAT i) Fld.SDI_STAT_CLK_OK = false)
    (hoff : (s.chan ch).bit (Reg.FAST_CFG i) Fld.FAST_CFG_EN = false) : let d := (s.mclkBack ch i).chan ch
    d.bit (Reg.SDI_STAT i) Fld.SDI_STAT_CLK_OK = true ∧
      (d.inp i).settle = (s.chan ch).fld (Reg.SINC_CFG i) Fld.SINC_CFG_SETTLE := by
  obtain ⟨hold, hi, lo, hd⟩ := State.mclkBack_chan hclk hoff
  obtain ⟨hok, hsettle, -⟩ := (s.chan ch).clockBack_fields i
  rw [hd]
  exact ⟨hok, (congrArg Input.settle (Chan.inp_setInp ..)).trans hsettle⟩

/-- The externally clocked inputs of a clock group (R67). -/
theorem Chan.mem_clockGroup (c : Chan) {i : InId} (h : c.inMode i = 2) (j : InId) :
    j ∈ c.clockGroup i ↔ j.val / 8 = i.val / 8 ∧ c.inMode j = 2 := by
  simp [Chan.clockGroup, h]

/-- Settles O14: the commands go over the clock group (`Chan.mem_clockGroup`), and each input's fields are those of its loss or
recovery (`State.mclkLost_fields`, `State.mclkBack_fields`). -/
theorem modulatorClocks : Obligations.ModulatorClocks := by
  unfold Obligations.ModulatorClocks
  intro s ch i c
  refine ⟨fun hmode => ?_, fun hmode hman => ?_, fun h => if_pos h, c.mem_clockGroup, State.mclkBack_fields,
    State.mclkLost_fields⟩
  · show execMclkLoss ch i s = _
    exact if_pos hmode
  · show execClockRecovery ch i s = _
    have hguard : ((s.chan ch).chainMode && ((s.chan ch).inMode i != 3 || (s.chan ch).chainRuns)) = true := by
      by_cases h3 : (s.chan ch).inMode i = 3
      · simp [show (s.chan ch).chainMode = true from hmode, show (s.chan ch).chainRuns = true from hman h3]
      · simp [show (s.chan ch).chainMode = true from hmode, h3]
    exact if_pos hguard

/-! ## The skew units -/

theorem Reg.SDI_SKEW_ne_SDI_CHCTL (i : InId) : Reg.SDI_SKEW i ≠ Reg.SDI_CHCTL := by
  unfold Reg.SDI_SKEW Reg.SDI_CHCTL
  omega

/-- SKBUSY alone may change at the end of a measurement. -/
theorem Chan.skewDone_frame (c : Chan) : (∀ i, c.skewDone.inp i = c.inp i) ∧
    ∀ o, o ≠ Reg.SDI_CHCTL → c.skewDone.get o = c.get o := by
  unfold Chan.skewDone
  split
  · exact ⟨fun _ => rfl, fun _ _ => rfl⟩
  · exact ⟨fun _ => rfl, fun o ho => by simp [ho]⟩

/-- SKBUSY is 0 once no unit is armed (R96). -/
theorem Chan.skewDone_idle (c : Chan) (h : ∀ i, (c.inp i).skewArmed = false) :
    c.skewDone.bit Reg.SDI_CHCTL Fld.SDI_CHCTL_SKBUSY = false := by
  have hnone : c.inputs.toList.any (·.skewArmed) = false := by
    rw [List.any_eq_false]
    intro x hx
    obtain ⟨n, hn, rfl⟩ := Vector.mem_iff_getElem.1 (Vector.mem_toList_iff.1 hx)
    rw [Bool.not_eq_true]
    exact h ⟨n, hn⟩
  unfold Chan.skewDone
  rw [hnone, if_neg (by decide)]
  exact c.bit_setFld0 _ _ (by decide)

/-- The measurement of an input's unit ends (R96). -/
def Chan.skewEnd (c : Chan) (i : InId) : Chan := (c.onInp i fun x => { x with skewArmed := false }).skewDone

/-- What the end of a measurement leaves: a unit that is not armed, SKBUSY 0 where it was the last, and every other register. -/
theorem Chan.skewEnd_fields (c : Chan) (i : InId) : ((c.skewEnd i).inp i).skewArmed = false ∧
    ((∀ j, j ≠ i → (c.inp j).skewArmed = false) → (c.skewEnd i).bit Reg.SDI_CHCTL Fld.SDI_CHCTL_SKBUSY = false) ∧
    ∀ o f, o ≠ Reg.SDI_CHCTL → (c.skewEnd i).fld o f = c.fld o f := by
  obtain ⟨hinp, hget⟩ := (c.onInp i fun x => { x with skewArmed := false }).skewDone_frame
  have hown : ((c.onInp i fun x => { x with skewArmed := false }).inp i).skewArmed = false := by simp
  refine ⟨(congrArg Input.skewArmed (hinp i)).trans hown, fun hothers => Chan.skewDone_idle _ fun j => ?_,
    fun o f ho => congrArg (getField · f) (hget o ho)⟩
  by_cases hj : j = i
  · rw [hj, hown]
  · rw [Chan.onInp_eq, Chan.inp_setInp_ne _ _ hj, hothers j hj]

/-- A rounding that the spec leaves open misses the exact value by less than one step (log 2). -/
theorem quantFloor_near (site : Nat) (num : Int) {den : Nat} (h : 0 < den) :
    |(quantFloor site num den : Rat) - num / den| < 1 := by
  have hden : (0 : Rat) < den := by exact_mod_cast h
  have hden' : (0 : Int) < den := by exact_mod_cast h
  obtain ⟨hlo, hhi⟩ := ediv_near num hden'
  rw [Int.cast_natCast] at hlo hhi
  unfold quantFloor
  rw [if_neg h.ne', abs_lt]
  split
  · constructor <;> linarith
  rename_i hrem
  split
  · have hstrict : ((num / (den : Int) : Int) : Rat) < num / den := by
      rw [lt_div_iff₀ hden]
      have := Int.mul_ediv_add_emod num den
      have := Int.emod_nonneg num hden'.ne'
      exact_mod_cast (show num / (den : Int) * den < num by rw [mul_comm]; omega)
    push_cast
    constructor <;> linarith
  · constructor <;> linarith

/-- T in sixteenths of a bit, of a crossing between outputs y0 and y1 (R96). -/
def skewTime (bit : Nat) (y0 y1 : Int) : Nat :=
  min (2 ^ 24 - 1) (16 * bit + (quantFloor 4 (16 * -y0) (y1 - y0).toNat).toNat)

theorem skewTime_lt (bit : Nat) (y0 y1 : Int) : skewTime bit y0 y1 < 2 ^ 24 :=
  (Nat.min_le_left _ _).trans_lt (by decide)

/-- T is the linearly interpolated crossing to one sixteenth (R96). -/
theorem skewTime_near {bit : Nat} {y0 y1 : Int} (hbit : bit < 2 ^ 20) (h0 : y0 < 0) (h1 : 0 ≤ y1) :
    |(skewTime bit y0 y1 : Rat) - 16 * (bit + y0 / (y0 - y1))| ≤ 1 := by
  have hden : 0 < (y1 - y0).toNat := by omega
  have hnear := quantFloor_near 4 (16 * -y0) hden
  have hcast : (((y1 - y0).toNat : Nat) : Rat) = y1 - y0 := by
    have : (((y1 - y0).toNat : Nat) : Int) = y1 - y0 := by omega
    exact_mod_cast this
  have hpos : (0 : Rat) < y1 - y0 := by
    rw [← hcast]
    exact_mod_cast hden
  have hexact : ((16 * -y0 : Int) : Rat) / ((y1 - y0).toNat : Nat) = 16 * (y0 / (y0 - y1)) := by
    have : (y0 : Rat) - y1 ≠ 0 := by linarith
    rw [hcast]
    push_cast
    field_simp
    ring
  have hz0 : (0 : Rat) < 16 * (y0 / (y0 - y1)) := by
    have : (y0 : Rat) < 0 := by exact_mod_cast h0
    exact mul_pos (by norm_num) (div_pos_of_neg_of_neg this (by linarith))
  have hz1 : 16 * (y0 / (y0 - y1)) ≤ (16 : Rat) := by
    have : (0 : Rat) ≤ y1 := by exact_mod_cast h1
    have : (y0 : Rat) / (y0 - y1) ≤ 1 := (div_le_one_of_neg (by linarith)).2 (by linarith)
    linarith
  rw [hexact, abs_lt] at hnear
  obtain ⟨hlo, hhi⟩ := hnear
  rw [mul_add]
  unfold skewTime
  generalize quantFloor 4 (16 * -y0) (y1 - y0).toNat = q at hlo hhi
  generalize 16 * ((y0 : Rat) / (y0 - y1)) = z at *
  have hq0 : -1 < q := by exact_mod_cast (show (-1 : Rat) < q by linarith)
  have hq1 : q < 17 := by exact_mod_cast (show (q : Rat) < 17 by linarith)
  obtain ⟨n, rfl⟩ := Int.eq_ofNat_of_zero_le (show 0 ≤ q by omega)
  rw [Int.toNat_natCast, abs_le]
  push_cast at hlo hhi
  by_cases hfits : 16 * bit + n ≤ 2 ^ 24 - 1
  · rw [min_eq_right hfits]
    push_cast
    constructor <;> linarith
  · obtain rfl : bit = 2 ^ 20 - 1 := by omega
    obtain rfl : n = 16 := by omega
    push_cast at hlo hhi
    norm_num
    constructor <;> linarith

/-- An upward crossing out of a signal of at least 0.1 of full scale below zero into one as far above it (R96). -/
theorem exec_skewCrossing {s : State} {ch : ChId} {i : InId} (at_ : BitVec 20) {bits : List Bool} {below above : BitVec 16}
    (hruns : (s.chan ch).chainRuns = true) (harmed : ((s.chan ch).inp i).skewArmed = true)
    (hbelow : 2 ^ 15 ≤ 10 * below.toNat) (habove : 2 ^ 15 ≤ 10 * above.toNat) :
    let c := s.chan ch
    let late := (bits.map fun b => b != c.bit (Reg.SDI_CFG i) Fld.SDI_CFG_INV).reverse
    let t := skewTime at_.toNat (skewSum late.tail) (skewSum late)
    skewSum late.tail < 0 → 0 ≤ skewSum late → exec (.skewCrossing ch i at_ bits below above) s =
      .next (s.putChan ch (((c.setFld (Reg.SDI_SKEW i) Fld.SDI_SKEW_T t).setFld (Reg.SDI_SKEW i) Fld.SDI_SKEW_VALID 1).skewEnd i)) := by
  intro c late t h0 h1
  show execSkewCrossing ch i at_ bits below above s = _
  have hguard : (c.chainRuns && (c.inp i).skewArmed && decide (skewSum late.tail < 0) && decide (0 ≤ skewSum late) &&
      decide (2 ^ 15 ≤ 10 * below.toNat) && decide (2 ^ 15 ≤ 10 * above.toNat)) = true := by
    simp only [c, hruns, harmed, h0, h1, hbelow, habove, decide_true, Bool.and_self]
  exact if_pos hguard

/-- The window of an armed unit ends without a crossing (R96). -/
theorem exec_skewWindowExpiry {s : State} {ch : ChId} {i : InId} (hmode : (s.chan ch).chainMode = true)
    (harmed : ((s.chan ch).inp i).skewArmed = true) : exec (.skewWindowExpiry ch i) s =
      .next (s.putChan ch (((s.chan ch).setFld (Reg.SDI_SKEW i) Fld.SDI_SKEW_NOSTEP 1).skewEnd i)) := by
  show execSkewWindowExpiry ch i s = _
  have hguard : ((s.chan ch).chainMode && ((s.chan ch).inp i).skewArmed) = true := by simp [hmode, harmed]
  exact if_pos hguard

/-- Settles O16: either command ends the measurement (`Chan.skewEnd_fields`), a crossing with T (`skewTime_near`) and VALID, the
window with NOSTEP. -/
theorem skewUnits : Obligations.SkewUnits := by
  unfold Obligations.SkewUnits
  intro s ch i at_ bits below above c late y0 y1 harmed
  have hskew := Reg.SDI_SKEW_ne_SDI_CHCTL i
  refine ⟨fun hruns h0 h1 hbelow habove => ?_, fun hmode => ?_⟩
  · obtain ⟨hoff, hbusy, hfld⟩ := ((c.setFld (Reg.SDI_SKEW i) Fld.SDI_SKEW_T (skewTime at_.toNat y0 y1)).setFld
      (Reg.SDI_SKEW i) Fld.SDI_SKEW_VALID 1).skewEnd_fields i
    refine ⟨_, exec_skewCrossing at_ hruns harmed hbelow habove h0 h1, State.putChan_own .., ?_⟩
    rw [State.chan_putChan_same, hfld _ _ hskew, Chan.bit, hfld _ _ hskew, Chan.fld_setFld_ne _ _ _ _ _ _ (.inr (by decide)),
      Chan.fld_setFld _ _ _ _ (by decide), Nat.mod_eq_of_lt (skewTime_lt ..)]
    exact ⟨skewTime_near at_.isLt h0 h1, Chan.bit_setFld _ _ _ (by decide) (by decide), hoff, hbusy⟩
  · obtain ⟨hoff, hbusy, hfld⟩ := (c.setFld (Reg.SDI_SKEW i) Fld.SDI_SKEW_NOSTEP 1).skewEnd_fields i
    refine ⟨_, exec_skewWindowExpiry hmode harmed, State.putChan_own .., ?_⟩
    rw [State.chan_putChan_same, Chan.bit, hfld _ _ hskew]
    exact ⟨Chan.bit_setFld _ _ _ (by decide) (by decide), hoff, hbusy⟩

end Sys2Proof.Machine
end

section
/-! SUPPORT. The family of 03_sample_chain.md: channel registers whose writes act on arrival (R76, R96, R101, R131, R134, R138,
R219, R283, R288). -/

namespace Sys2Proof.Machine

/-! ## What an accepted write passes -/

/-- The channel registers without sticky bits whose block judges a write by its fields, below the capture sets' slots. -/
def takesFields (off : Nat) : Bool :=
  match findRow chanRows off with
  | none => false
  | some r => off % 4 == 0 && decide (0x10 ≤ off) && decide (off < 0x2C00) && !r.counter &&
      !(r.rw == 0 && r.rwl == 0 && r.wo == 0) && r.w1c == 0 && r.rws == 0 &&
      !([Reg.CH_MODE_REQ, Reg.PWM_TRIP, Reg.CH_SAFE_LATCH, Reg.ENG_CDAT, Reg.ENG_DDAT, Reg.LAW_STAT].contains off)

theorem takesFields_firCfg : ∀ i : InId, takesFields (Reg.FIR_CFG i) = true := by decide +kernel

theorem takesFields_firCdat : ∀ i : InId, takesFields (Reg.FIR_CDAT i) = true := by decide +kernel

theorem takesFields_packPsel : takesFields Reg.PACK_PSEL = true := by decide +kernel

theorem takesFields_pllCtl : takesFields Reg.PLL_CTL = true := by decide +kernel

/-- The registers among them whose write also waits for its boundary. -/
def arrivalRegs : List Nat := [Reg.SDI_CHCTL, Reg.PLL_RAMP, Reg.PLL_LEVEL]

theorem takesFields_arrivalRegs : ∀ off ∈ arrivalRegs, takesFields off = true ∧ plainAtOnce off = false ∧
    capCtlOf off = none ∧ off ≠ Reg.PLL_CTL ∧ ∀ i, sdiSlot off ≠ some (i, 0x14) := by decide +kernel

/-- Such a register's row, its place, and that no part of it acts as a sticky bit. -/
theorem exists_row_of_takesFields {off : Nat} (h : takesFields off = true) :
    (∃ r, findRow chanRows off = some r ∧ r.counter = false ∧ ((r.rw = 0 ∧ r.rwl = 0 ∧ r.wo = 0) → False) ∧
      ∀ (s : State) (ch : ChId) (v : Word), s.stickyWrite ch r off v = s) ∧
    off % 4 = 0 ∧ 0x10 ≤ off ∧ off < 0x2C00 ∧
      off ∉ [Reg.CH_MODE_REQ, Reg.PWM_TRIP, Reg.CH_SAFE_LATCH, Reg.ENG_CDAT, Reg.ENG_DDAT] := by
  unfold takesFields at h
  cases hrow : findRow chanRows off with
  | none => simp [hrow] at h
  | some r =>
    simp only [hrow, Bool.and_eq_true, Bool.not_eq_true', decide_eq_true_eq, beq_iff_eq, List.contains_eq_mem,
      decide_eq_false_iff_not, List.mem_cons, not_or] at h
    obtain ⟨⟨⟨⟨⟨⟨⟨hal, hlo⟩, hhi⟩, hcnt⟩, hfields⟩, hw1c⟩, hrws⟩, hreq, htrip, hlatch, hcdat, hddat, hlaw, -⟩ := h
    refine ⟨⟨r, rfl, hcnt, fun hnone => ?_, fun s ch v => ?_⟩, hal, hlo, hhi, by simp [hreq, htrip, hlatch, hcdat, hddat]⟩
    · obtain ⟨hrw, hrwl, hwo⟩ := hnone
      simp [hrw, hrwl, hwo] at hfields
    · simp [State.stickyWrite, hw1c, hrws, hlaw]

/-- A block that accepts a write is not shut (R268). -/
theorem Chan.blockShut_of_accepted {s : State} {ch : ChId} {off : Nat} {v : Word} (h : s.arrivalCause ch off v = none) :
    (s.chan ch).blockShut off = false := by
  by_contra hshut
  rw [Bool.not_eq_false] at hshut
  simp [State.arrivalCause, hshut] at h

/-- An accepted write through a context's window takes its course at its block (R10, R461). -/
theorem State.writeWindow_takes {s : State} {k : Ctx} {ch : ChId} {off : Nat} {v : Word} (hreach : s.reaches k ch)
    (hoff : takesFields off = true) (hlost : (s.chan ch).clockLost = false) (hkeeps : s.keepsRo k ch off v)
    (hcause : s.arrivalCause ch off v = none) : s.writeWindow k off v = (s.takeWrite ch off v (.host k)).answered := by
  obtain ⟨⟨r, hrow, hcnt, hfields, hsticky⟩, hal, hlo, hhi, hports⟩ := exists_row_of_takesFields hoff
  have hfields' : (decide (r.rw = 0) && decide (r.rwl = 0) && decide (r.wo = 0)) = false := by simpa using hfields
  simp only [List.mem_cons, not_or, List.not_mem_nil, not_false_eq_true, and_true] at hports
  obtain ⟨hreq, htrip, hlatch, hcdat, hddat⟩ := hports
  refine State.writeWindow_ok hreach hlo (by omega) hal (by simp [hrow]) (s.capAbsent_eq_false k hhi) hkeeps ?_
  simp only [State.chanWrite, hreq, show ¬ 0x3000 ≤ off by omega, Chan.blockShut_of_accepted hcause, htrip, hlatch, hcdat, hddat,
    hrow, hcnt, State.fieldWrite, hcause, hsticky, hfields', hlost, if_false, Bool.false_eq_true]

/-- An accepted write that also waits joins the queue after what it does on arrival (R96, R288). -/
theorem State.writeWindow_arrives {s : State} {k : Ctx} {ch : ChId} {off : Nat} {v : Word} (hreach : s.reaches k ch)
    (hoff : off ∈ arrivalRegs) (hlost : (s.chan ch).clockLost = false)
    (htick : ((s.arrivalEffect ch off v).chan ch).ticking = true) (hkeeps : s.keepsRo k ch off v)
    (hcause : s.arrivalCause ch off v = none) : s.writeWindow k off v = ((s.arrivalEffect ch off v).onChan ch fun c =>
      { c with writes := c.writes ++ [(s.chan ch).arriving off v (.host k) none] }).answered := by
  obtain ⟨htakes, hplain, hcap, hctl, hcdat⟩ := takesFields_arrivalRegs off hoff
  obtain ⟨⟨r, hrow, hcnt, hfields, hsticky⟩, hal, hlo, hhi, hports⟩ := exists_row_of_takesFields htakes
  refine State.writeWindow_ok hreach hlo (by omega) hal (by simp [hrow]) (s.capAbsent_eq_false k hhi) hkeeps ?_
  exact State.chanWrite_queues hrow hcnt hfields (by omega) (by simpa [hctl] using hports) (hsticky s ch v) hlost hcause hplain hcap
    hcdat htick

/-! ## What runs the ticks -/

/-- Whether ticks run shows in the mode, PLL_STAT and the PLL alone (R33). -/
theorem Chan.ticking_congr {c d : Chan} (hmode : d.get Reg.CH_MODE_CUR = c.get Reg.CH_MODE_CUR)
    (hstat : d.get Reg.PLL_STAT = c.get Reg.PLL_STAT) (hpll : d.pll = c.pll) : d.ticking = c.ticking := by
  unfold Chan.ticking Chan.mode Chan.faulted Chan.bit Chan.fld
  rw [hmode, hstat, hpll]

/-- While ticks run a write waits for its boundary (R32). -/
theorem State.enqueueWrite_ticking {s : State} {ch : ChId} (w : ChanWrite) (h : (s.chan ch).ticking = true) :
    s.enqueueWrite ch w = s.onChan ch fun c => { c with writes := c.writes ++ [w] } := by
  have htick : ((s.onChan ch fun c => { c with writes := c.writes ++ [w] }).chan ch).ticking = true := by
    rw [State.onChan_eq, State.chan_putChan_same]
    exact h
  unfold State.enqueueWrite
  simp only [htick, Bool.not_true, Bool.and_false, Bool.false_eq_true, if_false]

theorem Chan.ticking_setFld_of_ne (c : Chan) {o : Nat} (f : BitField) (n : Nat) (hmode : Reg.CH_MODE_CUR ≠ o)
    (hstat : Reg.PLL_STAT ≠ o) : (c.setFld o f n).ticking = c.ticking :=
  Chan.ticking_congr (by simp [hmode]) (by simp [hstat]) rfl

/-- Arming the skew units changes the inputs and registers of the sample chain alone (R96). -/
theorem Chan.skewArm_ticking (c : Chan) : c.skewArm.ticking = c.ticking := by
  have hdone : ∀ c : Chan, c.skewDone.ticking = c.ticking := fun c => by
    unfold Chan.skewDone
    split
    · rfl
    · exact c.ticking_setFld_of_ne _ _ (by decide) (by decide)
  unfold Chan.skewArm
  refine (hdone _).trans ((Chan.ticking_setFld_of_ne _ _ _ (by decide) (by decide)).trans ?_)
  refine foldl_rel (fun c d : Chan => d.ticking = c.ticking) (fun _ => rfl) (fun _ _ _ h h' => h'.trans h) _ (fun c i => ?_) _ _
  have hmode : Reg.CH_MODE_CUR ≠ Reg.SDI_SKEW i := by
    unfold Reg.CH_MODE_CUR Reg.SDI_SKEW
    omega
  have hstat : Reg.PLL_STAT ≠ Reg.SDI_SKEW i := by
    have := i.isLt
    unfold Reg.PLL_STAT Reg.SDI_SKEW
    omega
  exact (Chan.ticking_setFld_of_ne _ _ _ hmode hstat).trans (c.ticking_setFld_of_ne _ _ hmode hstat)

theorem Chan.stageCoef_ticking (c : Chan) (e : Eng) (w : CoefWrite) : (c.stageCoef e w).ticking = c.ticking := by
  unfold Chan.stageCoef Chan.showStaged
  refine (Chan.ticking_setFld_of_ne _ _ _ (by decide) (by decide)).trans
    ((Chan.ticking_setFld_of_ne _ _ _ (by decide) (by decide)).trans ?_)
  exact Chan.ticking_congr (Chan.get_setEngine ..) (Chan.get_setEngine ..) (Chan.setEngine_pll ..)

theorem Chan.dadrStep_ticking (c : Chan) : c.dadrStep.ticking = c.ticking := by
  unfold Chan.dadrStep
  split
  · exact c.ticking_setFld_of_ne _ _ (by decide) (by decide)
  · rfl

/-! ## The ports of the engines -/

/-- The engines' ports are in no block that OFF shuts (R268). -/
theorem Chan.blockShut_engPorts (c : Chan) : c.blockShut Reg.ENG_CDAT = false ∧ c.blockShut Reg.ENG_DDAT = false := by
  simp [Chan.blockShut, Reg.ENG_CDAT, Reg.ENG_DDAT]

theorem State.chanWrite_engCdat (s : State) (ch : ChId) (v : Word) (src : WriteSrc) : s.chanWrite ch Reg.ENG_CDAT v src =
    let r := s.coefWrite ch (s.chan ch).cadr v src
    (if r.2 = .ok then r.1.onChan ch Chan.cadrStep else r.1, r.2) := by
  unfold State.chanWrite
  rw [if_neg (by decide), if_neg (by decide), if_neg (by simp [Chan.blockShut_engPorts]), if_neg (by decide),
    if_neg (by decide), if_pos rfl]

theorem State.chanWrite_engDdat (s : State) (ch : ChId) (v : Word) (src : WriteSrc) :
    s.chanWrite ch Reg.ENG_DDAT v src = s.dataWrite ch v src := by
  unfold State.chanWrite
  rw [if_neg (by decide), if_neg (by decide), if_neg (by simp [Chan.blockShut_engPorts]), if_neg (by decide),
    if_neg (by decide), if_neg (by decide), if_pos rfl]

/-- An accepted write of ENG_CDAT stages the coefficient that ENG_CADR names, and steps IDX (R131). -/
theorem State.writeWindow_engCdat {s : State} {k : Ctx} {ch : ChId} {v : Word} (hreach : s.reaches k ch)
    (htick : (s.chan ch).ticking = true) (hlost : (s.chan ch).clockLost = false) (hkeeps : s.keepsRo k ch Reg.ENG_CDAT v) :
    let c := s.chan ch
    c.coefCause c.cadr.eng c.cadr.idx.toNat = 0 →
    s.writeWindow k Reg.ENG_CDAT v =
      (s.putChan ch (c.stageCoef c.cadr.eng (c.coefArrives c.cadr v (.host k))).cadrStep).answered := by
  intro c hcause
  refine State.writeWindow_ok hreach (by decide) (by decide) (by decide) (by decide +kernel) (s.capAbsent_eq_false k (by decide))
    hkeeps ?_
  have htick' : (c.stageCoef c.cadr.eng (c.coefArrives c.cadr v (.host k))).ticking = true := (c.stageCoef_ticking ..).trans htick
  have hcoef : s.coefWrite ch c.cadr v (.host k) =
      (s.putChan ch (c.stageCoef c.cadr.eng (c.coefArrives c.cadr v (.host k))), .ok) := by
    unfold State.coefWrite
    simp [c, hcause, hlost, htick']
  rw [State.chanWrite_engCdat]
  show (if (s.coefWrite ch c.cadr v (.host k)).2 = .ok then _ else _, _) = _
  rw [hcoef]
  simp [c]

/-- A write of ENG_DDAT in HALT waits for its boundary, and steps ADDR (R138). -/
theorem State.writeWindow_engDdat {s : State} {k : Ctx} {ch : ChId} {v : Word} (hreach : s.reaches k ch)
    (htick : (s.chan ch).ticking = true) (hlost : (s.chan ch).clockLost = false) (hkeeps : s.keepsRo k ch Reg.ENG_DDAT v)
    (hhalt : (s.chan ch).mode = 1) : let c := s.chan ch
    s.writeWindow k Reg.ENG_DDAT v = (s.putChan ch { c.dadrStep with writes := c.dadrStep.writes ++ [⟨Reg.ENG_DDAT, v, .host k,
      some ⟨c.dadr.1, c.dadr.2.setWidth 10, BitVec.ofNat 6 (c.dadr.2.toNat / 1024)⟩, []⟩] }).answered := by
  intro c
  refine State.writeWindow_ok hreach (by decide) (by decide) (by decide) (by decide +kernel) (s.capAbsent_eq_false k (by decide))
    hkeeps ?_
  have htick' : ((s.onChan ch Chan.dadrStep).chan ch).ticking = true := by
    rw [State.onChan_eq, State.chan_putChan_same, Chan.dadrStep_ticking]
    exact htick
  rw [State.chanWrite_engDdat]
  unfold State.dataWrite
  simp only [hhalt, hlost, bne_self_eq_false, Bool.false_eq_true, if_false, State.enqueueWrite_ticking _ htick']
  simp [c]

/-! ## The course of a write -/

theorem State.takeWrite_firCfg (s : State) (ch : ChId) (i : InId) (v : Word) (src : WriteSrc) :
    s.takeWrite ch (Reg.FIR_CFG i) v src =
      s.onChan ch fun c => c.put (Reg.FIR_CFG i) (c.plainWord (Reg.FIR_CFG i) v) := by
  have hplain : ∀ i : InId, plainAtOnce (Reg.FIR_CFG i) = true ∧ Reg.FIR_CFG i ≠ Reg.PACK_PSEL := by decide +kernel
  obtain ⟨hp, hne⟩ := hplain i
  unfold State.takeWrite
  simp only [hp, hne, if_true, if_false]

theorem State.takeWrite_firCdat (s : State) (ch : ChId) (i : InId) (v : Word) (src : WriteSrc) :
    s.takeWrite ch (Reg.FIR_CDAT i) v src = s.onChan ch fun c => c.firCdat i v := by
  have hport : ∀ i : InId, plainAtOnce (Reg.FIR_CDAT i) = false ∧ Reg.FIR_CDAT i ≠ Reg.PLL_CTL ∧
      capCtlOf (Reg.FIR_CDAT i) = none ∧ sdiSlot (Reg.FIR_CDAT i) = some (i, 0x14) := by decide +kernel
  obtain ⟨hp, hne, hcap, hslot⟩ := hport i
  unfold State.takeWrite
  simp only [hp, hne, hcap, hslot, Bool.false_eq_true, if_false]

theorem State.takeWrite_packPsel (s : State) (ch : ChId) (k : Ctx) (v : Word) :
    s.takeWrite ch Reg.PACK_PSEL v (.host k) = (s.onChan ch fun c =>
      (c.put Reg.PACK_PSEL (c.plainWord Reg.PACK_PSEL v)).packSelect k).mirrorLanded ch Reg.PACK_PSEL v := by
  have hp : plainAtOnce Reg.PACK_PSEL = true := by decide
  unfold State.takeWrite
  simp only [hp, if_true, State.selectPeer, State.onChan_eq, State.chan_putChan_same, State.putChan_putChan]

theorem State.takeWrite_relock (s : State) (ch : ChId) {v : Word} (src : WriteSrc) (h : v.getLsbD 0 = true) :
    s.takeWrite ch Reg.PLL_CTL v src = s.beginLock ch .relock := by
  have hp : plainAtOnce Reg.PLL_CTL = false := by decide
  unfold State.takeWrite
  simp only [hp, h, if_true, if_false, Bool.false_eq_true]

/-- SKARM arms on its arrival (R96). -/
theorem State.arrivalEffect_skarm (s : State) (ch : ChId) {v : Word} (h : getField v Fld.SDI_CHCTL_SKARM = 1) :
    s.arrivalEffect ch Reg.SDI_CHCTL v = s.onChan ch Chan.skewArm := by
  unfold State.arrivalEffect
  rw [if_pos (by simp [h])]

/-- No other register's write acts before it waits. -/
theorem State.arrivalEffect_other (s : State) (ch : ChId) {off : Nat} (v : Word) (h : off ≠ Reg.SDI_CHCTL) :
    s.arrivalEffect ch off v = s := by
  unfold State.arrivalEffect
  rw [if_neg (by simp [h])]

/-- A GO takes its copy of the profile, a write of PLL_RAMP without it none (R288). -/
theorem Chan.arriving_pllRamp (c : Chan) (v : Word) (src : WriteSrc) : c.arriving Reg.PLL_RAMP v src none =
    ⟨Reg.PLL_RAMP, v, src, none,
      if getField v Fld.PLL_RAMP_GO = 1 then c.copyProfile (getField v Fld.PLL_RAMP_NSEG) else []⟩ := by
  simp [Chan.arriving, show Reg.PLL_RAMP ≠ Reg.PLL_LEVEL by decide]

/-- Settles O18: an accepted write takes its course at its block (`State.writeWindow_takes`), also waits
(`State.writeWindow_arrives`), or is a port's (`State.writeWindow_engCdat`, `State.writeWindow_engDdat`). -/
theorem channelWritesAtOnce : Obligations.ChannelWritesAtOnce := by
  unfold Obligations.ChannelWritesAtOnce
  intro s k ch hreach htick hlost c acts queued v
  have takes : ∀ {off : Nat} {w : Word} {t : State}, takesFields off = true → s.takeWrite ch off w (.host k) = t →
      s.keepsRo k ch off w → s.arrivalCause ch off w = none →
      Host.Outcome.next (s.writeWindow k off w) = (.next t.answered : Result) := fun hoff ht hkeeps hcause =>
    congrArg _ ((State.writeWindow_takes hreach hoff hlost hkeeps hcause).trans (congrArg State.answered ht))
  have waits : ∀ {off : Nat} {w : Word} {p : List Segment}, off ∈ arrivalRegs → off ≠ Reg.SDI_CHCTL →
      c.arriving off w (.host k) none = ⟨off, w, .host k, none, p⟩ → s.keepsRo k ch off w →
      s.arrivalCause ch off w = none → Host.Outcome.next (s.writeWindow k off w) = (.next (queued c off w none p).answered : Result) := by
    intro off w p hoff hne hp hkeeps hcause
    have heffect := s.arrivalEffect_other ch w hne
    rw [State.writeWindow_arrives hreach hoff hlost (by rwa [heffect]) hkeeps hcause, heffect, hp]
    rfl
  refine ⟨fun i => ⟨takes (takesFields_firCfg i) (s.takeWrite_firCfg ..), takes (takesFields_firCdat i) (s.takeWrite_firCdat ..)⟩,
    fun hcoef hkeeps _ => ?_, fun hhalt hkeeps _ => ?_, takes takesFields_packPsel (s.takeWrite_packPsel ..),
    fun hkeeps hcause => ?_, ?_, ?_, ?_, takes takesFields_pllCtl (s.takeWrite_relock ch _ ?_)⟩
  · exact congrArg _ (State.writeWindow_engCdat hreach htick hlost hkeeps hcoef)
  · exact congrArg _ (State.writeWindow_engDdat hreach htick hlost hkeeps hhalt)
  · have heffect := s.arrivalEffect_skarm ch (getField_setField v Fld.SDI_CHCTL_SKARM 1 (by decide))
    have harmed : ((s.onChan ch Chan.skewArm).chan ch).ticking = true := by
      rw [State.onChan_eq, State.chan_putChan_same, Chan.skewArm_ticking]
      exact htick
    show Host.Outcome.next (s.writeWindow k Reg.SDI_CHCTL _) = _
    rw [State.writeWindow_arrives hreach (by decide) hlost (by rwa [heffect]) hkeeps hcause, heffect, State.onChan_eq,
      State.onChan_eq, State.chan_putChan_same, State.putChan_putChan]
    rfl
  · exact waits (by decide) (by decide) ((c.arriving_pllRamp ..).trans (by rw [getField_setField _ _ _ (by decide)]; rfl))
  · exact waits (by decide) (by decide) ((c.arriving_pllRamp ..).trans (by rw [getField_setField _ _ _ (by decide)]; rfl))
  · exact waits (by decide) (by decide) rfl
  · rw [getLsbD_setField]
    rfl

end Sys2Proof.Machine
end

section
/-! SUPPORT. The family of 04_control_engines.md: program words against the bits that their instructions name (R119, R120). -/

namespace Sys2Proof.Laws.Encoding

/-- Each instruction by its own lemma; the other commands have no program word (R119, R120). -/
theorem statement_holds (i : Instr) : Statement i := by
  cases i with
  | nop => exact nop _ _
  | ldi => exact ldi _ _ _
  | mov => exact mov _ _ _ _
  | ld => exact ld _ _ _ _
  | ldx => exact ldx _ _ _ _ _
  | st => exact st _ _ _ _
  | stx => exact stx _ _ _ _ _
  | inPort => exact inPort _ _ _ _
  | outPort => exact outPort _ _ _ _ _
  | pub => exact pub _ _ _ _ _
  | ldc => exact ldc _ _ _ _
  | sel => exact sel _ _ _ _ _
  | add => exact add _ _ _ _ _ _
  | sub => exact sub _ _ _ _ _ _
  | neg => exact neg _ _ _ _ _
  | abs => exact abs _ _ _ _ _
  | min => exact min _ _ _ _ _
  | max => exact max _ _ _ _ _
  | cmp => exact cmp _ _ _ _
  | and => exact and _ _ _ _ _
  | or => exact or _ _ _ _ _
  | xor => exact xor _ _ _ _ _
  | ash => exact ash _ _ _ _ _ _
  | lsh => exact lsh _ _ _ _ _
  | mul => exact mul _ _ _ _ _ _
  | mulv => exact mulv _ _ _ _ _ _ _
  | clr => exact clr _ _ _
  | lda => exact lda _ _ _ _
  | mac => exact mac _ _ _ _ _
  | msu => exact msu _ _ _ _ _
  | dmac => exact dmac _ _ _ _ _ _
  | pmac => exact pmac _ _ _ _ _
  | macv => exact macv _ _ _ _ _ _
  | ext => exact ext _ _ _ _ _ _
  | div => exact div _ _ _ _ _ _ _
  | sqrt => exact sqrt _ _ _ _ _ _
  | br => exact br _ _ _
  | call => exact call _ _
  | ret => exact ret _ _
  | loop => exact loop _ _ _
  | tend => exact tend _ _
  | _ => exact of_none rfl

/-! ## The bits that an instruction names -/

theorem word_ofWord (w : BitVec 64) : (WordFields.ofWord w).word = w := by
  simp only [WordFields.word, WordFields.ofWord, BitVec.extractLsb'_append_extractLsb'_eq_extractLsb']
  simp

/-- Every bit that the fields `g` set, the fields `f` set too. -/
def Within (g f : WordFields) : Prop :=
  g.op &&& f.op = g.op ∧ g.d &&& f.d = g.d ∧ g.a &&& f.a = g.a ∧ g.b &&& f.b = g.b ∧ g.ac &&& f.ac = g.ac ∧
    g.rm &&& f.rm = g.rm ∧ g.e &&& f.e = g.e ∧ g.cc &&& f.cc = g.cc ∧ g.k &&& f.k = g.k ∧ g.m &&& f.m = g.m ∧
    g.lo &&& f.lo = g.lo

theorem append_and_append {m n : Nat} {x y : BitVec m} {p q : BitVec n} (h : x &&& y = x) (k : p &&& q = p) :
    (x ++ p) &&& (y ++ q) = x ++ p := by
  rw [BitVec.and_append, h, k]

theorem Within.word_and {g f : WordFields} (h : Within g f) : g.word &&& f.word = g.word := by
  obtain ⟨hop, hd, ha, hb, hac, hrm, he, hcc, hk, hm, hlo⟩ := h
  have hregs := append_and_append (append_and_append (append_and_append hop hd) ha) hb
  have hmiddle := append_and_append (append_and_append (append_and_append (append_and_append hregs hac) hrm) he) hcc
  exact append_and_append (append_and_append (append_and_append hmiddle hk) hm) hlo

@[simp] theorem regField_fieldReg (x : BitVec 5) : regField (fieldReg x) = x := by
  simp [regField, fieldReg]

@[simp] theorem ofBool_getElem_zero (x : BitVec 1) : BitVec.ofBool x[0] = x := by
  revert x
  decide

/-- TGT lies within the fields that it was read from. -/
theorem Within.withTgt_tgt {f g : WordFields} (h : Within g f) : Within (g.withTgt f.tgt) f := by
  obtain ⟨hop, hd, ha, hb, hac, hrm, he, hcc, hk, hm, hlo⟩ := h
  have hhi : f.tgt.extractLsb' 10 2 = f.m.extractLsb' 0 2 := BitVec.extractLsb'_append_eq_left
  have hlow : f.tgt.extractLsb' 0 10 = f.lo := BitVec.extractLsb'_append_eq_right
  refine ⟨hop, hd, ha, hb, hac, hrm, he, hcc, hk, ?_, ?_⟩
  · simp only [WordFields.withTgt, hhi]
    generalize f.m = y
    revert y
    decide
  · simp only [WordFields.withTgt, hlow, BitVec.and_self]

/-- IMM lies within the fields that it was read from. -/
theorem Within.withImm_imm {f g : WordFields} (h : Within g f) : Within (g.withImm f.imm) f := by
  obtain ⟨hop, hd, ha, hb, hac, hrm, he, -, -, -, -⟩ := h
  have hlow : f.imm.extractLsb' 0 10 = f.lo := BitVec.extractLsb'_append_eq_right
  have hm : f.imm.extractLsb' 10 11 = f.m :=
    (BitVec.extractLsb'_append_eq_of_le (w := 10) (by decide)).trans BitVec.extractLsb'_append_eq_right
  have hk : f.imm.extractLsb' 21 10 = f.k :=
    (BitVec.extractLsb'_append_eq_of_le (w := 10) (by decide)).trans
      ((BitVec.extractLsb'_append_eq_of_le (w := 11) (by decide)).trans BitVec.extractLsb'_append_eq_right)
  have hcc : f.imm.extractLsb' 31 1 = f.cc.extractLsb' 0 1 :=
    (BitVec.extractLsb'_append_eq_of_le (w := 10) (by decide)).trans
      ((BitVec.extractLsb'_append_eq_of_le (w := 11) (by decide)).trans BitVec.extractLsb'_append_eq_left)
  refine ⟨hop, hd, ha, hb, hac, hrm, he, ?_, ?_, ?_, ?_⟩
  · simp only [WordFields.withImm, hcc]
    generalize f.cc = y
    revert y
    decide
  · simp [WordFields.withImm, hk]
  · simp [WordFields.withImm, hm]
  · simp [WordFields.withImm, hlow]

/-- A field that is a literal lies within the field of the same value. -/
theorem ofNat_and_of_toNat {n v : Nat} {x : BitVec n} (h : x.toNat = v) : BitVec.ofNat n v &&& x = BitVec.ofNat n v := by
  subst h
  simp

/-- An engine's instruction names a part of the fields it was decoded from; that part alone decodes to it. -/
theorem fields_of_instrOf {x : Site} {f : WordFields} {i : Instr} (h : instrOf x f = some i) :
    ∃ g, i.fields = some g ∧ g.formatOk = true ∧ instrOf x g = some i ∧ Within g f := by
  unfold instrOf at h
  split at h
  -- LDI: IMM reaches into CC.
  case h_2 hop =>
    cases h
    refine ⟨_, rfl, decide_eq_true (imm_top _), by simp [instrOf, opWord], Within.withImm_imm ?_⟩
    simp [Within, opWord, ofNat_and_of_toNat hop]
  -- BR, CALL and LOOP: TGT lies in M and the low bits.
  case h_37 hop | h_38 hop | h_40 hop =>
    cases h
    refine ⟨_, rfl, decide_eq_true (tgt_top _), by simp [instrOf, opWord], Within.withTgt_tgt ?_⟩
    simp [Within, opWord, ofNat_and_of_toNat hop]
  case h_42 => cases h
  all_goals
    rename_i hop
    cases h
    exact ⟨_, rfl, rfl, by simp [instrOf, opWord], by simp [Within, opWord, ofNat_and_of_toNat hop]⟩

theorem decodeEngine_within {x : Site} {w : BitVec 64} {i : Instr} (h : decodeEngine x w = some i) :
    ∃ v, encodeEngine i = some v ∧ decodeEngine x v = some i ∧ v &&& w = v := by
  unfold decodeEngine at h
  split at h
  · obtain ⟨g, hg, hformat, hinstr, hwithin⟩ := fields_of_instrOf h
    refine ⟨g.word, by simp [encodeEngine, hg], by simp [decodeEngine, ofWord_word, hformat, hinstr], ?_⟩
    rw [← word_ofWord w]
    exact hwithin.word_and
  · cases h

/-- Settles O60: an instruction's word decodes to it, instruction by instruction (`statement_holds`), and what a word decodes to
has the word of the fields it names (`fields_of_instrOf`), whose bits the word sets too (`Within.word_and`). -/
theorem encodeDecode : Obligations.EncodeDecode := by
  unfold Obligations.EncodeDecode
  exact ⟨statement_holds, fun x w i => decodeEngine_within⟩

end Sys2Proof.Laws.Encoding
end

section
/-! SUPPORT. The family of 04_control_engines.md: what an executed instruction computes (R110 to R117, R120). -/

namespace Sys2Proof.Machine

/-! ## An instruction that executes -/

theorem State.executes.instr {s : State} {x : Site} {cc : BitVec 4} (h : s.executes x cc) (n : Nat) (f : Engine → Engine) :
    s.instr x cc n f = .next (s.putEng x ((f (s.eng x)).retire n)) :=
  s.instr_true x cc n f h.1 h.2

/-- An instruction whose effect is its result: vD, and Z, N and V from it (R117). -/
theorem State.executes.result {s : State} {x : Site} {cc : BitVec 4} (h : s.executes x cc) {n : Nat} {d : VReg}
    {f : Engine → Word × Bool} {r : Word} {v : Bool} (hr : f (s.eng x) = (r, v)) :
    s.instr x cc n (fun e => e.result d (f e)) = .next (s.putEng x (((s.eng x).withResult d r v).retire n)) := by
  rw [h.instr, hr]
  rfl

/-- An instruction that names coefficients: its effect, and CSAT where one that reports has clamped (R113). -/
theorem State.executes.instrC {s : State} {x : Site} {cc : BitVec 4} (h : s.executes x cc) {f : Engine → Engine × Bool}
    {e : Engine} {clamped : Bool} (hf : f (s.eng x) = (e, clamped)) :
    s.instrC x cc f = .next ((s.putEng x (e.retire 1)).setCsat x clamped) := by
  rw [s.instrC_true x cc f h, hf]

/-- An instruction without a condition executes wherever its engine runs (R118, R120). -/
theorem State.executes_always {s : State} {x : Site} (h : (s.eng x).run = .running) : s.executes x 0 := ⟨h, rfl⟩

/-- The address of LDX and STX (R120). -/
theorem indexedAddr_eq (r : Word) (m : BitVec 11) : indexedAddr r m = ((r.extractLsb' 0 11).toNat + m.toNat) % 2048 := by
  simp [indexedAddr, BitVec.extractLsb'_toNat]

/-- A data memory write as ST and STX retire it: the word at `a`, and every other one as before. -/
theorem State.executes.store {s : State} {x : Site} {cc : BitVec 4} (h : s.executes x cc) {f : Engine → Nat} {a : Nat}
    (ha : f (s.eng x) = a) (r : VReg) :
    ∃ data, s.instr x cc 1 (fun e => e.setData (f e) (e.rv r)) =
        .next (s.putEng x (({ s.eng x with data := data } : Engine).retire 1)) ∧
      ∀ j, sget (fun _ => 0) data j = if j = a then (s.eng x).rv r else (s.eng x).getData j :=
  ⟨((s.eng x).setData a ((s.eng x).rv r)).data, by rw [h.instr, ha]; rfl, fun j => Engine.getData_setData ..⟩

/-! ## Moves and the data memory (R110, R120) -/

/-- Settles O1: each instruction retires with its effect (`State.executes.instr`), a store with the word it writes
(`State.executes.store`). -/
theorem engineMovesAndMemory : Obligations.EngineMovesAndMemory := by
  unfold Obligations.EngineMovesAndMemory
  refine ⟨fun s x cc d a b k imm hrun => ?_, fun s x cc d a b m hexec => ?_⟩
  · have halways := State.executes_always hrun
    exact ⟨halways.instr 1 _, halways.instr 1 _, fun hexec => ⟨hexec.instr 1 _, hexec.instr 1 _⟩⟩
  · refine ⟨hexec.instr 1 _, ?_, hexec.store rfl a, hexec.store (indexedAddr_eq ..) a⟩
    dsimp only
    rw [← indexedAddr_eq]
    exact hexec.instr 1 _

/-! ## Integers, logic and shifts (R115, R117) -/

theorem narrowRm_eq (rm : BitVec 2) (y : Int) :
    narrowRm rm y = (BitVec.ofInt 32 (inRange 32 (rm.getLsbD 1) y), inRange 32 (rm.getLsbD 1) y != y) :=
  narrow_int ..

theorem lshResult_eq (sh : BitVec 5) (r : Word) : lshResult sh r =
    if 0 ≤ sh.toInt then BitVec.ofNat 32 (r.toNat * 2 ^ sh.toInt.toNat)
    else BitVec.ofNat 32 (r.toNat / 2 ^ (-sh.toInt).toNat) := by
  unfold lshResult
  split
  · exact BitVec.eq_of_toNat_eq (by simp [BitVec.toNat_shiftLeft, Nat.shiftLeft_eq])
  · rw [← Nat.shiftRight_eq_div_pow, ← BitVec.toNat_ushiftRight, BitVec.ofNat_toNat, BitVec.setWidth_eq]

/-- Settles O2: each instruction retires with its result (`State.executes.result`), an arithmetic one with the exact integer in
its range (`narrowRm_eq`). -/
theorem engineIntegers : Obligations.EngineIntegers := by
  unfold Obligations.EngineIntegers
  refine ⟨fun s x cc rm d a b hexec => ?_, fun s x cc sh d a b hexec => ?_⟩
  · refine ⟨hexec.result (narrowRm_eq ..), hexec.result (narrowRm_eq ..), hexec.result (narrowRm_eq ..), ?_⟩
    dsimp only
    rw [← Int.natCast_natAbs]
    exact hexec.result (narrowRm_eq ..)
  · refine ⟨hexec.result ?_, hexec.result ?_, hexec.result rfl, hexec.result rfl, hexec.result rfl,
      hexec.result (congrArg (·, false) (lshResult_eq ..)), ?_⟩
    · simp only [← Int.not_le, ite_not]
    · simp only [← Int.not_le, ite_not]
    · have hz : ((s.eng x).rv a == (s.eng x).rv b) = decide (((s.eng x).rv a).toInt - ((s.eng x).rv b).toInt = 0) := by
        rw [beq_eq_decide, decide_eq_decide, Int.sub_eq_zero, BitVec.toInt_inj]
      have hn : decide (((s.eng x).rv a).toInt < ((s.eng x).rv b).toInt) =
          decide (((s.eng x).rv a).toInt - ((s.eng x).rv b).toInt < 0) := by
        rw [decide_eq_decide, sub_neg]
      dsimp only
      rw [← hz, ← hn]
      exact hexec.instr 1 _

/-! ## Scaled values and accumulators (R113 to R115) -/

theorem ashResult_eq (rm : BitVec 2) (sh : BitVec 5) (r : Word) : ashResult rm sh r =
    narrowed (rm.getLsbD 0) (rm.getLsbD 1) (r.toInt * 2 ^ sh.toInt) :=
  narrow_scaled ..

theorem mulvResult_eq (rm : BitVec 2) (sh : BitVec 5) (p q : Word) : mulvResult rm sh p q =
    narrowed (rm.getLsbD 0) (rm.getLsbD 1) (p.toInt * q.toInt * 2 ^ (sh.toInt - 31)) := by
  rw [← Int.cast_mul]
  exact narrow_scaled ..

theorem extResult_eq (rm : BitVec 2) (sh : BitVec 5) (A : BitVec 72) : extResult rm sh A =
    narrowed (rm.getLsbD 0) (rm.getLsbD 1) (A.toInt * 2 ^ (sh.toInt - 31)) :=
  narrow_scaled ..

theorem mulCoef_eq (rm : BitVec 2) (r : Word) (c : Coef) : mulCoef rm r c =
    narrowed (rm.getLsbD 0) (c.sat == 1) (r.toInt * c.mant.toInt * 2 ^ (c.shift.toInt - 31)) := by
  rw [← Int.cast_mul]
  exact narrow_scaled ..

/-- Settles O3: each result is the exact value narrowed (`ashResult_eq`, `mulvResult_eq`, `extResult_eq`, `mulCoef_eq`). -/
theorem engineScaled : Obligations.EngineScaled := by
  unfold Obligations.EngineScaled
  intro s x cc rm sh ac d a b k hexec
  refine ⟨hexec.result (ashResult_eq ..), hexec.result (mulvResult_eq ..), hexec.result (extResult_eq ..), ?_⟩
  dsimp only
  rw [← mulCoef_eq]
  exact hexec.instrC rfl

/-- Settles O4: a term and its range steps are `accPlus` of `macTermOf` (`macTerm_eq`), and K + 1 wraps at 1,024
(`succ_toNat`). -/
theorem engineAccumulators : Obligations.EngineAccumulators := by
  unfold Obligations.EngineAccumulators
  intro s x cc rm ac a b k hexec
  refine ⟨hexec.instr 1 _, hexec.instr 1 _, hexec.instrC ?_, hexec.instrC ?_, hexec.instrC ?_, hexec.instrC ?_,
    (hexec.instr 1 _).trans ?_⟩
  · simp only [macTerm_eq]
    rfl
  · simp only [macTerm_eq]
    rfl
  · simp only [macTerm_eq, succ_toNat]
    rfl
  · simp only [macTerm_eq, succ_toNat]
    rfl
  · simp only [accRange, rangeStep_eq 72 (.inr rfl)]
    rfl

/-! ## DIV and SQRT -/

/-- 31 + E is never negative: E has five bits. -/
theorem exponent_nonneg (sh : BitVec 5) : 0 ≤ 31 + sh.toInt := by
  have := sh.le_toInt
  omega

theorem zpow_exponent (sh : BitVec 5) : ((2 ^ (31 + sh.toInt).toNat : Nat) : Rat) = 2 ^ (31 + sh.toInt) := by
  rw [Nat.cast_pow, ← zpow_natCast, Int.toNat_of_nonneg (exponent_nonneg sh)]
  rfl

/-- The sign of a divisor moved to the numerator. -/
theorem ite_msb_div_natAbs (y : Word) (n : Int) :
    ((if y.msb then -n else n : Int) : Rat) / y.toInt.natAbs = n / y.toInt := by
  rw [Nat.cast_natAbs, BitVec.msb_eq_toInt]
  by_cases h : y.toInt < 0
  · simp [h, abs_of_neg h, neg_div_neg_eq]
  · simp [h, abs_of_nonneg (not_lt.1 h)]

theorem divResult_of_ne_zero (rm : BitVec 2) (sh : BitVec 5) (p q : Word) (h : q.toInt ≠ 0) : divResult rm sh p q =
    narrowed (rm.getLsbD 0) (rm.getLsbD 1) (p.toInt * 2 ^ (31 + sh.toInt) / q.toInt) := by
  have hq : q ≠ 0 := fun e => h (by simp [e])
  rw [divResult, if_neg hq]
  dsimp only
  rw [narrow_eq _ _ _ _ (Int.natAbs_pos.2 h), ite_msb_div_natAbs, ← zpow_exponent]
  push_cast
  rfl

theorem divResult_zero (rm : BitVec 2) (sh : BitVec 5) (p q : Word) (h : q.toInt = 0) : divResult rm sh p q =
    (BitVec.ofInt 32 (if 0 < p.toInt then 2 ^ 31 - 1 else if p.toInt < 0 then -2 ^ 31 else 0), true) := by
  have hq : q = 0 := BitVec.eq_of_toInt_eq h
  rw [divResult, if_pos hq, BitVec.msb_eq_toInt]
  by_cases hz : p = 0
  · simp [hz]
  · have hne : p.toInt ≠ 0 := fun e => hz (BitVec.eq_of_toInt_eq e)
    rw [if_neg hz]
    by_cases hn : p.toInt < 0
    · simp [hn, not_lt_of_gt hn]
    · simp [hn, lt_of_le_of_ne (not_lt.1 hn) hne.symm]

theorem sqrtResult_of_neg (rm : BitVec 2) (sh : BitVec 5) (p : Word) (h : p.toInt < 0) : sqrtResult rm sh p = (0, true) := by
  rw [sqrtResult, BitVec.msb_eq_toInt, decide_eq_true h, if_pos rfl]

/-- The operand of SQRT times 2^(31 + E). -/
def radicand (sh : BitVec 5) (p : Word) : Nat := p.toNat * 2 ^ (31 + sh.toInt).toNat

theorem toInt_eq_toNat {p : Word} (h : 0 ≤ p.toInt) : p.toInt = p.toNat :=
  BitVec.toInt_eq_toNat_of_msb (by rw [BitVec.msb_eq_toInt, decide_eq_false (not_lt.2 h)])

theorem radicand_lt (sh : BitVec 5) {p : Word} (h : 0 ≤ p.toInt) : radicand sh p < 2 ^ 77 := by
  have hp : p.toNat < 2 ^ 31 := by
    have := p.toInt_lt
    have := toInt_eq_toNat h
    omega
  have he : (31 + sh.toInt).toNat ≤ 46 := by
    have := sh.toInt_lt
    omega
  calc radicand sh p ≤ p.toNat * 2 ^ 46 := Nat.mul_le_mul_left _ (Nat.pow_le_pow_right (by decide) he)
    _ < 2 ^ 77 := by omega

theorem radicand_cast (sh : BitVec 5) {p : Word} (h : 0 ≤ p.toInt) :
    ((radicand sh p : Nat) : ℝ) = p.toInt * 2 ^ (31 + sh.toInt) := by
  rw [radicand, Nat.cast_mul, Nat.cast_pow, ← zpow_natCast, Int.toNat_of_nonneg (exponent_nonneg sh), toInt_eq_toNat h]
  rfl

/-- The root of SQRT in its rounding. -/
theorem floor_root (floorRm : Bool) (sh : BitVec 5) {p : Word} (h : 0 ≤ p.toInt) :
    (if floorRm then (isqrt (radicand sh p) : Int) else (isqrt (4 * radicand sh p) + 1) / 2) =
      if floorRm then ⌊Real.sqrt (p.toInt * 2 ^ (31 + sh.toInt))⌋
      else ⌊Real.sqrt (p.toInt * 2 ^ (31 + sh.toInt)) + 1 / 2⌋ := by
  have hlt := radicand_lt sh h
  rw [← radicand_cast sh h, isqrt_eq _ (by omega), isqrt_eq _ (by omega), floor_sqrt, floor_sqrt_half]
  split <;> rfl

theorem sqrtResult_of_nonneg (rm : BitVec 2) (sh : BitVec 5) (p : Word) (h : 0 ≤ p.toInt) : sqrtResult rm sh p =
    (let root := Real.sqrt (p.toInt * 2 ^ (31 + sh.toInt))
     let y := if rm.getLsbD 0 then ⌊root⌋ else ⌊root + 1 / 2⌋
     (BitVec.ofInt 32 (inRange 32 (rm.getLsbD 1) y), inRange 32 (rm.getLsbD 1) y != y)) := by
  rw [sqrtResult, BitVec.msb_eq_toInt, decide_eq_false (not_lt.2 h), if_neg (by decide)]
  dsimp only
  rw [← floor_root (rm.getLsbD 0) sh h, narrow_int]
  rfl

/-- Settles O5: DIV by its divisor (`divResult_of_ne_zero`, `divResult_zero`), SQRT by its operand's sign
(`sqrtResult_of_neg`, `sqrtResult_of_nonneg`). -/
theorem engineDivideAndRoot : Obligations.EngineDivideAndRoot := by
  unfold Obligations.EngineDivideAndRoot
  intro s x cc rm sh d a b hexec
  exact ⟨fun h => hexec.result (divResult_of_ne_zero _ _ _ _ h), fun h => hexec.result (divResult_zero _ _ _ _ h),
    fun h => hexec.result (sqrtResult_of_neg _ _ _ h), fun h => hexec.result (sqrtResult_of_nonneg _ _ _ h)⟩

end Sys2Proof.Machine
end

section
/-! SUPPORT. The family of 04_control_engines.md: jumps, stacks, and instructions that do not execute (R118, R120, R121). -/

namespace Sys2Proof.Machine

/-! ## Jumps, calls and loops (R120, R121) -/

theorem run_bne_false {e : Engine} (h : e.run = .running) : (e.run != .running) = false := by simp [h]

theorem run_bne_true {e : Engine} (h : e.run ≠ .running) : (e.run != .running) = true := by simp [h]

section
variable {s : State} {x : Site} {cc : BitVec 4}

theorem exec_br (h : s.executes x cc) (tgt : BitVec 12) :
    exec (.br x cc tgt) s = .next (s.putEng x { s.eng x with pc := tgt, cycle := (s.eng x).cycle + 2 }) := by
  obtain ⟨hrun, hcond⟩ := h
  show execBr x cc tgt s = _
  simp only [execBr, run_bne_false hrun, hcond]
  rfl

theorem exec_br_skipped (hrun : (s.eng x).run = .running) (hcond : condHolds (s.eng x).fl (s.eng x).fst cc = false)
    (tgt : BitVec 12) : exec (.br x cc tgt) s = .next (s.putEng x ((s.eng x).retire 1)) := by
  show execBr x cc tgt s = _
  simp only [execBr, run_bne_false hrun, hcond]
  rfl

theorem exec_call (hrun : (s.eng x).run = .running) (hcalls : (s.eng x).calls.length < 8) (tgt : BitVec 12) :
    exec (.call x tgt) s = .next (s.putEng x { s.eng x with
      pc := tgt, loops := (loopNext (s.eng x).pc (s.eng x).loops).2,
      calls := (loopNext (s.eng x).pc (s.eng x).loops).1 :: (s.eng x).calls, cycle := (s.eng x).cycle + 2 }) := by
  show execCall x tgt s = _
  simp only [execCall, run_bne_false hrun, Nat.not_le.2 hcalls]
  rfl

theorem exec_call_ninth (hrun : (s.eng x).run = .running) (hcalls : 8 ≤ (s.eng x).calls.length) (tgt : BitVec 12) :
    exec (.call x tgt) s = .fault .engineStackRule := by
  show execCall x tgt s = _
  simp only [execCall, run_bne_false hrun, hcalls]
  rfl

theorem exec_ret (h : s.executes x cc) {r : BitVec 12} {t : List (BitVec 12)} (hcalls : (s.eng x).calls = r :: t) :
    exec (.ret x cc) s = .next (s.putEng x { s.eng x with pc := r, calls := t, cycle := (s.eng x).cycle + 2 }) := by
  obtain ⟨hrun, hcond⟩ := h
  show execRet x cc s = _
  simp only [execRet, run_bne_false hrun, hcond, hcalls]
  rfl

theorem exec_ret_uncalled (h : s.executes x cc) (hcalls : (s.eng x).calls = []) :
    exec (.ret x cc) s = .fault .engineStackRule := by
  obtain ⟨hrun, hcond⟩ := h
  show execRet x cc s = _
  simp only [execRet, run_bne_false hrun, hcond, hcalls]
  rfl

theorem exec_ret_skipped (hrun : (s.eng x).run = .running) (hcond : condHolds (s.eng x).fl (s.eng x).fst cc = false) :
    exec (.ret x cc) s = .next (s.putEng x ((s.eng x).retire 1)) := by
  show execRet x cc s = _
  simp only [execRet, run_bne_false hrun, hcond]
  rfl

theorem exec_loop (hrun : (s.eng x).run = .running) (hloops : (s.eng x).loops.length < 2) (count : BitVec 10)
    (tgt : BitVec 12) : exec (.loop x count tgt) s = .next (s.putEng x { s.eng x with
      pc := (s.eng x).pc + 1, loops := ⟨(s.eng x).pc + 1, tgt, count.toNat⟩ :: (s.eng x).loops,
      cycle := (s.eng x).cycle + 1 }) := by
  show execLoop x count tgt s = _
  simp only [execLoop, run_bne_false hrun, Nat.not_le.2 hloops]
  rfl

theorem exec_loop_third (hrun : (s.eng x).run = .running) (hloops : 2 ≤ (s.eng x).loops.length) (count : BitVec 10)
    (tgt : BitVec 12) : exec (.loop x count tgt) s = .fault .engineStackRule := by
  show execLoop x count tgt s = _
  simp only [execLoop, run_bne_false hrun, hloops]
  rfl

end

/-- Settles O6: the next word is `loopNext`'s, which is `LoopStep` (`loopStep`); the jumps and stacks as their own lemmas give
them. -/
theorem engineFlow : Obligations.EngineFlow := by
  unfold Obligations.EngineFlow
  intro s x cc count tgt hexec
  have hrun := hexec.1
  have hloop := loopStep (s.eng x).pc (s.eng x).loops
  exact ⟨⟨_, _, hloop, hexec.instr 1 _⟩, exec_br hexec tgt, fun hcalls => ⟨_, _, hloop, exec_call hrun hcalls tgt⟩,
    fun r t => exec_ret hexec, fun hloops => exec_loop hrun hloops count tgt, fun hcalls => exec_call_ninth hrun hcalls tgt,
    fun hloops => exec_loop_third hrun hloops count tgt, exec_ret_uncalled hexec⟩

/-! ## Conditions (R118) -/

theorem State.instrC_false (s : State) (x : Site) (cc : BitVec 4) (f : Engine → Engine × Bool)
    (h : (s.eng x).run = .running) (hc : condHolds (s.eng x).fl (s.eng x).fst cc = false) :
    s.instrC x cc f = .next (s.putEng x ((s.eng x).retire 1)) := by
  rw [State.instrC, s.runIf_false x cc 1 _ h hc]

theorem condHolds_all (g : Flags) (fst : Bool) : (List.range 16).map (fun n => condHolds g fst (BitVec.ofNat 4 n)) =
    [true, g.z, !g.z, g.n, !g.n, !g.n && !g.z, g.n || g.z, g.v, !g.v, g.tu, g.ts, g.tt, g.tx,
     g.tu || g.ts || g.tt || g.tx, !g.tu && !g.ts && !g.tt && !g.tx, fst] := by
  have hnone : (!g.tu && !g.ts && !g.tt && !g.tx) = !(g.tu || g.ts || g.tt || g.tx) := by simp only [Bool.not_or]
  rw [hnone]
  rfl

/-- Where its condition is false, an instruction that has one is a NOP of one cycle (R118). -/
theorem exec_of_condition_false {s : State} {x : Site} {f : WordFields} {i : Instr} (h : instrOf x f = some i)
    (hrun : (s.eng x).run = .running) (hcond : condHolds (s.eng x).fl (s.eng x).fst f.cc = false)
    (hop : f.op ∉ [0x01, 0x0B, 0x39, 0x3B]) : exec i s = .next (s.putEng x ((s.eng x).retire 1)) := by
  have hbne := run_bne_false hrun
  have hop : f.op.toNat ∉ [0x01, 0x0B, 0x39, 0x3B] := fun hv => hop (by simpa [← BitVec.toNat_inj] using hv)
  unfold instrOf at h
  split at h
  -- LDI, SEL, CALL and LOOP have no condition.
  case h_2 hv | h_12 hv | h_38 hv | h_40 hv => exact absurd (hv ▸ hop) (by decide)
  -- IN
  case h_8 =>
    cases h
    show execIn x f.cc _ _ s = _
    simp only [execIn, hbne, hcond]
    rfl
  -- OUT and PUB act on the channel.
  case h_9 | h_10 =>
    cases h
    exact congrArg _ (s.runIf_false x f.cc 1 _ hrun hcond)
  -- MUL, MAC, MSU, DMAC and PMAC name coefficients.
  case h_25 | h_29 | h_30 | h_31 | h_32 =>
    cases h
    exact s.instrC_false x f.cc _ hrun hcond
  -- BR
  case h_37 =>
    cases h
    exact exec_br_skipped hrun hcond _
  case h_39 =>
    cases h
    exact exec_ret_skipped hrun hcond
  -- TEND
  case h_41 =>
    cases h
    show execTend x f.cc s = _
    simp only [execTend, hbne, hcond]
    rfl
  case h_42 => cases h
  all_goals
    cases h
    exact s.instr_false x f.cc _ _ hrun hcond

/-- An engine that does not run executes nothing (R118, R121). -/
theorem exec_of_not_running {s : State} {x : Site} {f : WordFields} {i : Instr} (h : instrOf x f = some i)
    (hrun : (s.eng x).run ≠ .running) : exec i s = .next s := by
  have hbne := run_bne_true hrun
  unfold instrOf at h
  split at h
  -- IN, the jumps and TEND look at the engine themselves.
  case h_8 | h_37 | h_38 | h_39 | h_40 | h_41 =>
    cases h
    exact if_pos hbne
  case h_42 => cases h
  all_goals
    cases h
    exact congrArg _ (s.runIf_stopped x _ _ _ hrun)

/-- Settles O7: the conditions are `condHolds`, an instruction with a false one is `exec_of_condition_false`, one of an engine
that does not run `exec_of_not_running`. -/
theorem engineConditions : Obligations.EngineConditions := by
  unfold Obligations.EngineConditions
  exact ⟨condHolds_all, fun s x f i h => ⟨exec_of_condition_false h, exec_of_not_running h⟩⟩

end Sys2Proof.Machine
end

section
/-! SUPPORT. The family of 04_control_engines.md: IN, OUT and PUB by port (R24, R25, R122 to R126). -/

namespace Sys2Proof.Machine

/-! ## What a port returns (R122) -/

theorem State.portIn_slot (s : State) (x : Site) (j : Fin 64) :
    s.portIn x j.val = some (((s.eng x).slots[j]).data, ((s.eng x).slots[j]).tag) :=
  dif_pos j.isLt

/-- A set-point slot as FE reads it: slot 0 with the pack deviation (R213). -/
theorem State.portIn_setPoint (s : State) (x : Site) (hx : x.eng = .fe) (j : Fin 16) :
    s.portIn x (0x40 + j.val) = some (BitVec.ofInt 32 ((s.chan x.ch).sp[j].toInt +
      if j.val = 0 then (s.chan x.ch).packDev else 0), 0) := by
  have hslot : (0x40 + j.val) % 16 = j.val := by omega
  have hfirst : (0x40 + j.val = 0x40) = (j.val = 0) := by simp
  rw [State.portIn, dif_neg (by omega), if_pos (by omega)]
  simp only [hx, hslot, hfirst, if_true]
  rfl

theorem State.portIn_law (s : State) (x : Site) {m : Nat} (hlo : 0x100 ≤ m) (hhi : m < 0x400)
    (hrow : (findRow chanRows (0x1400 + 4 * (m - 0x100))).isSome) :
    s.portIn x m = some ((s.chan x.ch).lawPort (0x1400 + 4 * (m - 0x100)), 0) := by
  obtain ⟨row, hrow⟩ := Option.isSome_iff_exists.1 hrow
  rw [State.portIn, dif_neg (by omega), if_neg (by omega), if_neg (by omega), if_neg (by omega), if_neg (by omega),
    if_neg (by omega), if_neg (by omega), if_pos (by simp [hlo, hhi]), hrow]

theorem Chan.lawPort_plain (c : Chan) {off : Nat} (himax : off ≠ Reg.LAW_IMAX) (hith : off ≠ Reg.LAW_TVI_ITH) :
    c.lawPort off = c.get off := by
  simp [Chan.lawPort, himax, hith]

/-! ## Mailboxes (R123) -/

/-- The engine after a mailbox read that gives `w` at cycle `n`. -/
def Engine.mailed (e : Engine) (d : VReg) (w : Word) (v : Bool) (n : Nat) : Engine :=
  { e with v := e.v.set d w, run := .running, cycle := max e.cycle n,
           fl := { e.fl with v := v, tu := false, ts := false, tt := false, tx := false } }

theorem State.mailRead_some (s : State) (x : Site) (d : VReg) (j : Fin 4) {w : Word} {n : Nat}
    (h : (s.eng x).mail[j] = some ⟨w, n⟩) : s.mailRead x d j = some (s.putEng x ((s.eng x).mailed d w false n)) := by
  have hmail : ((s.chan x.ch).engine x.eng).mail[j] = some ⟨w, n⟩ := h
  simp only [State.mailRead, hmail]
  rfl

theorem State.mailRead_idle (s : State) (x : Site) (d : VReg) (j : Fin 4) (h : (s.eng x).mail[j] = none)
    (ho : ((s.chan x.ch).engine (otherEng x.eng)).run = .idle) : s.mailRead x d j =
      some ((s.putEng x ((s.eng x).mailed d 0 true ((s.chan x.ch).engine (otherEng x.eng)).cycle)).countCh
        x.ch Reg.ENG_CNT true false) := by
  have hmail : ((s.chan x.ch).engine x.eng).mail[j] = none := h
  simp only [State.mailRead, hmail, ho, if_true]
  rfl

theorem State.mailRead_waits (s : State) (x : Site) (d : VReg) (j : Fin 4) (h : (s.eng x).mail[j] = none)
    (ho : ((s.chan x.ch).engine (otherEng x.eng)).run ≠ .idle) : s.mailRead x d j = none := by
  have hmail : ((s.chan x.ch).engine x.eng).mail[j] = none := h
  simp only [State.mailRead, hmail, ho, if_false]

theorem Chan.put_setEngine (c : Chan) (o : Nat) (w : Word) (g : Eng) (e : Engine) :
    (c.put o w).setEngine g e = (c.setEngine g e).put o w := by
  cases g <;> rfl

/-- A count without a record does not touch the engines. -/
theorem State.putEng_countCh (s : State) (x : Site) (e : Engine) (f : Engine → Engine) (reg : Nat) (hi : Bool) :
    ((s.putEng x e).countCh x.ch reg hi false).onEng x f = (s.putEng x (f e)).countCh x.ch reg hi false := by
  have hcount : ∀ t : State, t.countCh x.ch reg hi false =
      t.putChan x.ch ((t.chan x.ch).put reg (counterStep ((t.chan x.ch).get reg) hi)) := fun t => rfl
  simp only [hcount, State.onEng_eq, State.putEng_eq, State.eng, State.chan_putChan_same, State.putChan_putChan,
    Chan.get_setEngine, Chan.engine_put, Chan.engine_setEngine, Chan.put_setEngine, Chan.setEngine_setEngine]

section
variable {s : State} {x : Site} {cc : BitVec 4} {d : VReg} {m : BitVec 11} {j : Fin 4}

theorem execIn_written (h : s.executes x cc) (hm : m.toNat = 0x50 + j.val) {w : Word} {n : Nat}
    (hmail : (s.eng x).mail[j] = some ⟨w, n⟩) :
    exec (.inPort x cc d m) s = .next (s.putEng x (((s.eng x).mailed d w false n).retire 1)) := by
  rw [execIn_mail s x cc d m h j hm, s.mailRead_some x d j hmail]
  dsimp only
  rw [State.onEng_eq, State.eng_putEng, State.putEng_putEng]

theorem execIn_empty (h : s.executes x cc) (hm : m.toNat = 0x50 + j.val) (hmail : (s.eng x).mail[j] = none)
    (ho : ((s.chan x.ch).engine (otherEng x.eng)).run = .idle) : exec (.inPort x cc d m) s =
      .next ((s.putEng x (((s.eng x).mailed d 0 true ((s.chan x.ch).engine (otherEng x.eng)).cycle).retire 1)).countCh
        x.ch Reg.ENG_CNT true false) := by
  rw [execIn_mail s x cc d m h j hm, s.mailRead_idle x d j hmail ho]
  dsimp only
  rw [State.putEng_countCh]

theorem execIn_waits (h : s.executes x cc) (hm : m.toNat = 0x50 + j.val) (hmail : (s.eng x).mail[j] = none)
    (ho : ((s.chan x.ch).engine (otherEng x.eng)).run ≠ .idle) :
    exec (.inPort x cc d m) s = .next (s.putEng x { s.eng x with run := .waiting d j }) := by
  rw [execIn_mail s x cc d m h j hm, s.mailRead_waits x d j hmail ho]
  rfl

end

theorem execMailboxWaitEnd_written {u : State} {x : Site} {r : VReg} {j : Fin 4} {w : Word} {n : Nat}
    (hrun : (u.eng x).run = .waiting r j) (h : (u.eng x).mail[j] = some ⟨w, n⟩) :
    exec (.mailboxWaitEnd x) u = .next (u.putEng x (((u.eng x).mailed r w false n).retire 1)) := by
  show execMailboxWaitEnd x u = _
  simp only [execMailboxWaitEnd, hrun, u.mailRead_some x r j h]
  rw [State.onEng_eq, State.eng_putEng, State.putEng_putEng]

/-! ## What a write of a port does (R122, R125, R126) -/

theorem exec_outPort {s : State} {x : Site} {cc : BitVec 4} (h : s.executes x cc) (a b : VReg) (m : BitVec 11) :
    exec (.outPort x cc a b m) s =
      .next ((s.portOut x m.toNat ((s.eng x).rv a) ((s.eng x).rv b)).onEng x fun e => e.retire 1) :=
  congrArg _ (s.runIf_true x cc 1 _ h.1 h.2)

/-- The entry that a port of a block of ports from `b` writes. -/
theorem setIfInBounds_offset {α : Type} {n : Nat} (v : Vector α n) (b : Nat) (j : Fin n) (y : α) :
    v.setIfInBounds (b + j.val - b) y = v.set j y := by
  rw [Nat.add_sub_cancel_left]
  exact setIf_eq v j.val y j.isLt

theorem inBlock {b n : Nat} (j : Fin n) : (decide (b ≤ b + j.val) && decide (b + j.val < b + n)) = true := by
  simp

theorem notInBlock {b n m : Nat} (h : m < b ∨ n ≤ m) : (decide (b ≤ m) && decide (m < n)) ≠ true := by
  simp only [ne_eq, Bool.and_eq_true, decide_eq_true_eq]
  omega

section
variable (s : State) (ch : ChId) (X Y : Word)

theorem State.portOut_duty (j : Fin 12) : s.portOut ⟨ch, .fe⟩ (0x400 + j.val) X Y =
    s.onChan ch fun c => { c with duty := { c.duty with words := c.duty.words.set j X } } := by
  simp only [State.portOut, setIfInBounds_offset]
  exact if_pos (inBlock j)

theorem State.portOut_dutyDone : s.portOut ⟨ch, .fe⟩ 0x40F X Y = s.dutyDone ch := rfl

/-- DUTY_DONE in time fixes the duty words (R125). -/
theorem State.dutyDone_inTime (hdone : (s.chan ch).duty.done = false)
    (hlead : (s.chan ch).fe.cycle + 8 ≤ (s.chan ch).fld Reg.CH_TICK_DIV Fld.CH_TICK_DIV_LEAD) : s.dutyDone ch =
      s.onChan ch fun c => { c with duty := { c.duty with loaded := c.duty.words, done := true } } := by
  rw [State.dutyDone, if_neg (by simp [hdone]), if_neg (Nat.not_lt.2 hlead)]
  rfl

theorem State.dutyDone_again (hdone : (s.chan ch).duty.done = true) : s.dutyDone ch = s := if_pos hdone

/-- FE writes an entry of ME's mailbox with its cycle (R123). -/
theorem State.portOut_mailFe (j : Fin 4) : s.portOut ⟨ch, .fe⟩ (0x420 + j.val) X Y =
    s.onEng ⟨ch, .me⟩ fun e => { e with mail := e.mail.set j (some ⟨X, (s.eng ⟨ch, .fe⟩).cycle⟩) } := by
  simp only [State.portOut, setIfInBounds_offset]
  rw [if_neg (notInBlock (by omega)), if_neg (by omega), if_pos (inBlock j)]
  rfl

/-- ME writes an entry of FE's mailbox with its cycle (R123). -/
theorem State.portOut_mailMe (j : Fin 4) : s.portOut ⟨ch, .me⟩ (0x420 + j.val) X Y =
    s.onEng ⟨ch, .fe⟩ fun e => { e with mail := e.mail.set j (some ⟨X, (s.eng ⟨ch, .me⟩).cycle⟩) } := by
  simp only [State.portOut, setIfInBounds_offset]
  rw [if_neg (notInBlock (by omega)), if_pos (inBlock j)]
  rfl

theorem State.portOut_setPoint (j : Fin 16) : s.portOut ⟨ch, .me⟩ (0x410 + j.val) X Y =
    s.onChan ch fun c => { c with spNext := c.spNext.set j X } := by
  simp only [State.portOut, setIfInBounds_offset]
  exact if_pos (inBlock j)

theorem State.portOut_track (g : Eng) : s.portOut ⟨ch, g⟩ 0x481 X Y = s.onEng ⟨ch, g⟩ fun e => { e with track := X } := by
  cases g <;> rfl

theorem State.portOut_event (g : Eng) : s.portOut ⟨ch, g⟩ 0x480 X Y = s.lawEvent ⟨ch, g⟩ X Y := by
  cases g <;> rfl

end

theorem recData_word (w : Word) : recData [(0, 4, w.toNat)] = w.setWidth 256 := by
  apply BitVec.eq_of_toNat_eq
  simp [recData, Nat.mod_eq_of_lt (show w.toNat < 4294967296 from w.isLt)]

theorem State.lawEvent_first {s : State} {x : Site} {X : Word} (Y : Word) (hsent : (s.eng x).eventSent = false)
    (hcode : (X.extractLsb' 0 16).toNat ∉ [0, 0xF0, 0xFFFF]) : s.lawEvent x X Y =
      (s.onEng x fun e => { e with eventSent := true }).record 0x05 x.ch.val (X.extractLsb' 0 16).toNat
        (X.extractLsb' 16 2).toNat (Y.setWidth 256) := by
  obtain ⟨hzero, hreject, hmax⟩ : (X.extractLsb' 0 16).toNat ≠ 0 ∧ (X.extractLsb' 0 16).toNat ≠ 0xF0 ∧
      (X.extractLsb' 0 16).toNat ≠ 0xFFFF := by simpa using hcode
  simp only [State.lawEvent, hsent, hzero, hreject, hmax, recData_word]
  rfl

/-- The bit of ENG_STAT that shows a dropped law event (R126). -/
def dropBit : Eng → BitField
  | .fe => Fld.ENG_STAT_FE_EDROP
  | .me => Fld.ENG_STAT_ME_EDROP

theorem dropBit_fits (g : Eng) : (dropBit g).lo + (dropBit g).width ≤ 32 ∧ 0 < (dropBit g).width := by
  cases g <;> decide

/-- A second event of the tick is dropped and reported (R126). -/
theorem State.lawEvent_second {s : State} {x : Site} (X Y : Word) (hsent : (s.eng x).eventSent = true) : s.lawEvent x X Y =
      (s.onEng x fun e => { e with eventSent := true }).onChan x.ch fun c => c.setFld Reg.ENG_STAT (dropBit x.eng) 1 := by
  simp only [State.lawEvent, hsent, Bool.true_or, if_true]
  obtain ⟨ch, g⟩ := x
  cases g <;> rfl

theorem Chan.bit_setEngine (c : Chan) (g : Eng) (e : Engine) (o : Nat) (f : BitField) :
    (c.setEngine g e).bit o f = c.bit o f := by
  simp only [Chan.bit, Chan.fld, Chan.get_setEngine]

theorem exec_outPort_secondEvent {s : State} {ch : ChId} {g : Eng} {cc : BitVec 4} {a b : VReg} {m : BitVec 11}
    (hexec : s.executes ⟨ch, g⟩ cc) (hm : m.toNat = 0x480) (hsent : (s.eng ⟨ch, g⟩).eventSent = true) :
    ∃ t, exec (.outPort ⟨ch, g⟩ cc a b m) s = .next t ∧ t.rcd = s.rcd ∧
      (t.chan ch).bit Reg.ENG_STAT (dropBit g) = true := by
  refine ⟨_, exec_outPort hexec a b m, ?_, ?_⟩
  · rw [hm, State.portOut_event, State.lawEvent_second _ _ hsent]
    rfl
  · rw [hm, State.portOut_event, State.lawEvent_second _ _ hsent]
    simp only [State.onEng_eq, State.onChan_eq, State.putEng_eq, State.chan_putChan_same, Chan.bit_setEngine]
    obtain ⟨hlo, hwidth⟩ := dropBit_fits g
    exact Chan.bit_setFld _ _ _ hlo hwidth

/-- The fabric slots of an engine's published quantities begin here (R24, R25). -/
def pubBase : Eng → Nat
  | .fe => 0x20
  | .me => 0x60

theorem exec_pub {s : State} {x : Site} {cc : BitVec 4} (h : s.executes x cc) (a b : VReg) (m : BitVec 11) :
    exec (.pub x cc a b m) s = .next ((s.onChan x.ch fun c => c.post (pubBase x.eng + (m.extractLsb' 0 6).toNat)
      ((s.eng x).rv a) (((s.eng x).rv b).extractLsb' 0 4)).onEng x fun e => e.retire 1) := by
  have hquantity : (m.extractLsb' 0 6).toNat = m.toNat % 64 := by simp [BitVec.extractLsb'_toNat]
  rw [hquantity, ← BitVec.setWidth_eq_extractLsb' (by decide)]
  exact congrArg _ (s.runIf_true x cc 1 _ h.1 h.2)

/-- Settles O8: IN by its port (`execIn_port`, `execIn_mail`), OUT by what its port does (`exec_outPort`), PUB by `exec_pub`. -/
theorem enginePorts : Obligations.EnginePorts := by
  unfold Obligations.EnginePorts
  refine ⟨fun s x cc d m hexec => ?_, fun s ch cc a b m => ?_⟩
  · have port := fun hm w tag => execIn_port s x cc d m hexec hm w tag
    refine ⟨fun j hm => port (by omega) _ _ (by rw [hm]; exact s.portIn_slot x j),
      fun hfe => ⟨fun hm => port (by omega) _ _ ?_, fun j hj hm => port (by omega) _ _ ?_⟩,
      fun j hm => ⟨fun w n => execIn_written hexec hm, execIn_empty hexec hm, execIn_waits hexec hm⟩,
      fun hm => port (by omega) _ _ (by rw [hm]; rfl),
      fun hm => port (by omega) _ _ (by rw [hm]; rfl), fun hm => port (by omega) _ _ (by rw [hm]; rfl),
      fun hm => port (by omega) _ _ (by rw [hm]; rfl), fun off hlo hhi hoff hrow himax hith => port (by omega) _ _ ?_,
      fun u r j w n => execMailboxWaitEnd_written⟩
    · exact hm ▸ s.portIn_setPoint x hfe 0
    · have hne : j.val ≠ 0 := fun e => hj (Fin.ext e)
      rw [hm, s.portIn_setPoint x hfe j, if_neg hne, add_zero, BitVec.ofInt_toInt]
    · rw [s.portIn_law x hlo hhi (hoff ▸ hrow), ← hoff, Chan.lawPort_plain _ himax hith]
  · refine ⟨fun hexec => ⟨fun j hm => ?_, fun hm hdone hlead => ?_, fun hm hdone => ?_, fun j hm => ?_⟩,
      fun hexec => ⟨fun j hm => ?_, fun j hm => ?_⟩, fun g hexec => ⟨fun hm => ?_, fun hm hsent hcode => ?_,
        fun hm hsent => ?_, exec_pub hexec a b m⟩⟩
    · rw [exec_outPort hexec, hm, State.portOut_duty]
    · rw [exec_outPort hexec, hm, State.portOut_dutyDone, s.dutyDone_inTime ch hdone hlead]
    · rw [exec_outPort hexec, hm, State.portOut_dutyDone, s.dutyDone_again ch hdone]
    · rw [exec_outPort hexec, hm, State.portOut_mailFe]
    · rw [exec_outPort hexec, hm, State.portOut_setPoint]
    · rw [exec_outPort hexec, hm, State.portOut_mailMe]
    · rw [exec_outPort hexec, hm, State.portOut_track, State.onEng_eq, State.onEng_eq, State.eng_putEng, State.putEng_putEng]
      rfl
    · rw [exec_outPort hexec, hm, State.portOut_event, State.lawEvent_first _ hsent hcode]
    · have hdrop := exec_outPort_secondEvent (a := a) (b := b) hexec hm hsent
      cases g <;> exact hdrop

end Sys2Proof.Machine
end

section
/-! SUPPORT. The family of 04_control_engines.md: every command answers a next state, but for the nesting of R121. -/

namespace Sys2Proof.Machine

/-! ## Arms of the dispatch -/

theorem completes_next (s : State) : ∃ t, (.next s : Result) = .next t := ⟨s, rfl⟩

theorem completes_ite {c : Prop} [Decidable c] {r q : Result} (hr : ∃ t, r = .next t) (hq : ∃ t, q = .next t) :
    ∃ t, ite c r q = .next t := by
  split <;> assumption

section
variable {s : State} {x : Site}

theorem exec_call_completes {tgt : BitVec 12} (h : ¬ s.breaksStacks (.call x tgt)) : ∃ t, exec (.call x tgt) s = .next t := by
  by_cases hrun : (s.eng x).run = .running
  · exact ⟨_, exec_call hrun (Nat.not_le.1 fun hcalls => h ⟨hrun, hcalls⟩) tgt⟩
  · exact ⟨s, if_pos (run_bne_true hrun)⟩

theorem exec_loop_completes {count : BitVec 10} {tgt : BitVec 12} (h : ¬ s.breaksStacks (.loop x count tgt)) :
    ∃ t, exec (.loop x count tgt) s = .next t := by
  by_cases hrun : (s.eng x).run = .running
  · exact ⟨_, exec_loop hrun (Nat.not_le.1 fun hloops => h ⟨hrun, hloops⟩) count tgt⟩
  · exact ⟨s, if_pos (run_bne_true hrun)⟩

theorem exec_ret_completes {cc : BitVec 4} (h : ¬ s.breaksStacks (.ret x cc)) : ∃ t, exec (.ret x cc) s = .next t := by
  by_cases hrun : (s.eng x).run = .running
  · cases hcond : condHolds (s.eng x).fl (s.eng x).fst cc with
    | false => exact ⟨_, exec_ret_skipped hrun hcond⟩
    | true =>
      cases hcalls : (s.eng x).calls with
      | nil => exact absurd ⟨⟨hrun, hcond⟩, hcalls⟩ h
      | cons r t => exact ⟨_, exec_ret ⟨hrun, hcond⟩ hcalls⟩
  · exact ⟨s, if_pos (run_bne_true hrun)⟩

end

/-- Beside the three commands that work on the stacks, an arm is a tree of conditions and of cases of what the state keeps,
with next states at its ends. -/
theorem exec_completes {i : Instr} {s : State} (h : ¬ s.breaksStacks i) : ∃ t, exec i s = .next t := by
  cases i
  case call => exact exec_call_completes h
  case loop => exact exec_loop_completes h
  case ret => exact exec_ret_completes h
  case tickBoundary | inPort | mailboxWaitEnd | chainOutput | engDdatReadServe | packDuplicate | tordExpiry | desatWindowClose |
      channelStart | rampSegmentEnd | mirrorFrameReceive | leashStateChange | leashReadbackFault | safetyParamWrite |
      postprocDone | recordWrite | persistBatchCommit | ppsEdge | imageVerifyDone | repairLoadEnd | fuseOpDone |
      paramSaveDone | claimCheckEnd =>
    simp only [exec, execTickBoundary, execIn, execMailboxWaitEnd, execChainOutput, execEngDdatReadServe, execPackDuplicate,
      execTordExpiry, execDesatWindowClose, execChannelStart, execRampSegmentEnd, execMirrorFrameReceive,
      execLeashStateChange, execLeashReadbackFault, execSafetyParamWrite, execPostprocDone, execRecordWrite,
      execPersistBatchCommit, execPpsEdge, execImageVerifyDone, execRepairLoadEnd, execFuseOpDone, execParamSaveDone,
      execClaimCheckEnd]
    repeat' first | exact completes_next _ | split
  all_goals
    clear h
    apply_rules [completes_next, completes_ite]

theorem exec_of_breaksStacks {i : Instr} {s : State} (h : s.breaksStacks i) : exec i s = .fault .engineStackRule := by
  cases i with
  | call x tgt =>
    obtain ⟨hrun, hcalls⟩ := h
    exact exec_call_ninth hrun hcalls tgt
  | loop x count tgt =>
    obtain ⟨hrun, hloops⟩ := h
    exact exec_loop_third hrun hloops count tgt
  | ret x cc =>
    obtain ⟨hexec, hcalls⟩ := h
    exact exec_ret_uncalled hexec hcalls
  | _ => exact False.elim h

/-- Settles O56: every arm ends in a next state (`exec_completes`), but for the nesting that R121 forbids
(`exec_of_breaksStacks`). -/
theorem everyCommandCompletes : Obligations.EveryCommandCompletes := by
  unfold Obligations.EveryCommandCompletes
  exact fun i s => ⟨exec_completes, exec_of_breaksStacks⟩

end Sys2Proof.Machine
end

section
/-! SUPPORT. The family of 05_grid_forming_law.md: the release of LIM, a measurement beyond its tolerance, and a SAFE cause that
arises (R150, R164, R172, R189). -/

namespace Sys2Proof.Machine

/-! ## The law's status word -/

/-- A channel whose law shows the status word `w`, posted as quantity 0x20 (R172). -/
def Chan.postStatus (c : Chan) (w : Word) : Chan := ({ c with law := { c.law with status := w } } : Chan).post 0x20 w 0

theorem Chan.fabGet_postStatus (c : Chan) (w : Word) :
    (c.postStatus w).fabGet 0x20 = ⟨w, 0, c.route 0x20, 0, c.posts + 1⟩ := Chan.fabGet_postAged ..

/-- The release of LIM in the tick in which it is due (R150). -/
theorem exec_limRelease {s : State} {ch : ChId} (hon : (s.chan ch).law.on = true)
    (hlim : (s.chan ch).law.status.getLsbD 0 = true)
    (hrun : (s.chan ch).fld Reg.LAW_TVI_REL Fld.LAW_TVI_REL_TREL ≤ (s.chan ch).law.relRun) :
    exec (.limRelease ch) s =
      .next (s.putChan ch ((s.chan ch).postStatus ((s.chan ch).law.status &&& ~~~1))) := by
  refine if_pos ?_
  rw [hon, hlim, decide_eq_true hrun]
  rfl

/-! ## A measurement beyond its tolerance -/

theorem Chan.classC_iff (c : Chan) (k : Nat) : c.classC k = true ↔ k < 10 ∧ (k = 7 → c.threeLevel = true) := by
  by_cases hk : k = 7 <;> simp [Chan.classC, hk]

/-- A tolerance is exceeded by the first tick beyond it (R164). -/
theorem Chan.tagsExceed_iff (c : Chan) (k : Fin 64) : c.tagsExceed k = true ↔
    c.fld Reg.LAW_TAG Fld.LAW_TAG_STALE_MAX < c.tags[k].stale ∨ c.fld Reg.LAW_TAG Fld.LAW_TAG_SAT_MAX < c.tags[k].sat ∨
      c.fld Reg.LAW_TAG Fld.LAW_TAG_BAD_MAX < c.tags[k].bad := by
  simp [Chan.tagsExceed, or_assoc]

/-- The status word with MEAS_LOST and the slot that is lost (R164). -/
def lostStatus (w : Word) (slot : Nat) : Word := setField (setField w Fld.LAW_STAT_MEAS_LOST 1) Fld.LAW_STAT_LOST_SLOT slot

theorem lostStatus_measLost (w : Word) (slot : Nat) : getField (lostStatus w slot) Fld.LAW_STAT_MEAS_LOST = 1 :=
  (getField_setField_ne _ _ _ _ (by decide)).trans (getField_setField _ _ _ (by decide))

theorem lostStatus_lostSlot (w : Word) (slot : BitVec 6) :
    getField (lostStatus w slot.toNat) Fld.LAW_STAT_LOST_SLOT = slot.toNat :=
  (getField_setField _ _ _ (by decide)).trans (Nat.mod_eq_of_lt slot.isLt)

/-- A class C slot beyond its tolerance (R164). -/
theorem exec_measLost {s : State} {ch : ChId} {slot : BitVec 6} (hclass : (s.chan ch).classC slot.toNat = true)
    (hexceed : (s.chan ch).tagsExceed slot.toFin = true) : exec (.measLost ch slot) s =
      .next (s.putChan ch (((s.chan ch).postStatus (lostStatus (s.chan ch).law.status slot.toNat)).capEvent 5)) := by
  refine if_pos ?_
  have hslot : Fin.ofNat 64 slot.toNat = slot.toFin := Fin.ext (Nat.mod_eq_of_lt slot.isLt)
  rw [hclass, hslot, hexceed]
  rfl

/-! ## LAW_STAT at the end of the tick -/

/-- A field whose bits all lie in the mask of a merge is the new word's. -/
theorem getField_merge {m : Word} {f : BitField} (old w : Word) (h : m &&& f.mask = f.mask) :
    getField ((old &&& ~~~m) ||| (w &&& m)) f = getField w f := by
  unfold getField
  congr 1
  apply BitVec.eq_of_getLsbD_eq
  intro i hi
  simp only [BitVec.getLsbD_extractLsb', BitVec.getLsbD_or, BitVec.getLsbD_and, BitVec.getLsbD_not]
  by_cases hlo : f.lo + i < 32
  · have hin : m.getLsbD (f.lo + i) = true := by
      have hbit := congrArg (BitVec.getLsbD · (f.lo + i)) h
      simpa [getLsbD_mask, hlo, hi] using hbit
    simp [hin]
  · simp [BitVec.getLsbD_of_ge _ _ (Nat.le_of_not_lt hlo)]

/-- Which bits of LAW_STAT the copy takes from a status word with MEAS_LOST (R172): the RO bits but READY, MEAS_LOST and
LOST_SLOT. -/
def copiedWhenLost : Word := 0x3F03F7

theorem Chan.copyLawStat_lost {c : Chan} (h : getField (c.fabGet 0x20).data Fld.LAW_STAT_MEAS_LOST = 1) :
    c.copyLawStat = c.put Reg.LAW_STAT
      ((c.get Reg.LAW_STAT &&& ~~~copiedWhenLost) ||| ((c.fabGet 0x20).data &&& copiedWhenLost)) := by
  have hrow : findRow chanRows Reg.LAW_STAT =
      some ⟨0x1500, 1, 0x40000, 1, 0x4, 0x0, 0x3EF, 0x0, 0x0, 0x0, 0x0, 0x3F0410, false⟩ := by decide +kernel
  have hmask : bitsOf 0x3EF &&& ~~~Fld.LAW_STAT_READY.mask |||
      (Fld.LAW_STAT_MEAS_LOST.mask ||| Fld.LAW_STAT_LOST_SLOT.mask) = copiedWhenLost := by decide
  unfold Chan.copyLawStat
  simp only [hrow, h, if_true, hmask]

/-- A field of those bits is the posted word's. -/
theorem Chan.copyLawStat_fld {c : Chan} {f : BitField} (h : getField (c.fabGet 0x20).data Fld.LAW_STAT_MEAS_LOST = 1)
    (hf : copiedWhenLost &&& f.mask = f.mask) : c.copyLawStat.fld Reg.LAW_STAT f = getField (c.fabGet 0x20).data f := by
  rw [Chan.copyLawStat_lost h, Chan.fld, Chan.get_put, if_pos rfl, getField_merge _ _ hf]

/-! ## A SAFE cause that arises -/

/-- The channel of a SAFE cause that arises: LIVE and LATCH take its bit (R189). -/
theorem State.raiseSafe_chan (s : State) (ch : ChId) (b : Nat) : (s.raiseSafe ch b).chan ch =
    ((s.chan ch).put Reg.CH_SAFE_LIVE ((s.chan ch).get Reg.CH_SAFE_LIVE ||| (1#32 <<< b))).put Reg.CH_SAFE_LATCH
      ((s.chan ch).get Reg.CH_SAFE_LATCH ||| (1#32 <<< b)) := by
  have hlatch : Reg.CH_SAFE_LATCH ≠ Reg.CH_SAFE_LIVE := by decide
  unfold State.raiseSafe
  dsimp only
  split <;> simp [hlatch]

/-- A cause whose condition arises (R189). -/
theorem State.setLive_arises {s : State} {ch : ChId} {b : Nat} (h : ((s.chan ch).get Reg.CH_SAFE_LIVE).getLsbD b = false) :
    s.setLive ch b true = s.raiseSafe ch b := by
  simp [State.setLive, h]

theorem getLsbD_or_bit (w : Word) {b : Nat} (h : b < 32) : (w ||| (1#32 <<< b)).getLsbD b = true := by
  simp [h]

/-- A cause that arises is live and latched, and changes no other register of its channel (R189). -/
theorem State.raiseSafe_bits (s : State) (ch : ChId) {b : Nat} (hb : b < 32) :
    (((s.raiseSafe ch b).chan ch).get Reg.CH_SAFE_LIVE).getLsbD b = true ∧
    (((s.raiseSafe ch b).chan ch).get Reg.CH_SAFE_LATCH).getLsbD b = true ∧
    ∀ o, o ≠ Reg.CH_SAFE_LIVE → o ≠ Reg.CH_SAFE_LATCH → ((s.raiseSafe ch b).chan ch).get o = (s.chan ch).get o := by
  have hlive : Reg.CH_SAFE_LIVE ≠ Reg.CH_SAFE_LATCH := by decide
  rw [State.raiseSafe_chan]
  refine ⟨?_, ?_, fun o hnotLive hnotLatch => ?_⟩
  · rw [Chan.get_put, if_neg hlive, Chan.get_put, if_pos rfl]
    exact getLsbD_or_bit _ hb
  · rw [Chan.get_put, if_pos rfl]
    exact getLsbD_or_bit _ hb
  · rw [Chan.get_put, if_neg hnotLatch, Chan.get_put, if_neg hnotLive]

/-- Settles O21: LIM's release and a lost measurement post the status word (`exec_limRelease`, `exec_measLost`), LAW_STAT copies
its fields (`Chan.copyLawStat_fld`), and a cause that arises sets its two bits (`State.raiseSafe_bits`). -/
theorem lawEvents : Obligations.LawEvents := by
  unfold Obligations.LawEvents
  intro s ch slot c
  refine ⟨fun hon hlim hrun => ⟨_, exec_limRelease hon hlim hrun, ?_⟩, fun hlow hseven hexceed =>
    ⟨_, exec_measLost ((Chan.classC_iff _ _).2 ⟨hlow, hseven⟩) ((Chan.tagsExceed_iff _ _).2 hexceed), ?_⟩,
    fun d => ?_, fun u b hfresh => ?_⟩
  · rw [State.chan_putChan_same]
    exact ⟨rfl, rfl, rfl, Chan.fabGet_postStatus ..⟩
  · rw [State.chan_putChan_same]
    exact ⟨rfl, rfl, lostStatus_measLost _ _, lostStatus_lostSlot _ _, Chan.fabGet_postStatus ..⟩
  · intro w hlost
    exact ⟨(Chan.copyLawStat_fld hlost (by decide)).trans hlost, Chan.copyLawStat_fld hlost (by decide)⟩
  · rw [State.setLive_arises hfresh]
    exact u.raiseSafe_bits ch (Nat.lt_trans b.isLt (by decide))

end Sys2Proof.Machine
end

section
/-! SUPPORT. The family of 06_modes_and_handover.md: writes of CH_MODE_REQ, CH_SAFE_LATCH and PWM_TRIP (R175, R191, R256, R281). -/

namespace Sys2Proof.Machine

/-! ## Writes of CH_MODE_REQ -/

/-- A write of one register changes nothing of what another shows with its waiting writes (R32). -/
theorem Chan.peek_put_ne (c : Chan) {o off : Nat} (w : Word) (h : off ≠ o) : (c.put o w).peek off = c.peek off := by
  unfold Chan.peek
  rw [Chan.put_writes, Chan.get_put, if_neg h]

/-- The mode request plays no part in whether the clock's configuration is legal (R281). -/
theorem Chan.lockCause_put_modeReq (c : Chan) (w : Word) (fnom : Nat) :
    (c.put Reg.CH_MODE_REQ w).lockCause fnom = c.lockCause fnom := by
  have hpeek : ∀ {off : Nat}, off ≠ Reg.CH_MODE_REQ → (c.put Reg.CH_MODE_REQ w).peek off = c.peek off := c.peek_put_ne w
  have hfld : ∀ f, (c.put Reg.CH_MODE_REQ w).fld Reg.SDI_CHCTL f = c.fld Reg.SDI_CHCTL f := fun f =>
    congrArg (getField · f) ((c.get_put ..).trans (if_neg (by decide)))
  have hmin : (c.put Reg.CH_MODE_REQ w).minClock = c.minClock := rfl
  have hfreq : ∀ num den, (c.put Reg.CH_MODE_REQ w).freqCause num den = c.freqCause num den := fun num den => by
    unfold Chan.freqCause
    rw [hpeek (by decide), hpeek (by decide), hpeek (by decide), hpeek (by decide), hfld, hfld, hmin]
  unfold Chan.lockCause
  rw [hpeek (by decide), hpeek (by decide)]
  simp only [hfreq]

/-- While ticks run a mode request waits for its boundary (R175). -/
theorem State.modeWrite_ticking {s : State} {ch : ChId} (v : Word) (src : WriteSrc) (hmode : (s.chan ch).mode ≠ 0)
    (hfault : (s.chan ch).faulted = false) (htick : (s.chan ch).ticking = true) : s.modeWrite ch v src =
      (s.onChan ch fun c => { c with writes := c.writes ++ [⟨Reg.CH_MODE_REQ, v, src, none, []⟩] }, .ok) := by
  simp only [State.modeWrite, hmode, hfault, State.enqueueWrite_ticking _ htick, if_false, Bool.false_eq_true]

/-- In OFF an admitted request for HALT starts the channel's clock (R281). -/
theorem State.modeWrite_startsClock {s : State} {ch : ChId} {v : Word} (src : WriteSrc) (hmode : (s.chan ch).mode = 0)
    (hidle : (s.chan ch).pll.phase = .idle) (hhalt : getField v Fld.CH_MODE_REQ_MODE = 1)
    (himage : s.gbit Reg.GSTAT Fld.GSTAT_IMAGE_OK = true) (himg : (s.chan ch).img.isSome = true)
    (hlock : (s.chan ch).lockCause s.fnom = 0) : s.modeWrite ch v src = ((s.onChan ch fun c =>
      c.put Reg.CH_MODE_REQ (c.plainWord Reg.CH_MODE_REQ v)).beginLock ch .fromOff, .ok) := by
  have hstart : (s.onChan ch fun c => c.put Reg.CH_MODE_REQ (c.plainWord Reg.CH_MODE_REQ v)).startCause ch = 0 := by
    unfold State.startCause
    rw [State.onChan_eq, State.chan_putChan_same]
    have hgood : ((s.chan ch).put Reg.CH_MODE_REQ ((s.chan ch).plainWord Reg.CH_MODE_REQ v)).lockCause s.fnom = 0 :=
      (Chan.lockCause_put_modeReq ..).trans hlock
    have hkept : ∀ c, (s.putChan ch c).gbit Reg.GSTAT Fld.GSTAT_IMAGE_OK = true := fun _ => himage
    have hfnom : ∀ c, (s.putChan ch c).fnom = s.fnom := fun _ => rfl
    have hsection : (s.chan ch).img.isNone = false := by rwa [← Option.not_isSome, Bool.not_eq_false']
    simp [hkept, hfnom, hgood, hsection]
  unfold State.modeWrite
  simp only [hmode, hidle, hhalt, if_true, bne_self_eq_false, Bool.and_false, Bool.or_false, show ¬ (1 = 0) by decide, decide_false,
    Bool.false_eq_true, if_false]
  unfold State.haltFromOff
  simp only [hstart, if_true]

/-! ## Writes of CH_SAFE_LATCH and PWM_TRIP -/

theorem State.chanWrite_safeLatch (s : State) (ch : ChId) (v : Word) (src : WriteSrc) :
    s.chanWrite ch Reg.CH_SAFE_LATCH v src = (s.putChan ch ((s.chan ch).clearLatch v), .ok) := by
  have hshut : (s.chan ch).blockShut Reg.CH_SAFE_LATCH = false := by simp [Chan.blockShut, Reg.CH_SAFE_LATCH]
  unfold State.chanWrite
  rw [if_neg (by decide), if_neg (by decide), if_neg (by simp [hshut]), if_neg (by decide), if_pos rfl,
    State.onChan_eq]

/-- The block that holds PWM_TRIP is open outside OFF and REPAIR (R268). -/
theorem State.chanWrite_trip {s : State} {ch : ChId} (v : Word) (src : WriteSrc) (hoff : (s.chan ch).mode ≠ 0)
    (hrepair : (s.chan ch).mode ≠ 11) : s.chanWrite ch Reg.PWM_TRIP v src = s.tripWrite ch v src := by
  have hshut : (s.chan ch).blockShut Reg.PWM_TRIP = false := by simp [Chan.blockShut, hoff, hrepair]
  unfold State.chanWrite
  rw [if_neg (by decide), if_neg (by decide), if_neg (by simp [hshut]), if_pos rfl]

/-- A state without a trip bit has PROT no longer live (R256). -/
def State.protFollows (s : State) (ch : ChId) : State :=
  if (s.chan ch).get Reg.PWM_TRIP &&& 0xF = 0 then s.setLive ch 6 false else s

/-- A write of PWM_TRIP none of whose bits is stuck clears the bits that it may (R256). -/
theorem State.tripWrite_clears {s : State} {ch : ChId} {v : Word} (src : WriteSrc) (hstuck : (s.chan ch).tripStuck v = []) :
    s.tripWrite ch v src =
      ((s.putChan ch ((s.chan ch).clearTrips ((s.chan ch).tripClearable v))).protFollows ch, .ok) := by
  have hempty : ((s.chan ch).tripStuck v).isEmpty = true := by rw [hstuck]; rfl
  exact if_pos hempty

theorem Chan.mem_tripClearable (c : Chan) (v : Word) (b : Nat) : b ∈ c.tripClearable v ↔
    b < 4 ∧ v.getLsbD b = true ∧ (c.get Reg.PWM_TRIP).getLsbD b = true ∧ (c.mode = 1 ∨ c.mode = 10) ∧
      c.tripInactive b = true := by
  have hbits : b ∈ [0, 1, 2, 3] ↔ b < 4 := by
    simp only [List.mem_cons, List.not_mem_nil, or_false]
    omega
  simp only [Chan.tripClearable, List.mem_filter, hbits, Bool.and_eq_true, Bool.or_eq_true, decide_eq_true_eq, and_assoc]

/-- Settles O19: the request waits (`State.modeWrite_ticking`) or starts the clock (`State.modeWrite_startsClock`), and the two
latches lose the bits that their blocks let go (`State.chanWrite_safeLatch`, `State.tripWrite_clears`). -/
theorem modeAndLatchWrites : Obligations.ModeAndLatchWrites := by
  unfold Obligations.ModeAndLatchWrites
  intro s k ch v hreach c
  have accepted : ∀ {off : Nat} {t : State}, off ∈ [Reg.CH_MODE_REQ, Reg.CH_SAFE_LATCH, Reg.PWM_TRIP] →
      s.keepsRo k ch off v → s.chanWrite ch off v (.host k) = (t, .ok) → s.writeWindow k off v = t.answered := by
    intro off t hoff hkeeps hwrite
    have hplace : ∀ o ∈ [Reg.CH_MODE_REQ, Reg.CH_SAFE_LATCH, Reg.PWM_TRIP],
        0x10 ≤ o ∧ o < 0x2C00 ∧ o % 4 = 0 ∧ (findRow chanRows o).isSome = true := by decide +kernel
    obtain ⟨hlo, hhi, hal, hrow⟩ := hplace off hoff
    exact State.writeWindow_ok hreach hlo (by omega) hal hrow (s.capAbsent_eq_false k hhi) hkeeps hwrite
  refine ⟨fun hkeeps hmode hfault htick => congrArg Host.Outcome.next (accepted (by decide) hkeeps ?_),
    fun hkeeps hmode hidle hhalt himage himg hlock => congrArg Host.Outcome.next (accepted (by decide) hkeeps ?_),
    fun hkeeps => congrArg Host.Outcome.next (accepted (by decide) hkeeps (s.chanWrite_safeLatch ch v _)),
    fun hkeeps hoff hrepair hstuck => ?_, c.mem_tripClearable v⟩
  · exact (if_pos rfl).trans (s.modeWrite_ticking v _ hmode hfault htick)
  · exact (if_pos rfl).trans (s.modeWrite_startsClock _ hmode hidle hhalt himage himg hlock)
  · have hwrite := (s.chanWrite_trip v (.host k) hoff hrepair).trans (State.tripWrite_clears _ hstuck)
    refine congrArg Host.Outcome.next ((accepted (by decide) hkeeps hwrite).trans ?_)
    unfold State.protFollows
    split <;> rfl

end Sys2Proof.Machine
end

section
/-! SUPPORT. The family of 06_modes_and_handover.md: why a mode request is rejected, and which transition a boundary takes (R176,
R177, R179, R180, R191). -/

namespace Sys2Proof.Machine

/-! ## Why a mode request is rejected -/

/-- A chain of tests finds no cause where its first test does not hold and the rest finds none. -/
theorem ite_cause_eq_zero {p : Prop} [Decidable p] {n rest : Nat} (hn : n ≠ 0) :
    (if p then n else rest) = 0 ↔ ¬p ∧ rest = 0 := by
  by_cases h : p <;> simp [h, hn]

/-- The tests that a mode request passes where it is not rejected (R177, R180). -/
theorem State.requestCause_eq_zero_iff (s : State) (ch : ChId) (v : Nat) : let c := s.chan ch
    s.requestCause ch v = 0 ↔ v < 12 ∧ c.mode ≠ 11 ∧ (c.faulted = true → v = 0) ∧ v ∈ hostTargets c.mode ∧ c.allows v = true ∧
      (v = 8 → s.isPair = true) ∧ (v = 3 ∨ v = 4 ∨ v = 5 ∨ v = 7 → s.inhibited ch = false) ∧ c.safeBlocks v = false ∧
      (s.isPair = true → 2 ≤ v → v ≤ 7 → s.holds ch = true) ∧ (v = 11 → s.repairReady ch = true) ∧ c.edgeOpen v = true := by
  intro c
  have hsafe : (if (s.chan ch).safeBits = 0x010 then 6 else 5) ≠ 0 := by split <;> decide
  have hedge : (if c.edgeOpen v = true then 0 else 3) = 0 ↔ c.edgeOpen v = true := by simp
  unfold State.requestCause
  simp (disch := decide) only [ite_cause_eq_zero hsafe, ite_cause_eq_zero]
  simp [c, hedge, or_assoc]

/-- The SAFE causes bar the modes from PRECHARGE to RESYNC and SELFTEST, and HALT out of SAFE (R191). -/
theorem Chan.safeBits_of_safeBlocks {c : Chan} {v : Nat} (h : c.safeBlocks v = false)
    (hv : (2 ≤ v ∧ v ≤ 7) ∨ v = 9 ∨ (c.mode = 10 ∧ v = 1)) : c.safeBits = 0 := by
  have hbars : ((2 ≤ v && v ≤ 7) || v = 9 || (c.mode = 10 && v = 1)) = true := by simpa [or_assoc] using hv
  simpa [Chan.safeBlocks, hbars] using h

/-- A mode that has OFF as a target is HALT (R176). -/
theorem zero_mem_hostTargets : ∀ m, m < 12 → 0 ∈ hostTargets m → m = 1 := by decide

/-- The rejections by the number of the mode, the graph, REPAIR and FAULT (R177, R180). -/
theorem State.requestCause_rejects (s : State) (ch : ChId) (v : Nat) : let c := s.chan ch
    (12 ≤ v → s.requestCause ch v = 1) ∧
    (v < 12 → c.mode = 11 → s.requestCause ch v = 9) ∧
    (v < 12 → c.mode ≠ 11 → c.faulted = true → v ≠ 0 → s.requestCause ch v = 4) ∧
    (v < 12 → c.mode ≠ 11 → c.faulted = false → v ∉ hostTargets c.mode → s.requestCause ch v = 1) := by
  unfold State.requestCause
  refine ⟨fun h => if_pos h, fun hv hmode => ?_, fun hv hmode hfault hne => ?_, fun hv hmode hfault hgraph => ?_⟩
  · rw [if_neg (by omega), if_pos hmode]
  · rw [if_neg (by omega), if_neg hmode, if_pos (by simp [hfault, hne])]
  · rw [if_neg (by omega), if_neg hmode, if_neg (by simp [hfault]), if_pos (by simpa using hgraph)]

/-! ## Which transition a boundary takes -/

/-- The automatic transitions of a mode, each one that ALLOW permits (R179). -/
theorem Chan.autoTarget_some {c : Chan} {m tc : Nat} (h : c.autoTarget = some (m, tc)) : c.allows m = true ∧
    (c.mode, m, tc) ∈ [(2, 1, 11), (3, 7, 7), (6, 4, 4), (7, 4, 5), (7, 4, 6), (9, 1, 12)] := by
  obtain ⟨hdue, hallows⟩ := Option.filter_eq_some_iff.1 h
  refine ⟨hallows, ?_⟩
  have only : ∀ {p : Prop} [Decidable p] {x : Nat × Nat} {rest : Option (Nat × Nat)},
      (if p then some x else rest) = some (m, tc) → (m, tc) = x ∨ rest = some (m, tc) := fun h => by
    split at h
    · exact .inl (Option.some.inj h).symm
    · exact .inr h
  dsimp only at hdue
  split at hdue
  case h_4 hmode =>
    obtain h | h := only hdue
    · simp [hmode, h]
    · obtain h | h := only h
      · simp [hmode, h]
      · cases h
  case h_6 => cases hdue
  all_goals
    rename_i hmode
    simpa [hmode] using only hdue

/-- Entry into SAFE is taken before every other transition (R179). -/
theorem Chan.choose_safe {c : Chan} (v : Option Nat) (hshadow : c.mode ≠ 8) (hsafe : c.safeDue = true) :
    c.choose v = .auto 10 9 := by
  simp [Chan.choose, hshadow, hsafe]

/-- Then a request for SAFE, and one for HALT or SHADOW (R179). -/
theorem Chan.choose_urgent {c : Chan} {v : Option Nat} (hshadow : c.mode ≠ 8) (hsafe : c.safeDue = false)
    (hv : v ∈ [some 10, some 1, some 8]) : c.choose v = .host := by
  simp only [List.mem_cons, List.not_mem_nil, or_false] at hv
  obtain rfl | rfl | rfl := hv <;> simp [Chan.choose, hshadow, hsafe]

/-- Then entry into RIDE (R179). -/
theorem Chan.choose_ride {c : Chan} {v : Option Nat} (hshadow : c.mode ≠ 8) (hsafe : c.safeDue = false)
    (hv : v ∉ [some 10, some 1, some 8]) (hride : c.rideDue = true) : c.choose v = .auto 6 3 := by
  cases v with
  | none => simp [Chan.choose, hshadow, hsafe, hride]
  | some n =>
    simp only [List.mem_cons, Option.some.injEq, List.not_mem_nil, or_false, not_or] at hv
    obtain ⟨hten, hone, height⟩ := hv
    simp [Chan.choose, hshadow, hsafe, hride, hten, hone, height]

/-- Then another request, where one waits (R179). -/
theorem Chan.choose_host {c : Chan} {v : Option Nat} (hshadow : c.mode ≠ 8) (hsafe : c.safeDue = false)
    (hride : c.rideDue = false) (hv : v.isSome = true) : c.choose v = .host := by
  simp [Chan.choose, hshadow, hsafe, hride, hv]

/-- Settles O20: a request is rejected by the first test that it fails (`State.requestCause_rejects`) and passes every test
otherwise (`State.requestCause_eq_zero_iff`); the transitions due at a boundary are asked for in their order. -/
theorem modeRules : Obligations.ModeRules := by
  unfold Obligations.ModeRules
  refine ⟨fun s ch v => ?_, fun c v hshadow => ⟨fun hlo hhi hbits => ?_, Chan.choose_urgent hshadow, Chan.choose_ride hshadow,
    Chan.choose_host hshadow, fun hsafe hride hv => ?_, fun m tc => Chan.autoTarget_some⟩⟩
  · obtain ⟨hnumber, hrepair, hfault, hgraph⟩ := s.requestCause_rejects ch v
    refine ⟨hnumber, hrepair, hfault, hgraph, fun hcause => ?_, zero_mem_hostTargets⟩
    obtain ⟨hv, -, hoff, htarget, hallows, hpair, hinh, hsafe, hholds, -, -⟩ := (s.requestCause_eq_zero_iff ch v).1 hcause
    refine ⟨hv, htarget, hallows, hoff, hpair, fun hdrives => hinh (by simpa using hdrives),
      fun hlo hhi => ⟨Chan.safeBits_of_safeBlocks hsafe (.inl ⟨hlo, hhi⟩), fun hp => hholds hp hlo hhi⟩,
      fun hends => Chan.safeBits_of_safeBlocks hsafe (.inr hends)⟩
  · exact Chan.choose_safe v hshadow (by simpa [Chan.safeDue, hlo, hhi] using hbits)
  · cases hauto : c.autoTarget <;> simp [Chan.choose, hshadow, hsafe, hride, hv, hauto]

end Sys2Proof.Machine
end

section
/-! SUPPORT. The family of 06_modes_and_handover.md: the events that the mode controller awaits (R182 to R188, R196). -/

namespace Sys2Proof.Machine

/-! ## The events that the mode controller awaits -/

/-- A field of CH_MODE_STAT plays no part in the voltage that the bus shows (R184). -/
theorem Chan.busMagnitude_setFld_modeStat (c : Chan) (f : BitField) (n : Nat) :
    (c.setFld Reg.CH_MODE_STAT f n).busMagnitude = c.busMagnitude := by
  have hreg : ∀ {o : Nat}, o ≠ Reg.CH_MODE_STAT → (c.setFld Reg.CH_MODE_STAT f n).get o = c.get o := fun h =>
    (c.get_put ..).trans (if_neg h)
  unfold Chan.busMagnitude
  rw [hreg (by decide), hreg (by decide)]
  rfl

/-- Settles O22: each event is its arm of the dispatch under its guard; RIDET is latched once (`State.latchSafe`). -/
theorem modeEvents : Obligations.ModeEvents := by
  unfold Obligations.ModeEvents
  intro s ch
  dsimp only
  refine ⟨fun hmode hrun hk2 => if_pos ?_, fun hmode hdone => if_pos ?_, fun hmode hcheck hdead => if_pos ?_,
    fun hmode hcheck hlive => ?_, fun hmode hramp => if_pos ?_, fun hmode hmatched => if_pos ?_,
    fun hmode hopen => if_pos ?_, fun hmode hdwell hret => if_pos ?_, fun hmode hlimit => ?_, fun hact hrem => if_pos ?_⟩
  · simp [hmode, hrun, hk2]
  · simp [hmode, hdone]
  · simp [hmode, hcheck, hdead]
  · refine (if_pos ?_).trans ?_
    · simp [hmode, hcheck, hlive]
    · rw [Chan.busMagnitude_setFld_modeStat]
      rfl
  · simp [hmode, hramp, rampOne]
  · simp [hmode, hmatched]
  · simp [hmode, hopen]
  · simp [hmode, hdwell, hret]
  · have hrun : exec (.rideTimeout ch) s = .next (s.latchSafe ch 10) := if_pos (by simp [hmode, hlimit])
    refine ⟨fun hfresh => ?_, fun hlatched => ?_⟩
    · rw [hrun, State.latchSafe, if_neg (ne_true_of_eq_false hfresh)]
      rfl
    · rw [hrun, State.latchSafe, if_pos hlatched]
  · simp [hact, hrem]

end Sys2Proof.Machine
end

section
/-! SUPPORT. The family of 06_modes_and_handover.md: what the entry of a mode sets, clears and leaves (R176, R181, R182, R184, R198). -/

namespace Sys2Proof.Machine

/-! ## What an entry leaves of the channel's registers -/

/-- The registers in which the mode controller shows the mode, its progress and the SAFE causes (R181, R189). -/
def modeRegs : List Nat := [Reg.CH_MODE_CUR, Reg.CH_MODE_STAT, Reg.CH_SAFE_LIVE, Reg.CH_SAFE_LATCH]

theorem Chan.get_enterInner (c : Chan) (m : Nat) {o : Nat} (ho : o ∈ modeRegs) : (c.enterInner m).get o = c.get o := by
  have apart : ∀ o ∈ modeRegs, o ≠ Reg.PACK_STAT ∧ o ≠ Reg.PACK_X ∧ o ≠ Reg.HO_STAT := by decide
  obtain ⟨hstat, hx, hho⟩ := apart o ho
  have hput : ∀ (c : Chan) {r : Nat} (w : Word), o ≠ r → (c.put r w).get o = c.get o := fun c _ w h =>
    (c.get_put ..).trans (if_neg h)
  unfold Chan.enterInner
  extract_lets old leaves c1 c2 ctl c3 fe me c4 drives
  have h1 : c1.get o = c.get o := by
    unfold c1
    split
    · rfl
    · exact hput c _ hstat
  have h2 : c2.get o = c.get o := by
    unfold c2
    split
    · exact (hput c1 0 hx).trans h1
    · exact h1
  have h3 : c4.get o = c.get o := by
    unfold c4
    split <;> exact h2
  split
  · exact h3
  · exact (hput c4 0 hho).trans h3

/-- Outside the driving modes no gate drives after the entry (R181). -/
theorem Chan.enterInner_driving (c : Chan) {m : Nat} (h : ¬ (3 ≤ m ∧ m ≤ 7)) : (c.enterInner m).pwm.driving = false := by
  unfold Chan.enterInner
  extract_lets old leaves c1 c2 ctl c3 fe me c4 drives
  have hdrives : drives = false := by simpa [drives] using h
  rw [if_neg (ne_true_of_eq_false hdrives)]
  rfl

/-- CH_MODE_CUR after an entry of mode `m` from mode `old` for cause `tc` (R181). -/
def enteredCur (w : Word) (m old tc : Nat) : Word :=
  setField (setField (setField w Fld.CH_MODE_CUR_MODE m) Fld.CH_MODE_CUR_PREV old) Fld.CH_MODE_CUR_TCAUSE tc

theorem enteredCur_fields (w : Word) {m old tc : Nat} (hm : m < 16) (hold : old < 16) (htc : tc < 32) :
    getField (enteredCur w m old tc) Fld.CH_MODE_CUR_MODE = m ∧ getField (enteredCur w m old tc) Fld.CH_MODE_CUR_PREV = old ∧
    getField (enteredCur w m old tc) Fld.CH_MODE_CUR_TCAUSE = tc := by
  unfold enteredCur
  simp (disch := decide) only [getField_setField, getField_setField_ne]
  exact ⟨Nat.mod_eq_of_lt hm, Nat.mod_eq_of_lt hold, Nat.mod_eq_of_lt htc⟩

/-- CH_MODE_STAT after an entry of mode `m` (R181, R182). -/
def enteredStat (w : Word) (m : Nat) : Word :=
  let w := setField (setField (setField w Fld.CH_MODE_STAT_PRE_DONE 0) Fld.CH_MODE_STAT_BS_DONE 0) Fld.CH_MODE_STAT_RSY_MATCH 0
  let w := if m ≤ 1 then setField (setField w Fld.CH_MODE_STAT_K1_REQ 0) Fld.CH_MODE_STAT_K2_REQ 0 else w
  if m = 2 then setField w Fld.CH_MODE_STAT_K2_REQ 1 else w

theorem enteredStat_progress (w : Word) (m : Nat) : getField (enteredStat w m) Fld.CH_MODE_STAT_PRE_DONE = 0 ∧
    getField (enteredStat w m) Fld.CH_MODE_STAT_BS_DONE = 0 ∧ getField (enteredStat w m) Fld.CH_MODE_STAT_RSY_MATCH = 0 := by
  unfold enteredStat
  dsimp only
  split_ifs <;> simp (disch := decide) only [getField_setField, getField_setField_ne] <;> decide

/-- HALT and OFF release both contactors, PRECHARGE closes K2 (R182, R198). -/
theorem enteredStat_contactors (w : Word) (m : Nat) :
    (m ≤ 1 → getField (enteredStat w m) Fld.CH_MODE_STAT_K1_REQ = 0 ∧ getField (enteredStat w m) Fld.CH_MODE_STAT_K2_REQ = 0) ∧
    (m = 2 → getField (enteredStat w m) Fld.CH_MODE_STAT_K2_REQ = 1) := by
  unfold enteredStat
  refine ⟨fun hoff => ?_, fun hpre => ?_⟩
  · rw [if_neg (by omega), if_pos hoff]
    simp (disch := decide) only [getField_setField, getField_setField_ne]
    decide
  · rw [if_pos hpre]
    exact getField_setField _ _ _ (by decide)

/-- A channel as its entry of a mode sets it, before the block around it follows. -/
def Chan.entered (c : Chan) (m tc : Nat) : Chan := ((c.enterInner m).enterRegs m tc).capEntered

theorem Chan.get_entered (c : Chan) (m tc : Nat) :
    (c.entered m tc).get Reg.CH_MODE_CUR = enteredCur (c.get Reg.CH_MODE_CUR) m c.mode tc ∧
    (c.entered m tc).get Reg.CH_MODE_STAT = enteredStat (c.get Reg.CH_MODE_STAT) m ∧
    (c.entered m tc).get Reg.CH_SAFE_LIVE = c.get Reg.CH_SAFE_LIVE ∧
    (c.entered m tc).get Reg.CH_SAFE_LATCH = c.get Reg.CH_SAFE_LATCH := by
  have hinner : ∀ o ∈ modeRegs, (c.enterInner m).get o = c.get o := fun o => c.get_enterInner m
  have hmode : (c.enterInner m).mode = c.mode := congrArg (getField · Fld.CH_MODE_CUR_MODE) (hinner _ (by decide))
  have hregs : ∀ o, (c.entered m tc).get o = if o = Reg.CH_MODE_STAT then
      enteredStat ((c.enterInner m).get Reg.CH_MODE_STAT) m else if o = Reg.CH_MODE_CUR then
      enteredCur ((c.enterInner m).get Reg.CH_MODE_CUR) m (c.enterInner m).mode tc else (c.enterInner m).get o := fun o =>
    (Chan.get_put ..).trans (by rw [Chan.get_put]; rfl)
  rw [hregs, hregs, hregs, hregs]
  refine ⟨?_, ?_, ?_, ?_⟩
  · rw [if_neg (by decide), if_pos rfl, hmode, hinner _ (by decide)]
  · rw [if_pos rfl, hinner _ (by decide)]
  · rw [if_neg (by decide), if_neg (by decide), hinner _ (by decide)]
  · rw [if_neg (by decide), if_neg (by decide), hinner _ (by decide)]

/-! ## What the block around an entry leaves -/

/-- What the bookkeeping around a channel's entry of a mode keeps: that mode's registers, gates that do not drive, and every
other channel. -/
structure State.FollowsEntry (ch : ChId) (s t : State) : Prop where
  regs : ∀ o ∈ modeRegs, (t.chan ch).get o = (s.chan ch).get o
  drv : (s.chan ch).pwm.driving = false → (t.chan ch).pwm.driving = false
  others : ∀ j, j ≠ ch → t.chan j = s.chan j

theorem State.FollowsEntry.refl (ch : ChId) (s : State) : State.FollowsEntry ch s s := ⟨fun _ _ => rfl, id, fun _ _ => rfl⟩

theorem State.FollowsEntry.trans {ch : ChId} {s t u : State} (h : State.FollowsEntry ch s t) (k : State.FollowsEntry ch t u) :
    State.FollowsEntry ch s u :=
  ⟨fun o ho => (k.regs o ho).trans (h.regs o ho), k.drv ∘ h.drv, fun j hj => (k.others j hj).trans (h.others j hj)⟩

theorem State.FollowsEntry.ite {ch : ChId} {s t u : State} {p : Prop} [Decidable p] (h : State.FollowsEntry ch s t)
    (k : State.FollowsEntry ch s u) : State.FollowsEntry ch s (if p then t else u) := by
  split
  · exact h
  · exact k

/-- An operation that works on no channel. -/
theorem State.FollowsEntry.of_chans {ch : ChId} {s t : State} (h : ∀ j, t.chan j = s.chan j) : State.FollowsEntry ch s t :=
  ⟨fun o _ => congrArg (Chan.get · o) (h ch), fun hd => (congrArg (·.pwm.driving) (h ch)).trans hd, fun j _ => h j⟩

/-- The outputs' updates show in no register of the mode controller. -/
theorem Chan.OutputsOnly.get_modeRegs {c d : Chan} (h : c.OutputsOnly d) {o : Nat} (ho : o ∈ modeRegs) : d.get o = c.get o := by
  have apart : ∀ o ∈ modeRegs, o ≠ Reg.PWM_STAT ∧ o ≠ Reg.PWM_CNT1 ∧ o ≠ Reg.SAF_CH_STAT := by decide
  obtain ⟨hstat, hcnt, hsaf⟩ := apart o ho
  exact h.2 o hstat hcnt hsaf

/-! ## The channels beside the entry's -/

theorem State.countCh_chan_ne (s : State) {ch j : ChId} (reg : Nat) (hi ev : Bool) (h : j ≠ ch) :
    (s.countCh ch reg hi ev).chan j = s.chan j :=
  ((s.reports_countCh ch reg hi ev).chan j).trans (s.chan_putChan_ne _ h)

theorem State.brakeFollow_chan_ne (s : State) {ch j : ChId} (h : j ≠ ch) : (s.brakeFollow ch).chan j = s.chan j := by
  have hshow : ∀ s : State, (s.showBrake ch).chan j = s.chan j := fun s => s.chan_putChan_ne _ h
  have hturn : ∀ c, ((s.putChan ch c).showBrake ch).chan j = s.chan j := fun c => (hshow _).trans (s.chan_putChan_ne c h)
  unfold State.brakeFollow
  extract_lets c t
  split
  · exact hshow s
  split
  · split
    · exact hturn _
    · exact hshow s
  split
  · exact hshow s
  split
  · exact hturn _
  · exact (t.countCh_chan_ne _ _ _ h).trans (hturn _)

theorem State.gatesFollow_chan_ne (s : State) {ch j : ChId} (h : j ≠ ch) : (s.gatesFollow ch).chan j = s.chan j := by
  unfold State.gatesFollow
  extract_lets t
  refine (t.brakeFollow_chan_ne h).trans ?_
  unfold t
  split
  · rfl
  split
  · exact s.chan_putChan_ne _ h
  split
  · exact s.chan_putChan_ne _ h
  · rfl

theorem State.followsEntry_count (s : State) (ch : ChId) : State.FollowsEntry ch s (s.countCh ch Reg.CH_MODE_CNT false false) := by
  have apart : ∀ o ∈ modeRegs, o ≠ Reg.CH_MODE_CNT := by decide
  refine ⟨fun o ho => ?_, (s.stays_countCh ch _ _ _ (by decide)).drv, fun j hj => s.countCh_chan_ne _ _ _ hj⟩
  rw [State.countCh_chan, Chan.get_put, if_neg (apart o ho)]

theorem State.followsEntry_pairLeaveShadow (s : State) (ch : ChId) : State.FollowsEntry ch s (s.pairLeaveShadow ch) := by
  have apart : ∀ o ∈ modeRegs, o ≠ Reg.PLL_STAT ∧ o ≠ Reg.CH_ALIGN := by decide
  refine ⟨fun o ho => ?_, (s.stays_pairLeaveShadow ch).drv, fun j hj => ?_⟩
  · obtain ⟨hpll, halign⟩ := apart o ho
    unfold State.pairLeaveShadow
    extract_lets t
    have ht : (t.chan ch).get o = (s.chan ch).get o := by
      rw [show t = s.onPair ch _ from rfl, State.onPair_eq, State.chan_putChan_same]
      rfl
    rw [State.onChan_eq, State.chan_putChan_same, Chan.setFld_eq, Chan.get_put, if_neg halign, Chan.setFld_eq, Chan.get_put,
      if_neg hpll]
    exact ht
  · unfold State.pairLeaveShadow
    extract_lets t
    exact (State.chan_putChan_ne _ _ hj).trans (s.chan_putChan_ne _ hj)

theorem State.followsEntry_chinhFollow (s : State) (ch : ChId) : State.FollowsEntry ch s (s.chinhFollow ch) := by
  refine ⟨fun o ho => ?_, (s.stays_chinhFollow ch).drv, fun j hj => ?_⟩
  · exact (State.outputsOnly_gatesFollow _ ch).get_modeRegs ho
  · exact State.gatesFollow_chan_ne _ hj

theorem State.followsEntry_contactors (s : State) (ch : ChId) : State.FollowsEntry ch s (s.contactors ch) :=
  ⟨fun _ ho => (s.outputsOnly_contactors ch).get_modeRegs ho, (s.stays_contactors ch).drv, fun _ hj => s.chan_putChan_ne _ hj⟩

/-- An entry of a mode sets its channel, and the rest of the block follows. -/
theorem State.followsEntry_enterMode (s : State) (ch : ChId) (m tc : Nat) :
    State.FollowsEntry ch (s.putChan ch ((s.chan ch).entered m tc)) (s.enterMode ch m tc) := by
  unfold State.enterMode
  extract_lets c old s1 s2 s3 s4 s5
  have hgroup : State.FollowsEntry ch s1 s2 := .ite (.of_chans (s1.groupDiscard_chan ch)) (.refl ch s1)
  have hcount : State.FollowsEntry ch s2 s3 := .ite (.refl ch s2) ((s2.followsEntry_count ch).trans (.of_chans (State.irq_chan _ _)))
  have hrecord : State.FollowsEntry ch s3 s4 := .of_chans (State.record_chan _ _ _ _ _ _)
  have hshadow : State.FollowsEntry ch s4 s5 := .ite (s4.followsEntry_pairLeaveShadow ch) (.refl ch s4)
  exact ((((hgroup.trans hcount).trans hrecord).trans hshadow).trans (s5.followsEntry_chinhFollow ch)).trans
    (State.followsEntry_contactors _ ch)

theorem Chan.mode_lt (c : Chan) : c.mode < 16 := BitVec.isLt _

/-- Settles O23: the channel as its entry sets it (`Chan.get_entered`, `Chan.enterInner_driving`), which the rest of the block
keeps (`State.followsEntry_enterMode`). -/
theorem modeEntry : Obligations.ModeEntry := by
  unfold Obligations.ModeEntry
  intro s ch m tc hm htc c
  have hfollows := s.followsEntry_enterMode ch m tc
  generalize s.enterMode ch m tc = t at hfollows ⊢
  obtain ⟨hregs, hdrv, hothers⟩ := hfollows
  rw [State.chan_putChan_same] at hregs hdrv
  intro _ d
  obtain ⟨hcur, hstat, hlive, hlatch⟩ := c.get_entered m tc
  have hcur' : d.get Reg.CH_MODE_CUR = enteredCur (c.get Reg.CH_MODE_CUR) m c.mode tc := (hregs _ (by decide)).trans hcur
  have hstat' : d.get Reg.CH_MODE_STAT = enteredStat (c.get Reg.CH_MODE_STAT) m := (hregs _ (by decide)).trans hstat
  obtain ⟨hmode, hprev, hcause⟩ := enteredCur_fields (c.get Reg.CH_MODE_CUR) (by omega : m < 16) c.mode_lt (by omega : tc < 32)
  obtain ⟨hpre, hbs, hrsy⟩ := enteredStat_progress (c.get Reg.CH_MODE_STAT) m
  obtain ⟨hrelease, hclose⟩ := enteredStat_contactors (c.get Reg.CH_MODE_STAT) m
  rw [← hcur'] at hmode hprev hcause
  rw [← hstat'] at hpre hbs hrsy hrelease hclose
  have bit : ∀ {f : BitField} {n : Nat}, getField (d.get Reg.CH_MODE_STAT) f = n → d.bit Reg.CH_MODE_STAT f = (n != 0) :=
    fun h => congrArg (· != 0) h
  exact ⟨hmode, hprev, hcause, bit hpre, bit hbs, bit hrsy, fun hoff => ⟨bit (hrelease hoff).1, bit (hrelease hoff).2⟩,
    fun htwo => bit (hclose htwo), fun hidle => hdrv (c.enterInner_driving hidle), (hregs _ (by decide)).trans hlatch,
    (hregs _ (by decide)).trans hlive, fun j hj => (hothers j hj).trans (s.chan_putChan_ne _ hj)⟩

end Sys2Proof.Machine
end

section
/-! SUPPORT. The family of 07_pack_peer_agreement.md: chips and code periods (R212, R213, R216, R217, R226, R230). -/

namespace Sys2Proof.Machine

/-! ## Registers and fabric words beside the one that changes -/

theorem Chan.get_setFld_ne (c : Chan) {o r : Nat} (f : BitField) (n : Nat) (h : o ≠ r) : (c.setFld r f n).get o = c.get o :=
  (c.get_put ..).trans (if_neg h)

/-- A posted word leaves the other quantities' (R24). -/
theorem Chan.fabGet_post_ne (c : Chan) {q p : Nat} (w : Word) (tag : BitVec 4) (h : p ≠ q) :
    (c.post q w tag).fabGet p = c.fabGet p := by
  simp [Chan.post, Chan.postAged, Chan.fabGet, h]

/-! ## The chip that the generator takes up (R212, R213) -/

theorem chipValue_ne_zero (n i : Nat) : chipValue n i ≠ 0 := by
  unfold chipValue
  dsimp only
  split_ifs <;> decide

theorem Chan.packBit_ne_zero (c : Chan) : c.packBit ≠ 0 := by
  unfold Chan.packBit
  split_ifs <;> decide

theorem Chan.fabGet_packInject_ne (c : Chan) (on : Bool) {q : Nat} (h : q ≠ 0xBD) : (c.packInject on).fabGet q = c.fabGet q :=
  Chan.fabGet_post_ne _ _ _ h

theorem Chan.packInject_silent (c : Chan) :
    (c.packInject false).pack.dNext = 0 ∧ ((c.packInject false).fabGet 0xBD).data = 0 :=
  ⟨rfl, congrArg FabWord.data (Chan.fabGet_postAged ..)⟩

theorem Chan.packInject_sends (c : Chan) :
    (c.packInject true).pack.dNext = chipValue (c.fld Reg.PACK_ID Fld.PACK_ID_ID % 256) c.packOwnChip * c.packBit ∧
    (((c.packInject true).fabGet 0xBD).data = 0x7FFFFFFF ∨ ((c.packInject true).fabGet 0xBD).data = 0x80000000) := by
  refine ⟨rfl, ?_⟩
  have hdev : chipValue (c.fld Reg.PACK_ID Fld.PACK_ID_ID % 256) c.packOwnChip * c.packBit ≠ 0 :=
    mul_ne_zero (chipValue_ne_zero _ _) c.packBit_ne_zero
  have hword : ((c.packInject true).fabGet 0xBD).data = _ := congrArg FabWord.data (Chan.fabGet_postAged ..)
  rw [hword, if_pos rfl, if_neg hdev]
  exact ite_eq_or_eq ..

/-! ## PACK_CHIP -/

/-- A PACK unit at its next chip; `est` is the estimate of the chip that ends (R213, R216). -/
def Pack.nextChip (p : Pack) (est : Option Int) (now : Nat) : Pack :=
  { p with chip := (p.chip + 1) % 255, chipAt := now, stopAtChip := false, chipBad := false, ests := (est :: p.ests).take 255 }

/-- A channel whose estimator has closed a chip with `mean`, and whose injection has stopped where it must (R213, R216). -/
def Chan.packChipClosed (c : Chan) (mean : Word) (now : Nat) : Chan :=
  let est := if c.pack.chipBad then none else some mean.toInt
  let d := if c.pack.stopAtChip || !c.packMayInject then c.setFld Reg.PACK_STAT Fld.PACK_STAT_TX 0 else c
  let d := if d.pack.chipBad then d else d.post 0xB8 mean 0
  { d with pack := d.pack.nextChip est now }

/-- The next chip taken up, but the first of a code period, which is the period's (R213). -/
def Chan.packChipTaken (c : Chan) : Chan :=
  if c.packOwnChip = 0 then { c with pack := { c.pack with periodEnd := true } }
  else c.packInject (c.bit Reg.PACK_STAT Fld.PACK_STAT_TX)

theorem exec_packChip {s : State} {ch : ChId} (mean : Word) (h : (s.chan ch).packListens = true) :
    exec (.packChip ch mean) s = .next (s.putChan ch ((s.chan ch).packChipClosed mean s.time.refNs).packChipTaken) :=
  if_neg (by simp [h])

section
variable (c : Chan) (mean : Word) (now : Nat)

theorem Chan.packChipClosed_pack : (c.packChipClosed mean now).pack =
    c.pack.nextChip (if c.pack.chipBad then none else some mean.toInt) now := by
  unfold Chan.packChipClosed
  extract_lets est d1 d2
  have h1 : d1.pack = c.pack := by
    unfold d1
    split <;> rfl
  have h2 : d2.pack = c.pack := by
    unfold d2
    split <;> exact h1
  exact congrArg (Pack.nextChip · est now) h2

theorem Chan.get_packChipClosed (o : Nat) : (c.packChipClosed mean now).get o =
    (if c.pack.stopAtChip || !c.packMayInject then c.setFld Reg.PACK_STAT Fld.PACK_STAT_TX 0 else c).get o := by
  unfold Chan.packChipClosed
  extract_lets est d1 d2
  have h2 : d2.get o = d1.get o := by
    unfold d2
    split <;> rfl
  exact h2

theorem Chan.get_packChipClosed_ne {o : Nat} (h : o ≠ Reg.PACK_STAT) : (c.packChipClosed mean now).get o = c.get o := by
  rw [Chan.get_packChipClosed]
  split
  · exact c.get_setFld_ne _ _ h
  · rfl

/-- The injection stops at a chip at which it must (R213, R224, R228). -/
theorem Chan.bit_packChipClosed_tx : (c.packChipClosed mean now).bit Reg.PACK_STAT Fld.PACK_STAT_TX =
    (c.bit Reg.PACK_STAT Fld.PACK_STAT_TX && !(c.pack.stopAtChip || !c.packMayInject)) := by
  rw [Chan.bit, Chan.fld, Chan.get_packChipClosed]
  split
  case isTrue hstop => exact (c.bit_setFld0 _ _ (by decide)).trans (by rw [hstop, Bool.not_true, Bool.and_false])
  case isFalse hgoes =>
    rw [Bool.eq_false_of_not_eq_true hgoes, Bool.not_false, Bool.and_true]
    rfl

/-- The estimator posts the mean of a chip that is not excluded (R216, R230). -/
theorem Chan.fabGet_packChipClosed (h : c.pack.chipBad = false) : ((c.packChipClosed mean now).fabGet 0xB8).data = mean := by
  unfold Chan.packChipClosed
  extract_lets est d1 d2
  have h1 : d1.pack.chipBad = false := by
    unfold d1
    split <;> exact h
  have h2 : d2 = d1.post 0xB8 mean 0 := if_neg (ne_true_of_eq_false h1)
  rw [h2]
  exact congrArg FabWord.data (Chan.fabGet_postAged ..)

/-- The chip's mean plays no part in the code number and the data bit that the channel sends. -/
theorem Chan.packDeviation_packChipClosed :
    (c.packChipClosed mean now).fld Reg.PACK_ID Fld.PACK_ID_ID = c.fld Reg.PACK_ID Fld.PACK_ID_ID ∧
    (c.packChipClosed mean now).packBit = c.packBit := by
  have hregs : ∀ {o}, o ≠ Reg.PACK_STAT → (c.packChipClosed mean now).get o = c.get o := c.get_packChipClosed_ne mean now
  refine ⟨congrArg (getField · _) (hregs (by decide)), ?_⟩
  unfold Chan.packBit Chan.fld
  rw [hregs (by decide), Chan.packChipClosed_pack]
  rfl

end

/-- Taking up a chip changes only the deviation, or tells that the code period ends (R213, R230). -/
theorem Chan.packChipTaken_keeps (c : Chan) : c.packChipTaken.regs = c.regs ∧ c.packChipTaken.pack.chip = c.pack.chip ∧
    c.packChipTaken.pack.ests = c.pack.ests ∧ c.packChipTaken.fabGet 0xB8 = c.fabGet 0xB8 := by
  unfold Chan.packChipTaken
  split
  · exact ⟨rfl, rfl, rfl, rfl⟩
  · exact ⟨rfl, rfl, rfl, c.fabGet_packInject_ne _ (by decide)⟩

theorem Chan.packChipTaken_ownChip (c : Chan) : c.packChipTaken.packOwnChip = c.packOwnChip := by
  have hkeeps := c.packChipTaken_keeps
  unfold Chan.packOwnChip Chan.fld Chan.get
  rw [hkeeps.1, hkeeps.2.1]

theorem Chan.packChipTaken_first {c : Chan} (h : c.packOwnChip = 0) : c.packChipTaken.pack.periodEnd = true := by
  rw [Chan.packChipTaken, if_pos h]

theorem Chan.packChipTaken_silent {c : Chan} (h : c.packOwnChip ≠ 0) (htx : c.bit Reg.PACK_STAT Fld.PACK_STAT_TX = false) :
    c.packChipTaken.pack.dNext = 0 ∧ (c.packChipTaken.fabGet 0xBD).data = 0 := by
  rw [Chan.packChipTaken, if_neg h, htx]
  exact c.packInject_silent

theorem Chan.packChipTaken_sends {c : Chan} (h : c.packOwnChip ≠ 0) (htx : c.bit Reg.PACK_STAT Fld.PACK_STAT_TX = true) :
    c.packChipTaken.pack.dNext = chipValue (c.fld Reg.PACK_ID Fld.PACK_ID_ID % 256) c.packOwnChip * c.packBit ∧
    ((c.packChipTaken.fabGet 0xBD).data = 0x7FFFFFFF ∨ (c.packChipTaken.fabGet 0xBD).data = 0x80000000) := by
  rw [Chan.packChipTaken, if_neg h, htx]
  exact c.packInject_sends

/-! ## The end of a code period: the correlation (R217) -/

/-- What the correlation at the end of a code period keeps: the registers that it does not show, PERIOD, and what decides
whether and what the channel sends. -/
structure Chan.CorrelationKeeps (c d : Chan) : Prop where
  regs : ∀ o, o ≠ Reg.PACK_STAT → o ≠ Reg.PACK_OWN → o ≠ Reg.PACK_FMEAS → o ≠ Reg.PACK_DUPID → d.get o = c.get o
  stat : ∀ f ∈ [Fld.PACK_STAT_TX, Fld.PACK_STAT_DUP, Fld.PACK_STAT_BACKOFF], d.bit Reg.PACK_STAT f = c.bit Reg.PACK_STAT f
  period : d.fld Reg.PACK_OWN Fld.PACK_OWN_PERIOD = c.fld Reg.PACK_OWN Fld.PACK_OWN_PERIOD
  saf : d.saf = c.saf
  enabled : d.pack.enabled = c.pack.enabled
  leaving : d.pack.leaving = c.pack.leaving
  plain : d.pack.plain = c.pack.plain
  frameEnd : d.pack.frameEnd = c.pack.frameEnd
  ests : d.pack.ests = c.pack.ests

theorem Chan.CorrelationKeeps.trans {c d e : Chan} (h : c.CorrelationKeeps d) (k : d.CorrelationKeeps e) :
    c.CorrelationKeeps e where
  regs o hstat hown hmeas hdup := (k.regs o hstat hown hmeas hdup).trans (h.regs o hstat hown hmeas hdup)
  stat f hf := (k.stat f hf).trans (h.stat f hf)
  period := k.period.trans h.period
  saf := k.saf.trans h.saf
  enabled := k.enabled.trans h.enabled
  leaving := k.leaving.trans h.leaving
  plain := k.plain.trans h.plain
  frameEnd := k.frameEnd.trans h.frameEnd
  ests := k.ests.trans h.ests

theorem Chan.CorrelationKeeps.packMayInject {c d : Chan} (h : c.CorrelationKeeps d) : d.packMayInject = c.packMayInject := by
  have hreg : ∀ {o}, o ≠ Reg.PACK_STAT → o ≠ Reg.PACK_OWN → o ≠ Reg.PACK_FMEAS → o ≠ Reg.PACK_DUPID → ∀ f,
      d.fld o f = c.fld o f := fun hstat hown hmeas hdup f => congrArg (getField · f) (h.regs _ hstat hown hmeas hdup)
  unfold Chan.packMayInject Chan.mode Chan.k1Closed
  rw [h.stat _ (by decide), h.stat _ (by decide), h.saf, h.enabled, h.leaving]
  unfold Chan.bit
  rw [hreg (by decide) (by decide) (by decide) (by decide), hreg (by decide) (by decide) (by decide) (by decide),
    hreg (by decide) (by decide) (by decide) (by decide)]

/-! ### The own-code finger -/

theorem Chan.get_packDupIdent (c : Chan) {o : Nat} (h : o ≠ Reg.PACK_DUPID) : c.packDupIdent.get o = c.get o := by
  unfold Chan.packDupIdent
  dsimp only
  split
  · exact (Chan.get_setFld_ne _ _ _ h).trans (c.get_setFld_ne _ _ h)
  · rfl

theorem Chan.packDupIdent_rest (c : Chan) : c.packDupIdent.pack = c.pack ∧ c.packDupIdent.saf = c.saf := by
  unfold Chan.packDupIdent
  dsimp only
  split <;> exact ⟨rfl, rfl⟩

section
variable (c : Chan) (inj : Bool) (bk : Int) (per : Nat)

theorem Chan.get_packOwnFinger_ne {o : Nat} (hown : o ≠ Reg.PACK_OWN) (hdup : o ≠ Reg.PACK_DUPID) :
    (c.packOwnFinger inj bk per).get o = c.get o :=
  (Chan.get_packDupIdent _ hdup).trans (Chan.get_setFld_ne _ _ _ hown)

/-- OWNQ shows the confidence at the own phase (R217, log 65). -/
theorem Chan.get_packOwnFinger_own : (c.packOwnFinger inj bk per).get Reg.PACK_OWN = setField (c.get Reg.PACK_OWN)
    Fld.PACK_OWN_OWNQ (peakOf (c.pack.correlations (c.fld Reg.PACK_ID Fld.PACK_ID_ID % 256)) [0, 1, 254]).q.toNat :=
  (Chan.get_packDupIdent _ (by decide)).trans ((Chan.get_put ..).trans (if_pos rfl))

theorem Chan.packOwnFinger_pack : ∃ dup low high,
    (c.packOwnFinger inj bk per).pack = { c.pack with dup := dup, ownLow := low, ownHigh := high } :=
  ⟨_, _, _, (Chan.packDupIdent_rest _).1⟩

theorem Chan.correlationKeeps_packOwnFinger : c.CorrelationKeeps (c.packOwnFinger inj bk per) := by
  have hstat := c.get_packOwnFinger_ne inj bk per (o := Reg.PACK_STAT) (by decide) (by decide)
  obtain ⟨dup, low, high, hpack⟩ := c.packOwnFinger_pack inj bk per
  refine ⟨fun o _ hown _ hdup => c.get_packOwnFinger_ne inj bk per hown hdup, fun f _ => congrArg (getField · f != 0) hstat,
    ?period, (Chan.packDupIdent_rest _).2, ?_, ?_, ?_, ?_, ?_⟩
  case period =>
    rw [Chan.fld, Chan.get_packOwnFinger_own]
    exact getField_setField_ne _ _ _ _ (by decide)
  all_goals rw [hpack]

end

/-! ### The peer fingers -/

/-- A channel with other fingers and another place of the scan. -/
def Chan.withFingers (c : Chan) (n : Byte) (fs : Vector Finger 64) : Chan :=
  { c with pack := { c.pack with scan := n, fingers := fs } }

theorem Chan.packRescan_eq (is : List (Fin 64)) (c : Chan) : ∃ n fs, c.packRescan is = c.withFingers n fs := by
  induction is generalizing c with
  | nil => exact ⟨c.pack.scan, c.pack.fingers, rfl⟩
  | cons i is ih =>
    unfold Chan.packRescan
    dsimp only
    split
    · obtain ⟨n, fs, h⟩ := ih (c.packScan i)
      exact ⟨n, fs, h⟩
    · exact ih c

theorem Chan.packPeerFingers_disabled {c : Chan} (h : c.pack.enabled = false) : c.packPeerFingers = c :=
  if_pos (by rw [h]; rfl)

theorem Chan.packPeerFingers_cases (c : Chan) : ∃ n fs, c.packPeerFingers = c.withFingers n fs ∨
    c.packPeerFingers = (c.withFingers n fs).setFld Reg.PACK_STAT Fld.PACK_STAT_PEERFULL 1 := by
  by_cases hon : c.pack.enabled = true
  · unfold Chan.packPeerFingers
    rw [hon, Bool.not_true, if_neg Bool.false_ne_true]
    extract_lets qacq qlose step p c1 c2
    obtain ⟨n, fs, h⟩ := c1.packRescan_eq (List.finRange 64)
    refine ⟨n, fs, ?_⟩
    have h2 : c2 = c.withFingers n fs := h
    rw [h2]
    exact ite_eq_or_eq ..
  · exact ⟨c.pack.scan, c.pack.fingers, .inl (Chan.packPeerFingers_disabled (Bool.eq_false_of_not_eq_true hon))⟩

theorem Chan.get_packPeerFingers_ne (c : Chan) {o : Nat} (h : o ≠ Reg.PACK_STAT) : c.packPeerFingers.get o = c.get o := by
  obtain ⟨n, fs, hcase | hcase⟩ := c.packPeerFingers_cases <;> rw [hcase]
  · rfl
  · exact Chan.get_setFld_ne _ _ _ h

theorem Chan.correlationKeeps_packPeerFingers (c : Chan) : c.CorrelationKeeps c.packPeerFingers := by
  obtain ⟨n, fs, hcase | hcase⟩ := c.packPeerFingers_cases <;> rw [hcase]
  · exact ⟨fun _ _ _ _ _ => rfl, fun _ _ => rfl, rfl, rfl, rfl, rfl, rfl, rfl, rfl⟩
  · have apart : ∀ f ∈ [Fld.PACK_STAT_TX, Fld.PACK_STAT_DUP, Fld.PACK_STAT_BACKOFF],
        f.lo + f.width ≤ Fld.PACK_STAT_PEERFULL.lo := by decide
    exact ⟨fun o hstat _ _ _ => Chan.get_setFld_ne _ _ _ hstat,
      fun f hf => Chan.bit_setFld_ne _ _ _ _ _ _ (.inr (.inr (apart f hf))),
      Chan.fld_setFld_ne _ _ _ _ _ _ (.inl (by decide)), rfl, rfl, rfl, rfl, rfl, rfl⟩

/-! ### The estimator's mean -/

theorem Chan.packMeasure_none {c : Chan} (h : c.pack.periodMean = none) : c.packMeasure = c := by
  unfold Chan.packMeasure
  rw [h]

theorem Chan.packMeasure_some {c : Chan} {m : Int} (h : c.pack.periodMean = some m) :
    ∃ w, c.packMeasure = (c.put Reg.PACK_FMEAS w).post 0xB9 (BitVec.ofInt 32 m) 0 := by
  unfold Chan.packMeasure
  rw [h]
  exact ⟨_, rfl⟩

theorem Chan.get_packMeasure_ne (c : Chan) {o : Nat} (h : o ≠ Reg.PACK_FMEAS) : c.packMeasure.get o = c.get o := by
  cases hmean : c.pack.periodMean with
  | none => rw [Chan.packMeasure_none hmean]
  | some m =>
    obtain ⟨w, hw⟩ := Chan.packMeasure_some hmean
    rw [hw]
    exact (c.get_put ..).trans (if_neg h)

theorem Chan.packMeasure_rest (c : Chan) : c.packMeasure.pack = c.pack ∧ c.packMeasure.saf = c.saf := by
  cases hmean : c.pack.periodMean with
  | none => rw [Chan.packMeasure_none hmean]; exact ⟨rfl, rfl⟩
  | some m =>
    obtain ⟨w, hw⟩ := Chan.packMeasure_some hmean
    rw [hw]
    exact ⟨rfl, rfl⟩

theorem Chan.correlationKeeps_packMeasure (c : Chan) : c.CorrelationKeeps c.packMeasure := by
  obtain ⟨hpack, hsaf⟩ := c.packMeasure_rest
  have hget : ∀ {o}, o ≠ Reg.PACK_FMEAS → c.packMeasure.get o = c.get o := c.get_packMeasure_ne
  exact ⟨fun o _ _ hmeas _ => hget hmeas, fun f _ => congrArg (getField · f != 0) (hget (by decide)),
    congrArg (getField · _) (hget (by decide)), hsaf, congrArg Pack.enabled hpack, congrArg Pack.leaving hpack,
    congrArg Pack.plain hpack, congrArg Pack.frameEnd hpack, congrArg Pack.ests hpack⟩

/-! ### The three together -/

/-- A channel whose fingers and estimator have closed a code period (R216, R217). -/
def Chan.packCorrelated (c : Chan) : Chan :=
  ((c.packOwnFinger (c.bit Reg.PACK_STAT Fld.PACK_STAT_TX) c.packBit
    (c.fld Reg.PACK_OWN Fld.PACK_OWN_PERIOD)).packPeerFingers).packMeasure

section
variable (c : Chan)

theorem Chan.correlationKeeps_packCorrelated : c.CorrelationKeeps c.packCorrelated :=
  ((c.correlationKeeps_packOwnFinger _ _ _).trans (Chan.correlationKeeps_packPeerFingers _)).trans
    (Chan.correlationKeeps_packMeasure _)

theorem Chan.packCorrelated_ownq : c.packCorrelated.fld Reg.PACK_OWN Fld.PACK_OWN_OWNQ =
    (peakOf (c.pack.correlations (c.fld Reg.PACK_ID Fld.PACK_ID_ID % 256)) [0, 1, 254]).q.toNat := by
  rw [Chan.fld, Chan.packCorrelated, Chan.get_packMeasure_ne _ (by decide), Chan.get_packPeerFingers_ne _ (by decide),
    Chan.get_packOwnFinger_own, getField_setField _ _ _ (by decide)]
  exact Nat.mod_eq_of_lt (BitVec.isLt _)

theorem Chan.packCorrelated_fingers (h : c.pack.enabled = false) : c.packCorrelated.pack.fingers = c.pack.fingers := by
  obtain ⟨dup, low, high, hpack⟩ := c.packOwnFinger_pack (c.bit Reg.PACK_STAT Fld.PACK_STAT_TX) c.packBit
    (c.fld Reg.PACK_OWN Fld.PACK_OWN_PERIOD)
  have hoff := (c.correlationKeeps_packOwnFinger (c.bit Reg.PACK_STAT Fld.PACK_STAT_TX) c.packBit
    (c.fld Reg.PACK_OWN Fld.PACK_OWN_PERIOD)).enabled.trans h
  rw [Chan.packCorrelated, (Chan.packMeasure_rest _).1, Chan.packPeerFingers_disabled hoff, hpack]

/-- The estimates of the period are still there when the estimator takes their mean. -/
theorem Chan.periodMean_packPeerFingers (inj : Bool) (bk : Int) (per : Nat) :
    ((c.packOwnFinger inj bk per).packPeerFingers).pack.periodMean = c.pack.periodMean := by
  have hkeeps := (c.correlationKeeps_packOwnFinger inj bk per).trans (Chan.correlationKeeps_packPeerFingers _)
  unfold Pack.periodMean
  rw [hkeeps.ests]

theorem Chan.packCorrelated_unmeasured (h : c.pack.periodMean = none) :
    c.packCorrelated.get Reg.PACK_FMEAS = c.get Reg.PACK_FMEAS := by
  rw [Chan.packCorrelated, Chan.packMeasure_none ((c.periodMean_packPeerFingers _ _ _).trans h),
    Chan.get_packPeerFingers_ne _ (by decide), Chan.get_packOwnFinger_ne _ _ _ _ (by decide) (by decide)]

theorem Chan.packCorrelated_measured {m : Int} (h : c.pack.periodMean = some m) :
    (c.packCorrelated.fabGet 0xB9).data = BitVec.ofInt 32 m := by
  obtain ⟨w, hw⟩ := Chan.packMeasure_some ((c.periodMean_packPeerFingers _ _ _).trans h)
  rw [Chan.packCorrelated, hw]
  exact congrArg FabWord.data (Chan.fabGet_postAged ..)

end

/-! ## The next code period (R213, R215, R225, R226) -/

section
variable (c : Chan)

theorem Chan.get_packNextPeriod_ne {o : Nat} (hstat : o ≠ Reg.PACK_STAT) (hown : o ≠ Reg.PACK_OWN) :
    c.packNextPeriod.get o = c.get o := by
  unfold Chan.packNextPeriod
  extract_lets per starts fresh p c1 c2 c3
  have h2 : c2.get o = c.get o := c1.get_setFld_ne _ _ hown
  have h3 : c3.get o = c2.get o := by
    unfold c3
    split
    · exact c2.get_setFld_ne _ _ hstat
    · rfl
  split <;> exact h3.trans h2

theorem Chan.get_packNextPeriod_own : c.packNextPeriod.get Reg.PACK_OWN = setField (c.get Reg.PACK_OWN) Fld.PACK_OWN_PERIOD
    (if c.fld Reg.PACK_OWN Fld.PACK_OWN_PERIOD = 23 ∨
      (c.bit Reg.PACK_STAT Fld.PACK_STAT_TX = false ∧ c.packMayInject = true ∧ c.pack.plain = false)
     then 0 else c.fld Reg.PACK_OWN Fld.PACK_OWN_PERIOD + 1) := by
  unfold Chan.packNextPeriod
  extract_lets per starts fresh p c1 c2 c3
  have h2 : c2.get Reg.PACK_OWN = setField (c.get Reg.PACK_OWN) Fld.PACK_OWN_PERIOD (if per = 23 || fresh then 0 else per + 1) :=
    (c1.get_put ..).trans (if_pos rfl)
  have h3 : c3.get Reg.PACK_OWN = c2.get Reg.PACK_OWN := by
    unfold c3
    split
    · exact c2.get_setFld_ne _ _ (by decide)
    · rfl
  have hrestarts : (per = 23 || fresh) = true ↔ per = 23 ∨
      (c.bit Reg.PACK_STAT Fld.PACK_STAT_TX = false ∧ c.packMayInject = true ∧ c.pack.plain = false) := by
    simp [fresh, starts, and_assoc]
  simp only [hrestarts] at h2
  split <;> exact h3.trans h2

/-- The injection starts where the channel may inject (R224). -/
theorem Chan.bit_packNextPeriod_tx : c.packNextPeriod.bit Reg.PACK_STAT Fld.PACK_STAT_TX =
    (c.bit Reg.PACK_STAT Fld.PACK_STAT_TX || c.packMayInject) := by
  unfold Chan.packNextPeriod
  extract_lets per starts fresh p c1 c2 c3
  have h2 : c2.bit Reg.PACK_STAT Fld.PACK_STAT_TX = c.bit Reg.PACK_STAT Fld.PACK_STAT_TX :=
    c1.bit_setFld_ne _ _ _ _ _ (.inl (by decide))
  have h3 : c3.bit Reg.PACK_STAT Fld.PACK_STAT_TX = (c.bit Reg.PACK_STAT Fld.PACK_STAT_TX || c.packMayInject) := by
    unfold c3
    split
    case isTrue hstarts =>
      obtain ⟨-, hmay⟩ := Bool.and_eq_true_iff.1 hstarts
      rw [hmay, Bool.or_true]
      exact c2.bit_setFld _ _ (by decide) (by decide)
    case isFalse hstands =>
      rw [h2]
      cases htx : c.bit Reg.PACK_STAT Fld.PACK_STAT_TX
      · rw [Bool.false_or]
        simpa [starts, htx] using hstands
      · rfl
  split <;> exact h3

theorem Chan.packNextPeriod_rest : c.packNextPeriod.fab = c.fab ∧ c.packNextPeriod.pack.fingers = c.pack.fingers ∧
    c.packNextPeriod.pack.frameEnd = (c.pack.frameEnd || c.fld Reg.PACK_OWN Fld.PACK_OWN_PERIOD == 23) := by
  unfold Chan.packNextPeriod
  extract_lets per starts fresh p c1 c2 c3
  have h3 : c3.fab = c.fab ∧ c3.pack = c1.pack := by
    unfold c3
    split <;> exact ⟨rfl, rfl⟩
  obtain ⟨hfab, hpack⟩ := h3
  have hfingers : c3.pack.fingers = c.pack.fingers := (congrArg Pack.fingers hpack).trans rfl
  have hframe : c3.pack.frameEnd = (c.pack.frameEnd || per == 23) :=
    (congrArg Pack.frameEnd hpack).trans rfl
  split <;> exact ⟨hfab, hfingers, hframe⟩

end

/-! ## NPEER and LONE (R229, R232) -/

theorem Chan.get_packCount_ne (c : Chan) {o : Nat} (h : o ≠ Reg.PACK_STAT) : c.packCount.get o = c.get o :=
  (Chan.get_setFld_ne _ _ _ h).trans (c.get_setFld_ne _ _ h)

/-- The counts leave the bits of PACK_STAT below LONE. -/
theorem Chan.bit_packCount_of_low (c : Chan) {f : BitField} (h : f.lo + f.width ≤ Fld.PACK_STAT_LONE.lo) :
    c.packCount.bit Reg.PACK_STAT f = c.bit Reg.PACK_STAT f := by
  have hnpeer : f.lo + f.width ≤ Fld.PACK_STAT_NPEER.lo := h.trans (by decide)
  exact (Chan.bit_setFld_ne _ _ _ _ _ _ (.inr (.inr h))).trans (c.bit_setFld_ne _ _ _ _ _ (.inr (.inr hnpeer)))

/-! ## PACK_CODE_PERIOD -/

/-- A channel that has closed a code period and begins the next one (R213). -/
def Chan.packPeriodBegun (c : Chan) (leaves : Bool) : Chan :=
  let d := c.packNextPeriod
  let d := { d with pack := { d.pack with ests := [], periodEnd := false } }
  let d := (d.packInject (d.bit Reg.PACK_STAT Fld.PACK_STAT_TX && !leaves)).packCount
  d.post 0xBE d.packStatus 0

theorem exec_packCodePeriod {s : State} {ch : ChId} (hlisten : (s.chan ch).packListens = true)
    (hend : (s.chan ch).pack.periodEnd = true) : let c := s.chan ch
    exec (.packCodePeriod ch) s = .next (s.putChan ch (c.packCorrelated.packPeriodBegun
      (c.fld Reg.PACK_OWN Fld.PACK_OWN_PERIOD = 23 && c.pack.leaving = 2))) :=
  if_neg (by simp [hlisten, hend])

section
variable (c : Chan) (leaves : Bool)

/-- Of the registers the new period's first chip and the counts change PACK_STAT alone. -/
theorem Chan.get_packPeriodBegun {o : Nat} (h : o ≠ Reg.PACK_STAT) :
    (c.packPeriodBegun leaves).get o = c.packNextPeriod.get o := Chan.get_packCount_ne _ h

theorem Chan.packPeriodBegun_pack :
    (c.packPeriodBegun leaves).pack.ests = [] ∧ (c.packPeriodBegun leaves).pack.periodEnd = false ∧
    (c.packPeriodBegun leaves).pack.fingers = c.pack.fingers ∧ (c.packPeriodBegun leaves).pack.frameEnd =
      (c.pack.frameEnd || c.fld Reg.PACK_OWN Fld.PACK_OWN_PERIOD == 23) := by
  obtain ⟨-, hfingers, hframe⟩ := c.packNextPeriod_rest
  exact ⟨rfl, rfl, hfingers, hframe⟩

theorem Chan.bit_packPeriodBegun_tx : (c.packPeriodBegun leaves).bit Reg.PACK_STAT Fld.PACK_STAT_TX =
    (c.bit Reg.PACK_STAT Fld.PACK_STAT_TX || c.packMayInject) :=
  (Chan.bit_packCount_of_low _ (by decide)).trans c.bit_packNextPeriod_tx

theorem Chan.fabGet_packPeriodBegun : (c.packPeriodBegun leaves).fabGet 0xB9 = c.fabGet 0xB9 := by
  unfold Chan.packPeriodBegun
  extract_lets d1 p d2 d3
  have h1 : d1.fabGet 0xB9 = c.fabGet 0xB9 := congrArg (sget (fun _ => FabWord.blank) · 0xB9) c.packNextPeriod_rest.1
  have h3 : d3.fabGet 0xB9 = d2.fabGet 0xB9 := d2.fabGet_packInject_ne _ (by decide)
  exact ((d3.fabGet_post_ne _ _ (by decide)).trans h3).trans h1

end

/-- Settles O24: a chip is closed and the next one taken up (`Chan.packChipClosed`, `Chan.packChipTaken`); the correlation keeps
what decides the sending (`Chan.CorrelationKeeps`), and the next period begins (`Chan.packPeriodBegun`). The code's recurrence and
OWNQ's phases are the model's choices (logs 24 and 65). -/
theorem packPeriods : Obligations.PackPeriods := by
  unfold Obligations.PackPeriods
  intro s ch c hlisten tx
  refine ⟨fun mean => ⟨_, exec_packChip mean hlisten, ?_⟩, fun hend => ⟨_, exec_packCodePeriod hlisten hend, ?_⟩⟩
  · rw [State.chan_putChan_same]
    refine ⟨rfl, ?_⟩
    have hpack := c.packChipClosed_pack mean s.time.refNs
    have htx := c.bit_packChipClosed_tx mean s.time.refNs
    obtain ⟨hid, hbit⟩ := c.packDeviation_packChipClosed mean s.time.refNs
    have hregs := fun o => c.get_packChipClosed_ne mean s.time.refNs (o := o)
    have hmean := c.fabGet_packChipClosed mean s.time.refNs
    generalize c.packChipClosed mean s.time.refNs = e at hpack htx hid hbit hregs hmean
    intro d
    rw [show d.packOwnChip = e.packOwnChip from e.packChipTaken_ownChip]
    obtain ⟨htaken, hchip, hests, hfab⟩ := e.packChipTaken_keeps
    rw [hpack] at hchip hests
    refine ⟨hchip, fun hbad => ?_, fun hok => ⟨?_, ?_⟩, Chan.packChipTaken_first, fun hlater => ⟨fun hsilent => ?_,
      fun htrue hmay hgoes => ?_⟩, fun o ho => ?_⟩
    · exact hests.trans (by rw [hbad]; rfl)
    · exact hests.trans (by rw [hok]; rfl)
    · exact (congrArg FabWord.data hfab).trans (hmean hok)
    · refine Chan.packChipTaken_silent hlater (htx.trans ?_)
      obtain hnot | hnot := hsilent
      · exact congrArg (· && _) hnot
      · rw [hnot, Bool.not_false, Bool.or_true, Bool.not_true, Bool.and_false]
    · rw [← hid, ← hbit]
      refine Chan.packChipTaken_sends hlater (htx.trans ?_)
      rw [hmay, hgoes]
      exact congrArg (· && _) htrue
    · exact (congrArg (sget chanReset · o) htaken).trans (hregs o ho)
  · rw [State.chan_putChan_same]
    refine ⟨rfl, ?_⟩
    intro d p
    have hkeeps := c.correlationKeeps_packCorrelated
    have hmay := hkeeps.packMayInject
    have htx := hkeeps.stat Fld.PACK_STAT_TX (by decide)
    have hget : ∀ {o}, o ≠ Reg.PACK_STAT → d.get o = c.packCorrelated.packNextPeriod.get o := Chan.get_packPeriodBegun _ _
    obtain ⟨hests, hend, hfingers, hframe⟩ := c.packCorrelated.packPeriodBegun_pack
      (c.fld Reg.PACK_OWN Fld.PACK_OWN_PERIOD = 23 && c.pack.leaving = 2)
    have hown := (hget (by decide)).trans c.packCorrelated.get_packNextPeriod_own
    rw [htx, hmay, hkeeps.period, hkeeps.plain] at hown
    refine ⟨?_, ?_, ?_, hests, hend, ?_, fun hoff => ?_, fun hnone => ?_, fun m hm => ?_, fun o hstat howno hmeas hdup => ?_⟩
    · rw [Chan.fld, hown, getField_setField _ _ _ (by decide), apply_ite (· % 2 ^ Fld.PACK_OWN_PERIOD.width)]
      rfl
    · rw [Chan.fld, hown, getField_setField_ne _ _ _ _ (by decide)]
      exact c.packCorrelated_ownq
    · refine (Chan.bit_packPeriodBegun_tx _ _).trans ?_
      rw [htx, hmay]
    · refine hframe.trans ?_
      rw [hkeeps.frameEnd, hkeeps.period]
    · exact hfingers.trans (c.packCorrelated_fingers hoff)
    · exact ((hget (by decide)).trans (Chan.get_packNextPeriod_ne _ (by decide) (by decide))).trans
        (c.packCorrelated_unmeasured hnone)
    · exact (congrArg FabWord.data (Chan.fabGet_packPeriodBegun _ _)).trans (c.packCorrelated_measured hm)
    · exact ((hget hstat).trans (Chan.get_packNextPeriod_ne _ hstat howno)).trans (hkeeps.regs o hstat howno hmeas hdup)

end Sys2Proof.Machine
end

section
/-! SUPPORT. The family of 07_pack_peer_agreement.md: fingers that are acquired and lost, and STIFF (R217, R229). -/

namespace Sys2Proof.Machine

/-! ## NPEER and LONE -/

/-- How many fingers a PACK unit has in VALID. -/
def Pack.validCount (p : Pack) : Nat := (p.fingers.toList.filter fun f => f.state == .valid).length

theorem Pack.validCount_eq_zero (p : Pack) : p.validCount = 0 ↔ ∀ f : Fin 64, (p.fingers[f]).state ≠ .valid := by
  simp only [Pack.validCount, List.length_eq_zero_iff, List.filter_eq_nil_iff, Vector.mem_toList_iff, Vector.mem_iff_getElem,
    beq_iff_eq]
  exact ⟨fun h f => h _ ⟨f, f.isLt, rfl⟩, fun h a ⟨i, hi, ha⟩ => ha ▸ h ⟨i, hi⟩⟩

theorem Chan.packCount_eq (c : Chan) : c.packCount = (c.setFld Reg.PACK_STAT Fld.PACK_STAT_NPEER c.pack.validCount).setFld
    Reg.PACK_STAT Fld.PACK_STAT_LONE (if c.pack.validCount = 0 then 1 else 0) := rfl

theorem Chan.packCount_npeer (c : Chan) : c.packCount.fld Reg.PACK_STAT Fld.PACK_STAT_NPEER =
    c.pack.validCount % 2 ^ Fld.PACK_STAT_NPEER.width := by
  rw [Chan.packCount_eq, Chan.fld_setFld_ne _ _ _ _ _ _ (by decide), Chan.fld_setFld _ _ _ _ (by decide)]

theorem Chan.packCount_lone (c : Chan) : c.packCount.bit Reg.PACK_STAT Fld.PACK_STAT_LONE = decide (c.pack.validCount = 0) := by
  rw [Chan.packCount_eq]
  by_cases hnone : c.pack.validCount = 0
  · rw [if_pos hnone, Chan.bit_setFld _ _ _ (by decide) (by decide), decide_eq_true hnone]
  · rw [if_neg hnone, Chan.bit_setFld0 _ _ _ (by decide), decide_eq_false hnone]

/-- Settles O25: each event is its arm of the dispatch under its guard, and the counts follow the fingers in VALID
(`Chan.packCount_npeer`, `Chan.packCount_lone`). -/
theorem packFingers : Obligations.PackFingers := by
  unfold Obligations.PackFingers
  intro s ch f
  dsimp only
  refine ⟨fun hon hfree hhigh => if_pos ?_, fun hstate hlow => if_pos ?_, fun htx hlow => if_pos ?_, fun htx hhigh => if_pos ?_,
    fun d => ⟨d.packCount_npeer, ?_⟩⟩
  · simpa [hon] using ⟨hfree, hhigh⟩
  · simpa using ⟨hstate, hlow⟩
  · simp [htx, hlow]
  · simp [htx, hhigh]
  · rw [Chan.packCount_lone, decide_eq_true_iff, Pack.validCount_eq_zero]

end Sys2Proof.Machine
end

section
/-! SUPPORT. The family of 07_pack_peer_agreement.md: frames, their parity and what a receiver takes from them (R214, R215, R217,
R218). -/

namespace Sys2Proof.Machine

/-! ## The layout of a frame (R214) -/

section
variable (ty : BitVec 4) (v : BitVec 12)

/-- SYNC stands above the data bits, PARITY below them. -/
theorem packFrame_parts : (packFrame ty v).extractLsb' 20 4 = 0xE ∧ (packFrame ty v).extractLsb' 4 16 = ty ++ v ∧
    (packFrame ty v).extractLsb' 0 4 = packParity (ty ++ v) :=
  ⟨(BitVec.extractLsb'_append_eq_of_le (by decide)).trans BitVec.extractLsb'_append_eq_left,
    (BitVec.extractLsb'_append_eq_of_le (by decide)).trans BitVec.extractLsb'_append_eq_right,
    BitVec.extractLsb'_append_eq_right⟩

theorem packFrame_type : (packFrame ty v).extractLsb' 16 4 = ty :=
  ((BitVec.extractLsb'_append_eq_of_le (by decide)).trans (BitVec.extractLsb'_append_eq_of_add_le (by decide))).trans
    BitVec.extractLsb'_append_eq_left

theorem packFrame_value : (packFrame ty v).extractLsb' 4 12 = v :=
  ((BitVec.extractLsb'_append_eq_of_le (by decide)).trans (BitVec.extractLsb'_append_eq_of_add_le (by decide))).trans
    BitVec.extractLsb'_append_eq_right

theorem packFrameOk_packFrame : packFrameOk (packFrame ty v) = true := by
  obtain ⟨hsync, hdata, hparity⟩ := packFrame_parts ty v
  rw [packFrameOk, hsync, hdata, hparity, beq_self_eq_true, beq_self_eq_true, Bool.and_self]

end

theorem getLsbD_packParity (d : BitVec 16) {m : Nat} (h : m < 4) : (packParity d).getLsbD m =
    (d.getLsbD m ^^ d.getLsbD (m + 4) ^^ d.getLsbD (m + 8) ^^ d.getLsbD (m + 12)) := by
  simp [packParity, h, Nat.add_comm]

theorem getLsbD_packFrame (ty : BitVec 4) (v : BitVec 12) {m : Nat} (h : m < 4) :
    (packFrame ty v).getLsbD m = (packParity (ty ++ v)).getLsbD m :=
  BitVec.getLsbD_append.trans (if_pos h)

/-! ## The frame test finds a flipped bit (R214, R218) -/

theorem packParity_xor (a b : BitVec 16) : packParity (a ^^^ b) = packParity a ^^^ packParity b := by
  simp only [packParity, BitVec.extractLsb'_xor]
  ac_rfl

/-- An error pattern that the frame test does not see: SYNC stands and the parity bits follow the data bits. -/
def packErrorHidden (e : BitVec 24) : Bool := e.extractLsb' 20 4 == 0 && packParity (e.extractLsb' 4 16) == e.extractLsb' 0 4

/-- The frame test is linear: it sees an error in a good frame whatever the frame holds. -/
theorem packFrameOk_xor {b : BitVec 24} (h : packFrameOk b = true) (e : BitVec 24) :
    packFrameOk (b ^^^ e) = packErrorHidden e := by
  obtain ⟨hsync, hparity⟩ := Bool.and_eq_true_iff.1 h
  simp only [packFrameOk, packErrorHidden, BitVec.extractLsb'_xor, packParity_xor, eq_of_beq hsync, eq_of_beq hparity]
  refine congrArg₂ and (Bool.eq_iff_iff.2 ?_) (Bool.eq_iff_iff.2 ?_)
  · rw [beq_iff_eq, beq_iff_eq, xor_left_eq_self_iff]
  · rw [beq_iff_eq, beq_iff_eq, BitVec.xor_right_inj]

theorem packErrorHidden_flip : ∀ n : Fin 24, packErrorHidden (1#24 <<< n.val) = false := by decide

/-! ## What a frame gives the finger (R215, R218) -/

/-- A finger whose frame has passed the test. -/
def Finger.passed (g : Finger) : Finger := { g with state := .valid, aligned := true, bad := 0, since := 0 }

section
variable {g : Finger} (hstate : g.state = .acq ∨ g.state = .valid) (v : BitVec 12)
include hstate

theorem Finger.passed_state : (if g.state == .acq then .valid else g.state) = FingerState.valid := by
  obtain h | h := hstate <;> rw [h] <;> rfl

theorem Finger.take_restore : g.take 1 v = { g.passed with x := v, xv := true, age := 0 } := by
  unfold Finger.take Finger.passed
  rw [Finger.passed_state hstate]
  rfl

theorem Finger.take_weight : g.take 2 v = { g.passed with w := v, wv := true } := by
  unfold Finger.take
  rw [Finger.passed_state hstate]
  rfl

theorem Finger.take_ident : g.take 3 v = { g.passed with id := v.setWidth 10, idv := true } := by
  unfold Finger.take
  rw [Finger.passed_state hstate]
  rfl

theorem Finger.take_leave : g.take 4 v = g.passed.freed := by
  unfold Finger.take
  rw [Finger.passed_state hstate]
  rfl

theorem Finger.take_reserved {ty : BitVec 4} (h : ty.toNat ∉ [1, 2, 3, 4]) : g.take ty v = g.passed := by
  unfold Finger.take
  rw [Finger.passed_state hstate]
  dsimp only
  split
  case h_5 => rfl
  all_goals
    rename_i htype
    simp [htype] at h

end

/-- A finger whose frame has failed the test: the second failure in a row loses the alignment. -/
def Finger.failed (g : Finger) : Finger :=
  { g with bad := if g.bad = 1 then 0 else g.bad + 1, aligned := g.bad = 0, since := 0 }

theorem Finger.failed_first {g : Finger} (h : g.bad = 0) : g.failed = { g with bad := 1, aligned := true, since := 0 } := by
  rw [Finger.failed, h]
  rfl

theorem Finger.failed_second {g : Finger} (h : g.bad = 1) : g.failed = { g with bad := 0, aligned := false, since := 0 } := by
  rw [Finger.failed, h]
  rfl

/-! ## PACK_FRAME_RECEIVED (R218) -/

/-- A channel with another finger in place `f`. -/
def Chan.withFinger (c : Chan) (f : Fin 64) (g : Finger) : Chan :=
  { c with pack := { c.pack with fingers := c.pack.fingers.set f g } }

/-- A finger that a LEAVE has freed scans on; any other stays with what it has taken. -/
def Chan.fingerTakes (c : Chan) (f : Fin 64) (g : Finger) : Chan :=
  if g.state == .free then (c.withFinger f g).packScan f else c.withFinger f g

theorem exec_packFrameReceived {s : State} {ch : ChId} {f : Fin 64} : let c := s.chan ch
    let g := c.pack.fingers[f]
    g.state = .acq ∨ g.state = .valid → g.frameDue = true →
    (packFrameOk g.bits = true → exec (.packFrameReceived ch f) s = .next ((s.putChan ch (c.fingerTakes f
      (g.take (g.bits.extractLsb' 16 4) (g.bits.extractLsb' 4 12))).packCount).countCh ch Reg.PACK_CNT0 false false)) ∧
    (packFrameOk g.bits = false → exec (.packFrameReceived ch f) s = .next ((s.putChan ch (c.withFinger f
      g.failed)).countCh ch Reg.PACK_CNT0 true false)) := by
  intro c g hstate hdue
  have hguard : ¬ (!((g.state == .acq || g.state == .valid) && g.frameDue)) = true := by
    rw [hdue, Bool.and_true, Bool.not_eq_true', Bool.not_eq_false, Bool.or_eq_true, beq_iff_eq, beq_iff_eq]
    exact hstate
  exact ⟨fun hok => (if_neg hguard).trans (if_pos hok), fun hbad => (if_neg hguard).trans (if_neg (ne_true_of_eq_false hbad))⟩

/-- Settles O26: the parts of a frame (`packFrame_parts`), the test that is linear in its errors (`packFrameOk_xor`), and what a
finger takes from each type (`Finger.take_restore` and its siblings). -/
theorem packFrames : Obligations.PackFrames := by
  unfold Obligations.PackFrames
  refine ⟨fun ty v => ⟨packFrameOk_packFrame ty v, packFrame_type ty v, packFrame_value ty v, (packFrame_parts ty v).1,
    fun m => (getLsbD_packFrame ty v m.isLt).trans (getLsbD_packParity _ m.isLt),
    fun n => (packFrameOk_xor (packFrameOk_packFrame ty v) _).trans (packErrorHidden_flip n)⟩, ?_⟩
  intro s ch f ty v c g put hstate hdue ok gives fails
  obtain ⟨hpasses, hfails⟩ := exec_packFrameReceived hstate hdue
  refine ⟨fun hbits => ?_, fun hbad => ⟨fun hfirst => ?_, fun hsecond => ?_⟩⟩
  · have hgives := hpasses ((congrArg packFrameOk hbits).trans (packFrameOk_packFrame ty v))
    rw [show (s.chan ch).pack.fingers[f].bits = packFrame ty v from hbits, packFrame_type, packFrame_value] at hgives
    refine ⟨?_, ?_, ?_, ?_, fun hother => ?_⟩
    · rintro rfl
      rwa [Finger.take_restore hstate] at hgives
    · rintro rfl
      rwa [Finger.take_weight hstate] at hgives
    · rintro rfl
      rwa [Finger.take_ident hstate] at hgives
    · rintro rfl
      rwa [Finger.take_leave hstate] at hgives
    · rwa [Finger.take_reserved hstate v hother] at hgives
  · exact (Finger.failed_first hfirst) ▸ hfails hbad
  · exact (Finger.failed_second hsecond) ▸ hfails hbad

end Sys2Proof.Machine
end

section
/-! SUPPORT. The family of 07_pack_peer_agreement.md: frame ends, duplicates and backoff (R220, R225, R228). -/

namespace Sys2Proof.Machine

/-! ## PACK_FRAME_END (R220, R225, R228) -/

/-- A PACK unit at the end of a frame; `frame` is the next frame of the type order, at place `order` (R215, R220, R225). -/
def Pack.frameEnded (p : Pack) (order : Nat) (frame : BitVec 24) : Pack :=
  { p with
    fingers := p.fingers.map fun g => { g with age := min 15 (g.age + 1) },
    frameEnd := false, consensusDue := true, order := order, frame := frame, plain := false,
    leaving := if p.leaving = 1 then 2 else 0,
    window := match p.window with
      | some n => if n + 1 < 64 then some (n + 1) else none
      | none => none }

/-- The registers at the end of a frame that began in the state `leaving` of a disable: a channel that has sent LEAVE stops,
and a backoff counts down (R225, R228). -/
def Chan.packFrameCounts (c : Chan) (leaving : Nat) : Chan :=
  let boff := c.fld Reg.PACK_OWN Fld.PACK_OWN_BOFF
  let c := if leaving = 2 then c.setFld Reg.PACK_STAT Fld.PACK_STAT_TX 0 else c
  if c.bit Reg.PACK_STAT Fld.PACK_STAT_BACKOFF && 0 < boff then c.setFld Reg.PACK_OWN Fld.PACK_OWN_BOFF (boff - 1) else c

/-- The frame that follows the present one, with its place in the type order (R215, R225, R226). -/
def Chan.packNextFrame (c : Chan) : Nat × BitVec 24 :=
  let order := if c.pack.plain then 0 else (c.pack.order + 1) % 4
  (order, if c.pack.leaving = 1 then c.packLeaveFrame else c.packFrameAt order)

theorem exec_packFrameEnd {s : State} {ch : ChId} (hlisten : (s.chan ch).packListens = true)
    (hend : (s.chan ch).pack.frameEnd = true) : let c := s.chan ch
    exec (.packFrameEnd ch) s = .next (s.putChan ch (Chan.packFrameCounts
      { c with pack := c.pack.frameEnded c.packNextFrame.1 c.packNextFrame.2 } c.pack.leaving)) :=
  if_neg (by simp [hlisten, hend])

section
variable (c : Chan) (leaving : Nat)

theorem Chan.packFrameCounts_pack : (c.packFrameCounts leaving).pack = c.pack := by
  unfold Chan.packFrameCounts
  dsimp only
  split_ifs <;> rfl

theorem Chan.packFrameCounts_stops (h : leaving = 2) :
    (c.packFrameCounts leaving).bit Reg.PACK_STAT Fld.PACK_STAT_TX = false := by
  unfold Chan.packFrameCounts
  rw [if_pos h]
  extract_lets boff d
  have hd : d.bit Reg.PACK_STAT Fld.PACK_STAT_TX = false := c.bit_setFld0 _ _ (by decide)
  split
  · exact (d.bit_setFld_ne _ _ _ _ _ (.inl (by decide))).trans hd
  · exact hd

theorem Chan.packFrameCounts_boff (h : c.bit Reg.PACK_STAT Fld.PACK_STAT_BACKOFF = true) :
    (c.packFrameCounts leaving).fld Reg.PACK_OWN Fld.PACK_OWN_BOFF = c.fld Reg.PACK_OWN Fld.PACK_OWN_BOFF - 1 := by
  unfold Chan.packFrameCounts
  extract_lets boff d
  have hd : d.bit Reg.PACK_STAT Fld.PACK_STAT_BACKOFF = true ∧ d.fld Reg.PACK_OWN Fld.PACK_OWN_BOFF = boff := by
    unfold d
    split
    · exact ⟨(c.bit_setFld_ne _ _ _ _ _ (by decide)).trans h, c.fld_setFld_ne _ _ _ _ _ (by decide)⟩
    · exact ⟨h, rfl⟩
  obtain ⟨hbackoff, hboff⟩ := hd
  have hlt : boff < 2 ^ Fld.PACK_OWN_BOFF.width := BitVec.isLt _
  rw [hbackoff, Bool.true_and]
  split
  · rw [Chan.fld_setFld _ _ _ _ (by decide)]
    exact Nat.mod_eq_of_lt (by omega)
  case isFalse hlast =>
    rw [decide_eq_true_iff] at hlast
    omega

end

/-! ## PACK_DUPLICATE (R228) -/

/-- A channel that shows the phase of the duplicate, stops at the next chip and begins its test anew (R228). -/
def Chan.packDupSeen (c : Chan) : Chan :=
  let d := c.setFld Reg.PACK_DUPID Fld.PACK_DUPID_PHASE c.pack.dup.phase.toNat
  { d with pack := { d.pack with stopAtChip := true, dup := { d.pack.dup with run := 0, odd := 0, seen := none } } }

/-- A channel that has drawn a backoff of `boff` frames and a new phase (R228). -/
def Chan.packBackoff (c : Chan) (boff phase : Nat) : Chan :=
  let d := (c.setFld Reg.PACK_STAT Fld.PACK_STAT_BACKOFF 1).setFld Reg.PACK_OWN Fld.PACK_OWN_BOFF boff
  { d with pack := { d.pack with newPhase := some phase } }

/-- The state after a duplicate during a backoff or in the frames after it: DUP is latched (R228). -/
def State.dupLatched (s : State) (ch : ChId) : State :=
  let d := (s.chan ch).packDupSeen.setFld Reg.PACK_STAT Fld.PACK_STAT_DUP 1
  (s.putChan ch d).record 0x06 ch.val 2 2 (recData [(0, 4, (d.get Reg.PACK_DUPID).toNat)])

/-- The state after a first duplicate: the backoff's length and the new phase are drawn (R228). -/
def State.dupBackedOff (s : State) (ch : ChId) (k : DupCase) : State :=
  let boff := 4 + Config.freeNat s.free % 12
  let d := (s.chan ch).packDupSeen.packBackoff boff (Config.freeNat (s.free + 1) % 255)
  (State.countCh { s.putChan ch d with free := s.free + 2 } ch Reg.PACK_CNT1 false true).record 0x06 ch.val 1 1
    (recData [(0, 2, d.fld Reg.PACK_ID Fld.PACK_ID_ID), (2, 1, boff), (3, 1, dupNumber k)])

theorem exec_packDuplicate {s : State} {ch : ChId} {k : DupCase} (hseen : (s.chan ch).pack.dup.seen = some k)
    (hon : (s.chan ch).pack.enabled = true) (hlisten : (s.chan ch).packListens = true) :
    exec (.packDuplicate ch) s =
      if (s.chan ch).bit Reg.PACK_STAT Fld.PACK_STAT_BACKOFF || (s.chan ch).pack.window.isSome then .next (s.dupLatched ch)
      else .next (s.dupBackedOff ch k) := by
  show execPackDuplicate ch s = _
  unfold execPackDuplicate
  simp only [hseen]
  exact if_neg (by simp [hon, hlisten])

theorem State.chan_dupLatched (s : State) (ch : ChId) :
    (s.dupLatched ch).chan ch = (s.chan ch).packDupSeen.setFld Reg.PACK_STAT Fld.PACK_STAT_DUP 1 :=
  (State.record_chan ..).trans (State.chan_putChan_same ..)

/-- The count of duplicates is the channel's last change; the drawn values lie within their bounds. -/
theorem State.chan_dupBackedOff (s : State) (ch : ChId) (k : DupCase) : ∃ boff phase w,
    (4 ≤ boff ∧ boff ≤ 15 ∧ phase < 255) ∧
    (s.dupBackedOff ch k).chan ch = ((s.chan ch).packDupSeen.packBackoff boff phase).put Reg.PACK_CNT1 w := by
  have hdrawn : ∀ c n, ({ s.putChan ch c with free := n } : State).chan ch = c := fun c _ => s.chan_putChan_same ch c
  unfold State.dupBackedOff
  rw [State.record_chan, State.countCh_chan, hdrawn]
  exact ⟨_, _, _, ⟨by omega, by omega, Nat.mod_lt _ (by decide)⟩, rfl⟩

/-- A duplicate that is seen changes of the registers PACK_DUPID alone. -/
theorem Chan.get_packDupSeen_ne (c : Chan) {o : Nat} (h : o ≠ Reg.PACK_DUPID) : c.packDupSeen.get o = c.get o :=
  c.get_setFld_ne _ _ h

theorem Chan.packDupSeen_phase (c : Chan) : c.packDupSeen.fld Reg.PACK_DUPID Fld.PACK_DUPID_PHASE = c.pack.dup.phase.toNat :=
  (c.fld_setFld _ _ _ (by decide)).trans (Nat.mod_eq_of_lt (BitVec.isLt _))

section
variable (c : Chan) (boff phase : Nat)

theorem Chan.get_packBackoff_ne {o : Nat} (hstat : o ≠ Reg.PACK_STAT) (hown : o ≠ Reg.PACK_OWN) :
    (c.packBackoff boff phase).get o = c.get o := (Chan.get_setFld_ne _ _ _ hown).trans (c.get_setFld_ne _ _ hstat)

theorem Chan.packBackoff_stat : (c.packBackoff boff phase).bit Reg.PACK_STAT Fld.PACK_STAT_BACKOFF = true ∧
    (c.packBackoff boff phase).bit Reg.PACK_STAT Fld.PACK_STAT_DUP = c.bit Reg.PACK_STAT Fld.PACK_STAT_DUP :=
  ⟨(Chan.bit_setFld_ne _ _ _ _ _ _ (by decide)).trans (c.bit_setFld _ _ (by decide) (by decide)),
    (Chan.bit_setFld_ne _ _ _ _ _ _ (by decide)).trans (c.bit_setFld_ne _ _ _ _ _ (by decide))⟩

theorem Chan.packBackoff_boff (h : boff < 16) : (c.packBackoff boff phase).fld Reg.PACK_OWN Fld.PACK_OWN_BOFF = boff :=
  (Chan.fld_setFld _ _ _ _ (by decide)).trans (Nat.mod_eq_of_lt h)

end

/-! ## PACK_BACKOFF_END (R228) -/

/-- A channel whose backoff is over: the new phase holds, and the 64 frames begin (R228). -/
def Chan.packBackoffOver (c : Chan) : Chan :=
  let d := c.setFld Reg.PACK_STAT Fld.PACK_STAT_BACKOFF 0
  let d := match c.pack.newPhase with
    | some n => d.setFld Reg.PACK_OWN Fld.PACK_OWN_PHASE n
    | none => d
  { d with pack := { d.pack with newPhase := none, window := some 0 } }

theorem exec_packBackoffEnd {s : State} {ch : ChId}
    (hbackoff : (s.chan ch).bit Reg.PACK_STAT Fld.PACK_STAT_BACKOFF = true)
    (hboff : (s.chan ch).fld Reg.PACK_OWN Fld.PACK_OWN_BOFF = 0) :
    exec (.packBackoffEnd ch) s = .next (s.putChan ch (s.chan ch).packBackoffOver) :=
  if_pos (by simp [hbackoff, hboff])

theorem Chan.packBackoffOver_stat (c : Chan) : c.packBackoffOver.bit Reg.PACK_STAT Fld.PACK_STAT_BACKOFF = false := by
  have hd : (c.setFld Reg.PACK_STAT Fld.PACK_STAT_BACKOFF 0).bit Reg.PACK_STAT Fld.PACK_STAT_BACKOFF = false :=
    c.bit_setFld0 _ _ (by decide)
  unfold Chan.packBackoffOver
  split
  · exact (Chan.bit_setFld_ne _ _ _ _ _ _ (.inl (by decide))).trans hd
  · exact hd

theorem Chan.packBackoffOver_phase {c : Chan} {n : Nat} (hn : n < 256) (h : c.pack.newPhase = some n) :
    c.packBackoffOver.fld Reg.PACK_OWN Fld.PACK_OWN_PHASE = n := by
  unfold Chan.packBackoffOver
  rw [h]
  exact (Chan.fld_setFld _ _ _ _ (by decide)).trans (Nat.mod_eq_of_lt hn)

/-- Settles O27: the frame's end (`Chan.packFrameCounts`), a duplicate seen first and seen again (`Chan.packDupSeen`,
`Chan.packBackoff`), and the backoff's end (`Chan.packBackoffOver`). -/
theorem packDuplicates : Obligations.PackDuplicates := by
  unfold Obligations.PackDuplicates
  intro s ch c
  refine ⟨fun hlisten hend => ⟨_, exec_packFrameEnd hlisten hend, ?_⟩, fun k hseen hon hlisten =>
    ⟨fun hbackoff hwindow => ⟨_, (exec_packDuplicate hseen hon hlisten).trans (if_neg ?_), ?_⟩,
      fun hagain => ⟨_, (exec_packDuplicate hseen hon hlisten).trans (if_pos (Bool.or_eq_true_iff.2 hagain)), ?_⟩⟩,
    fun hbackoff hboff => ⟨_, exec_packBackoffEnd hbackoff hboff, ?_⟩⟩
  · rw [State.chan_putChan_same]
    refine ⟨rfl, ?_⟩
    intro d
    have hpack : d.pack = c.pack.frameEnded c.packNextFrame.1 c.packNextFrame.2 := Chan.packFrameCounts_pack _ _
    rw [hpack]
    refine ⟨rfl, rfl, fun f => ?_, fun hstays hcoded => ?_, fun hleaves => ?_, fun hgone => ?_, fun hbackoff => ?_⟩
    · exact congrArg Finger.age (Vector.getElem_map ..)
    · exact (if_neg hstays).trans (by rw [hcoded]; rfl)
    · exact if_pos hleaves
    · exact Chan.packFrameCounts_stops _ _ hgone
    · exact Chan.packFrameCounts_boff _ _ hbackoff
  · rw [show (s.chan ch).bit _ _ = false from hbackoff, show (s.chan ch).pack.window = none from hwindow]
    decide
  · obtain ⟨boff, phase, w, ⟨hmin, hmax, hphase⟩, hchan⟩ := s.chan_dupBackedOff ch k
    rw [hchan]
    intro d
    have hget : ∀ {o}, o ≠ Reg.PACK_CNT1 → d.get o = (c.packDupSeen.packBackoff boff phase).get o := fun ho =>
      (Chan.get_put ..).trans (if_neg ho)
    have hbit : ∀ f, d.bit Reg.PACK_STAT f = (c.packDupSeen.packBackoff boff phase).bit Reg.PACK_STAT f := fun f =>
      congrArg (getField · f != 0) (hget (by decide))
    have hboff : d.fld Reg.PACK_OWN Fld.PACK_OWN_BOFF = boff :=
      (congrArg (getField · _) (hget (by decide))).trans (Chan.packBackoff_boff _ _ _ (by omega))
    have hdupid : d.get Reg.PACK_DUPID = c.packDupSeen.get Reg.PACK_DUPID :=
      (hget (by decide)).trans (Chan.get_packBackoff_ne _ _ _ (by decide) (by decide))
    obtain ⟨hset, hdup⟩ := c.packDupSeen.packBackoff_stat boff phase
    refine ⟨(hbit _).trans hset, hboff ▸ hmin, hboff ▸ hmax, ⟨phase, hphase, rfl⟩,
      (congrArg (getField · _) hdupid).trans c.packDupSeen_phase, rfl, ((hbit _).trans hdup).trans ?_⟩
    exact congrArg (getField · _ != 0) (c.get_packDupSeen_ne (by decide))
  · rw [State.chan_dupLatched]
    exact ⟨Chan.bit_setFld _ _ _ (by decide) (by decide), rfl⟩
  · rw [State.chan_putChan_same]
    exact ⟨rfl, Chan.packBackoffOver_stat _, rfl, fun n => Chan.packBackoffOver_phase⟩

end Sys2Proof.Machine
end

section
/-! SUPPORT. The family of 08_pwm_and_power_stage.md: driver faults, the fault turn-off sequence and the ends of its times (R240,
R251 to R255, R258, R260, R261, R274). -/

namespace Sys2Proof.Machine

/-! ## Masks of pads -/

/-- A pad's bit is in its own mask. -/
theorem getLsbD_padBit : ∀ pad : Fin 12, (1#12 <<< pad.val).getLsbD pad.val = true := by decide

theorem getLsbD_or_padBit (m : BitVec 12) (pad : Fin 12) : (m ||| (1#12 <<< pad.val)).getLsbD pad.val = true := by
  rw [BitVec.getLsbD_or, getLsbD_padBit, Bool.or_true]

theorem getLsbD_without_padBit (m : BitVec 12) (pad : Fin 12) : (m &&& ~~~(1#12 <<< pad.val)).getLsbD pad.val = false := by
  rw [BitVec.getLsbD_and, BitVec.getLsbD_not, getLsbD_padBit, Bool.not_true, Bool.and_false, Bool.and_false]

/-- A mask of pads that a twelve-bit field is set to reads back. -/
theorem Chan.padField_setFld (c : Chan) (r : Nat) {f : BitField} (m : BitVec 12) (h : f.lo + f.width ≤ 32) (hw : f.width = 12) :
    BitVec.ofNat 12 ((c.setFld r f m.toNat).fld r f) = m := by
  rw [c.fld_setFld r f _ h, hw, Nat.mod_eq_of_lt m.isLt, BitVec.ofNat_toNat, BitVec.setWidth_eq]

/-! ## The topology's registers (R235, R236) -/

/-- The registers that say which switch a pad drives (R235, R236). -/
def topoRegs : List Nat := [Reg.PWM_TOPO, Reg.PWM_MAP0, Reg.PWM_MAP1]

section
variable {c d : Chan} (h : ∀ o ∈ topoRegs, d.get o = c.get o)
include h

theorem Chan.padSwitch_congr (k : Nat) : d.padSwitch k = c.padSwitch k := by
  unfold Chan.padSwitch
  rw [h Reg.PWM_MAP0 (by decide), h Reg.PWM_MAP1 (by decide)]

theorem Chan.padMask_congr (p : Nat → Bool) : d.padMask p = c.padMask p := by
  unfold Chan.padMask Chan.usedPads
  simp only [Chan.padSwitch_congr h]

theorem Chan.threeLevel_congr : d.threeLevel = c.threeLevel :=
  congrArg (getField · Fld.PWM_TOPO_TOPO != 0) (h Reg.PWM_TOPO (by decide))

theorem Chan.outerPads_congr : d.outerPads = c.outerPads := by
  unfold Chan.outerPads
  rw [Chan.threeLevel_congr h, Chan.padMask_congr h]

theorem Chan.innerPads_congr : d.innerPads = c.innerPads := by
  unfold Chan.innerPads
  rw [Chan.threeLevel_congr h, Chan.padMask_congr h]

end

/-! ## Driver fault inputs (R251, R252, R274) -/

/-- FLIVE shows an input that is asserted until its release (R251, R274). -/
theorem Chan.setFault_flive (c : Chan) (pad : Fin 12) (asserted : Bool) :
    (BitVec.ofNat 12 ((c.setFault pad asserted).fld Reg.PWM_STAT Fld.PWM_STAT_FLIVE)).getLsbD pad.val = asserted := by
  have hset := c.padField_setFld Reg.PWM_STAT (f := Fld.PWM_STAT_FLIVE)
    (if asserted then BitVec.ofNat 12 (c.fld Reg.PWM_STAT Fld.PWM_STAT_FLIVE) ||| (1#12 <<< pad.val)
      else BitVec.ofNat 12 (c.fld Reg.PWM_STAT Fld.PWM_STAT_FLIVE) &&& ~~~(1#12 <<< pad.val)) (by decide) rfl
  refine (congrArg (BitVec.getLsbD · pad.val) hset).trans ?_
  cases asserted
  · exact getLsbD_without_padBit _ pad
  · exact getLsbD_or_padBit _ pad

/-- An input's assertion or release changes of the registers PWM_STAT alone. -/
theorem Chan.setFault_mode (c : Chan) (pad : Fin 12) (asserted : Bool) : (c.setFault pad asserted).mode = c.mode :=
  Chan.fld_setFld_ne c Reg.PWM_STAT Reg.CH_MODE_CUR Fld.PWM_STAT_FLIVE Fld.CH_MODE_CUR_MODE _ (.inl (by decide))

section
variable {s : State} {ch : ChId} {pad : Fin 12}
  (hen : (BitVec.ofNat 12 ((s.chan ch).fld Reg.FLT_CFG Fld.FLT_CFG_EN)).getLsbD pad.val = true)
include hen

theorem exec_driverFaultFiltered (asserted : Bool) : exec (.driverFaultFiltered ch pad asserted) s =
    let c := (s.chan ch).setFault pad asserted
    let u := s.putChan ch c
    if !asserted || u.faultsIdle ch then .next u
    else if !c.padOn pad.val (c.gatePos s.time.refNs) then .next (if c.mode = 8 then u else u.uvReport ch pad)
    else if c.blanking pad (c.gatePos s.time.refNs) then
      .next (u.putChan ch { c with pwm := { c.pwm with blanked := c.pwm.blanked ||| (1#12 <<< pad.val) } })
    else .next (u.desat ch pad) :=
  if_neg (by rw [hen]; decide)

theorem exec_driverFault_released :
    exec (.driverFaultFiltered ch pad false) s = .next (s.putChan ch ((s.chan ch).setFault pad false)) :=
  exec_driverFaultFiltered hen false

theorem exec_driverFault_idle (hidle : (s.putChan ch ((s.chan ch).setFault pad true)).faultsIdle ch = true) :
    exec (.driverFaultFiltered ch pad true) s = .next (s.putChan ch ((s.chan ch).setFault pad true)) :=
  (exec_driverFaultFiltered hen true).trans (if_pos (by rw [hidle]; rfl))

/-- Where the pads are not idle, the state of the switch at the pad decides (R251). -/
theorem exec_driverFault_judged (hidle : (s.putChan ch ((s.chan ch).setFault pad true)).faultsIdle ch = false) :
    exec (.driverFaultFiltered ch pad true) s =
    let c := (s.chan ch).setFault pad true
    let u := s.putChan ch c
    if !c.padOn pad.val (c.gatePos s.time.refNs) then .next (if c.mode = 8 then u else u.uvReport ch pad)
    else if c.blanking pad (c.gatePos s.time.refNs) then
      .next (u.putChan ch { c with pwm := { c.pwm with blanked := c.pwm.blanked ||| (1#12 <<< pad.val) } })
    else .next (u.desat ch pad) :=
  (exec_driverFaultFiltered hen true).trans (if_neg (by rw [hidle]; decide))

end

theorem exec_blankingEnd {s : State} {ch : ChId} {pad : Fin 12} (h : (s.chan ch).pwm.blanked.getLsbD pad.val = true) :
    exec (.blankingEnd ch pad) s =
    let v := s.putChan ch { s.chan ch with pwm := { (s.chan ch).pwm with
      blanked := (s.chan ch).pwm.blanked &&& ~~~(1#12 <<< pad.val) } }
    .next (if v.faultsIdle ch then v else v.desat ch pad) :=
  if_pos h

/-! ## Trips (R253 to R256) -/

/-- A trip's bit latches (R256). -/
theorem Chan.setTrip_bit (c : Chan) {f : BitField} (h : f.lo + f.width ≤ 32) (hw : 0 < f.width) :
    (c.setTrip f).bit Reg.PWM_TRIP f = true := c.bit_setFld Reg.PWM_TRIP f h hw

theorem Chan.get_setTrip_ne (c : Chan) (f : BitField) {o : Nat} (h : o ≠ Reg.PWM_TRIP) : (c.setTrip f).get o = c.get o :=
  c.get_setFld_ne f 1 h

theorem Chan.get_addSwMask_ne (c : Chan) (m : BitVec 12) {o : Nat} (h : o ≠ Reg.PWM_TRIP) : (c.addSwMask m).get o = c.get o :=
  c.get_setFld_ne _ _ h

/-- A latched trip shows as the SAFE cause PROT, bit 6, and changes no other register and nothing of the PWM unit (R189,
R256). -/
theorem State.tripProt_shows (s : State) (ch : ChId) :
    (((s.tripProt ch).chan ch).get Reg.CH_SAFE_LIVE).getLsbD 6 = true ∧
    (((s.tripProt ch).chan ch).get Reg.CH_SAFE_LATCH).getLsbD 6 = true ∧
    ((s.tripProt ch).chan ch).get Reg.PWM_TRIP = (s.chan ch).get Reg.PWM_TRIP ∧
    ((s.tripProt ch).chan ch).pwm = (s.chan ch).pwm := by
  obtain ⟨hlive, hlatch, hother⟩ := s.raiseSafe_bits ch (b := 6) (by decide)
  exact ⟨hlive, hlatch, hother _ (by decide) (by decide), (congrArg Chan.pwm (s.raiseSafe_chan ch 6)).trans rfl⟩

/-! ## A DESAT (R253, R254) -/

/-- The PWM unit as a DESAT that opens a sequence finds it, before its own pads `b` are softened: what is off is held off, the
outer pads that are on await TOFF, the inner ones TORD (R253). -/
def Chan.seqOpened (c : Chan) (b on : BitVec 12) : Pwm :=
  { c.pwm with seqOn := true, held := c.padMask (fun _ => true) &&& ~~~on &&& ~~~b,
               other := on &&& c.outerPads, late := on &&& c.innerPads, soft := 0, frozen := 0 }

/-- The PWM unit after a DESAT of the pads `b`, with the pads `on`. -/
def Chan.desatPwm (c : Chan) (b on : BitVec 12) : Pwm :=
  let p := (if c.pwm.seqOn then c.pwm else c.seqOpened b on).soften b on
  { p with window := some (p.window.getD 0 ||| b) }

/-- The channel after a DESAT of the pads `b`, before it is counted and shown as PROT. -/
def Chan.desatted (c : Chan) (b on : BitVec 12) : Chan :=
  let d := (c.setTrip Fld.PWM_TRIP_DESAT).addSwMask b
  { d with pwm := d.desatPwm b on }

theorem State.desat_eq (s : State) (ch : ChId) (pad : Fin 12) : s.desat ch pad =
    ((s.putChan ch ((s.chan ch).desatted (1#12 <<< pad.val) ((s.chan ch).padsOn ((s.chan ch).gatePos s.time.refNs)))).countCh
      ch Reg.PWM_CNT0 true true).tripProt ch := rfl

theorem Chan.desatted_trip (c : Chan) (pad : Fin 12) (on : BitVec 12) :
    (c.desatted (1#12 <<< pad.val) on).bit Reg.PWM_TRIP Fld.PWM_TRIP_DESAT = true ∧
    (BitVec.ofNat 12 ((c.desatted (1#12 <<< pad.val) on).fld Reg.PWM_TRIP Fld.PWM_TRIP_SWMASK)).getLsbD pad.val = true :=
  ⟨(Chan.bit_setFld_ne _ _ _ _ _ _ (.inr (by decide))).trans (c.setTrip_bit (by decide) (by decide)),
    (congrArg (BitVec.getLsbD · pad.val) (Chan.padField_setFld _ _ _ (by decide) rfl)).trans (getLsbD_or_padBit _ pad)⟩

/-- A DESAT's own pads await TSOFT, in a running sequence too (R253). -/
theorem Chan.desatPwm_soft (c : Chan) (pad : Fin 12) (on : BitVec 12) :
    (c.desatPwm (1#12 <<< pad.val) on).soft.getLsbD pad.val = true := getLsbD_or_padBit _ pad

/-- The trip's registers do not say which switch a pad drives. -/
theorem Chan.desatted_topo (c : Chan) (b : BitVec 12) :
    ∀ o ∈ topoRegs, ((c.setTrip Fld.PWM_TRIP_DESAT).addSwMask b).get o = c.get o := by
  intro o ho
  have hne : o ≠ Reg.PWM_TRIP := by
    have apart : ∀ o ∈ topoRegs, o ≠ Reg.PWM_TRIP := by decide
    exact apart o ho
  exact (Chan.get_addSwMask_ne _ b hne).trans (c.get_setTrip_ne _ hne)

/-- Outside a sequence a DESAT opens one over the channel's own pads. -/
theorem Chan.desatted_opens {c : Chan} (hseq : c.pwm.seqOn = false) (b on : BitVec 12) :
    (c.desatted b on).pwm = { (c.setTrip Fld.PWM_TRIP_DESAT).pwm with
      seqOn := true, held := c.padMask (fun _ => true) &&& ~~~on &&& ~~~b, other := on &&& c.outerPads &&& ~~~b,
      late := on &&& c.innerPads &&& ~~~b, soft := 0 ||| b, frozen := 0 ||| (b &&& on), judges := true,
      window := some (c.pwm.window.getD 0 ||| b) } := by
  have htopo := c.desatted_topo b
  have hoff : ((c.setTrip Fld.PWM_TRIP_DESAT).addSwMask b).pwm.seqOn = false := hseq
  unfold Chan.desatted Chan.desatPwm Chan.seqOpened Pwm.soften
  simp only [hoff, Chan.padMask_congr htopo, Chan.outerPads_congr htopo, Chan.innerPads_congr htopo]
  rfl

/-- What a DESAT leaves: the trip latched with its pad's SWMASK bit and shown as PROT, the PWM unit as `Chan.desatted` says. -/
theorem State.desat_shows (s : State) (ch : ChId) (pad : Fin 12) :
    let d := (s.desat ch pad).chan ch
    let c := (s.chan ch).desatted (1#12 <<< pad.val) ((s.chan ch).padsOn ((s.chan ch).gatePos s.time.refNs))
    d.get Reg.PWM_TRIP = c.get Reg.PWM_TRIP ∧ d.pwm = c.pwm ∧ (d.get Reg.CH_SAFE_LIVE).getLsbD 6 = true ∧
    (d.get Reg.CH_SAFE_LATCH).getLsbD 6 = true := by
  intro d c
  obtain ⟨hlive, hlatch, htrip, hpwm⟩ :=
    ((s.putChan ch c).countCh ch Reg.PWM_CNT0 true true).tripProt_shows ch
  have hcount : ((s.putChan ch c).countCh ch Reg.PWM_CNT0 true true).chan ch =
      c.put Reg.PWM_CNT0 (counterStep (c.get Reg.PWM_CNT0) true) := by
    rw [State.countCh_chan, State.chan_putChan_same]
  rw [hcount] at htrip hpwm
  exact ⟨htrip.trans ((c.get_put ..).trans (if_neg (by decide))), hpwm, hlive, hlatch⟩

/-- Settles O28: the cases of a filtered fault (`exec_driverFault_judged`), the end of the blanking window, and what a DESAT
latches and which pads its sequence takes up (`State.desat_shows`, `Chan.desatted_opens`). A release as an operand, and the
gate's position at the present time, are the model's reading (log 66). -/
theorem desaturation : Obligations.Desaturation := by
  unfold Obligations.Desaturation
  intro s ch pad c b live u pos
  refine ⟨fun hen => ⟨exec_driverFault_released hen, c.setFault_flive pad true, c.setFault_flive pad false,
    exec_driverFault_idle hen, fun hidle => ⟨fun hon hblank => ?_, fun hon hblank => ?_, fun hoff hmode => ?_⟩⟩,
    ?_, ?_⟩
  · exact (exec_driverFault_judged hen hidle).trans
      ((if_neg (ne_true_of_eq_false (congrArg Bool.not hon))).trans (if_neg (ne_true_of_eq_false hblank)))
  · exact (exec_driverFault_judged hen hidle).trans ((if_neg (ne_true_of_eq_false (congrArg Bool.not hon))).trans
      ((if_pos hblank).trans (congrArg Host.Outcome.next (s.putChan_putChan ch _ _))))
  · have hdrives : live.mode ≠ 8 := fun h => hmode ((c.setFault_mode pad true).symm.trans h)
    exact (exec_driverFault_judged hen hidle).trans
      ((if_pos (congrArg Bool.not hoff)).trans (congrArg Host.Outcome.next (if_neg hdrives)))
  · intro hblanked v hidle
    exact (exec_blankingEnd hblanked).trans (congrArg Host.Outcome.next (if_neg (ne_true_of_eq_false hidle)))
  · intro on d
    obtain ⟨htrip, hpwm, hlive, hlatch⟩ := s.desat_shows ch pad
    obtain ⟨hdesat, hmask⟩ := c.desatted_trip pad on
    refine ⟨(congrArg (getField · Fld.PWM_TRIP_DESAT != 0) htrip).trans hdesat, hlive, hlatch,
      (congrArg (fun w => (BitVec.ofNat 12 (getField w Fld.PWM_TRIP_SWMASK)).getLsbD pad.val) htrip).trans hmask, ?_, ?_⟩
    · rw [hpwm]
      exact Chan.desatPwm_soft _ pad on
    · intro hwindow hseq
      have hopens := hpwm.trans (Chan.desatted_opens (c := c) hseq b on)
      rw [hopens]
      refine ⟨rfl, BitVec.zero_or, ?_, BitVec.zero_or, rfl, rfl, rfl⟩
      show some (c.pwm.window.getD 0 ||| b) = some b
      rw [hwindow]
      exact congrArg some BitVec.zero_or

end Sys2Proof.Machine
end

section
/-! SUPPORT. The family of 08_pwm_and_power_stage.md: the ends of the protection times (R240, R253 to R255, R258, R260, R261). -/

namespace Sys2Proof.Machine

/-! ## The turn-off of a sequence's waiting pads (R253, R254) -/

/-- The pads that a sequence treats as faulted when it would turn them off: on, their own input asserted (R253). -/
def Chan.seqLive (c : Chan) (on : BitVec 12) : BitVec 12 :=
  if c.pwm.judges then BitVec.ofNat 12 (c.fld Reg.PWM_STAT Fld.PWM_STAT_FLIVE) &&& on else 0

/-- Of the pads `m` that go off, those with a live fault. -/
theorem Chan.seqLive_and (c : Chan) (m on : BitVec 12) :
    (if c.pwm.judges then BitVec.ofNat 12 (c.fld Reg.PWM_STAT Fld.PWM_STAT_FLIVE) &&& m &&& on else 0) = c.seqLive on &&& m := by
  unfold Chan.seqLive
  split
  · rw [BitVec.and_assoc, BitVec.and_comm m, ← BitVec.and_assoc]
  · exact BitVec.zero_and.symm

/-- With no fault live, the pads of `m` go off. -/
theorem Chan.seqTurnOff_quiet {c : Chan} {on : BitVec 12} (h : c.seqLive on = 0) (m : BitVec 12) :
    c.seqTurnOff m on = { c with pwm := { c.pwm with held := c.pwm.held ||| m } } := by
  have hlive : c.seqLive on &&& m = 0 := by
    rw [h]
    exact BitVec.zero_and
  unfold Chan.seqTurnOff
  rw [Chan.seqLive_and]
  exact if_pos hlive

/-- The pads of `m` that are on with their own fault live go soft, beside those that are soft already (R253). -/
theorem Chan.seqTurnOff_soft (c : Chan) (m on : BitVec 12) :
    (c.seqTurnOff m on).pwm.soft = c.pwm.soft ||| (c.seqLive on &&& m) := by
  unfold Chan.seqTurnOff
  rw [Chan.seqLive_and]
  dsimp only
  split
  case isTrue hlive =>
    rw [hlive]
    exact BitVec.or_zero.symm
  case isFalse => rfl

/-- The end of a sequence stops the gates' drive and leaves every other part of it. -/
theorem Chan.seqSettle_pwm (c : Chan) : ∃ driving lag, c.seqSettle.pwm = { c.pwm with driving := driving, lag := lag } := by
  unfold Chan.seqSettle
  split
  · exact ⟨false, 0, rfl⟩
  · exact ⟨c.pwm.driving, c.pwm.lag, rfl⟩

theorem Chan.get_seqSettle (c : Chan) (o : Nat) : c.seqSettle.get o = c.get o := by
  unfold Chan.seqSettle
  split <;> rfl

/-- Once no pad waits, the sequence has taken the pads off (R256, R263). -/
theorem Chan.seqSettle_ended {c : Chan} (hseq : c.pwm.seqOn = true) (hnone : c.pwm.soft ||| c.pwm.other ||| c.pwm.late = 0) :
    c.seqSettle.pwm.driving = false := by
  unfold Chan.seqSettle
  rw [if_pos (by rw [hseq, decide_eq_true hnone]; rfl)]

/-! ## TOFF_EXPIRY and TORD_EXPIRY (R253) -/

/-- The channel after TOFF, before its sequence settles. -/
def Chan.toffEnded (c : Chan) (on : BitVec 12) : Chan :=
  let d := c.seqTurnOff c.pwm.other on
  { d with pwm := { d.pwm with other := 0 } }

/-- The channel after TORD, before its sequence settles. -/
def Chan.tordEnded (c : Chan) (on : BitVec 12) : Chan :=
  let d := c.seqTurnOff c.pwm.late on
  { d with pwm := { d.pwm with late := 0 } }

theorem exec_toffExpiry (s : State) (ch : ChId) : exec (.toffExpiry ch) s =
    .next (s.putChan ch ((s.chan ch).toffEnded ((s.chan ch).padsOn ((s.chan ch).gatePos s.time.refNs))).seqSettle) := rfl

theorem exec_tordExpiry (s : State) (ch : ChId) : exec (.tordExpiry ch none) s =
    .next (s.putChan ch ((s.chan ch).tordEnded ((s.chan ch).padsOn ((s.chan ch).gatePos s.time.refNs))).seqSettle) := rfl

theorem Chan.toffEnded_waits (c : Chan) (on : BitVec 12) : (c.toffEnded on).seqSettle.pwm.other = 0 ∧
    (c.toffEnded on).seqSettle.pwm.soft = c.pwm.soft ||| (c.seqLive on &&& c.pwm.other) := by
  obtain ⟨driving, lag, hpwm⟩ := (c.toffEnded on).seqSettle_pwm
  rw [hpwm]
  exact ⟨rfl, c.seqTurnOff_soft c.pwm.other on⟩

theorem Chan.tordEnded_waits (c : Chan) (on : BitVec 12) : (c.tordEnded on).seqSettle.pwm.late = 0 ∧
    (c.tordEnded on).seqSettle.pwm.soft = c.pwm.soft ||| (c.seqLive on &&& c.pwm.late) := by
  obtain ⟨driving, lag, hpwm⟩ := (c.tordEnded on).seqSettle_pwm
  rw [hpwm]
  exact ⟨rfl, c.seqTurnOff_soft c.pwm.late on⟩

/-! ## LEG_OFF_TIMEOUT (R261) -/

/-- A trip that treats no switch as faulted changes no register. -/
theorem Chan.get_tripOff_unfaulted (c : Chan) (on : BitVec 12) (o : Nat) : (c.tripOff false on).get o = c.get o := by
  unfold Chan.tripOff
  split
  · rfl
  · exact Chan.get_seqSettle _ o

/-- After a trip a sequence runs: the one under way, or the trip's own (R255, R261). -/
theorem Chan.tripOff_seqOn (c : Chan) (faulted : Bool) (on : BitVec 12) : (c.tripOff faulted on).pwm.seqOn = true := by
  unfold Chan.tripOff
  split
  case isTrue hseq => exact hseq
  case isFalse =>
    extract_lets live d late
    obtain ⟨driving, lag, hpwm⟩ := Chan.seqSettle_pwm _
    rw [hpwm]

/-- An UVREP trip latches, shows as PROT and runs a sequence (R261). -/
theorem State.uvrep_shows (s : State) (ch : ChId) (n : Nat) : let d := (s.uvrep ch n).chan ch
    d.bit Reg.PWM_TRIP Fld.PWM_TRIP_UVREP = true ∧ (d.get Reg.CH_SAFE_LATCH).getLsbD 6 = true ∧ d.pwm.seqOn = true := by
  unfold State.uvrep
  extract_lets c legs c' d
  obtain ⟨-, hlatch, htrip, hpwm⟩ := (s.putChan ch c').tripProt_shows ch
  have hd : d = ((s.putChan ch c').tripProt ch).chan ch := State.record_chan ..
  rw [State.chan_putChan_same] at htrip hpwm
  rw [hd]
  have hget : c'.get Reg.PWM_TRIP = (c.setTrip Fld.PWM_TRIP_UVREP).get Reg.PWM_TRIP := Chan.get_tripOff_unfaulted ..
  exact ⟨(congrArg (getField · Fld.PWM_TRIP_UVREP != 0) (htrip.trans hget)).trans (c.setTrip_bit (by decide) (by decide)),
    hlatch, (congrArg Pwm.seqOn hpwm).trans (Chan.tripOff_seqOn ..)⟩

theorem exec_legOffTimeout {s : State} {ch : ChId} {leg : Fin 3} (hleg : (s.chan ch).pwm.legs[leg] ≠ .on)
    (htrip : (s.chan ch).bit Reg.PWM_TRIP Fld.PWM_TRIP_UVREP = false) :
    exec (.legOffTimeout ch leg) s = .next (s.uvrep ch 2) :=
  if_pos (by rw [htrip]; simpa using hleg)

/-! ## DESAT_WINDOW_CLOSE (R254) -/

theorem exec_desatWindowClose {s : State} {ch : ChId} {m : BitVec 12} (h : (s.chan ch).pwm.window = some m) :
    exec (.desatWindowClose ch) s = .next ((s.putChan ch { s.chan ch with
      pwm := { (s.chan ch).pwm with window := none } }).record 0x07 ch.val 2 3
        (recData [(0, 2, m.toNat), (2, 1, (s.chan ch).legsOf m)])) := by
  show execDesatWindowClose ch s = _
  unfold execDesatWindowClose
  simp only [h]

/-- Settles O29: the turn-off of waiting pads with and without a live fault (`Chan.seqTurnOff_quiet`, `Chan.toffEnded_waits`,
`Chan.tordEnded_waits`), the sequence's end (`Chan.seqSettle_ended`) and the UVREP trip (`State.uvrep_shows`); the other
commands' arms are the statement's own. -/
theorem protectionTimes : Obligations.ProtectionTimes := by
  unfold Obligations.ProtectionTimes
  intro s ch pad leg c b on live
  refine ⟨rfl, fun hquiet => ⟨?_, ?_⟩, rfl, ⟨_, _, exec_toffExpiry s ch, exec_tordExpiry s ch, ?_⟩, Chan.seqSettle_ended,
    fun m => exec_desatWindowClose, fun hleg htrip => ⟨_, exec_legOffTimeout hleg htrip, s.uvrep_shows ch 2⟩, rfl, rfl⟩
  · rw [exec_toffExpiry, Chan.toffEnded, Chan.seqTurnOff_quiet hquiet]
  · rw [exec_tordExpiry, Chan.tordEnded, Chan.seqTurnOff_quiet hquiet]
  · obtain ⟨hother, htoff⟩ := c.toffEnded_waits on
    obtain ⟨hlate, htord⟩ := c.tordEnded_waits on
    rw [State.chan_putChan_same, State.chan_putChan_same]
    exact ⟨rfl, rfl, hother, htoff, hlate, htord⟩

end Sys2Proof.Machine
end

section
/-! SUPPORT. The family of 08_pwm_and_power_stage.md: the levels at a channel's pads (R236, R237, R259, R263, R345). -/

namespace Sys2Proof.Machine

/-! ## Pad states (R263) -/

theorem Chan.switchOf_unused {c : Chan} {k : Nat} (h : c.padSwitch k = 15) : c.switchOf k = none :=
  dif_neg (by omega)

section
variable {s : State} {ch : ChId} {k : Nat}

theorem State.padState_hiz (h : s.padsHiz ch = true) : s.padState ch k = .hiz := if_pos h

theorem State.padState_ne_hiz (h : s.padsHiz ch = false) : s.padState ch k ≠ .hiz := by
  unfold State.padState
  dsimp only
  rw [if_neg (ne_true_of_eq_false h)]
  repeat' split
  all_goals decide

/-- A pad that does not drive, or that a sequence has gone through or holds off, is OFF. -/
theorem State.padState_off (hhiz : s.padsHiz ch = false) (hlag : (s.chan ch).pwm.lag.getLsbD k = false)
    (h : (s.chan ch).pwm.driving = false ∨ (s.chan ch).pwm.held.getLsbD k = true) : s.padState ch k = .off := by
  unfold State.padState
  obtain hidle | hheld := h
  · simp [hhiz, hlag, hidle]
  · simp [hhiz, hlag, hheld]

/-- A driving pad of a leg that switches is in DRIVE. -/
theorem State.padState_drive {l : Fin 12} (hhiz : s.padsHiz ch = false) (hswitch : (s.chan ch).switchOf k = some l)
    (hdrives : (s.chan ch).pwm.driving = true) (hheld : (s.chan ch).pwm.held.getLsbD k = false)
    (hleg : (s.chan ch).pwm.legs.toList.getD (l.val / 4) .on = .on) (hilk : (s.chan ch).pwm.ilkOff.getLsbD l.val = false) :
    s.padState ch k = .drive := by
  unfold State.padState
  simp only [hhiz, hswitch, hdrives, hheld, hleg, hilk, bne_self_eq_false, Bool.false_and, Bool.not_true, Bool.false_eq_true,
    if_false, ite_self]

end

/-! ## Whether a pad is on (R246, R253) -/

theorem Chan.padOn_unused {c : Chan} {k : Nat} (hswitch : c.switchOf k = none) (hsoft : c.pwm.soft.getLsbD k = false) (p : Nat) :
    c.padOn k p = false := by
  simp [Chan.padOn, hswitch, hsoft]

/-- A driving pad that no sequence holds follows its switch's on-intervals. -/
theorem Chan.padOn_switch {c : Chan} {k : Nat} {l : Fin 12} (hswitch : c.switchOf k = some l) (hdrives : c.pwm.driving = true)
    (hheld : c.pwm.held.getLsbD k = false) (hsoft : c.pwm.soft.getLsbD k = false) (p : Nat) :
    c.padOn k p = (c.padSpans l).any fun i => i.1 ≤ p && p < i.2 := by
  simp [Chan.padOn, Chan.follows, hswitch, hdrives, hheld, hsoft]

/-! ## Levels (R236, R237, R259, R345) -/

/-- The inverse of the active level is the off level (R237). -/
theorem beq_eq_ite (active on : Bool) : (active == on) = if on then active else !active := by
  cases active <;> cases on <;> rfl

theorem State.padLevel_hiz {s : State} {ch : ChId} (h : s.padsHiz ch = true) (k : Nat) : s.padLevel ch k = none :=
  if_pos (State.padState_hiz h)

/-- Out of HIZ a gate pad has its active level where its state is DRIVE and its switch is on, else its off level. -/
theorem State.padLevel_eq {s : State} {ch : ChId} (h : s.padsHiz ch = false) (k : Nat) : s.padLevel ch k =
    some (if s.padState ch k == .drive && (s.chan ch).padOn k ((s.chan ch).gatePos s.time.refNs)
      then ((s.chan ch).get Reg.PWM_POL).getLsbD k else !((s.chan ch).get Reg.PWM_POL).getLsbD k) :=
  (if_neg (State.padState_ne_hiz h)).trans (congrArg some (beq_eq_ite _ _))

theorem State.brakeLevel_hiz {s : State} {ch : ChId} (h : s.padsHiz ch = true) : s.brakeLevel ch = none := if_pos h

theorem State.brakeLevel_eq {s : State} {ch : ChId} (h : s.padsHiz ch = false) : s.brakeLevel ch =
    some (if (s.chan ch).bit Reg.PWM_STAT Fld.PWM_STAT_BRK then (s.chan ch).bit Reg.PWM_POL Fld.PWM_POL_BRKPOL
      else !(s.chan ch).bit Reg.PWM_POL Fld.PWM_POL_BRKPOL) :=
  (if_neg (ne_true_of_eq_false h)).trans (congrArg some (beq_eq_ite _ _))

theorem State.contactorLevel_hiz {s : State} {ch : ChId} (h : s.padsHiz ch = true) (k2 : Bool) :
    s.contactorLevel ch k2 = none := if_pos h

theorem State.contactorLevel_eq {s : State} {ch : ChId} (h : s.padsHiz ch = false) (k2 : Bool) : s.contactorLevel ch k2 =
    some ((s.chan ch).bit Reg.SAF_CH_STAT (if k2 then Fld.SAF_CH_STAT_K2CMD else Fld.SAF_CH_STAT_K1CMD)) :=
  if_neg (ne_true_of_eq_false h)

/-- Settles O30: HIZ has no level; out of it the gate pads' levels follow from their states (`State.padState_off`,
`State.padState_drive`) and from their switches (`Chan.padOn_unused`, `Chan.padOn_switch`). -/
theorem padLevels : Obligations.PadLevels := by
  unfold Obligations.PadLevels
  intro s ch k c active
  refine ⟨fun hhiz => ⟨State.padLevel_hiz hhiz _, State.brakeLevel_hiz hhiz, State.contactorLevel_hiz hhiz _,
    State.contactorLevel_hiz hhiz _⟩, fun hhiz => ⟨State.brakeLevel_eq hhiz, State.contactorLevel_eq hhiz _,
    State.contactorLevel_eq hhiz _, fun hlag hoff => ?_, fun hunused hsoft => ?_,
    fun l hswitch hdrives hheld hsoft hleg hilk => ?_⟩⟩
  · rw [State.padLevel_eq hhiz, State.padState_off hhiz hlag hoff]
    rfl
  · rw [State.padLevel_eq hhiz, Chan.padOn_unused (Chan.switchOf_unused hunused) hsoft, Bool.and_false]
    rfl
  · rw [State.padLevel_eq hhiz, State.padState_drive hhiz hswitch hdrives hheld hleg hilk,
      Chan.padOn_switch hswitch hdrives hheld hsoft]
    rfl

end Sys2Proof.Machine
end

section
/-! SUPPORT. The family of 08_pwm_and_power_stage.md: update points, compare values, the minimum pulse, the release of a leg and
an inserted refresh (R238, R239, R241, R244, R247, R248, R260, R262, R263). -/

namespace Sys2Proof.Machine

/-! ## Duties to commands (R239, R241, R244) -/

/-- In two levels S1 and S4 compare with the same value, S4 as its complement (R241). -/
theorem Chan.legCmds_twoLevel {c : Chan} (h : c.threeLevel = false) (peak : Bool) (leg : Fin 3) (m : Word) :
    (c.legCmds peak leg m).1 =
      [⟨false, compareOf c.carrierH (m.toInt + 2 ^ 31).toNat (2 ^ 32)⟩, ⟨false, 0⟩, ⟨false, 0⟩,
        ⟨true, compareOf c.carrierH (m.toInt + 2 ^ 31).toNat (2 ^ 32)⟩] := by
  unfold Chan.legCmds
  rw [h]
  rfl

/-- A compare value is the nearest step to d × H, ties upward (R239). -/
theorem compareOf_eq_floor (h num : Nat) {den : Nat} (hden : 0 < den) :
    (compareOf h num den : Int) = ((num * h : Rat) / den + 1 / 2).floor := by
  have hne : (den : Rat) ≠ 0 := Nat.cast_ne_zero.2 hden.ne'
  have hhalf : (num * h : Rat) / den + 1 / 2 = ((2 * num * h + den : Nat) : Rat) / ((2 * den : Nat) : Rat) := by
    push_cast
    field_simp
  rw [hhalf]
  exact (Rat.floor_natCast_div_natCast _ _).symm

/-- The steps of a half-period of `h` steps for which a command is on. -/
def SwCmd.onTime (h : Nat) (x : SwCmd) : Nat := if x.peak then h - x.cmp else x.cmp

/-- The command that is on for `n` steps, centred as `x`. -/
def SwCmd.withOnTime (h : Nat) (x : SwCmd) (n : Nat) : SwCmd := { x with cmp := if x.peak then h - n else n }

theorem SwCmd.onTime_withOnTime {h n : Nat} (x : SwCmd) (hn : n ≤ h) : (x.withOnTime h n).onTime h = n := by
  unfold SwCmd.onTime SwCmd.withOnTime
  cases x.peak
  · rfl
  · exact Nat.sub_sub_self hn

theorem SwCmd.withOnTime_onTime {h : Nat} {x : SwCmd} (hx : x.cmp ≤ h) : x.withOnTime h (x.onTime h) = x := by
  obtain ⟨peak, cmp⟩ := x
  unfold SwCmd.onTime SwCmd.withOnTime
  cases peak
  · rfl
  · exact congrArg (SwCmd.mk true) (Nat.sub_sub_self hx)

/-- MINP drops a shorter pulse, completes a shorter gap, and leaves every other command (R244). -/
theorem SwCmd.minPulse_eq (h minp : Nat) (x : SwCmd) : x.minPulse h minp =
    x.withOnTime h (if x.onTime h < minp then 0 else if h - x.onTime h < minp then h else x.onTime h) := rfl

theorem SwCmd.minPulse_dropped {h minp : Nat} {x : SwCmd} (hon : x.onTime h < minp) : (x.minPulse h minp).onTime h = 0 := by
  rw [SwCmd.minPulse_eq, if_pos hon]
  exact x.onTime_withOnTime h.zero_le

theorem SwCmd.minPulse_completed {h minp : Nat} {x : SwCmd} (hon : minp ≤ x.onTime h) (hoff : h - x.onTime h < minp) :
    (x.minPulse h minp).onTime h = h := by
  rw [SwCmd.minPulse_eq, if_neg hon.not_gt, if_pos hoff]
  exact x.onTime_withOnTime h.le_refl

theorem SwCmd.minPulse_kept {h minp : Nat} {x : SwCmd} (hx : x.cmp ≤ h) (hon : minp ≤ x.onTime h)
    (hoff : minp ≤ h - x.onTime h) : x.minPulse h minp = x := by
  rw [SwCmd.minPulse_eq, if_neg hon.not_gt, if_neg hoff.not_gt]
  exact SwCmd.withOnTime_onTime hx

/-! ## The end of a half-period (R246 to R248, R260, R262) -/

/-- An operation on the PWM unit that changes neither its time word nor anything else of the channel. -/
structure Chan.KeepsClocking (c d : Chan) : Prop where
  regs : d.regs = c.regs
  pll : d.pll = c.pll
  pt : d.pwm.pt = c.pwm.pt

theorem Chan.KeepsClocking.trans {a b c : Chan} (h : a.KeepsClocking b) (k : b.KeepsClocking c) : a.KeepsClocking c :=
  ⟨k.regs.trans h.regs, k.pll.trans h.pll, k.pt.trans h.pt⟩

theorem Chan.KeepsClocking.get {c d : Chan} (h : c.KeepsClocking d) (o : Nat) : d.get o = c.get o :=
  congrArg (sget chanReset · o) h.regs

/-- The conversion of the programmed times reads registers, the lock point and the time word (R247). -/
theorem Chan.KeepsClocking.pwmTimes {c d : Chan} (h : c.KeepsClocking d) : d.pwmTimes = c.pwmTimes := by
  have hunits : ∀ k n m, d.unitsOf k n m = c.unitsOf k n m := fun k n m => by
    unfold Chan.unitsOf Chan.fLock
    rw [h.pll, h.pt]
  have hfld : ∀ o f, d.fld o f = c.fld o f := fun o f => congrArg (getField · f) (h.get o)
  simp only [Chan.pwmTimes, Chan.steps10ns, Chan.steps250ps, Chan.cycles10ns, Chan.blankField, hunits, hfld]

theorem Chan.keepsClocking_closeHalf (c : Chan) : c.KeepsClocking c.closeHalf := ⟨rfl, rfl, rfl⟩

theorem Chan.keepsClocking_refreshPeriod (c : Chan) : c.KeepsClocking c.refreshPeriod := ⟨rfl, rfl, rfl⟩

theorem Chan.keepsClocking_stepLegs (c : Chan) (peak start : Bool) (now : Nat) : c.KeepsClocking (c.stepLegs peak start now) :=
  ⟨rfl, rfl, rfl⟩

/-- The half-period that ends, the carrier period counted where it ends with it, and the legs stepped. -/
def Chan.halfEnded (c : Chan) (peak start : Bool) (now : Nat) : Chan :=
  (if peak then c.closeHalf else c.closeHalf.refreshPeriod).stepLegs peak start now

theorem Chan.keepsClocking_halfEnded (c : Chan) (peak start : Bool) (now : Nat) :
    c.KeepsClocking (c.halfEnded peak start now) := by
  refine Chan.KeepsClocking.trans ?_ (Chan.keepsClocking_stepLegs ..)
  cases peak
  · exact c.keepsClocking_closeHalf.trans (Chan.keepsClocking_refreshPeriod _)
  · exact c.keepsClocking_closeHalf

/-- The channel at an update point before its new commands: the programmed times converted (R247). -/
def Chan.halfTimed (c : Chan) : Chan := { c with pwm := { c.pwm with times := c.pwmTimes } }

/-! ## The half-period that begins (R238, R239, R267, R274) -/

/-- The channel with the commands of its new half-period. -/
def Chan.halfLoaded (c : Chan) (n : NewHalf) (peak drive : Bool) (now : Nat) : Chan :=
  { c with pwm := { c.pwm with
    cmds := Vector.ofFn fun l : Fin 12 => n.cmds.getD l.val ⟨false, 0⟩, applied := n.applied, ilkOff := n.off,
    negBranch := Vector.ofFn fun i : Fin 3 => (c.legCmds peak i c.duty.loaded[i.val]).2,
    refreshed := 0, driving := drive, resume := c.pwm.resume && !drive, events := 0, started := true,
    updAt := now, h := c.carrierH } }

theorem Chan.halfLoaded_pwm (c : Chan) (n : NewHalf) (peak drive : Bool) (now : Nat) :
    (c.halfLoaded n peak drive now).pwm.driving = drive ∧ (c.halfLoaded n peak drive now).pwm.started = true ∧
    (c.halfLoaded n peak drive now).pwm.times = c.pwm.times := ⟨rfl, rfl, rfl⟩

theorem Chan.get_halfLoaded (c : Chan) (n : NewHalf) (peak drive : Bool) (now o : Nat) :
    (c.halfLoaded n peak drive now).get o = c.get o := rfl

/-- PWM_STAT shows the new half-period (R274). -/
def Chan.halfShown (c : Chan) (n : NewHalf) (peak : Bool) : Chan :=
  let c := c.setFld Reg.PWM_STAT Fld.PWM_STAT_PHASE (if peak then 1 else 0)
  let c := c.setFld Reg.PWM_STAT Fld.PWM_STAT_ZDEF (if n.zdef then 1 else 0)
  let c := c.setFld Reg.PWM_STAT Fld.PWM_STAT_DCLAMP (if n.dclamp then 1 else 0)
  let c := if n.overlaps.isEmpty then c else (c.setFld Reg.PWM_STAT Fld.PWM_STAT_ILK 1).capEvent 2
  c.showLegs

theorem Chan.halfShown_pwm (c : Chan) (n : NewHalf) (peak : Bool) : (c.halfShown n peak).pwm = c.pwm := by
  unfold Chan.halfShown
  cases n.overlaps.isEmpty <;> rfl

theorem Chan.get_halfShown_ne (c : Chan) (n : NewHalf) (peak : Bool) {o : Nat} (h : o ≠ Reg.PWM_STAT) :
    (c.halfShown n peak).get o = c.get o := by
  have hset : ∀ (c : Chan) f k, (c.setFld Reg.PWM_STAT f k).get o = c.get o := fun c f k => c.get_setFld_ne f k h
  unfold Chan.halfShown
  refine (hset _ _ _).trans ?_
  cases n.overlaps.isEmpty
  · exact (hset _ _ _).trans ((hset _ _ _).trans ((hset _ _ _).trans (hset _ _ _)))
  · exact (hset _ _ _).trans ((hset _ _ _).trans (hset _ _ _))

/-- PHASE shows whether the half-period begins at a peak (R238). -/
theorem Chan.halfShown_phase (c : Chan) (n : NewHalf) (peak : Bool) :
    (c.halfShown n peak).bit Reg.PWM_STAT Fld.PWM_STAT_PHASE = peak := by
  have hset : ∀ (c : Chan) {f : BitField} k, 1 ≤ f.lo → (c.setFld Reg.PWM_STAT f k).bit Reg.PWM_STAT Fld.PWM_STAT_PHASE =
      c.bit Reg.PWM_STAT Fld.PWM_STAT_PHASE := fun c f k h => c.bit_setFld_ne _ _ _ _ _ (.inr (.inr h))
  have hphase := c.bit_setFld_ite Reg.PWM_STAT (f := Fld.PWM_STAT_PHASE) peak (by decide) rfl
  unfold Chan.halfShown
  refine (hset _ _ (by decide)).trans ?_
  cases n.overlaps.isEmpty
  · exact (hset _ _ (by decide)).trans ((hset _ _ (by decide)).trans ((hset _ _ (by decide)).trans hphase))
  · exact (hset _ _ (by decide)).trans ((hset _ _ (by decide)).trans hphase)

/-- The channel at an update point of a peak or a valley. -/
def Chan.updated (c : Chan) (peak drive start : Bool) (now : Nat) : Chan :=
  let d := (c.halfEnded peak start now).halfTimed
  (d.halfLoaded (d.newHalf peak) peak drive now).halfShown (d.newHalf peak) peak

/-- What an update point sets of the drive, the times and PHASE, and which registers it leaves (R238, R247, R263). -/
theorem Chan.updated_shows (c : Chan) (peak drive start : Bool) (now : Nat) :
    (c.updated peak drive start now).pwm.driving = drive ∧ (c.updated peak drive start now).pwm.started = true ∧
    (c.updated peak drive start now).pwm.times = c.pwmTimes ∧
    (c.updated peak drive start now).bit Reg.PWM_STAT Fld.PWM_STAT_PHASE = peak ∧
    ∀ o, o ≠ Reg.PWM_STAT → (c.updated peak drive start now).get o = c.get o := by
  have hends := c.keepsClocking_halfEnded peak start now
  unfold Chan.updated
  extract_lets d
  obtain ⟨hdriving, hstarted, htimes⟩ := d.halfLoaded_pwm (d.newHalf peak) peak drive now
  rw [Chan.halfShown_pwm]
  refine ⟨hdriving, hstarted, htimes.trans hends.pwmTimes, Chan.halfShown_phase _ _ _, fun o ho => ?_⟩
  rw [Chan.get_halfShown_ne _ _ _ ho, Chan.get_halfLoaded]
  exact hends.get o

/-- The unit's postings change neither registers nor the PWM unit. -/
theorem Chan.postPwm_frame (c : Chan) (ev : BitVec 5) : (c.postPwm ev).pwm = c.pwm ∧ ∀ o, (c.postPwm ev).get o = c.get o := by
  have hpwm : ∀ (c : Chan) q w tag, (c.post q w tag).pwm = c.pwm := fun _ _ _ _ => rfl
  have hget : ∀ (c : Chan) q w tag o, (c.post q w tag).get o = c.get o := fun _ _ _ _ _ => rfl
  unfold Chan.postPwm
  extract_lets on c1 c2 c3 c4 c5
  refine ⟨?_, fun o => ?_⟩
  · iterate 8 refine (hpwm _ _ _ _).trans ?_
    rfl
  · iterate 8 refine (hget _ _ _ _ _).trans ?_
    rfl

/-- Interlock actions are counted in PWM_CNT0 and recorded (R245). -/
theorem State.recordInterlocks_frame (ch : ChId) (l : List (Nat × Nat × Nat × Nat)) (s : State) :
    ((s.recordInterlocks ch l).chan ch).pwm = (s.chan ch).pwm ∧
    ∀ o, o ≠ Reg.PWM_CNT0 → ((s.recordInterlocks ch l).chan ch).get o = (s.chan ch).get o := by
  induction l generalizing s with
  | nil => exact ⟨rfl, fun _ _ => rfl⟩
  | cons x l ih =>
    obtain ⟨leg, n, a, b⟩ := x
    unfold State.recordInterlocks
    extract_lets t u
    have hu : u.chan ch = (s.chan ch).put Reg.PWM_CNT0 (counterStep ((s.chan ch).get Reg.PWM_CNT0) false) := by
      refine Eq.trans ?_ (s.countCh_chan ch Reg.PWM_CNT0 false false)
      unfold u
      split
      · exact State.record_chan ..
      · rfl
    obtain ⟨hpwm, hget⟩ := ih u
    rw [hu] at hpwm hget
    exact ⟨hpwm, fun o ho => (hget o ho).trans ((Chan.get_put ..).trans (if_neg ho))⟩


/-- An update point of a channel whose ticks run: it is a peak where a valley began the half-period that ends (R238). -/
theorem exec_carrierUpdatePoint {s : State} {ch : ChId} (h : (s.chan ch).ticking = true) :
    ∃ start ev l, exec (.carrierUpdatePoint ch) s = .next ((s.putChan ch
      (((s.chan ch).updated ((s.chan ch).pwm.started && !(s.chan ch).atPeak) (s.drivesFrom ch) start s.time.refNs).postPwm
        ev)).recordInterlocks ch l) := by
  show ∃ start ev l, execCarrierUpdatePoint ch s = _
  unfold execCarrierUpdatePoint
  extract_lets c peak drive start closed counted stepped p timed n trips ev q loaded shown zdef dclamp ilk
  have hupdated : ilk.showLegs = (s.chan ch).updated peak drive start s.time.refNs := rfl
  refine ⟨start, ev, n.overlaps, (if_neg (by rw [h]; decide)).trans ?_⟩
  rw [← hupdated]

/-- What an update point leaves in the channel: whether its gates drive, its times and PHASE, and its registers but for the
unit's status and interlock count (R238, R247, R263). -/
theorem carrierUpdatePoint_shows {s : State} {ch : ChId} (h : (s.chan ch).ticking = true) :
    ∃ t, exec (.carrierUpdatePoint ch) s = .next t ∧ (t.chan ch).pwm.driving = s.drivesFrom ch ∧
      (t.chan ch).pwm.started = true ∧ (t.chan ch).pwm.times = (s.chan ch).pwmTimes ∧
      (t.chan ch).bit Reg.PWM_STAT Fld.PWM_STAT_PHASE = ((s.chan ch).pwm.started && !(s.chan ch).atPeak) ∧
      ∀ o, o ≠ Reg.PWM_CNT0 → o ≠ Reg.PWM_STAT → (t.chan ch).get o = (s.chan ch).get o := by
  obtain ⟨start, ev, l, hexec⟩ := exec_carrierUpdatePoint h
  refine ⟨_, hexec, ?_⟩
  obtain ⟨hdriving, hstarted, htimes, hphase, hget⟩ :=
    (s.chan ch).updated_shows ((s.chan ch).pwm.started && !(s.chan ch).atPeak) (s.drivesFrom ch) start s.time.refNs
  generalize (s.chan ch).updated _ _ start s.time.refNs = d at hdriving hstarted htimes hphase hget ⊢
  obtain ⟨hpostPwm, hpostGet⟩ := d.postPwm_frame ev
  obtain ⟨hpwm, hregs⟩ := State.recordInterlocks_frame ch l (s.putChan ch (d.postPwm ev))
  rw [State.chan_putChan_same] at hpwm hregs
  have hshown : ∀ o, o ≠ Reg.PWM_CNT0 → (((s.putChan ch (d.postPwm ev)).recordInterlocks ch l).chan ch).get o = d.get o :=
    fun o ho => (hregs o ho).trans (hpostGet o)
  rw [hpwm, hpostPwm]
  exact ⟨hdriving, hstarted, htimes,
    (congrArg (getField · Fld.PWM_STAT_PHASE != 0) (hshown Reg.PWM_STAT (by decide))).trans hphase,
    fun o hcnt hstat => (hshown o hcnt).trans (hget o hstat)⟩

/-- Whether the pads drive from an update point on (R256, R263, R265). -/
theorem State.drivesFrom_iff (s : State) (ch : ChId) : s.drivesFrom ch = true ↔
    s.gatesBarred ch = false ∧ s.padsHiz ch = false ∧
      ((s.chan ch).get Reg.PWM_TRIP &&& 0xF = 0 ∨ (s.chan ch).pwm.driving = true) := by
  simp [State.drivesFrom, and_assoc]

/-! ## The release of a leg's inputs, and an inserted refresh (R248, R260) -/

/-- The channel after the release of a leg's fault inputs, before LEGOFF shows it. -/
def Chan.legFaultReleased (c : Chan) (leg : Fin 3) : Chan :=
  let d := c.setFld Reg.PWM_STAT Fld.PWM_STAT_FLIVE
    (BitVec.ofNat 12 (c.fld Reg.PWM_STAT Fld.PWM_STAT_FLIVE) &&& ~~~(c.legPads leg.val)).toNat
  { d with pwm := { d.pwm with
    blanked := d.pwm.blanked &&& ~~~(d.legPads leg.val), unreleased := d.pwm.unreleased &&& ~~~(1#3 <<< leg.val),
    legs := d.pwm.legs.set leg (d.legReleased d.pwm.legs[leg]) } }

theorem exec_legFaultRelease (s : State) (ch : ChId) (leg : Fin 3) : exec (.legFaultRelease ch leg) s =
    .next (s.putChan ch ((s.chan ch).legFaultReleased leg).showLegs) := rfl

/-- The leg's pads are no longer live (R274). -/
theorem Chan.legFaultReleased_flive (c : Chan) (leg : Fin 3) :
    (c.legFaultReleased leg).showLegs.fld Reg.PWM_STAT Fld.PWM_STAT_FLIVE =
      (BitVec.ofNat 12 (c.fld Reg.PWM_STAT Fld.PWM_STAT_FLIVE) &&& ~~~(c.legPads leg.val)).toNat :=
  (Chan.fld_setFld_ne _ _ _ _ _ _ (.inr (by decide))).trans
    ((c.fld_setFld Reg.PWM_STAT Fld.PWM_STAT_FLIVE _ (by decide)).trans (Nat.mod_eq_of_lt (BitVec.isLt _)))

/-- What becomes of a leg depends on the trips and on the refresh settings, which the release of inputs does not change. -/
theorem Chan.legFaultReleased_legs (c : Chan) (leg : Fin 3) :
    (c.legFaultReleased leg).showLegs.pwm.legs = c.pwm.legs.set leg (c.legReleased c.pwm.legs[leg]) := by
  have hget : ∀ {o}, o ≠ Reg.PWM_STAT → ∀ f n, (c.setFld Reg.PWM_STAT f n).get o = c.get o := fun ho f n =>
    c.get_setFld_ne f n ho
  have hreleased : ∀ f n x, (c.setFld Reg.PWM_STAT f n).legReleased x = c.legReleased x := fun f n x => by
    unfold Chan.legReleased Chan.nseq Chan.bit Chan.fld
    rw [hget (by decide), hget (by decide)]
  exact congrArg (c.pwm.legs.set leg) (hreleased _ _ _)

theorem Chan.legFaultReleased_same (c : Chan) (leg : Fin 3) :
    (c.legFaultReleased leg).showLegs.pwm.legs[leg] = c.legReleased c.pwm.legs[leg] :=
  (congrArg (fun v : Vector LegState 3 => v[leg]) (c.legFaultReleased_legs leg)).trans (Vector.getElem_set_self _)

theorem Chan.legFaultReleased_ne (c : Chan) {leg j : Fin 3} (h : j ≠ leg) :
    (c.legFaultReleased leg).showLegs.pwm.legs[j] = c.pwm.legs[j] :=
  (congrArg (fun v : Vector LegState 3 => v[j]) (c.legFaultReleased_legs leg)).trans
    (Vector.getElem_set_ne _ _ (Fin.val_ne_of_ne h.symm))

theorem getLsbD_without_legBit (m : BitVec 3) (leg : Fin 3) : (m &&& ~~~(1#3 <<< leg.val)).getLsbD leg.val = false := by
  have hbit : ∀ leg : Fin 3, (1#3 <<< leg.val).getLsbD leg.val = true := by decide
  rw [BitVec.getLsbD_and, BitVec.getLsbD_not, hbit, Bool.not_true, Bool.and_false, Bool.and_false]

/-- Only a leg that is off answers the release of its inputs (R260). -/
theorem Chan.legReleased_of_ne (c : Chan) {x : LegState} (h : x ≠ .off) : c.legReleased x = x := by
  cases x with
  | off => exact absurd rfl h
  | on | due _ | seq _ | rejoin => rfl

/-- A leg that is off refreshes or rejoins, but not under a latched trip (R256, R260). -/
theorem Chan.legReleased_off (c : Chan) : c.legReleased .off = if c.get Reg.PWM_TRIP &&& 0xF ≠ 0 then .off
    else if c.bit Reg.BST_CFG Fld.BST_CFG_EN then .due (c.fld Reg.BST_CFG Fld.BST_CFG_NSEQ + 1) else .rejoin := by
  simp only [Chan.legReleased, Chan.nseq, bne_iff_ne]

theorem exec_refreshInsert {s : State} {ch : ChId} {sw : Fin 12} (htick : (s.chan ch).ticking = true)
    (hen : (s.chan ch).bit Reg.BST_CFG Fld.BST_CFG_EN = true) (hmask : ((s.chan ch).get Reg.BST_MASK).getLsbD sw.val = true)
    (hdue : (s.chan ch).fld Reg.BST_CFG Fld.BST_CFG_NPER ≤ (s.chan ch).pwm.refCount[sw]) :
    exec (.refreshInsert ch sw) s = .next (s.putChan ch { s.chan ch with pwm := { (s.chan ch).pwm with
      refCount := (s.chan ch).pwm.refCount.set sw 0, refNext := (s.chan ch).pwm.refNext ||| (1#12 <<< sw.val),
      refreshed := (s.chan ch).pwm.refreshed ||| (1#12 <<< sw.val) } }) :=
  if_pos (by rw [htick, hen, Chan.isRefreshed, hmask, decide_eq_true hdue]; rfl)

/-- Settles O31: an update point (`carrierUpdatePoint_shows`), the compare values (`Chan.legCmds_twoLevel`,
`compareOf_eq_floor`), MINP (`SwCmd.minPulse_eq`), the release of a leg's inputs (`Chan.legFaultReleased`) and an inserted
refresh (`exec_refreshInsert`). -/
theorem updatePointsAndLegs : Obligations.UpdatePointsAndLegs := by
  unfold Obligations.UpdatePointsAndLegs
  constructor
  · intro s ch c
    refine ⟨fun htick => ?_, fun h => Chan.legCmds_twoLevel h, fun h num den => compareOf_eq_floor h num,
      fun h minp x hx => ⟨rfl, SwCmd.minPulse_dropped, SwCmd.minPulse_completed, SwCmd.minPulse_kept hx⟩⟩
    obtain ⟨t, hexec, hdriving, hstarted, htimes, hphase, hkept⟩ := carrierUpdatePoint_shows htick
    refine ⟨t, hexec, ?_, hstarted, htimes, ?_, hkept _ (by decide) (by decide),
      congrArg (getField · Fld.CH_MODE_CUR_MODE) (hkept Reg.CH_MODE_CUR (by decide) (by decide))⟩
    · rw [hdriving]
      exact s.drivesFrom_iff ch
    · rw [hphase, Bool.and_eq_true, Bool.not_eq_true']
      rfl
  · intro s ch leg sw c
    refine ⟨⟨_, exec_legFaultRelease s ch leg, ?_⟩, exec_refreshInsert⟩
    rw [State.chan_putChan_same]
    refine ⟨rfl, c.legFaultReleased_flive leg, getLsbD_without_legBit _ leg, fun j hj => c.legFaultReleased_ne hj,
      fun hleg => (c.legFaultReleased_same leg).trans (c.legReleased_of_ne hleg), fun hoff => ?_⟩
    rw [c.legFaultReleased_same leg, hoff]
    exact c.legReleased_off

end Sys2Proof.Machine
end

section
/-! SUPPORT. The family of 09_clocking.md: the references' activity and mismatch, ramp segments, the host port's PLL (R278, R279,
R288, R295, R298). -/

namespace Sys2Proof.Machine

/-! ## A reference's activity (R278, R279, R298) -/

@[simp] theorem State.chan_setGoodWindows (s : State) (r : RefId) (n : Nat) (ch : ChId) :
    (s.setGoodWindows r n).chan ch = s.chan ch := by
  cases r <;> rfl

@[simp] theorem State.gbit_setGoodWindows (s : State) (r : RefId) (n o : Nat) (f : BitField) :
    (s.setGoodWindows r n).gbit o f = s.gbit o f := by
  cases r <;> rfl

@[simp] theorem State.goodWindows_setGoodWindows (s : State) (r : RefId) (n : Nat) : (s.setGoodWindows r n).goodWindows r = n := by
  cases r <;> rfl

theorem State.gbit_gset_ne (s : State) {o p : Nat} {f g : BitField} (n : Nat)
    (h : p ≠ o ∨ f.lo + f.width ≤ g.lo ∨ g.lo + g.width ≤ f.lo) : (s.gset o f n).gbit p g = s.gbit p g :=
  congrArg (· != 0) (s.gfld_gset_ne n h)

/-- A change of a reference's activity writes registers alone. -/
theorem State.setRefAct_frame (s : State) (r : RefId) (on : Bool) :
    (s.setRefAct r on).goodWindows r = s.goodWindows r ∧ ∀ ch, (s.setRefAct r on).chan ch = s.chan ch := by
  unfold State.setRefAct
  extract_lets was s1 s2 both
  have hlost : s2.clk = s.clk ∧ s2.ch = s.ch := by
    unfold s2
    split <;> exact ⟨rfl, rfl⟩
  obtain ⟨hclk, hch⟩ := hlost
  have hwindows : s2.goodWindows r = s.goodWindows r := by
    unfold State.goodWindows
    rw [hclk]
  have hchan : ∀ ch, s2.chan ch = s.chan ch := fun ch => congrArg (fun v : Vector Chan 12 => v[ch]) hch
  split
  · exact ⟨hwindows, hchan⟩
  split <;> exact ⟨hwindows, hchan⟩

/-- A reference's activity shows in REF_STAT and GSTAT; where it ends MISMATCH reads 0, and LOST sets. -/
theorem State.setRefAct_shows (s : State) (r : RefId) (on : Bool) : let t := s.setRefAct r on
    t.gbit Reg.REF_STAT (refAct r) = on ∧ t.gbit Reg.GSTAT (gstatAct r) = on ∧
    (on = false → t.gbit Reg.REF_STAT Fld.REF_STAT_MISMATCH = false) ∧
    (on = false → s.gbit Reg.REF_STAT (refAct r) = true → t.gbit Reg.REF_STAT (refLost r) = true) := by
  unfold State.setRefAct
  extract_lets was s1 s2 both t
  have hfits : (refAct r).lo + (refAct r).width ≤ 32 ∧ (refAct r).width = 1 ∧ (gstatAct r).lo + (gstatAct r).width ≤ 32 ∧
      (gstatAct r).width = 1 ∧ (refLost r).lo + (refLost r).width ≤ 32 ∧ (refLost r).width = 1 := by
    cases r <;> decide
  have hside : (refLost r).lo + (refLost r).width ≤ (refAct r).lo ∨ (refAct r).lo + (refAct r).width ≤ (refLost r).lo := by
    cases r <;> decide
  obtain ⟨hact, hactW, hg, hgW, hlost, hlostW⟩ := hfits
  have hact1 : s1.gbit Reg.REF_STAT (refAct r) = on :=
    (State.gbit_gset_ne _ _ (.inl (by decide))).trans (s.gbit_gset_bit _ on hact hactW)
  have hgstat1 : s1.gbit Reg.GSTAT (gstatAct r) = on := State.gbit_gset_bit _ _ on hg hgW
  have hact2 : s2.gbit Reg.REF_STAT (refAct r) = on := by
    unfold s2
    split
    · exact (s1.gbit_gset_ne 1 (.inr hside)).trans hact1
    · exact hact1
  have hgstat2 : s2.gbit Reg.GSTAT (gstatAct r) = on := by
    unfold s2
    split
    · exact (s1.gbit_gset_ne 1 (.inl (by decide))).trans hgstat1
    · exact hgstat1
  have hmismatch : ∀ {o : Nat} {f : BitField}, o ≠ Reg.REF_STAT ∨ Fld.REF_STAT_MISMATCH.lo + Fld.REF_STAT_MISMATCH.width ≤ f.lo ∨
      f.lo + f.width ≤ Fld.REF_STAT_MISMATCH.lo → t.gbit o f = s2.gbit o f := fun h => by
    unfold t
    split
    · exact s2.gbit_gset_ne 0 h
    split
    · rfl
    · exact s2.gbit_gset_ne 1 h
  refine ⟨(hmismatch (by cases r <;> decide)).trans hact2, (hmismatch (.inl (by decide))).trans hgstat2, fun hoff => ?_,
    fun hoff hwas => (hmismatch (by cases r <;> decide)).trans ?_⟩
  · have hboth : both = false := by
      rw [hoff] at hact2
      unfold both
      cases r
      · exact Bool.and_eq_false_imp.2 fun h => absurd h (ne_true_of_eq_false hact2)
      · exact (congrArg (_ && ·) hact2).trans (Bool.and_false _)
    unfold t
    rw [if_pos (by rw [hboth]; rfl)]
    exact s2.gbit_gset_bit _ false (by decide) rfl
  · unfold s2
    rw [if_pos (by rw [show was = true from hwas, hoff]; rfl)]
    exact s1.gbit_gset_bit _ true hlost hlostW

section
variable {s : State} {ref : RefId} {kHz : Nat}

/-- A window is good within ±10 % of FNOM (R278). -/
theorem exec_refActivityWindow_good (h : 9 * s.fnom ≤ 10 * kHz ∧ 10 * kHz ≤ 11 * s.fnom) :
    exec (.refActivityWindow ref kHz) s = .next (if 2 ≤ s.goodWindows ref + 1
      then (s.setGoodWindows ref (s.goodWindows ref + 1)).setRefAct ref true
      else s.setGoodWindows ref (s.goodWindows ref + 1)) :=
  if_pos (by simpa using h)

/-- A bad window acts as a failed interval (R278). -/
theorem exec_refActivityWindow_bad (h : ¬ (9 * s.fnom ≤ 10 * kHz ∧ 10 * kHz ≤ 11 * s.fnom)) :
    exec (.refActivityWindow ref kHz) s = .next ((s.setGoodWindows ref 0).setRefAct ref false) :=
  if_neg (by simpa using h)

end

/-- MISMATCH is judged at ±200 ppm while both references are active (R279). -/
theorem exec_refMismatchWindow {s : State} {edges : Nat} (ha : s.gbit Reg.REF_STAT Fld.REF_STAT_A_ACT = true)
    (hb : s.gbit Reg.REF_STAT Fld.REF_STAT_B_ACT = true) : exec (.refMismatchWindow edges) s =
      .next (s.gset Reg.REF_STAT Fld.REF_STAT_MISMATCH
        (if 200 * (2 : Int) ^ 20 < |(edges : Int) - 2 ^ 20| * 1000000 then 1 else 0)) := by
  have hppm : 200 * 2 ^ 20 < ((edges : Int) - 2 ^ 20).natAbs * 1000000 ↔
      200 * (2 : Int) ^ 20 < |(edges : Int) - 2 ^ 20| * 1000000 := by
    rw [Int.abs_eq_natAbs]
    norm_cast
  refine (if_pos (by rw [ha, hb]; rfl)).trans ?_
  rw [if_congr hppm rfl rfl]

/-! ## Ramp segments (R288) -/

/-- The ramp generator shows in PLL_OFS alone. -/
theorem Chan.get_rampTo_ne (c : Chan) (t : Nat) {o : Nat} (h : o ≠ Reg.PLL_OFS) : (c.rampTo t).get o = c.get o :=
  (c.get_put ..).trans (if_neg h)

theorem Chan.fld_rampTo_ne (c : Chan) (t : Nat) {o : Nat} (f : BitField) (h : o ≠ Reg.PLL_OFS) :
    (c.rampTo t).fld o f = c.fld o f := congrArg (getField · f) (c.get_rampTo_ne t h)

theorem Chan.bit_rampTo_ne (c : Chan) (t : Nat) {o : Nat} (f : BitField) (h : o ≠ Reg.PLL_OFS) :
    (c.rampTo t).bit o f = c.bit o f := congrArg (· != 0) (c.fld_rampTo_ne t f h)

/-- A channel whose ramp segment has ended with `rest` left: the next one begins, or the profile ends. -/
def Chan.segmentEnded (c : Chan) : List Segment → Chan
  | [] => c.dropProfile
  | rest => { c with pll := { c.pll with profile := rest } }.setFld Reg.PLL_RAMP Fld.PLL_RAMP_SEG
      (c.fld Reg.PLL_RAMP Fld.PLL_RAMP_SEG + 1)

/-- A segment ends where the offset has reached its target, unless HOLD freezes it. -/
theorem exec_rampSegmentEnd {s : State} {ch : ChId} {since : Nat} {g : Segment} {rest : List Segment}
    (hprofile : (s.chan ch).pll.profile = g :: rest) (hhold : (s.chan ch).bit Reg.PLL_RAMP Fld.PLL_RAMP_HOLD = false) :
    let c := (s.chan ch).rampTo since
    exec (.rampSegmentEnd ch since) s = .next (if c.ofs = g.tgt then s.putChan ch (c.segmentEnded rest) else s) := by
  intro c
  have hframe : c.bit Reg.PLL_RAMP Fld.PLL_RAMP_HOLD = false := ((s.chan ch).bit_rampTo_ne since _ (by decide)).trans hhold
  show execRampSegmentEnd ch since s = _
  unfold execRampSegmentEnd
  rw [hprofile]
  dsimp only
  rw [show ((s.chan ch).rampTo since).bit Reg.PLL_RAMP Fld.PLL_RAMP_HOLD = false from hframe, Bool.false_or]
  by_cases hofs : c.ofs = g.tgt
  · rw [if_neg (by simpa using hofs), if_pos hofs]
    cases rest <;> rfl
  · rw [if_pos (by simpa using hofs), if_neg hofs]

theorem Chan.dropProfile_busy (c : Chan) : c.dropProfile.bit Reg.PLL_RAMP Fld.PLL_RAMP_BUSY = false ∧
    c.dropProfile.bit Reg.PLL_STAT Fld.PLL_STAT_BUSY = false := by
  unfold Chan.dropProfile
  extract_lets p d
  refine ⟨?_, Chan.bit_setFld0 _ _ _ (by decide)⟩
  rw [Chan.bit_setFld_ne _ _ _ _ _ _ (.inl (by decide)), Chan.bit_setFld_ne _ _ _ _ _ _ (.inr (by decide))]
  exact Chan.bit_setFld0 _ _ _ (by decide)

theorem Chan.segmentEnded_shows (c : Chan) (rest : List Segment) : let d := c.segmentEnded rest
    d.ofs = c.ofs ∧ d.pll.profile = rest ∧
    (rest = [] → d.bit Reg.PLL_RAMP Fld.PLL_RAMP_BUSY = false ∧ d.bit Reg.PLL_STAT Fld.PLL_STAT_BUSY = false) ∧
    (rest ≠ [] → d.fld Reg.PLL_RAMP Fld.PLL_RAMP_SEG =
      (c.fld Reg.PLL_RAMP Fld.PLL_RAMP_SEG + 1) % 2 ^ Fld.PLL_RAMP_SEG.width) := by
  cases rest with
  | nil =>
    have hofs : c.dropProfile.get Reg.PLL_OFS = c.get Reg.PLL_OFS := by
      unfold Chan.dropProfile
      extract_lets p d
      exact ((Chan.get_setFld_ne _ _ _ (by decide)).trans (Chan.get_setFld_ne _ _ _ (by decide))).trans
        (d.get_setFld_ne _ _ (by decide))
    exact ⟨congrArg BitVec.toInt hofs, rfl, fun _ => c.dropProfile_busy, fun h => absurd rfl h⟩
  | cons g rest =>
    exact ⟨congrArg BitVec.toInt (Chan.get_setFld_ne _ _ _ (by decide)), rfl, fun h => absurd h (List.cons_ne_nil g rest),
      fun _ => Chan.fld_setFld _ _ _ _ (by decide)⟩

/-! ## The host port's PLL (R295) -/

/-- A loss is recorded, and over PCI Express it is a host reset with the link down. -/
theorem exec_hostPllLoss (s : State) : let t := (s.gset Reg.GSTAT Fld.GSTAT_HOST_PLL_LOCK 0).record 0x08 0xF 5 2 0
    exec .hostPllLoss s = .next (if s.pcie then t.pcieReset.pcieDown else t) := by
  intro t
  have hmode : t.gget Reg.HOST_STAT = s.gget Reg.HOST_STAT :=
    (State.record_gget _ _ _ _ _ _ _ (by decide)).trans ((s.gget_gput ..).trans (if_neg (by decide)))
  have hpcie : t.pcie = s.pcie := congrArg (fun w => decide (getField w Fld.HOST_STAT_MODE = 0)) hmode
  rw [← hpcie]
  rfl

/-- Settles O32: a good window counts and a bad one ends the activity (`exec_refActivityWindow_good`, `State.setRefAct_shows`);
a segment ends at its target (`exec_rampSegmentEnd`, `Chan.segmentEnded_shows`). -/
theorem referencesAndRamps : Obligations.ReferencesAndRamps := by
  unfold Obligations.ReferencesAndRamps
  constructor
  · intro s ref kHz edges good
    refine ⟨fun hgood hnone => ?_, fun hgood hsome => ⟨_, exec_refActivityWindow_good hgood, ?_⟩,
      ⟨_, rfl, exec_refActivityWindow_bad, ?_⟩, exec_refMismatchWindow⟩
    · rw [exec_refActivityWindow_good hgood, hnone]
      rfl
    · rw [if_pos (Nat.succ_le_succ hsome)]
      obtain ⟨hact, hgstat, -⟩ := (s.setGoodWindows ref (s.goodWindows ref + 1)).setRefAct_shows ref true
      exact ⟨hact, hgstat, (State.setRefAct_frame ..).1.trans (State.goodWindows_setGoodWindows ..)⟩
    · obtain ⟨hact, hgstat, hmismatch, hlost⟩ := (s.setGoodWindows ref 0).setRefAct_shows ref false
      obtain ⟨hwindows, hchan⟩ := (s.setGoodWindows ref 0).setRefAct_frame ref false
      exact ⟨hact, hgstat, hwindows.trans (State.goodWindows_setGoodWindows ..), hmismatch rfl,
        fun hwas => hlost rfl ((State.gbit_setGoodWindows ..).trans hwas),
        fun ch => (hchan ch).trans (State.chan_setGoodWindows ..)⟩
  · intro s ch c
    refine ⟨fun g rest since hprofile hhold => ⟨fun hofs => ?_, fun hofs => ?_⟩, rfl, exec_hostPllLoss s⟩
    · rw [exec_rampSegmentEnd hprofile hhold, if_neg hofs]
    · obtain ⟨hkept, hrest, hlast, hnext⟩ := (c.rampTo since).segmentEnded_shows rest
      refine ⟨_, (exec_rampSegmentEnd hprofile hhold).trans (congrArg _ (if_pos hofs)), State.putChan_own .., ?_⟩
      rw [State.chan_putChan_same]
      exact ⟨hkept.trans hofs, hrest, hlast,
        fun h => (hnext h).trans (by rw [c.fld_rampTo_ne since _ (by decide)])⟩

end Sys2Proof.Machine
end

section
/-! SUPPORT. The family of 09_clocking.md: the locking of a channel's PLL, its failure, and the end of a channel start (R111,
R282, R283, R290, R293). -/

namespace Sys2Proof.Machine

/-! ## Lock windows (R282, R290, R293) -/

theorem withinPpm_iff (count : Nat) (e : Nat × Nat) (ppm : Nat) :
    withinPpm count e ppm = true ↔ |(count : Int) * e.2 - e.1| * 1000000 ≤ ppm * e.1 := by
  rw [withinPpm, decide_eq_true_iff, Int.abs_eq_natAbs]
  norm_cast

/-- Without an offset a window expects 1,024 reference cycles at the lock point (R282). -/
theorem Chan.windowExpected_still {d : Chan} (h : d.pll.area = 0) :
    d.windowExpected.1 * (d.fLock.2 * (d.pll.fnom * 1000)) = d.fLock.1 * 1024 * d.windowExpected.2 := by
  unfold Chan.windowExpected
  rw [h, show ((1024 * 65536 * 100000000 + 0 : Int)).toNat = 1024 * 65536 * 100000000 from rfl]
  dsimp only
  ring

/-- A channel at the end of a lock window: FMEAS shows the count, and a new window begins. -/
def Chan.measured (c : Chan) (count since : Nat) : Chan :=
  let r := c.rampTo since
  { r.put Reg.PLL_FMEAS (BitVec.ofInt 32 (quantFloor 11 ((count * c.pll.fnom * 65536 : Nat) : Int) (1024 * 1000))) with
    pll := { r.pll with area := 0 } }

theorem Chan.get_measured_ne (c : Chan) (count since : Nat) {o : Nat} (hofs : o ≠ Reg.PLL_OFS) (hmeas : o ≠ Reg.PLL_FMEAS) :
    (c.measured count since).get o = c.get o :=
  ((c.rampTo since).get_put ..).trans ((if_neg hmeas).trans (c.get_rampTo_ne since hofs))

theorem Chan.lockHeld_measured (c : Chan) (count since : Nat) : (c.measured count since).lockHeld = c.lockHeld := by
  have hget : ∀ o ∈ [Reg.PLL_STAT, Reg.CH_MODE_CUR], (c.measured count since).get o = c.get o := fun o ho =>
    have apart : ∀ o ∈ [Reg.PLL_STAT, Reg.CH_MODE_CUR], o ≠ Reg.PLL_OFS ∧ o ≠ Reg.PLL_FMEAS := by decide
    c.get_measured_ne count since (apart o ho).1 (apart o ho).2
  unfold Chan.lockHeld Chan.mode Chan.bit Chan.fld
  rw [hget _ (by decide), hget _ (by decide)]

/-- A channel whose lock is declared after `good` windows (R282, R283). -/
def Chan.lockDeclared (c : Chan) (good : Nat) : Chan :=
  let d := ((c.setFld Reg.PLL_STAT Fld.PLL_STAT_LOCK 1).setFld Reg.PLL_STAT Fld.PLL_STAT_BYPASS 0).setFld
    Reg.PLL_STAT Fld.PLL_STAT_GATED 0
  { d with pll := { d.pll with good := good, phase := .calibrate } }

theorem Chan.lockDeclared_stat (c : Chan) (good : Nat) : let d := c.lockDeclared good
    d.bit Reg.PLL_STAT Fld.PLL_STAT_LOCK = true ∧ d.bit Reg.PLL_STAT Fld.PLL_STAT_BYPASS = false ∧
    d.bit Reg.PLL_STAT Fld.PLL_STAT_GATED = false := by
  refine ⟨?_, ?_, Chan.bit_setFld0 _ _ _ (by decide)⟩
  · exact ((Chan.bit_setFld_ne _ _ _ _ _ _ (.inr (by decide))).trans (Chan.bit_setFld_ne _ _ _ _ _ _ (.inr (by decide)))).trans
      (Chan.bit_setFld _ _ _ (by decide) (by decide))
  · exact (Chan.bit_setFld_ne _ _ _ _ _ _ (.inr (by decide))).trans (Chan.bit_setFld0 _ _ _ (by decide))

/-- The restart of the inputs after a relock leaves the clock (R88, R283). -/
theorem State.keepsClock_chainRelock (s : State) (ch : ChId) : State.KeepsClock ch s (s.chainRelock ch) :=
  foldl_rel (State.KeepsClock ch) (.refl ch) (fun _ _ _ => .trans) _
    (fun s i => .ite (.refl ch s) (State.KeepsClock.trans (.put (.of_regs (d := (s.chan ch).restartFilters i) rfl rfl))
      (.ite (.refl ch _) (State.keepsClock_fastHold _ ch i .fill)))) _ s

theorem State.relocked_area (s : State) (ch : ChId) (c : Chan) : ((s.relocked ch c).chan ch).pll.area = c.pll.area := by
  obtain ⟨d, heq, harea⟩ : ∃ d : Chan, s.relocked ch c = (s.putChan ch d).chainRelock ch ∧ d.pll.area = c.pll.area :=
    ⟨_, rfl, rfl⟩
  rw [heq, (State.keepsClock_chainRelock _ ch).1, State.chan_putChan_same, harea]

/-- A lock under way at the end of a window, `n` good ones in a row: the third locks the PLL (R282). -/
def State.windowEnded (s : State) (ch : ChId) (c : Chan) (n : Nat) : State :=
  if n < 3 then s.putChan ch { c with pll := { c.pll with good := n } }
  else if c.pll.start = .relock then s.relocked ch (c.lockDeclared n) else s.putChan ch (c.lockDeclared n)

theorem State.windowEnded_area (s : State) (ch : ChId) {c : Chan} (n : Nat) (h : c.pll.area = 0) :
    ((s.windowEnded ch c n).chan ch).pll.area = 0 := by
  unfold State.windowEnded
  split
  · rw [State.chan_putChan_same]
    exact h
  split
  · exact (State.relocked_area ..).trans h
  · rw [State.chan_putChan_same]
    exact h

theorem State.windowEnded_counts (s : State) (ch : ChId) (c : Chan) {n : Nat} (h : n < 3) :
    ((s.windowEnded ch c n).chan ch).pll = { c.pll with good := n } := by
  rw [State.windowEnded, if_pos h, State.chan_putChan_same]

theorem State.windowEnded_locks (s : State) (ch : ChId) {c : Chan} {n : Nat} (h : 3 ≤ n) (hstart : c.pll.start ≠ .relock) :
    (s.windowEnded ch c n).chan ch = c.lockDeclared n := by
  rw [State.windowEnded, if_neg h.not_gt, if_neg hstart, State.chan_putChan_same]

/-- The good windows in a row after a window of `count` cycles (R282). -/
def Chan.windowsInRow (c : Chan) (count since : Nat) : Nat :=
  if withinPpm count (c.rampTo since).windowExpected 100 then c.pll.good + 1 else 0

section
variable {s : State} {ch : ChId} {count since : Nat}

theorem exec_lockWindow_seeking (h : (s.chan ch).pll.phase = .windows) : exec (.lockWindow ch count since) s =
    .next (s.windowEnded ch ((s.chan ch).measured count since) ((s.chan ch).windowsInRow count since)) := by
  rw [State.windowEnded, apply_ite Host.Outcome.next]
  exact if_pos h

/-- A window of a running channel: beyond 1,000 ppm its lock is lost (R293). -/
theorem exec_lockWindow_running (hphase : (s.chan ch).pll.phase ≠ .windows) (hlock : (s.chan ch).lockHeld = true) :
    let t := s.putChan ch ((s.chan ch).measured count since)
    exec (.lockWindow ch count since) s = .next (if withinPpm count ((s.chan ch).rampTo since).windowExpected 1000 then t
      else t.clockLoss ch false false) :=
  (if_neg hphase).trans (if_pos (((s.chan ch).lockHeld_measured count since).trans hlock))

end

/-! ## A lock that fails (R282) -/

/-- A lock that fails is a hard channel fault with LFAIL, before the waiting writes land. -/
theorem State.lockFail_landAll (s : State) (ch : ChId) : ∃ u : State, s.lockFail ch = (u.landAll ch).bootSettled ∧
    (u.chan ch).bit Reg.PLL_STAT Fld.PLL_STAT_LFAIL = true ∧ (u.chan ch).mode = 1 ∧ (u.chan ch).faulted = true := by
  refine ⟨_, rfl, ?_⟩
  rw [State.record_chan]
  generalize hc : ({ s.chan ch with pll := { (s.chan ch).pll with phase := .idle } } : Chan).setFld Reg.PLL_STAT
    Fld.PLL_STAT_LFAIL 1 = c
  have hclock := (s.putChan ch c).hardFault_clock ch 3
  rw [State.chan_putChan_same] at hclock
  obtain ⟨hmode, hfaulted⟩ := (s.putChan ch c).hardFault_halts ch 3
  refine ⟨?_, hmode, hfaulted⟩
  rw [hclock.bit (by decide)]
  refine (congrArg (· != 0) (c.dropProfile_clock.2 _ (by decide))).trans ?_
  rw [← hc]
  exact Chan.bit_setFld _ _ _ (by decide) (by decide)

/-! ## What the units of a channel start leave (R111) -/

/-- A channel whose PLL and CH_MODE_CUR other units have left. -/
def Chan.SameMode (c d : Chan) : Prop := d.pll = c.pll ∧ d.get Reg.CH_MODE_CUR = c.get Reg.CH_MODE_CUR

theorem Chan.SameMode.refl (c : Chan) : c.SameMode c := ⟨rfl, rfl⟩

theorem Chan.SameMode.trans {a b c : Chan} (h : a.SameMode b) (k : b.SameMode c) : a.SameMode c :=
  ⟨k.1.trans h.1, k.2.trans h.2⟩

theorem Chan.SameMode.of_regs {c d : Chan} (hp : d.pll = c.pll) (hr : d.regs = c.regs) : c.SameMode d :=
  ⟨hp, congrArg (sget chanReset · Reg.CH_MODE_CUR) hr⟩

theorem Chan.sameMode_setFld (c : Chan) {r : Nat} (f : BitField) (n : Nat) (h : Reg.CH_MODE_CUR ≠ r) :
    c.SameMode (c.setFld r f n) := ⟨rfl, c.get_setFld_ne f n h⟩

theorem Chan.CapOnly.sameMode {c d : Chan} (h : c.CapOnly d) : c.SameMode d := ⟨by rw [h.1], h.2 _ (by decide)⟩

theorem Chan.OutputsOnly.sameMode {c d : Chan} (h : c.OutputsOnly d) : c.SameMode d :=
  ⟨by rw [h.1], h.2 _ (by decide) (by decide) (by decide)⟩

/-- An operation that leaves the channel's PLL and CH_MODE_CUR. -/
def State.KeepsMode (ch : ChId) (s t : State) : Prop := (s.chan ch).SameMode (t.chan ch)

theorem State.KeepsMode.refl (ch : ChId) (s : State) : State.KeepsMode ch s s := Chan.SameMode.refl _

theorem State.KeepsMode.trans {ch : ChId} {s t u : State} (h : State.KeepsMode ch s t) (k : State.KeepsMode ch t u) :
    State.KeepsMode ch s u := Chan.SameMode.trans h k

theorem State.KeepsMode.of_chan {ch : ChId} {s t : State} (h : t.chan ch = s.chan ch) : State.KeepsMode ch s t := by
  unfold State.KeepsMode
  rw [h]
  exact Chan.SameMode.refl _

theorem State.KeepsMode.put {ch : ChId} {s : State} {c : Chan} (h : (s.chan ch).SameMode c) :
    State.KeepsMode ch s (s.putChan ch c) := by
  unfold State.KeepsMode
  rwa [State.chan_putChan_same]

/-- No register of the sample chain's inputs is CH_MODE_CUR. -/
theorem Reg.CH_MODE_CUR_ne_inputs (i : InId) :
    Reg.CH_MODE_CUR ≠ Reg.FIR_XF i ∧ Reg.CH_MODE_CUR ≠ Reg.SDI_STAT i ∧ Reg.CH_MODE_CUR ≠ Reg.FAST_CFG i := by
  unfold Reg.CH_MODE_CUR Reg.FIR_XF Reg.SDI_STAT Reg.FAST_CFG
  omega

theorem State.keepsMode_dropFade (s : State) (ch : ChId) (i : InId) : State.KeepsMode ch s (s.dropFade ch i) := by
  obtain ⟨hfade, -, -⟩ := Reg.CH_MODE_CUR_ne_inputs i
  unfold State.dropFade
  dsimp only
  split
  · exact .put ((s.chan ch).sameMode_setFld _ 0 hfade)
  · have hdropped := Chan.sameMode_setFld ((s.chan ch).onInp i fun x => { x with fade := none }) Fld.FIR_XF_BUSY 0 hfade
    exact State.KeepsMode.trans (.put (Chan.SameMode.trans (.of_regs rfl rfl) hdropped)) (.of_chan (State.record_chan ..))

theorem Chan.sameMode_startInput (c : Chan) (fresh : Bool) (i : InId) : c.SameMode (c.startInput fresh i) := by
  obtain ⟨-, hstat, hfast⟩ := Reg.CH_MODE_CUR_ne_inputs i
  unfold Chan.startInput
  split
  · exact .refl c
  · extract_lets dev c1 e c2 r c3
    have h2 : c.SameMode c2 := .of_regs rfl rfl
    have h3 : c2.SameMode c3 := (c2.sameMode_setFld _ _ hstat).trans (Chan.sameMode_setFld _ _ _ hstat)
    exact (h2.trans h3).trans (c3.sameMode_setFld _ 0 hfast)

/-- The sample chain's start (R78). -/
theorem State.keepsMode_chainStart (s : State) (ch : ChId) (fresh : Bool) : State.KeepsMode ch s (s.chainStart ch fresh) := by
  unfold State.chainStart
  extract_lets s1 s2
  have h1 : State.KeepsMode ch s s1 := foldl_rel (State.KeepsMode ch) (.refl ch) (fun _ _ _ => .trans) _
    (fun s i => s.keepsMode_dropFade ch i) _ s
  have h2 : State.KeepsMode ch s1 s2 := .put (foldl_rel Chan.SameMode .refl (fun _ _ _ => .trans) _
    (fun c i => c.sameMode_startInput fresh i) _ _)
  have h3 := State.KeepsMode.put (s := s2) (ch := ch)
    ((s2.chan ch).sameMode_setFld (r := Reg.SDI_CHCTL) Fld.SDI_CHCTL_SKBUSY 0 (by decide))
  exact ((h1.trans h2).trans h3).trans (State.outputsOnly_brakeFollow _ ch).sameMode

theorem Chan.capOnly_capFill (c : Chan) (k : SetId) (i : Fin 64) (ow : Bool) : c.CapOnly (c.capFill k i ow) := by
  unfold Chan.capFill
  extract_lets c1 c2
  have h1 : c.CapOnly c1 := (c.capOnly_setSeg k i .open).trans
    (Chan.capOnly_setFld _ _ _ _ (by unfold Reg.CAP_STAT; omega))
  exact ((h1.trans (c1.capOnly_setPp k _)).trans (Chan.CapOnly.cap _ _ _)).trans (Chan.capOnly_setCapState _ _ _)

theorem State.capOnly_countCh (s : State) (ch : ChId) {reg : Nat} (hi ev : Bool) (h : 0x2C00 ≤ reg) :
    s.CapOnly (s.countCh ch reg hi ev) ch :=
  (State.CapOnly.put s ch _ (Chan.CapOnly.put _ _ _ h)).trans (.reports (s.reports_countCh ch reg hi ev) ch)

theorem State.capOnly_capStart (s : State) (ch : ChId) (k : SetId) : s.CapOnly (s.capStart ch k) ch := by
  unfold State.capStart
  dsimp only
  split
  · exact .put _ _ _ (Chan.capOnly_capFill ..)
  · split
    · next i _ _ =>
      exact (State.CapOnly.put s ch _ ((s.chan ch).capOnly_capFill k i true)).trans
        (State.capOnly_countCh _ ch true true (by unfold Reg.CAP_CNT; omega))
    · exact .put _ _ _ (Chan.capOnly_setCapState ..)

/-- Capture at a channel start (R407). -/
theorem State.capOnly_capRestart (s : State) (ch : ChId) : s.CapOnly (s.capRestart ch) ch := by
  refine foldl_rel (fun a b => a.CapOnly b ch) (fun b => State.CapOnly.refl b ch) (fun _ _ _ => State.CapOnly.trans) _ ?_ _ _
  intro s k
  extract_lets t c
  have ht : s.CapOnly t ch := State.capOnly_onCap s ch k _
  split
  · exact ht
  split
  · exact ht.trans (.put _ _ _ (Chan.capOnly_capFill ..))
  · exact ht.trans (t.capOnly_capStart ch k)

/-! ## The end of a channel start (R111, R180, R199) -/

theorem Chan.packScanAll_pll (c : Chan) : c.packScanAll.pll = c.pll :=
  foldl_rel (fun a b : Chan => b.pll = a.pll) (fun _ => rfl) (fun _ _ _ h k => k.trans h) Chan.packScan (fun _ _ => rfl) _ _

theorem Chan.packCount_pll (c : Chan) : c.packCount.pll = c.pll := rfl

theorem Chan.packEnableEdge_pll (c : Chan) (phase : Nat) : (c.packEnableEdge phase).pll = c.pll := by
  unfold Chan.packEnableEdge
  extract_lets en c1 c2 tx
  have h2 : c2.pll = c.pll := by
    unfold c2 Chan.packTrackX
    split
    · dsimp only
      split <;> rfl
    · rfl
  split
  · rfl
  split
  · rw [Chan.packCount_pll, Chan.packScanAll_pll]
    exact h2
  · rw [Chan.packCount_pll]

theorem State.startUnits_idle (s : State) (ch : ChId) (g : Section) : ((s.startUnits ch g).chan ch).pll.phase = .idle := by
  unfold State.startUnits
  rw [State.onChan_eq, State.chan_putChan_same]
  exact congrArg Pll.phase (Chan.packEnableEdge_pll ..)

/-- A channel start clears the fault (R180) and leaves the PLL. -/
theorem State.clearFault_shows (s : State) (ch : ChId) : ((s.clearFault ch).chan ch).faulted = false ∧
    ((s.clearFault ch).chan ch).pll = (s.chan ch).pll := by
  unfold State.clearFault
  extract_lets t f
  have ht : (t.chan ch).faulted = false ∧ (t.chan ch).pll = (s.chan ch).pll := by
    rw [show t.chan ch = _ from State.chan_putChan_same ..]
    refine ⟨?_, rfl⟩
    refine (congrArg (getField · Fld.CH_MODE_CUR_FAULT != 0) ((Chan.get_put ..).trans (if_neg (by decide)))).trans ?_
    exact (s.chan ch).bit_setFld0 _ _ (by decide)
  exact ht

theorem enteredCur_fault (w : Word) (m old tc : Nat) :
    getField (enteredCur w m old tc) Fld.CH_MODE_CUR_FAULT = getField w Fld.CH_MODE_CUR_FAULT := by
  unfold enteredCur
  simp (disch := decide) only [getField_setField_ne]

theorem Chan.enterInner_starting (c : Chan) (m : Nat) : (c.enterInner m).ctl.starting = c.ctl.starting := by
  unfold Chan.enterInner
  extract_lets old leaves c1 c2 ctl c3 fe me c4 drives
  have h2 : c2.ctl = c.ctl := by
    unfold c2 c1
    split <;> split <;> rfl
  have h4 : c4.ctl.starting = c2.ctl.starting := by
    unfold c4
    split <;> rfl
  have h : c4.ctl.starting = c.ctl.starting := h4.trans (congrArg ModeCtl.starting h2)
  split <;> exact h

theorem Chan.OutputsOnly.ctl {c d : Chan} (h : c.OutputsOnly d) : d.ctl = c.ctl := by
  rw [h.1]

/-- The first tick of a start is still to begin after the entry of HALT (R111). -/
theorem State.enterMode_starting (s : State) (ch : ChId) (m tc : Nat) :
    ((s.enterMode ch m tc).chan ch).ctl.starting = (s.chan ch).ctl.starting := by
  unfold State.enterMode
  extract_lets c old s1 s2 s3 s4 s5
  have h1 : (s1.chan ch).ctl.starting = (s.chan ch).ctl.starting := by
    rw [show s1.chan ch = _ from State.chan_putChan_same ..]
    exact c.enterInner_starting m
  have h2 : (s2.chan ch).ctl = (s1.chan ch).ctl := by
    unfold s2
    split
    · rw [State.groupDiscard_chan]
    · rfl
  have h3 : (s3.chan ch).ctl = (s2.chan ch).ctl := by
    unfold s3
    split
    · rfl
    · rw [State.irq_chan, State.countCh_chan, Chan.put_ctl]
  have h4 : (s4.chan ch).ctl = (s3.chan ch).ctl := congrArg Chan.ctl (State.record_chan ..)
  have h5 : (s5.chan ch).ctl = (s4.chan ch).ctl := by
    unfold s5
    split
    · unfold State.pairLeaveShadow
      extract_lets t
      have ht : (t.chan ch).ctl = (s4.chan ch).ctl := by
        rw [show t = s4.onPair ch _ from rfl, State.onPair_eq, State.chan_putChan_same]
      rw [State.onChan_eq, State.chan_putChan_same]
      exact ht
    · rfl
  have h6 : ((s5.chinhFollow ch).chan ch).ctl = (s5.chan ch).ctl := (State.outputsOnly_gatesFollow _ ch).ctl
  have h7 := (State.outputsOnly_contactors (s5.chinhFollow ch) ch).ctl
  rw [h7, h6, h5, h4, h3, h2, h1]

@[simp] theorem State.bootSettled_chan (s : State) (ch : ChId) : s.bootSettled.chan ch = s.chan ch := by
  unfold State.bootSettled
  split
  · rw [State.irq_chan]
    rfl
  · rfl

/-- The entry of HALT changes of CH_MODE_CUR neither FAULT nor anything of the PLL (R181). -/
theorem State.enterMode_halted (s : State) (ch : ChId) {tc : Nat} (htc : tc < 32) : let d := (s.enterMode ch 1 tc).chan ch
    d.mode = 1 ∧ d.faulted = (s.chan ch).faulted ∧ d.fld Reg.CH_MODE_CUR Fld.CH_MODE_CUR_TCAUSE = tc ∧
    d.pll = (s.chan ch).pll ∧ d.ctl.starting = (s.chan ch).ctl.starting := by
  have hregs := (s.followsEntry_enterMode ch 1 tc).regs _ (show Reg.CH_MODE_CUR ∈ modeRegs by decide)
  rw [State.chan_putChan_same, ((s.chan ch).get_entered 1 tc).1] at hregs
  have hpll := (s.keepsClock_enterMode ch 1 tc).1
  have hstarting := s.enterMode_starting ch 1 tc
  generalize (s.enterMode ch 1 tc).chan ch = d at hregs hpll hstarting ⊢
  obtain ⟨hmode, -, hcause⟩ := enteredCur_fields ((s.chan ch).get Reg.CH_MODE_CUR) (by decide : 1 < 16) (s.chan ch).mode_lt htc
  have hfault := enteredCur_fault ((s.chan ch).get Reg.CH_MODE_CUR) 1 (s.chan ch).mode tc
  rw [← hregs] at hmode hcause hfault
  exact ⟨hmode, congrArg (· != 0) hfault, hcause, hpll, hstarting⟩

/-- The units of a channel as a start makes them anew, before its entry of HALT (R78, R111, R180, R312, R407). -/
def State.startedUnits (s : State) (ch : ChId) (g : Section) (fresh : Bool) : State :=
  let t := (((s.loadEngines ch g).startUnits ch g).clearFault ch |>.chainStart ch fresh).capRestart ch
  if t.link.mlids.isEmpty then t else t.compareMlids t.link.mlids

/-- A channel whose next tick is the first after its start (R78, R111). -/
def Chan.setStarting (c : Chan) : Chan := { c with ctl := { c.ctl with starting := true } }

theorem State.startChan_eq (s : State) (ch : ChId) (g : Section) (fresh : Bool) (tc : Nat) : s.startChan ch g fresh tc =
    ((s.startedUnits ch g fresh).onChan ch Chan.setStarting).enterMode ch 1 tc := rfl

theorem State.startedUnits_shows (s : State) (ch : ChId) (g : Section) (fresh : Bool) :
    ((s.startedUnits ch g fresh).chan ch).faulted = false ∧ ((s.startedUnits ch g fresh).chan ch).pll.phase = .idle := by
  unfold State.startedUnits
  extract_lets t
  obtain ⟨hfault, hpll⟩ := ((s.loadEngines ch g).startUnits ch g).clearFault_shows ch
  have hidle := (congrArg Pll.phase hpll).trans (State.startUnits_idle ..)
  have ht : State.KeepsMode ch (((s.loadEngines ch g).startUnits ch g).clearFault ch) t :=
    (State.keepsMode_chainStart _ ch fresh).trans (State.capOnly_capRestart _ ch).chan.sameMode
  have hlayout : State.KeepsMode ch t (if t.link.mlids.isEmpty then t else t.compareMlids t.link.mlids) := by
    split
    · exact .refl ch t
    · exact .of_chan ((t.compareMlids_frame _).2.1 ch)
  obtain ⟨kpll, kcur⟩ := ht.trans hlayout
  exact ⟨(congrArg (getField · Fld.CH_MODE_CUR_FAULT != 0) kcur).trans hfault, (congrArg Pll.phase kpll).trans hidle⟩

/-- A channel start ends in HALT without a fault, its PLL idle, its first tick still to begin (R111, R180, R199). -/
theorem State.startChan_halts (s : State) (ch : ChId) (g : Section) (fresh : Bool) {tc : Nat} (htc : tc < 32) :
    let d := (s.startChan ch g fresh tc).chan ch
    d.mode = 1 ∧ d.faulted = false ∧ d.fld Reg.CH_MODE_CUR Fld.CH_MODE_CUR_TCAUSE = tc ∧ d.pll.phase = .idle ∧
    d.ctl.starting = true := by
  rw [State.startChan_eq]
  obtain ⟨hfault, hidle⟩ := s.startedUnits_shows ch g fresh
  have hchan : ((s.startedUnits ch g fresh).onChan ch Chan.setStarting).chan ch =
      ((s.startedUnits ch g fresh).chan ch).setStarting := State.chan_putChan_same ..
  generalize (s.startedUnits ch g fresh).onChan ch Chan.setStarting = u at hchan ⊢
  generalize (s.startedUnits ch g fresh).chan ch = c at hfault hidle hchan
  obtain ⟨hmode, kfault, hcause, kpll, kstarting⟩ := u.enterMode_halted ch htc
  rw [hchan] at kfault kpll kstarting
  exact ⟨hmode, kfault.trans hfault, hcause, (congrArg Pll.phase kpll).trans hidle, kstarting⟩

theorem exec_channelStart {s : State} {ch : ChId} {g : Section} (hphase : (s.chan ch).pll.phase = .calibrate)
    (hstart : (s.chan ch).pll.start = .fromOff ∨ (s.chan ch).pll.start = .reset) (hcommitted : s.committed ch = some g) :
    exec (.channelStart ch) s = .next (s.startChan ch g ((s.chan ch).pll.start = .reset) 2).bootSettled := by
  refine (if_pos ?_).trans ?_
  · obtain h | h := hstart <;> rw [hphase, h] <;> rfl
  · rw [hcommitted]

/-- Settles O33: lock windows (`exec_lockWindow_seeking`, `exec_lockWindow_running`), the failure (`State.lockFail_landAll`) and
the end of the start (`State.startChan_halts`). -/
theorem locking : Obligations.Locking := by
  unfold Obligations.Locking
  refine ⟨fun d => Chan.windowExpected_still, ?_⟩
  intro s ch band count since c r e within
  have hwithin : ∀ ppm, withinPpm count e ppm = true ↔ within ppm := withinPpm_iff count e
  refine ⟨fun hsearch => ⟨_, if_pos hsearch, State.putChan_own .., ?_⟩, fun hwindows => ?_, fun hphase hlock => ?_,
    fun hseeks => ?_, fun g hphase hstart hcommitted => ⟨_, exec_channelStart hphase hstart hcommitted, ?_⟩⟩
  · rw [State.chan_putChan_same]
    exact ⟨rfl, (Chan.fld_setFld _ _ _ _ (by decide)).trans (Nat.mod_eq_of_lt band.isLt)⟩
  · have hgoodRow : within 100 → c.windowsInRow count since = c.pll.good + 1 := fun h => if_pos ((hwithin 100).2 h)
    have hbadRow : ¬ within 100 → c.windowsInRow count since = 0 := fun h => if_neg fun k => h ((hwithin 100).1 k)
    refine ⟨_, exec_lockWindow_seeking hwindows, State.windowEnded_area _ _ _ rfl, fun hbad => ?_, fun hgood hfew => ?_,
      fun hgood hthird hstart => ?_⟩
    · rw [hbadRow hbad, State.windowEnded_counts _ _ _ (by decide)]
      exact ⟨rfl, hwindows⟩
    · rw [hgoodRow hgood, State.windowEnded_counts _ _ _ (by omega)]
      exact ⟨rfl, hwindows⟩
    · rw [hgoodRow hgood, State.windowEnded_locks s ch (c := c.measured count since) (by omega) hstart]
      exact ⟨rfl, Chan.lockDeclared_stat ..⟩
  · exact (exec_lockWindow_running hphase hlock).trans (congrArg _ (if_congr (hwithin 1000) rfl rfl))
  · obtain ⟨u, hu, hshows⟩ := s.lockFail_landAll ch
    refine ⟨u, ?_, hshows⟩
    rw [← hu]
    exact if_pos (by obtain h | h := hseeks <;> rw [h] <;> rfl)
  · rw [State.bootSettled_chan]
    exact s.startChan_halts ch g _ (by decide)

end Sys2Proof.Machine
end

section
/-! SUPPORT. The family of 10_redundant_pair.md: what the operations of the pair leave of the device's registers (R306, R318, R321,
R331, R332). -/

namespace Sys2Proof.Machine

/-! ## Registers beside those that an operation works on -/

theorem State.groupDiscard_gfld (s : State) (ch : ChId) {o : Nat} (f : BitField) (h : o ≠ Reg.GRP_RESULT) :
    (s.groupDiscard ch).gfld o f = s.gfld o f := by
  unfold State.groupDiscard
  split
  · exact State.gfld_gset_ne _ _ (.inl h)
  · rfl

theorem State.countCh_gfld (s : State) (ch : ChId) (reg : Nat) (hi ev : Bool) {o : Nat} (f : BitField) (hcnt : o ≠ Reg.REC_CNT)
    (hint : o ≠ Reg.INT_STAT) : (s.countCh ch reg hi ev).gfld o f = s.gfld o f :=
  (s.reports_countCh ch reg hi ev).gfld o f hcnt hint

/-- The brake works on its channel, and counts its demands (R259). -/
theorem State.brakeFollow_gfld (s : State) (ch : ChId) {o : Nat} (f : BitField) (hcnt : o ≠ Reg.REC_CNT) (hint : o ≠ Reg.INT_STAT) :
    (s.brakeFollow ch).gfld o f = s.gfld o f := by
  unfold State.brakeFollow
  extract_lets c t
  split
  · rfl
  split
  · split <;> rfl
  split
  · rfl
  split
  · rfl
  · exact t.countCh_gfld ch _ _ _ f hcnt hint

theorem State.gatesFollow_gfld (s : State) (ch : ChId) {o : Nat} (f : BitField) (hcnt : o ≠ Reg.REC_CNT) (hint : o ≠ Reg.INT_STAT) :
    (s.gatesFollow ch).gfld o f = s.gfld o f := by
  unfold State.gatesFollow
  refine (State.brakeFollow_gfld _ ch f hcnt hint).trans ?_
  split
  · rfl
  split
  · rfl
  split <;> rfl

theorem State.chinhFollow_gfld (s : State) (ch : ChId) {o : Nat} (f : BitField) (hknl : o ≠ Reg.KNL_STAT) (hcnt : o ≠ Reg.REC_CNT)
    (hint : o ≠ Reg.INT_STAT) : (s.chinhFollow ch).gfld o f = s.gfld o f :=
  (State.gatesFollow_gfld _ ch f hcnt hint).trans (State.gfld_gset_ne _ _ (.inl hknl))

theorem State.contactors_gfld (s : State) (ch : ChId) (o : Nat) (f : BitField) : (s.contactors ch).gfld o f = s.gfld o f := rfl

/-! ## PAIR_CHSTAT beside the fields that an operation sets (R338) -/

theorem Reg.PAIR_CHSTAT_ne_of_lt (ch : ChId) {o : Nat} (h : o < 0x4100) : Reg.PAIR_CHSTAT ch ≠ o := (Reg.ne_PAIR_CHSTAT h ch).symm

theorem State.reports.cs {s t : State} (h : s.reports t) (ch : ChId) (f : BitField) : t.cs ch f = s.cs ch f :=
  h.gfld _ f (Reg.PAIR_CHSTAT_ne_of_lt ch (by decide)) (Reg.PAIR_CHSTAT_ne_of_lt ch (by decide))

theorem State.cs_setCs_ne (s : State) (ch : ChId) {f g : BitField} (n : Nat) (h : f.lo + f.width ≤ g.lo ∨ g.lo + g.width ≤ f.lo) :
    (s.setCs ch f n).cs ch g = s.cs ch g := State.gfld_gset_ne _ _ (.inr h)

theorem State.countG_cs (s : State) {reg : Nat} (hi ev : Bool) (ch : ChId) (f : BitField) (h : reg < 0x4100) :
    (s.countG reg hi ev).cs ch f = s.cs ch f :=
  s.countG_gfld reg hi ev f (Reg.PAIR_CHSTAT_ne_of_lt ch h) (Reg.PAIR_CHSTAT_ne_of_lt ch (by decide))
    (Reg.PAIR_CHSTAT_ne_of_lt ch (by decide))

/-- Leaving SHADOW clears ARMED and GUARD alone (R321, R328). -/
theorem State.pairLeaveShadow_cs (s : State) (ch : ChId) {f : BitField}
    (h : Fld.PAIR_CHSTAT_GUARD.lo + Fld.PAIR_CHSTAT_GUARD.width ≤ f.lo) :
    (s.pairLeaveShadow ch).cs ch f = s.cs ch f := by
  unfold State.pairLeaveShadow
  extract_lets t
  have hhealth : ∀ (u : State) w, (u.gput (Reg.HND_HEALTH ch) w).cs ch f = u.cs ch f := fun u w =>
    congrArg (getField · f) ((u.gget_gput ..).trans (if_neg (Reg.HND_HEALTH_ne_PAIR_CHSTAT ch ch).symm))
  exact (hhealth _ 0).trans ((State.cs_setCs_ne _ ch 0 (.inl h)).trans
    (State.cs_setCs_ne t ch 0 (.inl (Nat.le_trans (by decide) h))))

/-- An entry of a mode changes of PAIR_CHSTAT at most what leaving SHADOW clears. -/
theorem State.enterMode_cs (s : State) (ch : ChId) (m tc : Nat) {f : BitField}
    (h : Fld.PAIR_CHSTAT_GUARD.lo + Fld.PAIR_CHSTAT_GUARD.width ≤ f.lo) :
    (s.enterMode ch m tc).cs ch f = s.cs ch f := by
  have hne : ∀ {o : Nat}, o < 0x4100 → Reg.PAIR_CHSTAT ch ≠ o := Reg.PAIR_CHSTAT_ne_of_lt ch
  unfold State.enterMode
  extract_lets c old s1 s2 s3 s4 s5
  have hgroup : s2.cs ch f = s1.cs ch f := by
    unfold s2
    split
    · exact s1.groupDiscard_gfld ch f (hne (by decide))
    · rfl
  have hcount : s3.cs ch f = s2.cs ch f := by
    unfold s3
    split
    · rfl
    · exact ((State.reports_irq _ _).cs ch f).trans (s2.countCh_gfld ch _ _ _ f (hne (by decide)) (hne (by decide)))
  have hrecord : s4.cs ch f = s3.cs ch f := (State.reports_record ..).cs ch f
  have hshadow : s5.cs ch f = s4.cs ch f := by
    unfold s5
    split
    · exact s4.pairLeaveShadow_cs ch h
    · rfl
  have hentered : s5.cs ch f = s.cs ch f := hshadow.trans (hrecord.trans (hcount.trans hgroup))
  clear_value s5
  exact (State.contactors_gfld ..).trans
    ((s5.chinhFollow_gfld ch f (hne (by decide)) (hne (by decide)) (hne (by decide))).trans hentered)

/-- Giving up changes of PAIR_CHSTAT GAVEUP and GUCAUSE (R331, R332, R338). -/
theorem State.releaseGivenUp_cs (s : State) (ch : ChId) (cause : Nat) {f : BitField}
    (hgaveup : f.lo + f.width ≤ Fld.PAIR_CHSTAT_GAVEUP.lo) : (s.releaseGivenUp ch cause).cs ch f = s.cs ch f := by
  have hne : ∀ {o : Nat}, o < 0x4100 → Reg.PAIR_CHSTAT ch ≠ o := Reg.PAIR_CHSTAT_ne_of_lt ch
  unfold State.releaseGivenUp
  extract_lets s1 s2 s3 s4
  have hpads : s1.cs ch f = s.cs ch f := (State.gatesFollow_gfld _ ch f (hne (by decide)) (hne (by decide))).trans
    (s.groupDiscard_gfld ch f (hne (by decide)))
  have hmarks : s2.cs ch f = s1.cs ch f := (State.cs_setCs_ne _ ch cause (.inr (Nat.le_trans hgaveup (by decide)))).trans
    (State.cs_setCs_ne s1 ch 1 (.inr hgaveup))
  have hcount : s3.cs ch f = s2.cs ch f := ((State.reports_irq _ 3).cs ch f).trans (s2.countG_cs true true ch f (by decide))
  have hrecord : s4.cs ch f = s3.cs ch f := (State.reports_record ..).cs ch f
  have hgiven := hrecord.trans (hcount.trans (hmarks.trans hpads))
  split
  · exact hgiven
  · exact hgiven

/-- A unit that gives up for a cause of the LEASH has let go, and INVSEEN stays (R331, R332). -/
theorem State.giveUp_letsGo (s : State) (ch : ChId) {cause : Nat} (h : 6 < cause) : let t := s.giveUp ch cause
    (t.chan ch).pair.drive = false ∧ (t.chan ch).pair.padsEn = false ∧
    t.cs ch Fld.PAIR_CHSTAT_INVSEEN = s.cs ch Fld.PAIR_CHSTAT_INVSEEN := by
  obtain ⟨-, hdrive, hpads⟩ := s.stays_releaseGivenUp ch cause
  have hseen := s.releaseGivenUp_cs ch cause (f := Fld.PAIR_CHSTAT_INVSEEN) (by decide)
  have hgive : s.giveUp ch cause = if ((s.releaseGivenUp ch cause).chan ch).mode ≤ 1 then s.releaseGivenUp ch cause
      else (s.releaseGivenUp ch cause).enterMode ch 1 8 := if_neg (Nat.not_le.2 h)
  rw [hgive]
  generalize s.releaseGivenUp ch cause = u at hdrive hpads hseen
  obtain ⟨-, -, -, -, -, kdrive, kpads, -⟩ := u.enterMode_halt ch
  have kseen := u.enterMode_cs ch 1 8 (f := Fld.PAIR_CHSTAT_INVSEEN) (by decide)
  split
  · exact ⟨hdrive, hpads, hseen⟩
  · exact ⟨kdrive hdrive, kpads hpads, kseen.trans hseen⟩

end Sys2Proof.Machine
end

section
/-! SUPPORT. The family of 10_redundant_pair.md: the LEASH (R317 to R319, R321 to R324, R326). -/

namespace Sys2Proof.Machine

/-! ## The state shown (R318, R338) -/

theorem State.setLeash_chan (s : State) (ch j : ChId) (n : Nat) : (s.setLeash ch n).chan j = s.chan j := by
  unfold State.setLeash
  split
  · rfl
  · exact State.irq_chan ..

theorem State.setLeash_leash (s : State) (ch : ChId) {n : Nat} (h : n < 4) : (s.setLeash ch n).cs ch Fld.PAIR_CHSTAT_LEASH = n := by
  unfold State.setLeash
  split
  · assumption
  · exact ((State.reports_irq _ 3).cs ch _).trans (State.cs_setCs _ _ (by decide) h)

theorem State.setLeash_gfld_ne (s : State) (ch : ChId) (n : Nat) {o : Nat} {f : BitField} (hcnt : o ≠ Reg.REC_CNT)
    (hint : o ≠ Reg.INT_STAT) (h : o ≠ Reg.PAIR_CHSTAT ch ∨ Fld.PAIR_CHSTAT_LEASH.lo + Fld.PAIR_CHSTAT_LEASH.width ≤ f.lo) :
    (s.setLeash ch n).gfld o f = s.gfld o f := by
  unfold State.setLeash
  split
  · rfl
  · exact ((State.reports_irq _ 3).gfld o f hcnt hint).trans (State.gfld_gset_ne _ _ (h.imp_right .inl))

theorem State.setLeash_cs_ne (s : State) (ch : ChId) (n : Nat) {f : BitField}
    (h : Fld.PAIR_CHSTAT_LEASH.lo + Fld.PAIR_CHSTAT_LEASH.width ≤ f.lo) : (s.setLeash ch n).cs ch f = s.cs ch f :=
  s.setLeash_gfld_ne ch n (Reg.PAIR_CHSTAT_ne_of_lt ch (by decide)) (Reg.PAIR_CHSTAT_ne_of_lt ch (by decide)) (.inr h)

/-! ## ARMED (R321, R322) -/

/-- The pair state of a channel that claims a released LEASH at once (R322). -/
def PairCh.claims (p : PairCh) : PairCh := { p with drive := true, aLow := true, claim := some .check }

/-- A claim works on the channel's pair state alone, which it begins to drive (R322). -/
theorem State.claimReleased_eq (s : State) (ch : ChId) : s.claimReleased ch = s.onPair ch fun p =>
    if s.cs ch Fld.PAIR_CHSTAT_ARMED = 1 ∧ s.cs ch Fld.PAIR_CHSTAT_LEASH = 0 ∧ p.drive = false then p.claims else p := by
  unfold State.claimReleased
  extract_lets p
  have hguard : (decide (s.cs ch Fld.PAIR_CHSTAT_ARMED = 1) && decide (s.cs ch Fld.PAIR_CHSTAT_LEASH = 0) && !p.drive) = true ↔
      s.cs ch Fld.PAIR_CHSTAT_ARMED = 1 ∧ s.cs ch Fld.PAIR_CHSTAT_LEASH = 0 ∧ p.drive = false := by
    simp [and_assoc]
  by_cases h : s.cs ch Fld.PAIR_CHSTAT_ARMED = 1 ∧ s.cs ch Fld.PAIR_CHSTAT_LEASH = 0 ∧ p.drive = false
  · rw [if_pos (hguard.2 h), State.onPair_eq, State.onPair_eq, if_pos h]
    rfl
  · rw [if_neg (mt hguard.1 h), State.onPair_eq, if_neg h]
    exact (s.putChan_self ch).symm

/-- Whether a channel is to be ARMED (R321, R328). -/
def State.arms (s : State) (ch : ChId) : Bool :=
  (s.chan ch).mode = 8 && (s.chan ch).pair.eligible && !(s.chan ch).pair.disarm && !s.inhibited ch

/-- ARMED is set from its conditions; then only the channel's claim changes, never what makes it eligible (R321, R322). -/
theorem State.rearm_eq (s : State) (ch : ChId) : ∃ g : PairCh → PairCh, (∀ p, (g p).eligible = p.eligible) ∧
    s.rearm ch = (s.setCs ch Fld.PAIR_CHSTAT_ARMED (if s.arms ch then 1 else 0)).onPair ch g := by
  unfold State.rearm
  extract_lets c armed u
  split
  · refine ⟨_, fun p => ?_, u.claimReleased_eq ch⟩
    split <;> rfl
  split
  · exact ⟨PairCh.letGo, fun _ => rfl, rfl⟩
  · exact ⟨id, fun _ => rfl, (u.putChan_self ch).symm⟩

theorem State.rearm_shows (s : State) (ch : ChId) : let t := s.rearm ch
    t.cs ch Fld.PAIR_CHSTAT_ARMED = (if s.arms ch then 1 else 0) ∧
    (∀ f : BitField, (f.lo + f.width ≤ Fld.PAIR_CHSTAT_ARMED.lo ∨ Fld.PAIR_CHSTAT_ARMED.lo + Fld.PAIR_CHSTAT_ARMED.width ≤ f.lo) →
      t.cs ch f = s.cs ch f) ∧
    (t.chan ch).pair.eligible = (s.chan ch).pair.eligible := by
  obtain ⟨g, hg, ht⟩ := s.rearm_eq ch
  rw [ht]
  refine ⟨State.cs_setCs s ch (by decide) ?_, fun f hf => State.cs_setCs_ne s ch _ hf.symm, ?_⟩
  · split <;> decide
  · rw [State.onPair_eq, State.chan_putChan_same]
    exact hg _

/-! ## HELD and RELEASED (R318, R322, R326) -/

theorem exec_leashStateChange (s : State) (ch : ChId) (w : List (Bool × Bool)) :
    (leashSeen w = none → exec (.leashStateChange ch w) s = .next s) ∧
    (leashSeen w = some .held → s.holds ch = true → exec (.leashStateChange ch w) s = .next (s.setLeash ch 1)) ∧
    (leashSeen w = some .released → exec (.leashStateChange ch w) s = .next ((s.setLeash ch 0).claimReleased ch)) ∧
    (leashSeen w = some .invalid → exec (.leashStateChange ch w) s = .next (s.leashInvalid ch)) := by
  have hexec : exec (.leashStateChange ch w) s = execLeashStateChange ch w s := rfl
  rw [hexec, execLeashStateChange]
  refine ⟨fun hseen => by rw [hseen], fun hseen hholds => ?_, fun hseen => by rw [hseen], fun hseen => by rw [hseen]⟩
  rw [hseen]
  exact if_pos hholds

/-- A LEASH seen HELD by a unit that does not hold it (R318, R326). -/
theorem exec_leashStateChange_held {s : State} {ch : ChId} {w : List (Bool × Bool)} (hseen : leashSeen w = some .held)
    (hholds : s.holds ch = false) : ∃ t, exec (.leashStateChange ch w) s = .next t ∧ t.cs ch Fld.PAIR_CHSTAT_LEASH = 2 ∧
      t.cs ch Fld.PAIR_CHSTAT_GUARD = 0 := by
  have hexec : exec (.leashStateChange ch w) s = .next (let u := (s.setLeash ch 2).setCs ch Fld.PAIR_CHSTAT_GUARD 0
      (if (u.chan ch).mode = 8 then u.onPair ch fun p => { p with eligible := true } else u).rearm ch) := by
    show execLeashStateChange ch w s = _
    unfold execLeashStateChange
    simp only [hseen, hholds, Bool.false_eq_true, if_false]
  refine ⟨_, hexec, ?_⟩
  extract_lets u
  have hleash : u.cs ch Fld.PAIR_CHSTAT_LEASH = 2 :=
    (State.cs_setCs_ne _ ch 0 (.inr (by decide))).trans (s.setLeash_leash ch (by decide))
  have hguard : u.cs ch Fld.PAIR_CHSTAT_GUARD = 0 := State.cs_setCs _ ch (by decide) (by decide)
  generalize hv : (if (u.chan ch).mode = 8 then u.onPair ch fun p => { p with eligible := true } else u) = v
  have hkept : ∀ f, v.cs ch f = u.cs ch f := fun f => by
    rw [← hv]
    split <;> rfl
  obtain ⟨-, hcs, -⟩ := v.rearm_shows ch
  exact ⟨(hcs _ (.inl (by decide))).trans ((hkept _).trans hleash), (hcs _ (.inr (by decide))).trans ((hkept _).trans hguard)⟩

/-- A LEASH seen RELEASED shows so, and an ARMED channel claims it (R318, R322). -/
theorem State.setLeash_claimReleased (s : State) (ch : ChId) : let t := (s.setLeash ch 0).claimReleased ch
    t.cs ch Fld.PAIR_CHSTAT_LEASH = 0 ∧
    (t.chan ch).pair = (let p := (s.chan ch).pair
      if s.cs ch Fld.PAIR_CHSTAT_ARMED = 1 ∧ p.drive = false then p.claims else p) := by
  have hleash := s.setLeash_leash ch (n := 0) (by decide)
  have harmed := s.setLeash_cs_ne ch 0 (f := Fld.PAIR_CHSTAT_ARMED) (by decide)
  rw [State.claimReleased_eq]
  refine ⟨hleash, ?_⟩
  rw [State.onPair_eq, State.chan_putChan_same, State.setLeash_chan, hleash, harmed]
  simp only [true_and]

/-! ## INVALID (R319, R324) -/

/-- INVALID as it is shown and recorded, before the PRIO rule acts (R318, R324). -/
def State.invalidSeen (s : State) (ch : ChId) : State :=
  let t := (s.setLeash ch 3).setCs ch Fld.PAIR_CHSTAT_INVSEEN 1
  t.record 0x10 0xF 5 2 (recData [(0, 1, ch.val), (1, 1, s.leashRole ch), (2, 1, t.gfld Reg.PAIR_STAT Fld.PAIR_STAT_PRIO)])

theorem State.invalidSeen_shows (s : State) (ch : ChId) : let t := s.invalidSeen ch
    t.cs ch Fld.PAIR_CHSTAT_INVSEEN = 1 ∧ t.prio = s.prio ∧ t.chan ch = s.chan ch := by
  unfold State.invalidSeen
  extract_lets u t
  have ht : u.reports t := State.reports_record ..
  have hstat : ∀ f, t.gfld Reg.PAIR_STAT f = s.gfld Reg.PAIR_STAT f := fun f => (ht.gfld _ f (by decide) (by decide)).trans
    ((State.gfld_gset_ne _ _ (.inl (Reg.ne_PAIR_CHSTAT (by decide) ch))).trans
      (s.setLeash_gfld_ne ch 3 (by decide) (by decide) (.inl (Reg.ne_PAIR_CHSTAT (by decide) ch))))
  refine ⟨(ht.cs ch _).trans (State.cs_setCs _ ch (by decide) (by decide)), ?_, (ht.chan ch).trans (s.setLeash_chan ch ch 3)⟩
  unfold State.prio State.gbit
  rw [hstat, hstat, hstat]

/-- The PRIO rule: the unit with PRIO 0 gives up what it holds and lets go of all else; with PRIO 1 a holder stays, an ARMED
channel claims, and any other lets go (R324). -/
theorem State.leashInvalid_eq (s : State) (ch : ChId) : s.leashInvalid ch =
    if (s.invalidSeen ch).prio = 0 then
      if s.leashRole ch = 0 then (s.invalidSeen ch).giveUp ch 8 else (s.invalidSeen ch).onPair ch PairCh.letGo
    else if s.leashRole ch = 0 then s.invalidSeen ch
    else if s.leashRole ch = 1 then (s.invalidSeen ch).onPair ch fun p =>
      { p with drive := true, aLow := if p.drive then p.aLow else true, claim := some .forced }
    else (s.invalidSeen ch).onPair ch PairCh.letGo := rfl

/-- What INVALID leaves: INVSEEN; the unit with PRIO 0 has let go; a holder with the other PRIO goes on (R324). -/
theorem State.leashInvalid_shows (s : State) (ch : ChId) : let t := s.leashInvalid ch
    t.cs ch Fld.PAIR_CHSTAT_INVSEEN = 1 ∧
    (s.prio = 0 → (t.chan ch).pair.drive = false ∧ (t.chan ch).pair.padsEn = false) ∧
    (s.prio ≠ 0 → s.holds ch = true → (t.chan ch).pair = (s.chan ch).pair) := by
  obtain ⟨hseen, hprio, hchan⟩ := s.invalidSeen_shows ch
  have hrole : s.holds ch = true → s.leashRole ch = 0 := fun h => if_pos h
  rw [State.leashInvalid_eq]
  generalize s.invalidSeen ch = u at hseen hprio hchan
  have hgone : ((u.onPair ch PairCh.letGo).chan ch).pair = (u.chan ch).pair.letGo := congrArg Chan.pair (State.chan_putChan_same ..)
  rw [hprio]
  split
  case isTrue hzero =>
    split
    · obtain ⟨hdrive, hpads, hkept⟩ := u.giveUp_letsGo ch (cause := 8) (by decide)
      exact ⟨hkept.trans hseen, fun _ => ⟨hdrive, hpads⟩, fun h => absurd hzero h⟩
    · exact ⟨hseen, fun _ => by rw [hgone]; exact ⟨rfl, rfl⟩, fun h => absurd hzero h⟩
  case isFalse hone =>
    split
    · exact ⟨hseen, fun h => absurd h hone, fun _ _ => congrArg Chan.pair hchan⟩
    next hother =>
      refine ⟨?_, fun h => absurd h hone, fun _ h => absurd (hrole h) hother⟩
      split <;> exact hseen

/-! ## The readback, claims and the release guard (R319, R322, R326) -/

/-- What the readback of a driving unit shows (R319). -/
theorem exec_leashReadbackFault {s : State} {ch : ChId} (h : (s.chan ch).pair.drive = true) :
    exec (.leashReadbackFault ch .releasedLow) s = .next (s.leashInvalid ch) ∧
    exec (.leashReadbackFault ch .pulledHigh) s = .next (s.leashInvalid ch) ∧
    exec (.leashReadbackFault ch .bothHigh) s = .next (s.giveUp ch 7) := by
  have hdrives : ¬ (!(s.chan ch).pair.drive) = true := by simp [h]
  exact ⟨if_neg hdrives, if_neg hdrives, if_neg hdrives⟩

/-- The end of the release guard: GUARD clears; in SHADOW the channel is eligible, and ARMED unless it is disarmed or inhibited
(R321, R326). -/
theorem exec_releaseGuardExpiry {s : State} {ch : ChId} (h : s.cs ch Fld.PAIR_CHSTAT_GUARD = 1) :
    ∃ t, exec (.releaseGuardExpiry ch) s = .next t ∧ t.cs ch Fld.PAIR_CHSTAT_GUARD = 0 ∧
      ((s.chan ch).mode = 8 → (t.chan ch).pair.eligible = true ∧
        ((s.chan ch).pair.disarm = false → s.inhibited ch = false → t.cs ch Fld.PAIR_CHSTAT_ARMED = 1)) := by
  generalize hu : s.setCs ch Fld.PAIR_CHSTAT_GUARD 0 = u
  generalize hv : (if (u.chan ch).mode = 8 then u.onPair ch fun p => { p with eligible := true } else u) = v
  have hexec : exec (.releaseGuardExpiry ch) s = .next (v.rearm ch) := by
    rw [← hv, ← hu]
    exact if_pos h
  have hguard : v.cs ch Fld.PAIR_CHSTAT_GUARD = 0 := by
    have hcleared : u.cs ch Fld.PAIR_CHSTAT_GUARD = 0 := hu ▸ State.cs_setCs s ch (by decide) (by decide)
    rw [← hv]
    split <;> exact hcleared
  obtain ⟨harmed, hcs, heligible⟩ := v.rearm_shows ch
  refine ⟨_, hexec, (hcs _ (.inr (by decide))).trans hguard, fun hmode => ?_⟩
  have hchan : v.chan ch = { s.chan ch with pair := { (s.chan ch).pair with eligible := true } } := by
    rw [← hv, ← hu, State.setCs_chan, if_pos hmode, State.onPair_eq, State.chan_putChan_same, State.setCs_chan]
  refine ⟨by rw [heligible, hchan], fun hdisarm hinhibited => harmed.trans (if_pos ?_)⟩
  have hknl : v.gget Reg.KNL_STAT = s.gget Reg.KNL_STAT := by
    rw [← hv, ← hu, State.setCs_chan, if_pos hmode]
    exact (s.gget_gput ..).trans (if_neg (Reg.ne_PAIR_CHSTAT (by decide) ch))
  have hfree : v.inhibited ch = false := by
    unfold State.inhibited State.gbit State.gfld at hinhibited ⊢
    rwa [hknl]
  have hmode' : (v.chan ch).mode = 8 := by rw [hchan]; exact hmode
  unfold State.arms
  rw [hmode', hfree, hchan, hdisarm]
  rfl

theorem exec_claimCheckEnd (s : State) (ch : ChId) :
    ((s.chan ch).pair.claim = some .host → exec (.claimCheckEnd ch) s =
      .next (((s.groupDiscard ch).onPair ch fun p => { p with claim := none }).setLeash ch 1)) ∧
    ((s.chan ch).pair.claim = some .check ∨ (s.chan ch).pair.claim = some .forced → exec (.claimCheckEnd ch) s =
      .next ((s.onPair ch fun p => { p with claim := some .ready }).setLeash ch 1)) := by
  have hexec : exec (.claimCheckEnd ch) s = execClaimCheckEnd ch s := rfl
  rw [hexec, execClaimCheckEnd]
  refine ⟨fun hclaim => by rw [hclaim], ?_⟩
  rintro (hclaim | hclaim) <;> rw [hclaim]

/-- Settles O37: the states seen (`exec_leashStateChange_held`, `State.setLeash_claimReleased`), INVALID by the PRIO rule
(`State.leashInvalid_shows`), the readback, the claims and the guard by their commands' own lemmas. -/
theorem leash : Obligations.Leash := by
  unfold Obligations.Leash
  intro s ch w p
  obtain ⟨hnone, hheld, hreleased, hinvalid⟩ := exec_leashStateChange s ch w
  obtain ⟨hhost, hshadow⟩ := exec_claimCheckEnd s ch
  refine ⟨rfl, hnone, fun hseen => ⟨hheld hseen, exec_leashStateChange_held hseen⟩, fun hseen => ⟨_, hreleased hseen, ?_⟩,
    ⟨fun hseen => ⟨_, hinvalid hseen, s.leashInvalid_shows ch⟩, fun hdrive => ?_⟩,
    fun hdrive => (exec_leashReadbackFault hdrive).2.2, hhost, hshadow, exec_releaseGuardExpiry⟩
  · obtain ⟨hleash, hpair⟩ := s.setLeash_claimReleased ch
    exact ⟨hleash, fun harmed hdrive => hpair.trans (if_pos ⟨harmed, hdrive⟩), fun h => hpair.trans (if_neg fun k => h k.1)⟩
  · obtain ⟨hlow, hhigh, -⟩ := exec_leashReadbackFault hdrive
    exact ⟨_, hlow, hhigh, s.leashInvalid_shows ch⟩

end Sys2Proof.Machine
end

section
/-! SUPPORT. The family of 10_redundant_pair.md: heartbeats and state frames (R308, R310, R316, R333). -/

namespace Sys2Proof.Machine

/-! ## Packets and their CRC (R308) -/

theorem withCrc_getD_of_lt (ws : List Word) {i : Nat} (h : i < ws.length) : (withCrc ws).getD i 0 = ws.getD i 0 :=
  List.getD_append _ _ _ _ h

/-- A packet of its length passes the test of its CRC. -/
theorem withCrc_passes {ws : List Word} {n : Nat} (h : ws.length = n) : (withCrc ws).length = n + 1 ∧
    (withCrc ws).getD n 0 = crc32c (bytesOf ((withCrc ws).take n)) := by
  subst h
  refine ⟨List.length_append, ?_⟩
  rw [withCrc, List.take_left, List.getD_append_right _ _ _ _ (Nat.le_refl _), Nat.sub_self]
  rfl

theorem exec_heartbeatSend {s : State} (hpair : s.isPair = true) (hlink : s.gfld Reg.PAIR_STAT Fld.PAIR_STAT_LINK = 2) :
    exec .heartbeatSend s = .next { s with link := { s.link with
      sentHb := withCrc s.heartbeatWords, seq := (s.link.seq + 1) % 256 } } :=
  if_pos (by rw [hpair, hlink]; rfl)

theorem exec_mirrorFrameSend {s : State} {ch : ChId} (txOfs : BitVec 18) (hpair : s.isPair = true)
    (hlink : s.gfld Reg.PAIR_STAT Fld.PAIR_STAT_LINK = 2) (hholds : s.holds ch = true) (hticks : (s.chan ch).ticking = true)
    (hdone : (s.chan ch).enginesDone = true) : exec (.mirrorFrameSend ch txOfs) s = .next { s with link := { s.link with
      sentFrame := withCrc ((s.chan ch).mirrorWords ch s.time.refNs txOfs) } } :=
  if_pos (by rw [hpair, hlink, hholds, hticks, hdone]; rfl)

/-! ## PLH, channel by channel (R333, R338) -/

theorem State.setPartnerPrio_link (s : State) (p : Bool) : (s.setPartnerPrio p).link = s.link := by
  unfold State.setPartnerPrio
  extract_lets u
  split <;> rfl

/-- Updates of PAIR_CHSTAT and records, of which nothing shows in the link, in a channel or in another register. -/
def State.PairMarks (s t : State) : Prop := t.link = s.link ∧ (∀ ch, t.chan ch = s.chan ch) ∧
  ∀ o, (∀ ch : ChId, o ≠ Reg.PAIR_CHSTAT ch) → o ≠ Reg.REC_CNT → o ≠ Reg.INT_STAT → ∀ f, t.gfld o f = s.gfld o f

theorem State.PairMarks.refl (s : State) : s.PairMarks s := ⟨rfl, fun _ => rfl, fun _ _ _ _ _ => rfl⟩

theorem State.PairMarks.trans {s t u : State} (h : s.PairMarks t) (k : t.PairMarks u) : s.PairMarks u := by
  obtain ⟨hlink, hchan, hreg⟩ := h
  obtain ⟨klink, kchan, kreg⟩ := k
  exact ⟨klink.trans hlink, fun ch => (kchan ch).trans (hchan ch),
    fun o ho hcnt hint f => (kreg o ho hcnt hint f).trans (hreg o ho hcnt hint f)⟩

theorem State.pairMarks_setCs (s : State) (ch : ChId) (f : BitField) (n : Nat) : s.PairMarks (s.setCs ch f n) :=
  ⟨rfl, fun _ => rfl, fun _ ho _ _ _ => State.gfld_gset_ne _ _ (.inl (ho ch))⟩

theorem State.pairMarks_record (s : State) (blk ch code sev : Nat) (d : RecData) : s.PairMarks (s.record blk ch code sev d) :=
  ⟨State.record_link .., s.record_chan _ _ _ _ _, fun o _ hcnt hint f => (State.reports_record ..).gfld o f hcnt hint⟩

theorem State.pairMarks_irq (s : State) (v : Nat) : s.PairMarks (s.irq v) :=
  ⟨State.irq_link .., s.irq_chan v, fun o _ hcnt hint f => (State.reports_irq ..).gfld o f hcnt hint⟩

/-- A channel whose LEASH the partner holds shows that its heartbeat is lost (R333). -/
def State.markPlh (s : State) (ch : ChId) : State :=
  if s.cs ch Fld.PAIR_CHSTAT_LEASH = 2 then
    (s.setCs ch Fld.PAIR_CHSTAT_PLH 1).record 0x10 0xF 8 2 (recData [(0, 1, ch.val)])
  else s

theorem State.pairMarks_markPlh (s : State) (ch : ChId) : s.PairMarks (s.markPlh ch) := by
  unfold State.markPlh
  split
  · exact (s.pairMarks_setCs ch _ 1).trans (State.pairMarks_record ..)
  · exact .refl s

theorem State.markPlh_own (s : State) (ch : ChId) :
    ((s.markPlh ch).cs ch Fld.PAIR_CHSTAT_LEASH, (s.markPlh ch).cs ch Fld.PAIR_CHSTAT_PLH) =
    if s.cs ch Fld.PAIR_CHSTAT_LEASH = 2 then (2, 1) else (s.cs ch Fld.PAIR_CHSTAT_LEASH, s.cs ch Fld.PAIR_CHSTAT_PLH) := by
  unfold State.markPlh
  split
  next h =>
    rw [(State.reports_record ..).cs, (State.reports_record ..).cs, State.cs_setCs_ne _ _ _ (.inr (by decide)),
      State.cs_setCs _ _ (by decide) (by decide), h]
  · rfl

theorem State.markPlh_other (s : State) (i j : ChId) (h : j ≠ i) (f : BitField) : (s.markPlh i).cs j f = s.cs j f := by
  unfold State.markPlh
  split
  · rw [(State.reports_record ..).cs]
    exact State.gfld_gset_ne _ _ (.inl (Reg.PAIR_CHSTAT_ne h))
  · rfl

/-! ## A heartbeat received (R312, R316, R325) -/

/-- What a heartbeat's W0 and W2 show of the partner (R316, R336, R337). -/
def State.partnerStatus (s : State) (w0 w2 : Word) : State :=
  let s := (s.gset Reg.PAIR_PSTAT Fld.PAIR_PSTAT_PHOLD (w2.extractLsb' 0 12).toNat).gset Reg.PAIR_PSTAT
    Fld.PAIR_PSTAT_PARMED (w2.extractLsb' 16 12).toNat
  let s := if w0.getLsbD 17 then s.gset Reg.PAIR_STAT Fld.PAIR_STAT_PGIVEUP 1 else s
  (s.gset Reg.PAIR_STAT Fld.PAIR_STAT_HB_OK 1).gset Reg.PAIR_PSTAT Fld.PAIR_PSTAT_PVALID 1

theorem State.partnerStatus_shows (s : State) (w0 w2 : Word) : let t := s.partnerStatus w0 w2
    t.gfld Reg.PAIR_STAT Fld.PAIR_STAT_HB_OK = 1 ∧ t.gfld Reg.PAIR_PSTAT Fld.PAIR_PSTAT_PVALID = 1 ∧
    t.gfld Reg.PAIR_PSTAT Fld.PAIR_PSTAT_PHOLD = (w2.extractLsb' 0 12).toNat ∧
    t.gfld Reg.PAIR_PSTAT Fld.PAIR_PSTAT_PARMED = (w2.extractLsb' 16 12).toNat ∧
    t.link = s.link ∧ ∀ ch, t.chan ch = s.chan ch := by
  unfold State.partnerStatus
  extract_lets u v t
  have hv : v.link = u.link ∧ (∀ ch, v.chan ch = u.chan ch) ∧ ∀ f, v.gfld Reg.PAIR_PSTAT f = u.gfld Reg.PAIR_PSTAT f := by
    unfold v
    split
    · exact ⟨rfl, fun _ => rfl, fun f => State.gfld_gset_ne _ _ (.inl (by decide))⟩
    · exact ⟨rfl, fun _ => rfl, fun _ => rfl⟩
  obtain ⟨hlink, hchan, hpstat⟩ := hv
  have hkept : ∀ f : BitField, f.lo + f.width ≤ Fld.PAIR_PSTAT_PVALID.lo → t.gfld Reg.PAIR_PSTAT f = u.gfld Reg.PAIR_PSTAT f :=
    fun f hf => (State.gfld_gset_ne _ _ (.inr (.inr hf))).trans ((State.gfld_gset_ne _ _ (.inl (by decide))).trans (hpstat f))
  refine ⟨?_, State.gfld_gset _ _ _ 1 (by decide), ?_, ?_, hlink, hchan⟩
  · exact (State.gfld_gset_ne _ _ (.inl (by decide))).trans (State.gfld_gset v _ _ 1 (by decide))
  · rw [hkept _ (by decide), State.gfld_gset_ne _ _ (.inr (by decide)), State.gfld_gset _ _ _ _ (by decide)]
    exact Nat.mod_eq_of_lt (BitVec.isLt _)
  · rw [hkept _ (by decide), State.gfld_gset _ _ _ _ (by decide)]
    exact Nat.mod_eq_of_lt (BitVec.isLt _)

/-- The partner's layout identities in W6 to W11 (R312, R316). -/
def heartbeatMlids (packet : List Word) : List (BitVec 16) :=
  (List.range 12).map fun i => (packet.getD (6 + i / 2) 0).extractLsb' (16 * (i % 2)) 16

/-- What a valid heartbeat updates: the packet is kept, the partner's PRIO, layouts and status follow it (R312, R316, R325). -/
def State.heartbeatHeard (s : State) (packet : List Word) : State :=
  ((({ s with link := { s.link with heard := packet } } : State).setPartnerPrio ((packet.getD 0 0).getLsbD 16)).compareMlids
    (heartbeatMlids packet)).partnerStatus (packet.getD 0 0) (packet.getD 2 0)

theorem State.heartbeatHeard_frame (s : State) (packet : List Word) :
    (s.heartbeatHeard packet).link.heard = packet ∧ ∀ ch, (s.heartbeatHeard packet).chan ch = s.chan ch := by
  unfold State.heartbeatHeard
  generalize hu : ({ s with link := { s.link with heard := packet } } : State) = u
  have hheard : u.link.heard = packet := hu ▸ rfl
  have hchan : ∀ ch, u.chan ch = s.chan ch := fun ch => hu ▸ rfl
  obtain ⟨klink, kchan, -⟩ := (u.setPartnerPrio ((packet.getD 0 0).getLsbD 16)).compareMlids_frame (heartbeatMlids packet)
  obtain ⟨-, -, -, -, hlink, hstatus⟩ := State.partnerStatus_shows
    ((u.setPartnerPrio ((packet.getD 0 0).getLsbD 16)).compareMlids (heartbeatMlids packet)) (packet.getD 0 0) (packet.getD 2 0)
  refine ⟨?_, fun ch => (hstatus ch).trans ((kchan ch).trans ((u.setPartnerPrio_chan _ ch).trans (hchan ch)))⟩
  rw [hlink, klink, State.setPartnerPrio_link]
  exact hheard

/-- A packet with its CRC and its type is heard; where HB_OK returns, PLH clears (R316, R338). -/
theorem exec_heartbeatReceive {s : State} {f : List Word} (hlen : f.length = 16) (hcrc : f.getD 15 0 = crc32c (bytesOf (f.take 15)))
    (htype : (f.getD 0 0).extractLsb' 0 8 = 2) :
    ∃ t, exec (.heartbeatReceive f) s = .next t ∧ (s.heartbeatHeard f).PairMarks t := by
  have hexec : exec (.heartbeatReceive f) s = if s.gbit Reg.PAIR_STAT Fld.PAIR_STAT_HB_OK then .next (s.heartbeatHeard f)
      else .next ((List.finRange 12).foldl (fun s ch => s.setCs ch Fld.PAIR_CHSTAT_PLH 0) ((s.heartbeatHeard f).irq 3)) :=
    if_neg (by rw [decide_eq_true hlen, decide_eq_true hcrc, decide_eq_true htype]; decide)
  rw [hexec]
  generalize s.heartbeatHeard f = u
  split
  · exact ⟨u, rfl, .refl u⟩
  · refine ⟨_, rfl, (u.pairMarks_irq 3).trans ?_⟩
    exact foldl_rel State.PairMarks State.PairMarks.refl (fun _ _ _ => State.PairMarks.trans) _
      (fun v ch => v.pairMarks_setCs ch _ 0) _ _

/-! ## A heartbeat missed (R316, R333) -/

/-- No heartbeat within TO: the status and the count, before the channels are marked (R316, R340). -/
def State.heartbeatLost (s : State) : State :=
  let s := (s.gset Reg.PAIR_STAT Fld.PAIR_STAT_HB_OK 0).gset Reg.PAIR_STAT Fld.PAIR_STAT_HB_LOST 1
  let s := ((s.gset Reg.PAIR_PSTAT Fld.PAIR_PSTAT_PVALID 0).countG Reg.PAIR_CNT0 false true).irq 3
  s.record 0x10 0xF 2 2 (recData [(0, 2, s.gfld Reg.PAIR_PSTAT Fld.PAIR_PSTAT_PHOLD)])

theorem State.heartbeatLost_shows (s : State) : let t := s.heartbeatLost
    t.gfld Reg.PAIR_STAT Fld.PAIR_STAT_HB_OK = 0 ∧ t.gfld Reg.PAIR_STAT Fld.PAIR_STAT_HB_LOST = 1 ∧
    t.gfld Reg.PAIR_PSTAT Fld.PAIR_PSTAT_PVALID = 0 ∧ ∀ ch f, t.cs ch f = s.cs ch f := by
  unfold State.heartbeatLost
  extract_lets u v t
  have hcounted : ∀ {o : Nat} f, o ≠ Reg.PAIR_CNT0 → o ≠ Reg.REC_CNT → o ≠ Reg.INT_STAT →
      t.gfld o f = (u.gset Reg.PAIR_PSTAT Fld.PAIR_PSTAT_PVALID 0).gfld o f := fun f h hcnt hint =>
    ((State.reports_record ..).gfld _ f hcnt hint).trans (((State.reports_irq _ 3).gfld _ f hcnt hint).trans
      (State.countG_gfld _ _ _ _ f h hcnt hint))
  have hstat : ∀ f, t.gfld Reg.PAIR_STAT f = u.gfld Reg.PAIR_STAT f := fun f =>
    (hcounted f (by decide) (by decide) (by decide)).trans (State.gfld_gset_ne _ _ (.inl (by decide)))
  refine ⟨(hstat _).trans ?_, (hstat _).trans (State.gfld_gset _ _ _ 1 (by decide)),
    (hcounted _ (by decide) (by decide) (by decide)).trans (State.gfld_gset _ _ _ 0 (by decide)), fun ch f => ?_⟩
  · exact (State.gfld_gset_ne _ _ (.inr (by decide))).trans (State.gfld_gset s _ _ 0 (by decide))
  · have hne : ∀ {o : Nat}, o < 0x4100 → Reg.PAIR_CHSTAT ch ≠ o := Reg.PAIR_CHSTAT_ne_of_lt ch
    refine (hcounted f (hne (by decide)) (hne (by decide)) (hne (by decide))).trans ?_
    exact (State.gfld_gset_ne _ _ (.inl (hne (by decide)))).trans
      ((State.gfld_gset_ne _ _ (.inl (hne (by decide)))).trans (State.gfld_gset_ne s _ (.inl (hne (by decide)))))

/-- The absence of heartbeats: HB_OK and PVALID clear, HB_LOST sets, and each channel that the partner holds shows it (R316,
R333). -/
theorem exec_heartbeatTimeout {s : State} (hok : s.gbit Reg.PAIR_STAT Fld.PAIR_STAT_HB_OK = true) :
    ∃ t, exec .heartbeatTimeout s = .next t ∧
      t.gbit Reg.PAIR_STAT Fld.PAIR_STAT_HB_OK = false ∧ t.gbit Reg.PAIR_STAT Fld.PAIR_STAT_HB_LOST = true ∧
      t.gbit Reg.PAIR_PSTAT Fld.PAIR_PSTAT_PVALID = false ∧
      ∀ j : ChId, s.cs j Fld.PAIR_CHSTAT_LEASH = 2 → t.cs j Fld.PAIR_CHSTAT_PLH = 1 := by
  have hexec : exec .heartbeatTimeout s = .next ((List.finRange 12).foldl State.markPlh s.heartbeatLost) :=
    if_neg (by rw [hok]; decide)
  obtain ⟨hlive, hlost, hvalid, hcs⟩ := s.heartbeatLost_shows
  generalize s.heartbeatLost = u at hexec hlive hlost hvalid hcs
  obtain ⟨-, -, hreg⟩ : u.PairMarks ((List.finRange 12).foldl State.markPlh u) :=
    foldl_rel State.PairMarks State.PairMarks.refl (fun _ _ _ => State.PairMarks.trans) _ State.pairMarks_markPlh _ _
  have hstat := hreg Reg.PAIR_STAT (Reg.ne_PAIR_CHSTAT (by decide)) (by decide) (by decide)
  have hpstat := hreg Reg.PAIR_PSTAT (Reg.ne_PAIR_CHSTAT (by decide)) (by decide) (by decide)
  refine ⟨_, hexec, ?_, ?_, ?_, fun j hj => ?_⟩
  · rw [State.gbit, hstat, hlive]
    rfl
  · rw [State.gbit, hstat, hlost]
    rfl
  · rw [State.gbit, hpstat, hvalid]
    rfl
  · have hmark := foldl_finRange_channel
      (view := fun s j => (s.cs j Fld.PAIR_CHSTAT_LEASH, s.cs j Fld.PAIR_CHSTAT_PLH))
      (g := fun _ v => if v.1 = 2 then (2, 1) else v) State.markPlh_own
      (fun s i j h => Prod.ext (s.markPlh_other i j h _) (s.markPlh_other i j h _)) u j
    rw [if_pos ((hcs j _).trans hj)] at hmark
    exact congrArg Prod.snd hmark

/-! ## A state frame received (R310) -/

/-- A frame's tick follows the last valid one's by 1 to 4, or there is no last one (R310). -/
def PairCh.inOrder (p : PairCh) (tick : BitVec 16) : Prop :=
  ∀ u, p.lastTick = some u → 1 ≤ (tick - u).toNat ∧ (tick - u).toNat ≤ 4

/-- The pair state of a channel that keeps a frame, with its place among the own ticks (R310, R311). -/
def PairCh.keepFrame (p : PairCh) (f : List Word) (place : Nat × Int) : PairCh :=
  { p with frame := some f, lastTick := some ((f.getD 0 0).extractLsb' 0 16), mode := some ((f.getD 1 0).extractLsb' 0 4),
           framesIn := true, fresh := true, back := place.1, err := place.2 }

/-- A frame of its length, with its CRC and type, is kept where the partner holds the channel and the frame is in order, and
else counted (R310). -/
theorem exec_mirrorFrameReceive {s : State} {ch : ChId} {f : List Word} (since : Nat) (hlen : f.length = 32)
    (hcrc : f.getD 31 0 = crc32c (bytesOf (f.take 31))) (hch : ((f.getD 0 0).extractLsb' 22 4).toNat = ch.val)
    (htype : (f.getD 0 0).extractLsb' 26 4 = 1) :
    (s.cs ch Fld.PAIR_CHSTAT_LEASH = 2 → (s.chan ch).pair.inOrder ((f.getD 0 0).extractLsb' 0 16) →
      exec (.mirrorFrameReceive f since) s = .next (s.onPair ch fun p => p.keepFrame f
        ((s.chan ch).framePhase (s.gfld Reg.PAIR_LINK Fld.PAIR_LINK_DELAY) f since))) ∧
    (s.cs ch Fld.PAIR_CHSTAT_LEASH ≠ 2 ∨ ¬ (s.chan ch).pair.inOrder ((f.getD 0 0).extractLsb' 0 16) →
      exec (.mirrorFrameReceive f since) s = .next (s.countG (Reg.HND_CNT ch) true false)) := by
  have hexec : exec (.mirrorFrameReceive f since) s = execMirrorFrameReceive f since s := rfl
  have hn : ((f.getD 0 0).extractLsb' 22 4).toNat < 12 := hch ▸ ch.isLt
  obtain rfl : ch = ⟨_, hn⟩ := Fin.ext hch.symm
  rw [hexec]
  unfold execMirrorFrameReceive
  extract_lets w0 n tick
  rw [dif_pos hn]
  extract_lets ch c inOrder place
  have horder : inOrder = true ↔ c.pair.inOrder tick := by
    unfold inOrder PairCh.inOrder
    cases c.pair.lastTick <;> simp
  rw [decide_eq_true hlen, decide_eq_true hcrc, decide_eq_true htype]
  refine ⟨fun hleash hin => if_pos ?_, fun h => if_neg fun k => ?_⟩
  · rw [decide_eq_true (hleash : s.cs ch Fld.PAIR_CHSTAT_LEASH = 2), horder.2 hin]
    rfl
  · obtain ⟨hleash, hin⟩ := Bool.and_eq_true_iff.1 k
    exact h.elim (absurd (of_decide_eq_true hleash)) (absurd (horder.1 hin))

/-- Settles O36: a packet with its CRC passes its test (`withCrc_passes`), a heartbeat is heard (`State.heartbeatHeard`) or missed
(`exec_heartbeatTimeout`), and a frame is kept or counted (`exec_mirrorFrameReceive`). -/
theorem pairMessages : Obligations.PairMessages := by
  unfold Obligations.PairMessages
  intro s ch txOfs ws since
  refine ⟨fun hpair hlink => ⟨exec_heartbeatSend hpair hlink, exec_mirrorFrameSend txOfs hpair hlink⟩, fun hlen htype => ?_,
    exec_heartbeatTimeout, fun hlost => ?_, fun hlen hch htype => ?_⟩
  · obtain ⟨hlong, hcrc⟩ := withCrc_passes hlen
    have h0 : (withCrc ws).getD 0 0 = ws.getD 0 0 := withCrc_getD_of_lt ws (by omega)
    have h2 : (withCrc ws).getD 2 0 = ws.getD 2 0 := withCrc_getD_of_lt ws (by omega)
    obtain ⟨t, hexec, hlink, hchan, hreg⟩ := exec_heartbeatReceive (s := s) hlong hcrc (by rw [h0]; exact htype)
    obtain ⟨hheard, hkept⟩ := s.heartbeatHeard_frame (withCrc ws)
    obtain ⟨hok, hvalid, hhold, harmed, -, -⟩ := State.partnerStatus_shows _ ((withCrc ws).getD 0 0) ((withCrc ws).getD 2 0)
    have hstat := hreg Reg.PAIR_STAT (Reg.ne_PAIR_CHSTAT (by decide)) (by decide) (by decide)
    have hpstat := hreg Reg.PAIR_PSTAT (Reg.ne_PAIR_CHSTAT (by decide)) (by decide) (by decide)
    refine ⟨t, hexec, (congrArg Link.heard hlink).trans hheard, ?_, ?_, ?_, ?_, fun ch => (hchan ch).trans (hkept ch)⟩
    · exact congrArg (· != 0) ((hstat _).trans hok)
    · exact congrArg (· != 0) ((hpstat _).trans hvalid)
    · rw [← h2]
      exact (hpstat _).trans hhold
    · rw [← h2]
      exact (hpstat _).trans harmed
  · exact if_pos (by rw [hlost]; rfl)
  · obtain ⟨hlong, hcrc⟩ := withCrc_passes hlen
    have h0 : (withCrc ws).getD 0 0 = ws.getD 0 0 := withCrc_getD_of_lt ws (by omega)
    have h1 : (withCrc ws).getD 1 0 = ws.getD 1 0 := withCrc_getD_of_lt ws (by omega)
    rw [← h0] at hch htype
    rw [← h0, ← h1]
    exact exec_mirrorFrameReceive since hlong hcrc hch htype

end Sys2Proof.Machine
end

section
/-! SUPPORT. Every step keeps the invariant (O59): one lemma for each operation of the model, named after it, in the order of
the definitions; each says that the operation keeps `State.Inv`, and its proof term follows the operation's own branches. Here
the branches and loops, and the fields that the invariant does not speak of. -/

namespace Sys2Proof.Machine

variable {s : State}

/-- An accepted write's state meets the invariant. -/
def OptInv (o : Option State) : Prop := ∀ t, o = some t → t.Inv
/-- As `OptInv`, for a write that may be rejected by a cause. -/
def SumInv (r : Nat ⊕ State) : Prop := ∀ t, r = .inr t → t.Inv
/-- The state that a command's completion leaves meets the invariant. -/
def ResultInv (r : Result) : Prop := ∀ t, r = .next t → t.Inv

theorem State.Inv.ite {p : Prop} [Decidable p] {a b : State} (ha : a.Inv) (hb : b.Inv) : (if p then a else b).Inv := by
  split
  · exact ha
  · exact hb

theorem State.Inv.when {p : Prop} [Decidable p] {a b : State} (hb : b.Inv) (ha : b.Inv → a.Inv) :
    (if p then a else b).Inv :=
  .ite (ha hb) hb

theorem State.Inv.unless {p : Prop} [Decidable p] {a b : State} (ha : a.Inv) (hb : a.Inv → b.Inv) :
    (if p then a else b).Inv :=
  .ite ha (hb ha)

theorem State.Inv.iteFst {α : Type} {p : Prop} [Decidable p] {a b : State × α} (ha : a.1.Inv) (hb : b.1.Inv) :
    (if p then a else b).1.Inv := by
  split
  · exact ha
  · exact hb

theorem State.Inv.whenFst {α : Type} {p : Prop} [Decidable p] {a b : State × α} (hb : b.1.Inv)
    (ha : b.1.Inv → a.1.Inv) : (if p then a else b).1.Inv := .iteFst (ha hb) hb

theorem State.Inv.unlessFst {α : Type} {p : Prop} [Decidable p] {a b : State × α} (ha : a.1.Inv)
    (hb : a.1.Inv → b.1.Inv) : (if p then a else b).1.Inv := .iteFst ha (hb ha)

theorem State.Inv.iteAns {p : Prop} [Decidable p] {a b : Answer} (ha : a.state.Inv) (hb : b.state.Inv) :
    (if p then a else b).state.Inv := by
  split
  · exact ha
  · exact hb

theorem State.Inv.foldl {β : Type} {l : List β} {f : State → β → State} (h : s.Inv)
    (hf : ∀ t b, t.Inv → (f t b).Inv) : (l.foldl f s).Inv := by
  induction l generalizing s with
  | nil => exact h
  | cons b l ih => exact ih (hf s b h)

theorem State.Inv.foldlFst {α β : Type} {l : List β} {r : State × α} {f : State × α → β → State × α}
    (h : r.1.Inv) (hf : ∀ q b, q.1.Inv → (f q b).1.Inv) : (l.foldl f r).1.Inv := by
  induction l generalizing r with
  | nil => exact h
  | cons b l ih => exact ih (hf r b h)

theorem OptInv.some {t : State} (h : t.Inv) : OptInv (.some t) := by rintro _ ⟨⟩; exact h
theorem OptInv.none : OptInv .none := by rintro _ ⟨⟩
theorem OptInv.ite {p : Prop} [Decidable p] {a b : Option State} (ha : OptInv a) (hb : OptInv b) :
    OptInv (if p then a else b) := by
  split
  · exact ha
  · exact hb
theorem SumInv.inr {t : State} (h : t.Inv) : SumInv (.inr t) := by rintro _ ⟨⟩; exact h
theorem SumInv.inl {n : Nat} : SumInv (.inl n) := by rintro _ ⟨⟩
theorem SumInv.ite {p : Prop} [Decidable p] {a b : Nat ⊕ State} (ha : SumInv a) (hb : SumInv b) :
    SumInv (if p then a else b) := by
  split
  · exact ha
  · exact hb
theorem ResultInv.next {t : State} (h : t.Inv) : ResultInv (.next t) := by rintro _ ⟨⟩; exact h
theorem ResultInv.fault {f : Fault} : ResultInv (.fault f) := by rintro _ ⟨⟩
theorem ResultInv.ite {p : Prop} [Decidable p] {a b : Result} (ha : ResultInv a) (hb : ResultInv b) :
    ResultInv (if p then a else b) := by
  split
  · exact ha
  · exact hb

theorem State.Inv.of {t : State} (h : s.Inv) (hbank : t.knl.bank = s.knl.bank) (hqueue : t.dma.queue = s.dma.queue)
    (hsram : t.sram = s.sram) : t.Inv := by
  unfold State.Inv
  rw [hbank, hqueue, hsram]
  exact h

theorem State.Inv.withPending {x : List Instr} (h : s.Inv) : ({ s with pending := x } : State).Inv := h
theorem State.Inv.withFree {x : Nat} (h : s.Inv) : ({ s with free := x } : State).Inv := h
theorem State.Inv.withTime {x : Time} (h : s.Inv) : ({ s with time := x } : State).Inv := h
theorem State.Inv.withG {x : List (Nat × Word)} (h : s.Inv) : ({ s with g := x } : State).Inv := h
theorem State.Inv.withCh {x : Vector Chan 12} (h : s.Inv) : ({ s with ch := x } : State).Inv := h
theorem State.Inv.withHost {x : HostPort} (h : s.Inv) : ({ s with host := x } : State).Inv := h
theorem State.Inv.withGrp {x : Group} (h : s.Inv) : ({ s with grp := x } : State).Inv := h
theorem State.Inv.withMir {x : Mirror} (h : s.Inv) : ({ s with mir := x } : State).Inv := h
theorem State.Inv.withClk {x : RefWindows} (h : s.Inv) : ({ s with clk := x } : State).Inv := h
theorem State.Inv.withLink {x : Link} (h : s.Inv) : ({ s with link := x } : State).Inv := h
theorem State.Inv.withSaf {x : Saf} (h : s.Inv) : ({ s with saf := x } : State).Inv := h
theorem State.Inv.withRcd {x : Recorder} (h : s.Inv) : ({ s with rcd := x } : State).Inv := h
theorem State.Inv.withCal {x : Calendar} (h : s.Inv) : ({ s with cal := x } : State).Inv := h
theorem State.Inv.withDie {x : Die} (h : s.Inv) : ({ s with die := x } : State).Inv := h
theorem State.Inv.withLdr {x : Loader} (h : s.Inv) : ({ s with ldr := x } : State).Inv := h
theorem State.Inv.withStore {x : Store} (h : s.Inv) : ({ s with store := x } : State).Inv := h
theorem State.Inv.withPins {x : Pins} (h : s.Inv) : ({ s with pins := x } : State).Inv := h

theorem State.Inv.withKnl {x : Kennel} (h : s.Inv) (hbank : x.bank = s.knl.bank) : ({ s with knl := x } : State).Inv :=
  .of h hbank rfl rfl

theorem State.Inv.withDma {x : Dma} (h : s.Inv) (hqueue : x.queue = s.dma.queue) : ({ s with dma := x } : State).Inv :=
  .of h rfl hqueue rfl

end Sys2Proof.Machine
end

section
/-! SUPPORT. Every step keeps the invariant (O59): the shared operations and the capture. -/

namespace Sys2Proof.Machine

variable {s : State}

/-! ## Machine/Ops.lean -/

theorem State.Inv.putChan {ch : ChId} {c : Chan} (h : s.Inv) : (s.putChan ch c).Inv := .withCh h

theorem State.Inv.onChan {ch : ChId} {f : Chan → Chan} (h : s.Inv) : (s.onChan ch f).Inv := .putChan h

theorem State.Inv.gput {off : Nat} {v : Word} (h : s.Inv) : (s.gput off v).Inv := .withG h

theorem State.Inv.gset {off : Nat} {f : BitField} {n : Nat} (h : s.Inv) : (s.gset off f n).Inv := .gput h

theorem State.Inv.plainWriteG {off : Nat} {v : Word} (h : s.Inv) : (s.plainWriteG off v).Inv := by
  unfold State.plainWriteG
  split
  · exact .ite (.gput h) (.gput h)
  · exact h

theorem State.Inv.message {v : Nat} (h : s.Inv) : (s.message v).Inv := .ite h (.ite (.withHost h) (.withHost h))

theorem State.Inv.irq {v : Nat} (h : s.Inv) : (s.irq v).Inv := by
  simpa [State.Inv] using h

theorem State.Inv.requestRecord {r : RecRec} {reserved : Bool} (h : s.Inv) : (s.requestRecord r reserved).Inv := by
  simpa [State.Inv] using h

theorem State.Inv.record {blk ch code sev : Nat} {d : RecData} (h : s.Inv) : (s.record blk ch code sev d).Inv :=
  .requestRecord h

theorem State.Inv.recordReserved {blk ch code sev : Nat} {d : RecData} (h : s.Inv) :
    (s.recordReserved blk ch code sev d).Inv := .requestRecord h

theorem State.Inv.rejectRecord {blk ch off : Nat} {v : Word} {src cause : Nat} (h : s.Inv) :
    (s.rejectRecord blk ch off v src cause).Inv :=
  .record h

theorem State.Inv.countCh {ch : ChId} {reg : Nat} {hi event : Bool} (h : s.Inv) : (s.countCh ch reg hi event).Inv :=
  .when (.onChan h) .requestRecord

theorem State.Inv.countG {reg : Nat} {hi event : Bool} (h : s.Inv) : (s.countG reg hi event).Inv :=
  .when (.gput h) .requestRecord

theorem State.Inv.countGBy {n reg : Nat} {hi event : Bool} (h : s.Inv) : (s.countGBy n reg hi event).Inv :=
  .when (.gput h) .requestRecord

theorem State.Inv.countOvwr {ch : ChId} (h : s.Inv) : (s.countOvwr ch).Inv := .ite h (.when (.onChan h) .requestRecord)

theorem State.Inv.raiseSafe {ch : ChId} {b : Nat} (h : s.Inv) : (s.raiseSafe ch b).Inv :=
  .when (.putChan h) fun h' => .irq (.record h')

theorem State.Inv.latchSafe {ch : ChId} {b : Nat} (h : s.Inv) : (s.latchSafe ch b).Inv :=
  .ite h (.irq (.record (.putChan h)))

theorem State.Inv.setLive {ch : ChId} {b : Nat} {on : Bool} (h : s.Inv) : (s.setLive ch b on).Inv :=
  .ite (.ite h (.raiseSafe h)) (.onChan h)

theorem State.Inv.onPair {ch : ChId} {f : PairCh → PairCh} (h : s.Inv) : (s.onPair ch f).Inv := .onChan h

theorem State.Inv.setCs {ch : ChId} {f : BitField} {n : Nat} (h : s.Inv) : (s.setCs ch f n).Inv := .gset h

theorem State.Inv.groupOutcome {ch : ChId} {n : Nat} (h : s.Inv) : (s.groupOutcome ch n).Inv := .gset h

theorem State.Inv.groupDiscard {ch : ChId} (h : s.Inv) : (s.groupDiscard ch).Inv := .ite (.groupOutcome (.withGrp h)) h

/-- An entry of the last-word bank: the bank keeps the newest 32 (R386). -/
theorem State.Inv.lastWord {src : Nat} {code : Byte} {data : Word} (h : s.Inv) : (s.lastWord src code data).Inv :=
  ⟨List.length_take_le _ _, h.2⟩

theorem State.Inv.slotRefresh (h : s.Inv) : s.slotRefresh.Inv := .gset (.withKnl h rfl)

/-! ## Machine/Capture.lean -/

theorem State.Inv.sramSet {a : Nat} {w : Word} (h : s.Inv) : (s.sramSet a w).Inv :=
  ⟨h.1, h.2.1, State.sramSet_swf s a w h.2.2⟩

theorem State.Inv.sramPut {a : Nat} {ws : List Word} (h : s.Inv) : (s.sramPut a ws).Inv :=
  ⟨h.1, h.2.1, State.sramPut_swf s a ws h.2.2⟩

theorem State.Inv.onCap {ch : ChId} {k : SetId} {f : CapSet → CapSet} (h : s.Inv) : (s.onCap ch k f).Inv := .onChan h

theorem State.Inv.capStart {ch : ChId} {k : SetId} (h : s.Inv) : (s.capStart ch k).Inv := by
  unfold State.capStart; dsimp only
  split
  · exact .putChan h
  · split
    · exact .countCh (.putChan h)
    · exact .putChan h

theorem State.Inv.capStore {ch : ChId} {k : SetId} {row : List Word} (h : s.Inv) : (s.capStore ch k row).Inv :=
  .onCap (.sramPut h)

theorem State.Inv.capClose {ch : ChId} {k : SetId} {trunc : Bool} (h : s.Inv) : (s.capClose ch k trunc).Inv := by
  unfold State.capClose; dsimp only
  split
  · exact .putChan h
  · exact .putChan (.sramPut h)

theorem State.Inv.capTrigger {ch : ChId} {k : SetId} {m : CapSample} {mask q : Nat} {trunc : Bool} (h : s.Inv) :
    (s.capTrigger ch k m mask q trunc).Inv :=
  .when (.onChan (.capStore (.onCap h))) .capClose

theorem State.Inv.capMissed {ch : ChId} {k : SetId} {mask : Nat} (h : s.Inv) : (s.capMissed ch k mask).Inv :=
  .foldl h fun _ _ h => .ite h (.when (.countCh h) .record)

theorem State.Inv.capPre {ch : ChId} {k : SetId} (h : s.Inv) : (s.capPre ch k).Inv :=
  .onChan (.ite (.onCap (.capStore h)) (.onCap h))

theorem State.Inv.capPost {ch : ChId} {k : SetId} (h : s.Inv) : (s.capPost ch k).Inv :=
  .ite (.onCap h) (.when (.onCap (.capStore h)) .capClose)

theorem ResultInv.captureBaseSample {ch : ChId} {k : Fin 4} (h : s.Inv) : ResultInv (execCaptureBaseSample ch k s) :=
  .ite
    (.next h)
    (.next
      (.onCap
        (by
          split
          · exact .ite (.capPre (.onCap h)) (.capTrigger (.onCap h))
          · exact .ite (.capPre (.onCap h)) (.capTrigger (.onCap h))
          · exact .capPost (.capMissed (.onCap h))
          · exact .onCap (.capMissed (.onCap h))
          · exact .unless (.capMissed (.onCap h)) .capStart
          · exact .onCap h)))

theorem State.Inv.capFault {ch : ChId} (h : s.Inv) : (s.capFault ch).Inv :=
  .foldl
    h
    fun _ _ h => .ite
      (.capClose h)
      (by
        split
        · exact .ite (.capTrigger (.onCap h)) h
        · exact h)

theorem State.Inv.capRestart {ch : ChId} (h : s.Inv) : (s.capRestart ch).Inv :=
  .foldl h fun _ _ h => .unless (.onCap h) fun h' => .ite (.putChan h') (.capStart h')

theorem State.Inv.capDisarmSet {ch : ChId} {k : SetId} (h : s.Inv) : (s.capDisarmSet ch k).Inv :=
  .onChan (.ite (.capClose h) h)

theorem State.Inv.capStop {ch : ChId} (h : s.Inv) : (s.capStop ch).Inv := .foldl h fun _ _ h => .capDisarmSet h

theorem State.Inv.capClearHist {ch : ChId} {k : SetId} (h : s.Inv) : (s.capClearHist ch k).Inv :=
  ⟨h.1, h.2.1, State.capClearHist_swf s ch k h.2.2⟩

theorem State.Inv.capFree {ch : ChId} (h : s.Inv) :
    (s.capFree ch).Inv := .foldl h fun _ _ h => .onChan (.capClearHist h)

theorem State.Inv.binAdd {a : Nat} (h : s.Inv) : (s.binAdd a).1.Inv := .iteFst h (.sramSet h)

theorem State.Inv.cellAdd {base cell : Nat} (h : s.Inv) : (s.cellAdd base cell).1.Inv := .iteFst h (.sramSet h)

theorem State.Inv.binRow {c : Chan} {k : SetId} {a i len : Nat} (h : s.Inv) : (s.binRow c k a i len).1.Inv :=
  .iteFst (.foldlFst h fun _ _ h => .iteFst (.binAdd h) h) (.iteFst (.cellAdd h) h)

theorem ResultInv.postprocDone {ch : ChId} {k : Fin 4} (h : s.Inv) : ResultInv (execPostprocDone ch k s) := by
  unfold execPostprocDone; dsimp only
  split
  · exact .next h
  · exact .ite (.next h) (.next (.onChan (.foldlFst h fun _ _ h => .binRow h)))

theorem State.Inv.capCtl {ch : ChId} {k : SetId} {v : Word} (h : s.Inv) : (s.capCtl ch k v).Inv :=
  .when (.when (.when (.when (.ite (.capStart h) h) .capDisarmSet) .onCap) .capClearHist) .onChan

theorem State.Inv.capGlobalForce {v : Word} (h : s.Inv) : (s.capGlobalForce v).Inv :=
  .foldl h fun _ _ h => .ite h (.foldl h fun _ _ h => .ite (.onCap h) h)

theorem State.Inv.dmaShow (h : s.Inv) : s.dmaShow.Inv := .gset (.gset h)

/-- The next descriptor leaves the queue (R411). -/
theorem State.Inv.dmaNext (h : s.Inv) : s.dmaNext.Inv := by
  unfold State.dmaNext
  split
  · next hq => exact ⟨h.1, by have := h.2.1; rw [hq] at this; exact Nat.le_of_succ_le this, h.2.2⟩
  · exact h

/-- A descriptor joins the queue where fewer than 16 wait (R411, R413). -/
theorem State.Inv.dmaGo {k : Ctx} {v : Word} (h : s.Inv) : (s.dmaGo k v).1.Inv := by
  unfold State.dmaGo
  split
  · exact h
  · split
    · exact h
    · next hfull => exact .dmaNext ⟨h.1, by simp; omega, h.2.2⟩

theorem State.Inv.dmaEnd {err : DmaEnd} (h : s.Inv) : (s.dmaEnd err).Inv := by
  unfold State.dmaEnd
  split
  · exact h
  · exact .dmaNext
      (.irq
        (.withDma
          (by
            split
            · exact .onChan
                (.when
                  (.unless (.gset (.gset h)) .gset)
                  fun h1 => .withDma
                    h1
                    rfl)
            · exact .when (.unless (.gset (.gset h)) .gset) fun h2 => .withDma h2 rfl)
          rfl))

end Sys2Proof.Machine
end

section
/-! SUPPORT. Every step keeps the invariant (O59): pads, entries and legs. -/

namespace Sys2Proof.Machine

variable {s : State}

/-! ## Machine/Pads.lean -/

theorem State.Inv.showBrake {ch : ChId} (h : s.Inv) : (s.showBrake ch).Inv := .onChan h

theorem State.Inv.brakeFollow {ch : ChId} (h : s.Inv) : (s.brakeFollow ch).Inv :=
  .unless
    (.showBrake h)
    fun h' => .ite (.showBrake (.ite (.putChan h) h)) (.ite h' (.unless (.showBrake (.putChan h)) .countCh))

theorem State.Inv.innerFollow {ch : ChId} (h : s.Inv) : (s.innerFollow ch).Inv := .ite h (.onChan h)

theorem State.Inv.gatesFollow {ch : ChId} (h : s.Inv) : (s.gatesFollow ch).Inv :=
  .brakeFollow (.ite h (.ite (.onChan h) (.ite (.onChan h) h)))

/-! ## Machine/Enter.lean -/

theorem State.Inv.contactors {ch : ChId} (h : s.Inv) : (s.contactors ch).Inv := .putChan h

theorem State.Inv.restartSettle {ch : ChId} (h : s.Inv) : (s.restartSettle ch).Inv := .contactors (.onChan h)

theorem State.Inv.pairLeaveShadow {ch : ChId} (h : s.Inv) : (s.pairLeaveShadow ch).Inv :=
  .onChan (.gput (.setCs (.setCs (.onPair h))))

theorem State.Inv.chinhFollow {ch : ChId} (h : s.Inv) : (s.chinhFollow ch).Inv := .gatesFollow (.gset h)

theorem State.Inv.enterMode {ch : ChId} {m tc : Nat} (h : s.Inv) : (s.enterMode ch m tc).Inv :=
  .contactors
    (.chinhFollow
      (.when (.record (.unless (.when (.putChan h) .groupDiscard) fun h' => .irq (.countCh h'))) .pairLeaveShadow))

theorem State.Inv.repairEnds {ch : ChId} {err : Nat} (h : s.Inv) : (s.repairEnds ch err).Inv :=
  .capFree (.irq (.record (.withLdr (.gput h))))

theorem State.Inv.bootSettled (h : s.Inv) : s.bootSettled.Inv := .ite (.irq (.withLdr h)) h

theorem State.Inv.faultHalt {ch : ChId} (h : s.Inv) : (s.faultHalt ch).Inv :=
  .capFault (.unless (.gset (.onChan (.unless (.when (.onChan (.groupDiscard h)) .repairEnds) .enterMode))) .irq)

theorem State.Inv.releaseGivenUp {ch : ChId} {cause : Nat} (h : s.Inv) : (s.releaseGivenUp ch cause).Inv :=
  .unless (.record (.irq (.countG (.setCs (.setCs (.gatesFollow (.onPair (.groupDiscard h)))))))) .lastWord

theorem State.Inv.giveUp {ch : ChId} {cause : Nat} (h : s.Inv) : (s.giveUp ch cause).Inv :=
  .ite (.faultHalt (.releaseGivenUp h)) (.unless (.releaseGivenUp h) .enterMode)

theorem State.Inv.hardFault {ch : ChId} {cause : Nat} (h : s.Inv) : (s.hardFault ch cause).Inv :=
  .faultHalt (.ite (.releaseGivenUp h) h)

/-! ## Machine/Pwm.lean -/

theorem State.Inv.recordInterlocks {ch : ChId} {l : List (Nat × Nat × Nat × Nat)} (h : s.Inv) :
    (s.recordInterlocks ch l).Inv := by
  induction l generalizing s with
  | nil => exact h
  | cons i l ih => exact ih (.ite (.record (.countCh h)) (.countCh h))

theorem State.Inv.tripProt {ch : ChId} (h : s.Inv) : (s.tripProt ch).Inv := .raiseSafe h

theorem State.Inv.desat {ch : ChId} {pad : Fin 12} (h : s.Inv) :
    (s.desat ch pad).Inv := .tripProt (.countCh (.putChan h))

theorem State.Inv.comparatorTrip {ch : ChId} {cls : Nat} (h : s.Inv) : (s.comparatorTrip ch cls).Inv :=
  .when (.tripProt (.putChan h)) .record

theorem State.Inv.comparatorActs {ch : ChId} {i : InId} (h : s.Inv) : (s.comparatorActs ch i).Inv :=
  .ite h (.ite (.brakeFollow h) (.ite (.comparatorTrip h) h))

theorem State.Inv.uvrep {ch : ChId} {case_ : Nat} (h : s.Inv) :
    (s.uvrep ch case_).Inv := .record (.tripProt (.putChan h))

theorem State.Inv.uvJudge {ch : ChId} (h : s.Inv) : (s.uvJudge ch).Inv := .ite (.uvrep h) h

theorem State.Inv.uvReport {ch : ChId} {pad : Fin 12} (h : s.Inv) : (s.uvReport ch pad).Inv :=
  .uvJudge (.countCh (.putChan h))

theorem ResultInv.driverFaultFiltered {ch : ChId} {pad : Fin 12} {asserted : Bool} (h : s.Inv) :
    ResultInv (execDriverFaultFiltered ch pad asserted s) :=
  .ite
    (.next h)
    (.ite
      (.next (.putChan h))
      (.ite
        (.next (.unless (.putChan h) .uvReport))
        (.ite (.next (.putChan (.putChan h))) (.next (.desat (.putChan h))))))

theorem ResultInv.tordExpiry {ch : ChId} {leg : Option (Fin 3)} (h : s.Inv) : ResultInv (execTordExpiry ch leg s) := by
  unfold execTordExpiry; dsimp only
  split
  · exact .next (.putChan h)
  · exact .next (.putChan h)

theorem ResultInv.desatWindowClose {ch : ChId} (h : s.Inv) : ResultInv (execDesatWindowClose ch s) := by
  unfold execDesatWindowClose; dsimp only
  split
  · exact .next (.record (.putChan h))
  · exact .next h

end Sys2Proof.Machine
end

section
/-! SUPPORT. Every step keeps the invariant (O59): sample chains, clocks, violations and engines. -/

namespace Sys2Proof.Machine

variable {s : State}

/-! ## Machine/SampleChain.lean -/

theorem ResultInv.chainOutput {ch : ChId} {i : InId} {age : BitVec 16} (h : s.Inv) :
    ResultInv (execChainOutput ch i age s) := by
  unfold execChainOutput; dsimp only
  split
  · exact .next h
  · exact .ite (.next h) (.next (.putChan h))

theorem State.Inv.fastHit {ch : ChId} {i : InId} {hi : Bool} (h : s.Inv) : (s.fastHit ch i hi).Inv :=
  .comparatorActs (.countCh (.onChan h))

theorem State.Inv.fastForce {ch : ChId} {i : InId} {on : Bool} (h : s.Inv) : (s.fastForce ch i on).Inv :=
  .ite h (.comparatorActs (.putChan h))

theorem State.Inv.fastJudge {ch : ChId} {i : InId} {y : ℤ} (h : s.Inv) : (s.fastJudge ch i y).Inv :=
  .ite (.when (.putChan h) .fastForce) (.when (.putChan h) .fastHit)

theorem State.Inv.fastBit {ch : ChId} {i : InId} {b : Bool} (h : s.Inv) : (s.fastBit ch i b).Inv :=
  .when (.putChan h) .fastJudge

theorem State.Inv.fastBits {ch : ChId} {i : InId} {l : List Bool} (h : s.Inv) : (s.fastBits ch i l).Inv := by
  induction l generalizing s with
  | nil => exact h
  | cons b l ih => exact ih (.fastBit h)

theorem State.Inv.fastHold {ch : ChId} {i : InId} {hold : FastHold} (h : s.Inv) : (s.fastHold ch i hold).Inv :=
  .when (.putChan h) .fastForce

theorem State.Inv.holdFastPaths {ch : ChId} (h : s.Inv) : (s.holdFastPaths ch).Inv :=
  .foldl h fun _ _ h => .ite (.fastHold h) h

theorem State.Inv.mclkLost {ch : ChId} {i : InId} (h : s.Inv) : (s.mclkLost ch i).Inv :=
  .ite h (.record (.countCh (.fastHold (.putChan h))))

theorem State.Inv.mclkBack {ch : ChId} {i : InId} (h : s.Inv) : (s.mclkBack ch i).Inv :=
  .ite
    h
    (by
      split
      · exact .record (.ite (.fastHold (.putChan h)) (.onChan (.putChan h)))
      · exact .ite (.fastHold (.putChan h)) (.onChan (.putChan h)))

theorem State.Inv.dropFade {ch : ChId} {i : InId} (h : s.Inv) : (s.dropFade ch i).Inv := by
  unfold State.dropFade; dsimp only
  split
  · exact .onChan h
  · exact .record (.putChan h)

theorem State.Inv.chainStart {ch : ChId} {fresh : Bool} (h : s.Inv) : (s.chainStart ch fresh).Inv := by
  have hd : ((List.finRange 16).foldl (fun s i => s.dropFade ch i) s).Inv := .foldl h fun _ _ h => .dropFade h
  unfold State.chainStart
  generalize List.foldl _ _ (List.finRange 16) = t at hd ⊢
  exact .brakeFollow (.onChan (.onChan hd))

theorem State.Inv.chainRelock {ch : ChId} (h : s.Inv) : (s.chainRelock ch).Inv :=
  .foldl h fun _ _ h => .ite h (.unless (.putChan h) .fastHold)

theorem State.Inv.fastLanded {ch : ChId} {i : InId} {old : Word} (h : s.Inv) : (s.fastLanded ch i old).Inv :=
  .ite (.fastForce h) (.when (.ite (.putChan h) h) .fastForce)

theorem State.Inv.chainLanded {ch : ChId} {i : InId} {off : Nat} {old : Word} (h : s.Inv) :
    (s.chainLanded ch i off old).Inv :=
  .ite
    (.ite h (.putChan h))
    (.ite (.putChan h) (.unless (.putChan h) fun h' => .ite (.ite h h') (.ite (.fastLanded h) h)))

/-! ## Machine/Clock.lean -/

theorem State.Inv.setRefAct {r : RefId} {on : Bool} (h : s.Inv) : (s.setRefAct r on).Inv :=
  .ite (.gset (.when (.gset (.gset h)) .gset)) (.unless (.when (.gset (.gset h)) .gset) .gset)

theorem State.Inv.setGoodWindows {r : RefId} {n : Nat} (h : s.Inv) : (s.setGoodWindows r n).Inv := by
  unfold State.setGoodWindows
  split
  · exact .withClk h
  · exact .withClk h

theorem ResultInv.refActivityWindow {ref : RefId} {kHz : Nat} (h : s.Inv) :
    ResultInv (execRefActivityWindow ref kHz s) :=
  .ite (.next (.when (.setGoodWindows h) .setRefAct)) (.next (.setRefAct (.setGoodWindows h)))

theorem ResultInv.rampSegmentEnd {ch : ChId} {since : Nat} (h : s.Inv) : ResultInv (execRampSegmentEnd ch since s) := by
  unfold execRampSegmentEnd
  split
  · exact .next h
  · exact .ite
      (.next h)
      (by
        split
        · exact .next (.putChan h)
        · exact .next (.putChan h))

theorem State.Inv.beginLock {ch : ChId} {kind : StartKind} (h : s.Inv) : (s.beginLock ch kind).Inv :=
  .holdFastPaths (.putChan h)

/-! ## Machine/Violation.lean -/

theorem State.Inv.onCtx {k : Ctx} {f : CtxPort → CtxPort} (h : s.Inv) : (s.onCtx k f).Inv := .withHost h

theorem State.Inv.violation {k : Ctx} {cause addr : Nat} {wr : Bool} (h : s.Inv) : (s.violation k cause addr wr).Inv :=
  .irq (.unless (.gset (.gset (.gset (.onCtx h)))) .record)

theorem State.Inv.clockLostStatus {k : Ctx} {ch : ChId} (h : s.Inv) : (s.clockLostStatus k ch).Inv := .onChan (.onCtx h)

theorem State.Inv.landingRejected {ch : ChId} {src : WriteSrc} {cause off : Nat} (h : s.Inv) :
    (s.landingRejected ch src cause off).Inv := by
  unfold State.landingRejected
  split
  · exact .violation h
  · exact .groupOutcome (.violation h)
  · exact .of h rfl rfl rfl

/-! ## Machine/Engine.lean -/

theorem State.Inv.putEng {x : Site} {e : Engine} (h : s.Inv) : (s.putEng x e).Inv := .onChan h

theorem State.Inv.onEng {x : Site} {f : Engine → Engine} (h : s.Inv) : (s.onEng x f).Inv := .putEng h

theorem State.Inv.runIf {x : Site} {cc : BitVec 4} {n : Nat} {f : State → State} (h : s.Inv) (hf : (f s).Inv) :
    (s.runIf x cc n f).Inv := .ite h (.ite hf h)

theorem ResultInv.instr {x : Site} {cc : BitVec 4} {n : Nat} {f : Engine → Engine} (h : s.Inv) :
    ResultInv (s.instr x cc n f) :=
  .next (.runIf h (.onEng h))

theorem State.Inv.setCsat {x : Site} {b : Bool} (h : s.Inv) : (s.setCsat x b).Inv := .ite (.onChan h) h

theorem ResultInv.instrC {x : Site} {cc : BitVec 4} {f : Engine → Engine × Bool} (h : s.Inv) :
    ResultInv (s.instrC x cc f) :=
  .next (.runIf h (.setCsat (.onEng h)))

theorem ResultInv.ret {x : Site} {cc : BitVec 4} (h : s.Inv) : ResultInv (execRet x cc s) :=
  .ite
    (.next h)
    (.ite
      (.next (.onEng h))
      (by
        split
        · exact .fault
        · exact .next (.putEng h)))

theorem State.Inv.overrun {ch : ChId} {cause : OvrCause} (h : s.Inv) : (s.overrun ch cause).Inv :=
  .record (.hardFault (.putChan h))

theorem OptInv.mailRead {x : Site} {d : VReg} {j : Fin 4} (h : s.Inv) : OptInv (s.mailRead x d j) := by
  unfold State.mailRead; dsimp only
  split
  · exact .some (.putEng h)
  · exact .ite (.some (.countCh (.putEng h))) .none

theorem ResultInv.in {x : Site} {cc : BitVec 4} {d : VReg} {m : BitVec 11} (h : s.Inv) :
    ResultInv (execIn x cc d m s) :=
  .ite
    (.next h)
    (.ite
      (.next (.onEng h))
      (.ite
        (by
          split
          · rename_i t e
            exact .next (.onEng (OptInv.mailRead h t e))
          · exact .next (.onEng h))
        (by
          split
          · exact .next (.onEng h)
          · exact .next (.onEng (.withFree h)))))

theorem ResultInv.mailboxWaitEnd {x : Site} (h : s.Inv) : ResultInv (execMailboxWaitEnd x s) := by
  unfold execMailboxWaitEnd
  split
  · split
    · rename_i t e
      exact .next (.onEng (OptInv.mailRead h t e))
    · exact .next h
  · exact .next h
  · exact .next h
  · exact .next h

theorem State.Inv.dropLawEvent {x : Site} (h : s.Inv) : (s.dropLawEvent x).Inv := .onChan h

theorem State.Inv.lawEvent {x : Site} {a b : Word} (h : s.Inv) : (s.lawEvent x a b).Inv :=
  .ite (.dropLawEvent (.onEng h)) (.record (.onEng h))

theorem State.Inv.dutyDone {ch : ChId} (h : s.Inv) : (s.dutyDone ch).Inv := .ite h (.ite (.overrun h) (.putChan h))

theorem State.Inv.portOut {x : Site} {m : Nat} {a b : Word} (h : s.Inv) : (s.portOut x m a b).Inv := by
  unfold State.portOut
  split
  · exact .ite (.onChan h) (.ite (.dutyDone h) (.ite (.onChan h) (.ite (.lawEvent h) (.ite (.onEng h) h))))
  · exact .ite (.onChan h) (.ite (.onChan h) (.ite (.lawEvent h) (.ite (.onEng h) h)))

theorem State.Inv.tickEnds {x : Site} (h : s.Inv) : (s.tickEnds x).Inv := .onChan (.withFree h)

theorem ResultInv.tend {x : Site} {cc : BitVec 4} (h : s.Inv) : ResultInv (execTend x cc s) :=
  .ite (.next h) (.ite (.next (.onEng h)) (.ite (.next (.overrun h)) (.next (.tickEnds h))))

theorem State.Inv.rejectCoef {ch : ChId} {eng : Eng} {idx cause : Nat} {v : Word} (h : s.Inv) :
    (s.rejectCoef ch eng idx cause v).Inv :=
  .record (.countCh (.onChan h))

/-! ## Machine/Pack.lean -/

theorem ResultInv.packFrameReceived {ch : ChId} {f : Fin 64} (h : s.Inv) : ResultInv (execPackFrameReceived ch f s) :=
  .ite (.next h) (.ite (.next (.countCh (.putChan h))) (.next (.countCh (.putChan h))))

theorem ResultInv.packDuplicate {ch : ChId} (h : s.Inv) : ResultInv (execPackDuplicate ch s) := by
  unfold execPackDuplicate; dsimp only
  split
  · exact .next h
  · exact .ite (.next h) (.ite (.next (.record (.putChan h))) (.next (.record (.countCh (.withFree (.putChan h))))))

end Sys2Proof.Machine
end

section
/-! SUPPORT. Every step keeps the invariant (O59): the pair, the die, the law and mirroring. -/

namespace Sys2Proof.Machine

variable {s : State}

/-! ## Machine/Pair.lean -/

theorem State.Inv.setLeash {ch : ChId} {n : Nat} (h : s.Inv) : (s.setLeash ch n).Inv := .ite h (.irq (.setCs h))

theorem State.Inv.claimReleased {ch : ChId} (h : s.Inv) : (s.claimReleased ch).Inv := .ite (.onPair h) h

theorem State.Inv.rearm {ch : ChId} (h : s.Inv) : (s.rearm ch).Inv :=
  .ite (.claimReleased (.setCs h)) (.when (.setCs h) .onPair)

theorem State.Inv.leashInvalid {ch : ChId} (h : s.Inv) : (s.leashInvalid ch).Inv :=
  .ite
    (.ite (.giveUp (.record (.setCs (.setLeash h)))) (.onPair (.record (.setCs (.setLeash h)))))
    (.unless (.record (.setCs (.setLeash h))) fun h' => .ite (.onPair h') (.onPair h'))

theorem ResultInv.leashStateChange {ch : ChId} {samples : List (Bool × Bool)} (h : s.Inv) :
    ResultInv (execLeashStateChange ch samples s) := by
  unfold execLeashStateChange
  split
  · exact .next h
  · exact .ite (.next (.setLeash h)) (.next (.rearm (.when (.setCs (.setLeash h)) .onPair)))
  · exact .next (.claimReleased (.setLeash h))
  · exact .next (.leashInvalid h)

theorem ResultInv.leashReadbackFault {ch : ChId} {what : ReadbackObs} (h : s.Inv) :
    ResultInv (execLeashReadbackFault ch what s) :=
  .ite
    (.next h)
    (by
      split
      · exact .next (.leashInvalid h)
      · exact .next (.leashInvalid h)
      · exact .next (.giveUp h))

theorem ResultInv.claimCheckEnd {ch : ChId} (h : s.Inv) : ResultInv (execClaimCheckEnd ch s) := by
  unfold execClaimCheckEnd
  split
  · exact .next (.setLeash (.onPair (.groupDiscard h)))
  · exact .next (.setLeash (.onPair h))
  · exact .next (.setLeash (.onPair h))
  · exact .next h

theorem State.Inv.hostRelease {ch : ChId} (h : s.Inv) : (s.hostRelease ch).Inv :=
  .setCs (.contactors (.gatesFollow (.onPair (.groupDiscard h))))

theorem State.Inv.taken {ch : ChId} {mode : Nat} (h : s.Inv) : (s.taken ch mode).Inv :=
  .record (.irq (.countG (.setCs (.onChan (.onPair (.groupDiscard h))))))

theorem State.Inv.pairEnterShadow {ch : ChId} {guard : Bool} (h : s.Inv) : (s.pairEnterShadow ch guard).Inv :=
  .rearm (.when (.setCs (.setCs (.onChan (.onPair h)))) .onPair)

theorem State.Inv.claimBits {v : Word} {l : List ChId} {r : State × Bool} (h : r.1.Inv) :
    (State.claimBits v l r).1.Inv := by
  induction l generalizing r with
  | nil => exact h
  | cons ch l ih => exact .iteFst (ih h) (.iteFst (ih h) (ih h))

theorem State.Inv.releaseBits {v : Word} {l : List ChId} {r : State × Bool} (h : r.1.Inv) :
    (State.releaseBits v l r).1.Inv := by
  induction l generalizing r with
  | nil => exact h
  | cons ch l ih => exact .iteFst (ih h) (.iteFst (ih (.hostRelease h)) (ih h))

theorem State.Inv.setLink {link txup rxup : Nat} (h : s.Inv) : (s.setLink link txup rxup).Inv :=
  .unless (.gset (.gset h)) fun h' => .record (.gset h')

theorem State.Inv.retrain (h : s.Inv) : s.retrain.Inv := .setLink (.when (.ite (.countG h) h) .countG)

theorem State.Inv.writePairCtl {v : Word} (h : s.Inv) : (s.writePairCtl v).1.Inv :=
  .iteFst h (.iteFst (.retrain (.releaseBits (.claimBits h))) (.releaseBits (.claimBits h)))

theorem State.Inv.pairReject {off : Nat} {v : Word} {src : Nat} (h : s.Inv) : (s.pairReject off v src).Inv :=
  .rejectRecord (.gset h)

theorem ResultInv.mirrorFrameReceive {frame : List Word} {since : Nat} (h : s.Inv) :
    ResultInv (execMirrorFrameReceive frame since s) := by
  unfold execMirrorFrameReceive; dsimp only
  split
  · exact .ite (.next (.onPair h)) (.next (.countG h))
  · exact .next h

theorem State.Inv.applyFrame {ch : ChId} {f : List Word} {lag : Nat} {fresh : Bool} (h : s.Inv) :
    (s.applyFrame ch f lag fresh).Inv :=
  .when (.setCs (.uvJudge (.putChan h))) .countG

theorem State.Inv.shadowBoundary {ch : ChId} (h : s.Inv) : (s.shadowBoundary ch).Inv := by
  unfold State.shadowBoundary; dsimp only
  split
  · exact .ite (.applyFrame (.putChan h)) (.onPair (.putChan h))
  · exact .onPair (.putChan h)

theorem State.Inv.setPartnerPrio {p : Bool} (h : s.Inv) : (s.setPartnerPrio p).Inv := .when (.gset h) .gset

theorem State.Inv.compareMlids {ids : List (BitVec 16)} (h : s.Inv) : (s.compareMlids ids).Inv :=
  .foldl (.withLink h) fun _ _ h => .setCs h

theorem ResultInv.linkTrainingEnd {rsp : TrainObs} (h : s.Inv) : ResultInv (execLinkTrainingEnd rsp s) :=
  .ite (.next h) (.ite (.next (.setLink (.gset h))) (.next (.compareMlids (.setPartnerPrio (.setLink (.gset h))))))

theorem ResultInv.linkDown {rxDir lane : Bool} (h : s.Inv) : ResultInv (execLinkDown rxDir lane s) :=
  .ite
    (.next (.ite (.countG h) h))
    (.ite
      (.next (.foldl (.setLink (.ite (.countG h) h)) fun _ _ h => .onChan h))
      (.next (.setLink (.ite (.countG h) h))))

theorem ResultInv.heartbeatReceive {packet : List Word} (h : s.Inv) : ResultInv (execHeartbeatReceive packet s) :=
  .ite
    (.next h)
    (.ite
      (.next (.gset (.gset (.when (.gset (.gset (.compareMlids (.setPartnerPrio (.withLink h))))) .gset))))
      (.next
        (.foldl
          (.irq (.gset (.gset (.when (.gset (.gset (.compareMlids (.setPartnerPrio (.withLink h))))) .gset))))
          fun _ _ h => .setCs h)))

theorem ResultInv.heartbeatTimeout (h : s.Inv) : ResultInv (execHeartbeatTimeout s) :=
  .ite
    (.next h)
    (.next (.foldl (.record (.irq (.countG (.gset (.gset (.gset h)))))) fun _ _ h => .ite (.record (.setCs h)) h))

theorem ResultInv.houndTestEnd {ch : ChId} {test : HoundTest} {ok : Bool} (h : s.Inv) :
    ResultInv (execHoundTestEnd ch test ok s) :=
  .ite
    (.next h)
    (.ite
      (.next (.onPair h))
      (.ite (.next (.rearm (.onPair (.gset (.gset (.record (.onPair h))))))) (.next (.record (.onPair h)))))

theorem State.Inv.healthReport {ch : ChId} (h : s.Inv) : (s.healthReport ch).Inv :=
  .ite h (.unless (.onPair (.gput h)) .record)

/-! ## Machine/Thermal.lean -/

theorem State.Inv.dieRead {n : Fin 16} {t : ℤ} (h : s.Inv) : (s.dieRead n t).Inv :=
  .when (.gset (.gput (.withDie h))) .record

theorem State.Inv.dieLimit {bit seen : BitField} {code sev : Nat} {on off : ℤ} {m : Nat} {t : ℤ} (h : s.Inv) :
    (s.dieLimit bit seen code sev on off m t).Inv :=
  .ite (.ite (.gset h) h) (.ite (.record (.irq (.gset (.gset h)))) h)

theorem State.Inv.dieTripSeen {n : Nat} (h : s.Inv) : (s.dieTripSeen n).Inv := .record (.irq (.countG (.gset h)))

theorem State.Inv.dieTripChan {ch : ChId} (h : s.Inv) : (s.dieTripChan ch).Inv := .when (.raiseSafe h) .giveUp

theorem State.Inv.dieChanTrips (h : s.Inv) : s.dieChanTrips.Inv :=
  .foldl h fun _ _ h => .ite (.ite (.withDie h) h) (.ite (.dieTripChan (.dieTripSeen (.withDie h))) h)

theorem State.Inv.dieCentTrip (h : s.Inv) : s.dieCentTrip.Inv := by
  unfold State.dieCentTrip
  split
  · exact h
  · exact .ite (.ite (.withDie h) h) (.ite (.foldl (.dieTripSeen (.withDie h)) fun _ _ h => .dieTripChan h) h)

theorem State.Inv.dieShow (h : s.Inv) : s.dieShow.Inv := .foldl (.gset h) fun _ _ h => .setLive h

theorem State.Inv.capThrottle {on : Bool} (h : s.Inv) : (s.capThrottle on).Inv :=
  .foldl (.withDie h) fun _ _ h => .foldl h fun _ _ h => .onChan h

theorem ResultInv.dieSensorConversion {n : Fin 16} {reading : BitVec 12} (h : s.Inv) :
    ResultInv (execDieSensorConversion n reading s) :=
  .next
    (.dieShow
      (.dieCentTrip
        (.dieChanTrips
          (by
            split
            · exact .dieRead h
            · exact .ite
                (.countG (.dieLimit (.dieLimit (.gset (.dieRead h)))))
                (.when (.dieLimit (.dieLimit (.gset (.dieRead h)))) .capThrottle)))))

theorem State.Inv.thermalRun {ch : ChId} (h : s.Inv) : (s.thermalRun ch).Inv :=
  .setLive (.when (.when (.putChan h) .countCh) fun h' => .record (.raiseSafe (.irq (.countCh h'))))

theorem State.Inv.thermalTick {ch : ChId} (h : s.Inv) : (s.thermalTick ch).Inv :=
  .ite (.thermalRun h) (.setLive (.putChan h))

/-! ## Machine/Law.lean -/

theorem State.Inv.lawRun {ch : ChId} {start : Bool} (h : s.Inv) : (s.lawRun ch start).Inv :=
  .ite (.withFree (.putChan h)) h

/-! ## Machine/Mirror.lean -/

theorem State.Inv.mirrorFail {ch : ChId} {off reason : Nat} {resync : Bool} (h : s.Inv) :
    (s.mirrorFail ch off reason resync).Inv :=
  .when (.record (.countG (.setCs h))) .withMir

theorem State.Inv.mirrorSend {ch : ChId} {off : Nat} {v : Word} {coef : Option CoefRef} {resync : Bool} (h : s.Inv) :
    (s.mirrorSend ch off v coef resync).Inv :=
  .ite (.mirrorFail h) (.ite (.mirrorFail h) (.withMir h))

theorem State.Inv.mirrorLanded {ch : ChId} {off : Nat} {v : Word} (h : s.Inv) : (s.mirrorLanded ch off v).Inv :=
  .ite (.mirrorSend h) h

theorem State.Inv.mirrorCoef {ch : ChId} {e : Eng} {w : CoefWrite} (h : s.Inv) : (s.mirrorCoef ch e w).Inv :=
  .ite (.mirrorSend h) h

theorem State.Inv.resyncEnds {ch : ChId} (h : s.Inv) : (s.resyncEnds ch).Inv :=
  .ite h (.unless (.withMir (.gset h)) fun h' => .countG (.setCs h'))

theorem State.Inv.resync {ch : ChId} (h : s.Inv) : (s.resync ch).Inv :=
  .ite h (.resyncEnds (.foldl (.ite h (.gset h)) fun _ _ h => .mirrorSend h))

theorem State.Inv.writeMirCtl {v : Word} (h : s.Inv) : (s.writeMirCtl v).Inv := .foldl h fun _ _ h => .ite (.resync h) h

theorem State.Inv.mirrorDone {seq reason : Nat} (h : s.Inv) : (s.mirrorDone seq reason).Inv := by
  unfold State.mirrorDone
  split
  · exact h
  · exact .resyncEnds (.unless (.withMir h) .mirrorFail)

end Sys2Proof.Machine
end

section
/-! SUPPORT. Every step keeps the invariant (O59): modes, landings, clock losses and groups. -/

namespace Sys2Proof.Machine

variable {s : State}

/-! ## Machine/Regs.lean -/

theorem State.Inv.rejectChan {ch : ChId} {off : Nat} {v : Word} {src : WriteSrc} {cause : Nat} (h : s.Inv) :
    (s.rejectChan ch off v src cause).Inv :=
  .rejectRecord (.when (.onChan h) .countCh)

/-! ## Machine/Modes.lean -/

theorem State.Inv.rejectRequest {ch : ChId} {v : Word} {src : WriteSrc} {cause : Nat} (h : s.Inv) :
    (s.rejectRequest ch v src cause).Inv :=
  .ite
    (by
      split
      · exact .groupOutcome (.rejectChan h)
      · exact .rejectChan h
      · exact .rejectChan h)
    (.landingRejected (.rejectChan h))

theorem State.Inv.enterOff {ch : ChId} (h : s.Inv) : (s.enterOff ch).Inv := .capStop (.onChan h)

theorem State.Inv.enterRepair {ch : ChId} (h : s.Inv) : (s.enterRepair ch).Inv := .gset (.gset (.capStop (.onChan h)))

theorem State.Inv.enterShadow {ch : ChId} {guard : Bool} (h : s.Inv) : (s.enterShadow ch guard).Inv :=
  .pairEnterShadow (.onChan (.ite h (.record (.putChan h))))

theorem State.Inv.transition {ch : ChId} {m tc : Nat} (h : s.Inv) : (s.transition ch m tc).Inv :=
  .ite
    (.enterOff (.unless (.enterMode h) .onChan))
    (.ite (.enterShadow (.unless (.enterMode h) .onChan)) (.when (.unless (.enterMode h) .onChan) .enterRepair))

theorem State.Inv.takeover {ch : ChId} (h : s.Inv) : (s.takeover ch).Inv := .restartSettle (.transition (.taken h))

theorem State.Inv.releaseToShadow {ch : ChId} (h : s.Inv) : (s.releaseToShadow ch).Inv :=
  .enterShadow (.enterMode (.hostRelease h))

theorem State.Inv.takeRequest {ch : ChId} {v : Nat} (h : s.Inv) : (s.takeRequest ch v).Inv :=
  .ite (.onChan h) (.transition h)

theorem State.Inv.hostSafe {ch : ChId} {v : Option Nat} (h : s.Inv) : (s.hostSafe ch v).Inv := by
  unfold State.hostSafe
  split
  · exact .latchSafe h
  · exact h

theorem State.Inv.modeBoundary {ch : ChId} {req : Option (Word × WriteSrc)} (h : s.Inv) :
    (s.modeBoundary ch req).Inv := by
  unfold State.modeBoundary; dsimp only
  split
  · exact .ite
      (.releaseToShadow h)
      (by
        split
        · exact .takeover h
        · exact .transition h
        · exact h
        · exact h)
  · exact .ite
      (.releaseToShadow (.ite h (.rejectRequest h)))
      (by
        split
        · exact .takeRequest (.hostSafe (.ite h (.rejectRequest h)))
        · exact .takeover (.when (.hostSafe (.ite h (.rejectRequest h))) .rejectRequest)
        · exact .transition (.when (.hostSafe (.ite h (.rejectRequest h))) .rejectRequest)
        · exact .hostSafe (.ite h (.rejectRequest h)))

theorem State.Inv.faultedRequest {ch : ChId} {w : Word} {src : WriteSrc} (h : s.Inv) :
    (s.faultedRequest ch w src).Inv :=
  .ite h (.ite (.transition h) (.rejectRequest h))

/-! ## Machine/Param.lean -/

theorem State.Inv.showSaves (h : s.Inv) : s.showSaves.Inv := .gset (.gset h)

theorem State.Inv.snapshotDue {ch : ChId} (h : s.Inv) : (s.snapshotDue ch).Inv := .ite (.showSaves (.withLdr h)) h

theorem State.Inv.startSave {j : SaveJob} (h : s.Inv) : (s.startSave j).Inv := by
  unfold State.startSave
  split
  · exact .showSaves (.withLdr h)
  · exact .showSaves (.withLdr h)

theorem State.Inv.hostSave {mask : BitVec 12} (h : s.Inv) : (s.hostSave mask).Inv := .startSave h

theorem SumInv.writeParCtl {v : Word} (h : s.Inv) : SumInv (s.writeParCtl v) :=
  .ite (.inr h) (.ite .inl (.ite .inl (.inr (.hostSave h))))

theorem State.Inv.nextSave (h : s.Inv) : s.nextSave.Inv := by
  unfold State.nextSave
  split
  · exact .showSaves (.withLdr h)
  · exact .showSaves (.withLdr h)

theorem State.Inv.commitSave {j : SaveJob} (h : s.Inv) : (s.commitSave j).Inv := .record (.gset (.gset (.withStore h)))

theorem State.Inv.failSave {j : SaveJob} {err : Nat} (h : s.Inv) : (s.failSave j err).Inv :=
  .record (.countG (.gset (.withStore h)))

theorem ResultInv.paramSaveDone {res : SaveObs} (h : s.Inv) : ResultInv (execParamSaveDone res s) := by
  unfold execParamSaveDone
  split
  · exact .next h
  · exact .ite
      (.next h)
      (by
        split
        · exact .next (.nextSave (.commitSave h))
        · exact .next (.nextSave (.failSave h))
        · exact .next (.nextSave (.failSave h)))

/-! ## Machine/Landing.lean -/

theorem State.Inv.groupApplied {ch : ChId} (h : s.Inv) : (s.groupApplied ch).Inv := .ite (.groupOutcome (.withGrp h)) h

theorem State.Inv.landed {ch : ChId} {w : ChanWrite} {old : Word} (h : s.Inv) : (s.landed ch w old).Inv :=
  .ite
    (.ite (.ite (.onChan h) h) (.chainLanded h))
    (.ite
      (.brakeFollow h)
      (.ite
        (.onChan h)
        (.ite
          (.onChan (.withFree h))
          (.ite
            (.onChan h)
            (.ite
              (by
                split
                · exact .onChan h
                · exact h)
              h)))))

theorem State.Inv.landPlain {ch : ChId} {w : ChanWrite} (h : s.Inv) : (s.landPlain ch w).Inv :=
  .ite h (.mirrorLanded (.landed (.onChan h)))

theorem State.Inv.rejectRwl {ch : ChId} {w : ChanWrite} (h : s.Inv) : (s.rejectRwl ch w).Inv :=
  .landingRejected (.rejectRecord (.countCh (.onChan h)))

theorem State.Inv.landJudged {ch : ChId} {change : Bool} {w : ChanWrite} (h : s.Inv) :
    (s.landJudged ch change w).Inv := by
  unfold State.landJudged
  split
  · exact h
  · exact .ite (.mirrorLanded (.putChan h)) (.rejectRwl h)

theorem State.Inv.landCoef {ch : ChId} {change : Bool} {e : Eng} {w : CoefWrite} (h : s.Inv) :
    (s.landCoef ch change e w).Inv :=
  .ite (.mirrorCoef (.putChan h)) (.landingRejected (.rejectCoef h))

theorem State.Inv.landCoefs {ch : ChId} {ws : List ChanWrite} {change : Bool} (h : s.Inv) :
    (s.landCoefs ch ws change).Inv :=
  .foldl (.putChan h) fun _ _ h => .landCoef h

theorem State.Inv.landAll {ch : ChId} (h : s.Inv) : (s.landAll ch).Inv := by
  unfold State.landAll; dsimp only
  split
  · exact .faultedRequest
      (.snapshotDue
        (.landCoefs
          (.foldl (.foldl (.onChan (.groupApplied h)) fun _ _ h => .landPlain h) fun _ _ h => .landJudged h)))
  · exact .snapshotDue
      (.landCoefs (.foldl (.foldl (.onChan (.groupApplied h)) fun _ _ h => .landPlain h) fun _ _ h => .landJudged h))

/-! ## Machine/ClockLoss.lean -/

theorem State.Inv.clockLoss {ch : ChId} {lor ceil : Bool} (h : s.Inv) : (s.clockLoss ch lor ceil).Inv :=
  .landAll (.record (.countCh (.hardFault (.holdFastPaths (.putChan h)))))

theorem State.Inv.relocked {ch : ChId} {c : Chan} (h : s.Inv) : (s.relocked ch c).Inv := .chainRelock (.putChan h)

theorem ResultInv.lockWindow {ch : ChId} {count since : Nat} (h : s.Inv) :
    ResultInv (execLockWindow ch count since s) :=
  .ite
    (.ite (.next (.putChan h)) (.next (.ite (.relocked h) (.putChan h))))
    (.ite (.next (.unless (.putChan h) .clockLoss)) (.next h))

theorem State.Inv.lockFail {ch : ChId} (h : s.Inv) : (s.lockFail ch).Inv :=
  .bootSettled (.landAll (.record (.hardFault (.putChan h))))

theorem ResultInv.refEdgeMissing {ch : ChId} {further : Bool} (h : s.Inv) :
    ResultInv (execRefEdgeMissing ch further s) :=
  .ite
    (.next h)
    (.ite
      (.next (.record (.countCh (.putChan h))))
      (.ite (.next (.putChan h)) (.ite (.next (.lockFail (.putChan h))) (.next (.clockLoss (.putChan h))))))

/-! ## Machine/Group.lean -/

theorem State.Inv.discardGroup (h : s.Inv) : s.discardGroup.Inv := .ite (.gset (.withGrp h)) h

theorem State.Inv.openGroup {k : Ctx} (h : s.Inv) : (s.openGroup k).Inv := .gput (.gput (.withGrp h))

theorem State.Inv.writeGrpCtl {k : Ctx} {v : Word} (h : s.Inv) : (s.writeGrpCtl k v).1.Inv :=
  .unlessFst (.iteFst h (.iteFst h (.openGroup h))) fun h' => .iteFst (.discardGroup h') h'

theorem State.Inv.groupComplete (h : s.Inv) : s.groupComplete.Inv := .irq (.gput (.withGrp h))

theorem State.Inv.writeGrpGo {k : Ctx} {v : Word} (h : s.Inv) : (s.writeGrpGo k v).1.Inv :=
  .iteFst h (.iteFst h (.iteFst (.groupComplete (.gput h)) (.gput (.withGrp h))))

end Sys2Proof.Machine
end

section
/-! SUPPORT. Every step keeps the invariant (O59): the recorder, the kennel and the safety engines. -/

namespace Sys2Proof.Machine

variable {s : State}

/-! ## Machine/Recorder.lean -/

theorem State.Inv.closeOpen (h : s.Inv) : s.closeOpen.Inv := .withRcd h

theorem State.Inv.ringPut {r : RecRec} (h : s.Inv) : (s.ringPut r).Inv := .irq (.withRcd (.closeOpen h))

theorem State.Inv.setEpoch {ep : Nat} (h : s.Inv) : (s.setEpoch ep).Inv := .when (.gset (.gset h)) .requestRecord

theorem State.Inv.calApply {new : Nat} (h : s.Inv) : (s.calApply new).Inv := .gset (.withCal (.ite (.setEpoch h) h))

theorem State.Inv.calSet {new cause : Nat} (h : s.Inv) : (s.calSet new cause).Inv :=
  .ite (.withCal (.closeOpen h)) (.calApply (.recordReserved (.closeOpen h)))

theorem ResultInv.recordWrite (h : s.Inv) : ResultInv (execRecordWrite s) := by
  unfold execRecordWrite
  split
  · exact .next h
  · exact .ite
      (.next h)
      (.ite
        (.next
          (by
            split
            · exact .calSet (.ringPut (.withRcd h))
            · exact .ringPut (.withRcd h)))
        (.next
          (.withRcd
            (.recordReserved
              (by
                split
                · exact .calSet (.ringPut (.withRcd h))
                · exact .ringPut (.withRcd h))))))

theorem State.Inv.showPers (h : s.Inv) : s.showPers.Inv := .gset h

theorem State.Inv.setStoreSize {v : Word} (h : s.Inv) :
    (s.setStoreSize v).Inv := .showPers (.unless (.gset h) .withStore)

theorem ResultInv.recorderStartSearchEnd {storeOk : Bool} (h : s.Inv) :
    ResultInv (execRecorderStartSearchEnd storeOk s) :=
  .ite (.next h) (.next (.ringPut (.of (.setEpoch (.showPers (.withRcd (.gset h)))) rfl rfl rfl)))

theorem State.Inv.persistGap (h : s.Inv) : s.persistGap.Inv := .ite h (.record (.countGBy (.withStore h)))

theorem State.Inv.ringError {slot : Nat} (h : s.Inv) : (s.ringError slot).Inv := .ite h (.countG (.withRcd h))

theorem State.Inv.keepSurvivors {n : Nat} (h : s.Inv) : (s.keepSurvivors n).Inv :=
  .foldl
    h
    fun _ _ h => by
      split
      · exact .ite (.withStore h) h

theorem State.Inv.storeRecords {first n : Nat} (h : s.Inv) : (s.storeRecords first n).Inv := by
  induction n with
  | zero => exact h
  | succ n ih => exact ih

theorem ResultInv.persistBatchStart {byTime : Bool} {failing : Option (Fin 8192)} (h : s.Inv) :
    ResultInv (execPersistBatchStart byTime failing s) :=
  .ite
    (.next
      (.ite
        (.persistGap
          (by
            split
            · exact .ringError h
            · exact h))
        h))
    (.next
      (.withRcd
        (.storeRecords
          (.keepSurvivors
            (.ite
              (.persistGap
                (by
                  split
                  · exact .ringError h
                  · exact h))
              h)))))

theorem ResultInv.persistBatchCommit {retries : Nat} (h : s.Inv) : ResultInv (execPersistBatchCommit retries s) := by
  unfold execPersistBatchCommit
  split
  · exact .next h
  · exact .next (.of (.countGBy h) rfl rfl rfl)

theorem ResultInv.storeFail {cause : BitVec 8} {slot : BitVec 24} (h : s.Inv) :
    ResultInv (execStoreFail cause slot s) :=
  .ite (.next h) (.next (.record (.withRcd (.gset (.gset (.gset (.lastWord (.gput (.ite h (.countGBy h))))))))))

theorem ResultInv.storeProbeDone {ok : Bool} (h : s.Inv) : ResultInv (execStoreProbeDone ok s) :=
  .ite (.next h) (.ite (.next (.withRcd h)) (.next (.record (.gset (.gset (.gset (.withRcd h)))))))

theorem State.Inv.writeRecCtl {v : Word} (h : s.Inv) : (s.writeRecCtl v).1.Inv := .iteFst h (.iteFst (.withRcd h) h)

theorem State.Inv.writeRptr {v : Word} (h : s.Inv) : (s.writeRptr v).1.Inv :=
  .iteFst h (.iteFst (.gset (.gput h)) (.gset (.gput h)))

theorem State.Inv.writeCalCtl {v : Word} (h : s.Inv) : (s.writeCalCtl v).1.Inv :=
  .iteFst h (.iteFst h (.iteFst (.calSet h) (.gset h)))

theorem State.Inv.ppsLock {e : ℤ} (h : s.Inv) :
    (s.ppsLock e).Inv := .ite (.gset (.withCal h)) (.when (.withCal h) .gset)

theorem ResultInv.ppsEdge (h : s.Inv) : ResultInv (execPpsEdge s) :=
  .ite
    (.next h)
    (.ite
      (.next (.countG h))
      (.ite
        (.next (.calSet (.gset (.ppsLock (.gput (.withCal h))))))
        (.ite
          (.next (.calSet (.countG (.ppsLock (.gput (.withCal h))))))
          (.next (.withFree (.gput (.ppsLock (.gput (.withCal h)))))))))

theorem State.Inv.calAdvance (h : s.Inv) : s.calAdvance.Inv := .gset (.withCal h)

theorem State.Inv.recReject {off : Nat} {v : Word} {src : Nat} (h : s.Inv) : (s.recReject off v src).Inv :=
  .rejectRecord (.ite (.gset h) (.gset h))

/-! ## Machine/Kennel.lean -/

theorem State.Inv.inhibitsFollow (h : s.Inv) : s.inhibitsFollow.Inv := .foldl h fun _ _ h => .rearm (.gatesFollow h)

theorem State.Inv.setGinh {n : Nat} (h : s.Inv) : (s.setGinh n).Inv := .inhibitsFollow (.gset (.gset h))

theorem State.Inv.updateChinh (h : s.Inv) : s.updateChinh.Inv := .inhibitsFollow (.gset h)

theorem State.Inv.updateSafeN (h : s.Inv) : s.updateSafeN.Inv := .when (.gset h) .irq

/-- A reset of the device: the bank is kept, the DMA's queue and the capture memory are empty (R519, R520). -/
theorem State.Inv.clearDevice {lrst : Nat} (h : s.Inv) : (s.clearDevice lrst).Inv := ⟨h.1, Nat.zero_le _, rfl⟩

theorem State.Inv.resetSequence {lrst : Nat} (h : s.Inv) : (s.resetSequence lrst).Inv := .lastWord (.clearDevice h)

theorem State.Inv.selectLastWord {a : Accessor} {idx : BitVec 5} (h : s.Inv) : (s.selectLastWord a idx).Inv :=
  .of h rfl rfl rfl

theorem State.Inv.commitLastWord {a : Accessor} {code : Byte} (h : s.Inv) : (s.commitLastWord a code).Inv :=
  .ite
    (.countG h)
    (by
      split
      · exact .withKnl (.lastWord h) rfl
      · exact .withKnl (.lastWord h) rfl)

theorem OptInv.writeKnlCtl {a : Accessor} {v : Word} (h : s.Inv) : OptInv (s.writeKnlCtl a v) :=
  .ite
    .none
    (.ite
      .none
      (.some
        (.when
          (.updateSafeN
            (.when (.when (.when (.ite (.setGinh h) h) .setGinh) fun h1 => .withKnl h1 rfl) fun h2 => .withKnl h2 rfl))
          .resetSequence)))

theorem OptInv.writeKnlWdt {v : Word} (h : s.Inv) : OptInv (s.writeKnlWdt v) :=
  .ite .none (.some (.when (.gput h) fun h' => .withKnl h' rfl))

theorem OptInv.writeKnlKick {v : Word} (h : s.Inv) : OptInv (s.writeKnlKick v) :=
  .ite .none (.ite (.some (.withKnl h rfl)) (.some h))

theorem OptInv.kennelWrite {a : Accessor} {off : Nat} {v : Word} (h : s.Inv) : OptInv (s.kennelWrite a off v) :=
  .ite
    (.writeKnlCtl h)
    (.ite
      (.some (.updateChinh (.gput h)))
      (.ite
        (.writeKnlWdt h)
        (.ite
          (.writeKnlKick h)
          (.ite
            (.some (.selectLastWord h))
            (.ite
              (.some (.withKnl h rfl))
              (.ite (.some (.commitLastWord h)) (.ite (.some (.ite (.withKnl h rfl) h)) (.some (.plainWriteG h)))))))))

theorem State.Inv.knlReject {off : Nat} {v : Word} {src : Nat} (h : s.Inv) : (s.knlReject off v src).Inv :=
  .rejectRecord (.gset h)

theorem State.Inv.portNack (h : s.Inv) : s.portNack.Inv := .withKnl (.countG h) rfl

theorem State.Inv.portWrite {off : Nat} {v : Word} (h : s.Inv) : (s.portWrite off v).Inv := by
  unfold State.portWrite
  split
  · rename_i t e
    exact OptInv.kennelWrite h t e
  · exact .portNack h

theorem ResultInv.hostWatchdogExpiry (h : s.Inv) : ResultInv (execHostWatchdogExpiry s) :=
  .ite (.next (.updateSafeN (.record (.lastWord (.irq (.gset (.withKnl h rfl))))))) (.next h)

theorem State.Inv.deviceGiveUp {cause : Nat} (h : s.Inv) : (s.deviceGiveUp cause).Inv :=
  .foldl h fun _ _ h => .ite (.giveUp h) (.ite h (.faultHalt h))

theorem ResultInv.safetySlotExpiry {aMissing bMissing : Bool} (h : s.Inv) :
    ResultInv (execSafetySlotExpiry aMissing bMissing s) :=
  .ite (.next h) (.next (.deviceGiveUp (.withLink (.lastWord (.updateSafeN (.setGinh (.gset h)))))))

theorem State.Inv.supplyGiveUp {inWindow : BitVec 4} (h : s.Inv) : (s.supplyGiveUp inWindow).Inv :=
  .ite
    h
    (.withKnl
      (.lastWord
        (.updateSafeN (.foldl (.gset (.gset (.gset (.gset (.deviceGiveUp h))))) fun _ _ h => .gatesFollow (.onPair h))))
      rfl)

theorem ResultInv.kennelPowerOn {ok : Bool} (h : s.Inv) : ResultInv (execKennelPowerOn ok s) := by
  have hb : (if ok then s.knl.bank else []).length ≤ 32 := by
    split
    · exact h.1
    · exact Nat.zero_le _
  exact .next (.lastWord ⟨hb, Nat.zero_le _, rfl⟩)

theorem State.Inv.safeNHeld {k : Kennel} (h : s.Inv) (hbank : k.bank = s.knl.bank) :
    ({ s.gset Reg.KNL_STAT Fld.KNL_STAT_SAFEN 1 with knl := k } : State).Inv := by
  apply State.Inv.withKnl (.gset h)
  rw [hbank]
  generalize Fld.KNL_STAT_SAFEN = f
  rfl

theorem ResultInv.kennelPowerOff (h : s.Inv) : ResultInv (execKennelPowerOff s) := by
  unfold execKennelPowerOff
  extract_lets s1 s2
  have h' : s2.Inv := .foldl (.gset (.gset h)) fun _ _ h => .gatesFollow (.onPair h)
  clear_value s2
  exact .next (.safeNHeld h' rfl)

theorem ResultInv.padRelease (h : s.Inv) : ResultInv (execPadRelease s) :=
  .ite
    (.next (.foldl (.record (.updateSafeN (.withKnl (.gset (.gset (.gset h))) rfl))) fun _ _ h => .gatesFollow h))
    (.next h)

/-! ## Machine/SafetyEng.lean -/

theorem State.Inv.declareSedis {case_ declarer : Nat} (h : s.Inv) : (s.declareSedis case_ declarer).Inv :=
  .ite h (.foldl (.record (.irq (.gset h))) fun _ _ h => .raiseSafe h)

theorem State.Inv.setBcst {n : Nat} (h : s.Inv) : (s.setBcst n).Inv := .ite h (.irq (.gset h))

theorem State.Inv.connectionStop {cls : Nat} (h : s.Inv) : (s.connectionStop cls).Inv :=
  .ite h (.foldl (.record (.countG (.setBcst h))) fun _ _ h => .ite (.raiseSafe h) h)

theorem State.Inv.frameAcks {bs : List Byte} (h : s.Inv) : (s.frameAcks bs).Inv :=
  .foldl h fun _ _ h => .ite h (.onChan h)

theorem State.Inv.acceptFrame {bs : List Byte} (h : s.Inv) : (s.acceptFrame bs).Inv :=
  .unless (.frameAcks (.withSaf (.gset h))) fun h' => .foldl (.record (.setBcst h')) fun _ _ h => .setLive h

theorem State.Inv.faultClass {cls seq : Nat} (h : s.Inv) : (s.faultClass cls seq).Inv := .record (.gset h)

theorem State.Inv.checkFrame (h : s.Inv) : s.checkFrame.Inv := by
  unfold State.checkFrame
  split
  · exact h
  · exact .unless
      (.withSaf h)
      fun h' => by
        split
        · exact .acceptFrame h'
        · exact .when (.faultClass (.countG (.withSaf h'))) .connectionStop
        · exact .faultClass (.countG h')
        · exact .acceptFrame (.faultClass (.countGBy h'))
        · exact .connectionStop (.faultClass h')

theorem State.Inv.submitFrame (h : s.Inv) : s.submitFrame.Inv := .withSaf (.ite (.countG h) h)

theorem State.Inv.contactorFault {ch : ChId} {k2 : Bool} {code : Nat} (h : s.Inv) : (s.contactorFault ch k2 code).Inv :=
  .record (.raiseSafe (.putChan h))

theorem ResultInv.contactorSettleEnd {ch : ChId} {k2 : Bool} (h : s.Inv) : ResultInv (execContactorSettleEnd ch k2 s) :=
  .ite (.next h) (.ite (.next (.putChan h)) (.ite (.next (.putChan h)) (.next (.contactorFault (.putChan h)))))

theorem State.Inv.strobeChan {ch : ChId} {a b : SafSample} (h : s.Inv) : (s.strobeChan ch a b).Inv :=
  .setLive (.setLive (.setLive (.setLive (.setLive (.when (.putChan h) .countCh)))))

theorem State.Inv.permitChan {ch : ChId} {a b : SafSample} (h : s.Inv) : (s.permitChan ch a b).Inv :=
  .gatesFollow (.contactors (.putChan h))

theorem State.Inv.exchange {env : StrobeEnv} (h : s.Inv) : (s.exchange env).Inv :=
  .ite
    (.declareSedis (.withFree (.withSaf h)))
    (.ite
      (.declareSedis (.withFree (.withSaf h)))
      (.ite (.declareSedis (.withSaf h)) (.when (.withSaf h) .declareSedis)))

theorem State.Inv.strobe {env : StrobeEnv} (h : s.Inv) : (s.strobe env).Inv :=
  .unless
    (.when
      (.exchange (.foldl (.foldl (.checkFrame (.gset h)) fun _ _ h => .strobeChan h) fun _ _ h => .permitChan h))
      fun h' => .foldl h' fun _ _ h => .permitChan h)
    .slotRefresh

theorem State.Inv.setConf {n : Nat} (h : s.Inv) : (s.setConf n).Inv := .gset (.gset h)

theorem State.Inv.safetyChanged {off : Nat} (h : s.Inv) : (s.safetyChanged off).Inv :=
  .record (.foldl (.withSaf (.gset (.setConf h))) fun _ _ h => .raiseSafe h)

theorem State.Inv.safReject {chval off : Nat} {v : Word} {src cause : Nat} (h : s.Inv) :
    (s.safReject chval off v src cause).Inv :=
  .rejectRecord (.gset (.gset h))

theorem State.Inv.chmaskChanged {old : Nat} (h : s.Inv) : (s.chmaskChanged old).Inv :=
  .ite h (.unless (.setBcst h) fun h' => .ite (.connectionStop h') h)

theorem State.Inv.writeSafGlobal {off : Nat} {v : Word} {src : Nat} (h : s.Inv) : (s.writeSafGlobal off v src).1.Inv :=
  .iteFst (.safReject h) (.iteFst (.safReject h) (.iteFst h (.chmaskChanged (.safetyChanged (.plainWriteG h)))))

theorem State.Inv.writeSafChan {ch : ChId} {off : Nat} {v : Word} {src : Nat} (h : s.Inv) :
    (s.writeSafChan ch off v src).1.Inv :=
  .iteFst (.safReject h) (.iteFst (.safReject h) (.iteFst h (.safetyChanged (.onChan h))))

theorem ResultInv.safetyCheckDone {a b : Option Word} (h : s.Inv) : ResultInv (execSafetyCheckDone a b s) :=
  .ite
    (.next h)
    (.ite
      (.next (.withSaf (.withSaf h)))
      (.next (.when (.withStore (.gset (.gput (.withSaf h)))) fun h' => .foldl (.setConf h') fun _ _ h => .setLive h)))

theorem State.Inv.writeSafCtl {v : Word} {src : Nat} (h : s.Inv) : (s.writeSafCtl v src).1.Inv :=
  .iteFst h (.iteFst (.record (.startSave (.foldl (.setConf h) fun _ _ h => .setLive h))) (.safReject h))

theorem State.Inv.writeSafAck {ch : ChId} {v : Word} {src : Nat} (h : s.Inv) : (s.writeSafAck ch v src).1.Inv :=
  .iteFst (.safReject h) (.onChan h)

end Sys2Proof.Machine
end

section
/-! SUPPORT. Every step keeps the invariant (O59): starts, images and resets. -/

namespace Sys2Proof.Machine

variable {s : State}

/-! ## Machine/Start.lean -/

theorem State.Inv.commitSection {ch : ChId} {g : Section} {repaired : Bool} (h : s.Inv) :
    (s.commitSection ch g repaired).Inv :=
  .gput (.onChan h)

theorem State.Inv.restoreChan {ch : ChId} {g : Section} (h : s.Inv) : (s.restoreChan ch g).Inv :=
  .unless (.gset (.putChan h)) .record

theorem State.Inv.loadEngines {ch : ChId} {g : Section} (h : s.Inv) : (s.loadEngines ch g).Inv := by
  unfold State.loadEngines
  dsimp only
  split
  · split
    · exact .putChan h
    · exact .putChan h
  · exact .putChan h

theorem State.Inv.clearFault {ch : ChId} (h : s.Inv) : (s.clearFault ch).Inv := .gset (.onChan h)

theorem State.Inv.startUnits {ch : ChId} {g : Section} (h : s.Inv) : (s.startUnits ch g).Inv := .onChan (.withFree h)

theorem State.Inv.startChan {ch : ChId} {g : Section} {fresh : Bool} {tc : Nat} (h : s.Inv) :
    (s.startChan ch g fresh tc).Inv :=
  .enterMode (.onChan (.unless (.capRestart (.chainStart (.clearFault (.startUnits (.loadEngines h))))) .compareMlids))

theorem State.Inv.startFails {ch : ChId} {cause : Nat} (h : s.Inv) : (s.startFails ch cause).Inv :=
  .chinhFollow (.withFree (.rejectRecord (.putChan h)))

theorem State.Inv.restoreAndLock {ch : ChId} {kind : StartKind} (h : s.Inv) : (s.restoreAndLock ch kind).Inv := by
  unfold State.restoreAndLock
  split
  · exact .onChan h
  · exact .ite (.beginLock (.restoreChan h)) (.startFails (.restoreChan h))

theorem ResultInv.channelStart {ch : ChId} (h : s.Inv) : ResultInv (execChannelStart ch s) :=
  .ite
    (by
      split
      · exact .next (.bootSettled (.startChan h))
      · exact .next h)
    (.next h)

/-! ## Machine/Image.lean -/

theorem State.Inv.showKeys (h : s.Inv) : s.showKeys.Inv := .gset (.gset h)

theorem State.Inv.showSlots (h : s.Inv) : s.showSlots.Inv := .gset (.gset h)

theorem State.Inv.setImgState {n : Nat} {busy : Bool} (h : s.Inv) : (s.setImgState n busy).Inv := .gset (.gset h)

theorem State.Inv.imgDone {n err : Nat} (h : s.Inv) : (s.imgDone n err).Inv := .withLdr (.gset (.setImgState h))

theorem State.Inv.imgFails {err : Nat} (h : s.Inv) : (s.imgFails err).Inv := .record (.withLdr (.gset (.imgDone h)))

theorem State.Inv.putSafetySet {ws : List Word} (h : s.Inv) : (s.putSafetySet ws).Inv :=
  .unless (.foldl (.gput (.gput h)) fun _ _ h => .onChan h) fun h' => .chmaskChanged (.setConf h')

theorem State.Inv.readStore (h : s.Inv) : s.readStore.Inv := by
  unfold State.readStore
  extract_lets a b ok valid bank s1 s2 u sf s3 st
  have hu : u.Inv := .gset (.gset (.gset (.gset h)))
  have h' : s3.Inv := .withSaf (s := u) (x := { sf with chkDue := true }) hu
  clear_value s3
  split
  · exact .withStore (.putSafetySet h')
  · exact .withStore h'

theorem State.Inv.takeSection {v : ImageView} {ch : ChId} (h : s.Inv) : (s.takeSection v ch).Inv := by
  unfold State.takeSection
  split
  · exact .commitSection h
  · exact .onChan (.gput h)

theorem State.Inv.imageSetsG {off : Nat} {v : Word} (h : s.Inv) : (s.imageSetsG off v).Inv :=
  .ite (.gput h) (.ite (.setStoreSize h) h)

theorem State.Inv.applyImage {v : ImageView} {slot gen : Nat} (h : s.Inv) : (s.applyImage v slot gen).Inv :=
  .bootSettled
    (.foldl
      (.readStore
        (.ite
          (.setLink
            (.foldl
              (.record
                (.withLdr
                  (.imgDone
                    (.gset
                      (.gset
                        (.gset
                          (.gput (.gput (.gput (.gset (.gset (.gset (.foldl h fun _ _ h => .takeSection h)))))))))))))
              fun _ _ h => .imageSetsG h))
          (.setLink
            (.foldl
              (.record
                (.withLdr
                  (.imgDone
                    (.gset
                      (.gset
                        (.gset
                          (.gput (.gput (.gput (.gset (.gset (.gset (.foldl h fun _ _ h => .takeSection h)))))))))))))
              fun _ _ h => .imageSetsG h))))
      fun _ _ h => .ite (.restoreAndLock h) h)

theorem State.Inv.padsBack (h : s.Inv) : s.padsBack.Inv :=
  .foldl (.withLdr (.setGinh (.gset (.gset (.gset h))))) fun _ _ h => .contactors (.onChan h)

theorem State.Inv.openUpdate (h : s.Inv) : s.openUpdate.Inv := .setImgState (.showSlots (.of h rfl rfl rfl))

theorem State.Inv.imgAbort (h : s.Inv) : s.imgAbort.Inv := .ite (.imgFails (.ite (.withLdr h) h)) h

theorem SumInv.writeImgCtl {v : Word} (h : s.Inv) : SumInv (s.writeImgCtl v) :=
  .ite
    .inl
    (.ite
      (.inr h)
      (.ite
        (.inr (.imgAbort h))
        (.ite
          (.inr (.setImgState (.withLdr h)))
          (.ite
            (.inr (.withLdr (.setImgState (.gset (.gset (.withLdr (.withLdr h)))))))
            (.ite
              (.inr (.setImgState (.padsBack (.gset (.withLdr (.withLdr h))))))
              (.inr (.openUpdate (.gset (.withLdr (.withLdr h))))))))))

theorem SumInv.writeImgData {v : Word} (h : s.Inv) : SumInv (s.writeImgData v) := .ite (.inr (.withLdr h)) .inl

theorem SumInv.writeImgPlain {off : Nat} {v : Word} (h : s.Inv) : SumInv (s.writeImgPlain off v) :=
  .ite .inl (.ite .inl (.inr (.plainWriteG h)))

theorem SumInv.writeImgFuse {v : Word} (h : s.Inv) : SumInv (s.writeImgFuse v) :=
  .ite (.inr h) (.ite .inl (.ite .inl (.ite .inl (.inr (.gset (.withLdr h))))))

theorem ResultInv.fuseOpDone (h : s.Inv) : ResultInv (execFuseOpDone s) := by
  unfold execFuseOpDone
  split
  · exact .next h
  · exact .next (.record (.gset (.showKeys (.of h rfl rfl rfl))))

theorem State.Inv.bootVerified {k : Fin 2} {rest : List (Fin 2)} {found : ImageView} (h : s.Inv) :
    (s.bootVerified k rest found).Inv :=
  .ite (.applyImage h) (.ite (.imgDone (.withLdr (.record (.countG h)))) (.gset (.withLdr (.record (.countG h)))))

theorem State.Inv.stageVerified {found : ImageView} (h : s.Inv) : (s.stageVerified found).Inv :=
  .ite
    (.imgFails h)
    (.ite
      (.imgFails h)
      (by
        split
        · exact .imgFails h
        · exact .withLdr (.gset (.imgDone h))))

theorem ResultInv.imageVerifyDone {found : ImageObs} (h : s.Inv) : ResultInv (execImageVerifyDone found s) :=
  .ite
    (by
      split
      · exact .next (.bootVerified h)
      · exact .ite (.next h) (.next (.ite (.applyImage h) (.imgFails h))))
    (.ite (.next (.stageVerified h)) (.ite (.next (.ite (.withStore (.setImgState h)) (.imgFails h))) (.next h)))

theorem State.Inv.commitSlot (h : s.Inv) : s.commitSlot.Inv := .irq (.record (.imgDone (.showSlots (.withStore h))))

theorem State.Inv.updErased (h : s.Inv) : s.updErased.Inv := .withStore (.setImgState h)

theorem ResultInv.flashOpDone {ok : Bool} (h : s.Inv) : ResultInv (execFlashOpDone ok s) :=
  .ite
    (.next h)
    (.ite
      (.next (.ite (.updErased (.withLdr h)) (.when (.withLdr h) .commitSlot)))
      (.ite (.next (.withLdr h)) (.next (.imgFails h))))

theorem State.Inv.repairStart {ch : ChId} {err : Nat} (h : s.Inv) : (s.repairStart ch err).Inv := by
  unfold State.repairStart
  split
  · exact .startChan (.repairEnds (.restoreChan h))
  · exact .enterMode (.repairEnds h)

theorem ResultInv.repairLoadEnd {ch : ChId} {res : LoadObs} (h : s.Inv) : ResultInv (execRepairLoadEnd ch res s) := by
  unfold execRepairLoadEnd
  split
  · exact .ite (.next (.ite (.repairStart h) (.ite (.repairStart h) (.repairStart (.commitSection h))))) (.next h)
  · exact .next h

/-! ## Machine/Startup.lean -/

theorem State.Inv.boot (h : s.Inv) : s.boot.Inv := .unless (.withLdr (.showSlots (.showKeys h))) .setImgState

theorem ResultInv.resetRelease {hostMode prio : Bool} (h : s.Inv) : ResultInv (execResetRelease hostMode prio s) :=
  .ite (.next h) (.next (.boot (.gset (.gset (.when (.withKnl h rfl) fun h' => .gset (.gset (.withPins h')))))))

theorem State.Inv.pcieDown (h : s.Inv) : s.pcieDown.Inv := .gset (.gset (.gset h))

theorem State.Inv.dmaReset (h : s.Inv) : s.dmaReset.Inv :=
  have h' : ({ s with dma := { s.dma with queue := [] } } : State).Inv := ⟨h.1, Nat.zero_le _, h.2.2⟩
  h'.dmaEnd

theorem State.Inv.loaderReset (h : s.Inv) : s.loaderReset.Inv :=
  .ite
    (.withLdr (.gset (.setImgState h)))
    (.ite h (.ite (.imgFails (.withLdr (.when (.withFree h) .commitSlot))) (.imgFails h)))

theorem State.Inv.hostReset (h : s.Inv) : s.hostReset.Inv :=
  .withHost (.gput (.gput (.discardGroup (.loaderReset (.dmaReset h)))))

theorem State.Inv.pcieReset (h : s.Inv) : s.pcieReset.Inv := .gset (.hostReset h)

theorem ResultInv.hostReset {kind : HostResetKind} (h : s.Inv) : ResultInv (execHostReset kind s) :=
  .ite
    (.next h)
    (.next
      (by
        split
        · exact .pcieReset h
        · exact .pcieDown (.pcieReset h)
        · exact .pcieDown (.pcieReset h)
        · exact .pcieDown (.pcieReset h)))

theorem State.Inv.resetChan {ch : ChId} (h : s.Inv) : (s.resetChan ch).Inv :=
  .restoreAndLock
    (.contactors
      (.chinhFollow (.onChan (.clearFault (.groupDiscard (.foldl (.ite (.repairEnds h) h) fun _ _ h => .dropFade h))))))

theorem State.Inv.rejectReset {ch : ChId} {v : Word} {k : Ctx} (h : s.Inv) : (s.rejectReset ch v k).Inv :=
  .rejectRecord (.onChan h)

theorem State.Inv.writeChrst {k : Ctx} {v : Word} (h : s.Inv) : (s.writeChrst k v).1.Inv :=
  .foldlFst h fun _ _ h => .iteFst h (.iteFst (.resetChan h) (.rejectReset h))

end Sys2Proof.Machine
end

section
/-! SUPPORT. Every step keeps the invariant (O59): the host port. -/

namespace Sys2Proof.Machine

variable {s : State}

/-! ## Machine/Host.lean -/

theorem State.Inv.latchedRead {k : Ctx} {tag off : Nat} {value : Nat → Word} (h : s.Inv) :
    (s.latchedRead k tag off value).1.Inv :=
  .iteFst
    (.onCtx h)
    (.iteFst
      (by
        split
        · exact h
        · exact h)
      h)

theorem State.Inv.plain {data : List Word} (h : s.Inv) : (Answer.plain s data).state.Inv := h

theorem State.Inv.violates {cause : Nat} {wr : Bool} (h : s.Inv) : (Answer.violates s cause wr).state.Inv := h

theorem State.Inv.readDdat {k : Ctx} {ch : ChId} (h : s.Inv) : (s.readDdat k ch).state.Inv := by
  unfold State.readDdat; dsimp only
  split
  · exact .plain (.onChan h)
  · exact .plain (.withHost (.onChan h))

theorem State.Inv.readChan {k : Ctx} {off : Nat} (h : s.Inv) : (s.readChan k off).state.Inv := by
  unfold State.readChan
  split
  · exact .violates h
  · dsimp only
    exact .iteAns
      (.plain (.ite (.onChan h) h))
      (.iteAns (.ite (.onChan h) h) (.iteAns (.readDdat h) (.plain (.latchedRead h))))

theorem State.Inv.readGlobal {k : Ctx} {off : Nat} (h : s.Inv) : (s.readGlobal k off).state.Inv :=
  .iteAns (.plain h) (.iteAns (.plain (.onCtx h)) (.iteAns (.plain h) (.plain (.latchedRead h))))

theorem State.Inv.readPlace {k : Ctx} {a : Place} (h : s.Inv) : (s.readPlace k a).state.Inv := by
  unfold State.readPlace
  split
  · exact .violates h
  · exact .plain h
  · exact .iteAns (.plain h) (.readChan h)
  · exact .iteAns (.plain h) (.readGlobal h)

theorem State.Inv.enqueueWrite {ch : ChId} {w : ChanWrite} (h : s.Inv) : (s.enqueueWrite ch w).Inv :=
  .when (.onChan h) .landAll

theorem State.Inv.haltFromOff {ch : ChId} {v : Word} {src : WriteSrc} (h : s.Inv) : (s.haltFromOff ch v src).1.Inv := by
  unfold State.haltFromOff
  extract_lets n c lock s1
  split
  · dsimp only
    exact .beginLock h
  · exact State.Inv.rejectChan (.ite (.onChan h) h)

theorem State.Inv.modeWrite {ch : ChId} {v : Word} {src : WriteSrc} (h : s.Inv) : (s.modeWrite ch v src).1.Inv :=
  .iteFst
    (.iteFst (.onChan h) (.iteFst (.haltFromOff (.onChan h)) (.rejectChan (.onChan h))))
    (.iteFst (.iteFst (.onChan h) (.iteFst (.transition (.onChan h)) (.rejectChan (.onChan h)))) (.enqueueWrite h))

theorem State.Inv.tripWrite {ch : ChId} {v : Word} {src : WriteSrc} (h : s.Inv) : (s.tripWrite ch v src).1.Inv :=
  .iteFst (.when (.putChan h) .setLive) (.rejectChan (.when (.putChan h) .setLive))

theorem State.Inv.coefWrite {ch : ChId} {k : CoefRef} {v : Word} {src : WriteSrc} (h : s.Inv) :
    (s.coefWrite ch k v src).1.Inv :=
  .iteFst (.rejectCoef h) (.iteFst h (.when (.onChan h) .landAll))

theorem State.Inv.dataWrite {ch : ChId} {v : Word} {src : WriteSrc} (h : s.Inv) : (s.dataWrite ch v src).1.Inv :=
  .iteFst (.rejectCoef (.onChan h)) (.iteFst (.onChan h) (.enqueueWrite (.onChan h)))

theorem State.Inv.safetyWrite {ch : ChId} {off : Nat} {v : Word} {src : WriteSrc} (h : s.Inv) :
    (s.safetyWrite ch off v src).1.Inv :=
  .iteFst (.writeSafChan h) (.iteFst (.writeSafAck h) (.iteFst (.onChan h) h))

theorem State.Inv.stickyWrite {ch : ChId} {r : RegRow} {off : Nat} {v : Word} (h : s.Inv) :
    (s.stickyWrite ch r off v).Inv :=
  .when (.ite h (.onChan h)) .setLive

theorem State.Inv.selectPeer {ch : ChId} {a : WriteSrc} (h : s.Inv) : (s.selectPeer ch a).Inv := by
  unfold State.selectPeer
  split
  · exact .onChan h
  · exact h
  · exact h

theorem State.Inv.arrivalEffect {ch : ChId} {off : Nat} {v : Word} (h : s.Inv) : (s.arrivalEffect ch off v).Inv :=
  .ite (.onChan h) h

theorem State.Inv.takeWrite {ch : ChId} {off : Nat} {v : Word} {src : WriteSrc} (h : s.Inv) :
    (s.takeWrite ch off v src).Inv :=
  .ite
    (.when (.onChan h) fun h' => .mirrorLanded (.selectPeer h'))
    (.ite
      (.ite (.beginLock h) h)
      (by
        split
        · exact .capCtl h
        · exact .onChan h
        · exact .enqueueWrite (.arrivalEffect h)))

theorem State.Inv.fieldWrite {ch : ChId} {r : RegRow} {off : Nat} {v : Word} {src : WriteSrc} (h : s.Inv) :
    (s.fieldWrite ch r off v src).1.Inv := by
  unfold State.fieldWrite
  split
  · exact .rejectChan h
  · exact .iteFst
      (.stickyWrite h)
      (.iteFst (.iteFst (.onChan (.stickyWrite h)) (.stickyWrite h)) (.takeWrite (.stickyWrite h)))

theorem State.Inv.chanWrite {ch : ChId} {off : Nat} {v : Word} {src : WriteSrc} (h : s.Inv) :
    (s.chanWrite ch off v src).1.Inv :=
  .iteFst
    (.modeWrite h)
    (.iteFst
      (.safetyWrite h)
      (.iteFst
        (.rejectChan h)
        (.iteFst
          (.tripWrite h)
          (.iteFst
            (.onChan h)
            (.iteFst
              (.when (.coefWrite h) .onChan)
              (.iteFst
                (.dataWrite h)
                (by
                  split
                  · exact h
                  · exact .iteFst (.onChan h) (.fieldWrite h))))))))

theorem State.Inv.stageWrite {k : Ctx} {ch : ChId} {off : Nat} {v : Word} (h : s.Inv) :
    (s.stageWrite k ch off v).1.Inv :=
  .iteFst h (.iteFst (.gset h) (.iteFst h (.withGrp (.ite (.onChan h) h))))

theorem State.Inv.rejectGlobal {k : Ctx} {off : Nat} {v : Word} (h : s.Inv) : (s.rejectGlobal k off v).Inv :=
  .ite
    (.rejectRecord (.gset h))
    (.ite
      (.rejectRecord h)
      (.ite (.knlReject h) (.ite (.recReject h) (.ite (.pairReject h) (.rejectRecord (.gset h))))))

theorem State.Inv.rejectImage {k : Ctx} {off : Nat} {v : Word} {n : Nat} (h : s.Inv) : (s.rejectImage k off v n).Inv :=
  .rejectRecord (.gset (.ite (.gset h) (.gset h)))

theorem State.Inv.unmasked {old : Word} (h : s.Inv) : (s.unmasked old).Inv := .foldl h fun _ _ h => .ite (.message h) h

theorem State.Inv.msixWrite {off : Nat} {v : Word} (h : s.Inv) : (s.msixWrite off v).Inv :=
  .ite h (.when (.withHost h) fun h' => .message (.withHost h'))

theorem State.Inv.stageDma {k : Ctx} {f : DmaDesc → DmaDesc} (h : s.Inv) : (s.stageDma k f).Inv := .withDma h rfl

theorem OptInv.writeGcap {k : Ctx} {off : Nat} {v : Word} (h : s.Inv) : OptInv (s.writeGcap k off v) :=
  .ite
    (.some (.capGlobalForce h))
    (.ite
      (.ite .none (.some (.stageDma h)))
      (.ite
        (.ite .none (.some (.stageDma h)))
        (.ite (.some (.stageDma h)) (.ite (.ite .none (.some (.dmaGo h))) (.some (.plainWriteG h))))))

theorem State.Inv.writeSafBlock {k : Ctx} {off : Nat} {v : Word} (h : s.Inv) : (s.writeSafBlock k off v).1.Inv :=
  .iteFst (.writeSafCtl h) (.iteFst (.writeSafGlobal h) (.iteFst (.when (.withSaf h) .submitFrame) (.plainWriteG h)))

theorem SumInv.writeImgBlock {off : Nat} {v : Word} (h : s.Inv) : SumInv (s.writeImgBlock off v) :=
  .ite (.writeImgCtl h) (.ite (.writeImgData h) (.ite (.writeImgFuse h) (.ite (.writeParCtl h) (.writeImgPlain h))))

theorem State.Inv.writeRecBlock {off : Nat} {v : Word} (h : s.Inv) : (s.writeRecBlock off v).1.Inv :=
  .iteFst (.writeRecCtl h) (.iteFst (.writeRptr h) (.iteFst (.writeCalCtl h) (.iteFst (.plainWriteG h) h)))

theorem State.Inv.writeHostBlock {k : Ctx} {off : Nat} {v : Word} (h : s.Inv) : (s.writeHostBlock k off v).1.Inv :=
  .iteFst
    (.unmasked (.plainWriteG h))
    (.iteFst (.writeGrpCtl h) (.iteFst (.writeGrpGo h) (.iteFst (.writeMirCtl h) (.plainWriteG h))))

theorem State.Inv.globalWrite {k : Ctx} {off : Nat} {v : Word} (h : s.Inv) : (s.globalWrite k off v).1.Inv :=
  .iteFst
    (.writeChrst h)
    (.unlessFst
      (.plainWriteG h)
      fun h' => .iteFst
        (.whenFst (.iteFst h' h) .rejectGlobal)
        (.iteFst
          (.whenFst (.writeHostBlock h) .rejectGlobal)
          (.iteFst
            (.msixWrite h)
            (.iteFst
              (by
                split
                · rename_i t e
                  exact OptInv.kennelWrite h t e
                · exact .iteFst (.rejectGlobal h) h)
              (.iteFst
                (.whenFst (.writeRecBlock h) .rejectGlobal)
                (.iteFst
                  (.writeSafBlock h)
                  (.iteFst
                    (.whenFst (.iteFst (.writePairCtl h) (.iteFst h' h)) .rejectGlobal)
                    (.iteFst
                      (by
                        split
                        · exact .rejectImage h
                        · rename_i t e
                          exact SumInv.writeImgBlock h t e)
                      (by
                        split
                        · rename_i t e
                          exact OptInv.writeGcap h t e
                        · exact .iteFst (.rejectGlobal h) h)))))))))

theorem State.Inv.repairWrite {ch : ChId} {off : Nat} {v : Word} {src : WriteSrc} (h : s.Inv) :
    (s.repairWrite ch off v src).Inv :=
  .ite
    (.rejectChan (.onChan h))
    (.ite
      (.coefWrite h)
      (.ite
        (.dataWrite h)
        (by
          split
          · exact .rejectChan h
          · exact h)))

theorem State.Inv.writeChan {k : Ctx} {off : Nat} {v : Word} (h : s.Inv) : (s.writeChan k off v).state.Inv := by
  unfold State.writeChan
  split
  · exact .violates h
  · dsimp only
    split
    · exact .repairWrite h
    · split
      · split <;> exact .stageWrite h
      · split <;> exact .chanWrite h

theorem State.Inv.writeCtx {k : Ctx} {off : Nat} {v : Word} (h : s.Inv) : (s.writeCtx k off v).state.Inv :=
  .iteAns (.onCtx h) (.iteAns (.plain (.onCtx h)) (.iteAns h (.plain (.onCtx h))))

theorem State.Inv.writeGlob {k : Ctx} {off : Nat} {v : Word} (h : s.Inv) : (s.writeGlob k off v).state.Inv :=
  .globalWrite h

theorem State.Inv.writePlace {k : Ctx} {v : Word} {a : Place} (h : s.Inv) : (s.writePlace k v a).state.Inv := by
  unfold State.writePlace
  split
  · exact .violates h
  · exact .writeCtx h
  · exact .writeChan h
  · exact .writeGlob h

theorem State.Inv.access {k : Ctx} {a : Nat} {crcBad : Bool} {w : Option Word} (h : s.Inv) :
    (s.access k a crcBad w).state.Inv :=
  .iteAns
    (.violates h)
    (.iteAns
      (.violates h)
      (by
        split
        · exact .readPlace h
        · exact .writePlace h))

theorem State.Inv.report {r : Answer} {k : Ctx} {a : Nat} {wr : Bool} (h : r.state.Inv) : (r.report k a wr).Inv := by
  have hv : (if r.cause = 0 then r.state else r.state.violation k r.cause a wr).Inv := .ite h (.violation h)
  unfold Answer.report
  dsimp only
  split
  · exact .clockLostStatus hv
  · exact hv

theorem State.Inv.answer {a : Nat} {fits crcBad : Bool} {len : Nat} {w : Option Word} (h : s.Inv) :
    (s.answer a fits crcBad len w).state.Inv :=
  .ite (.withFree (.report (.iteAns (.access h) h))) (.report (.iteAns (.access h) h))

theorem State.Inv.request {acc : HostAccess} {w : Option Word} (h : s.Inv) : (s.request acc w).Inv :=
  .ite h (.ite (.withHost h) (.withHost (.answer h)))

theorem State.Inv.readAt {a : Nat} (h : s.Inv) : (s.readAt a).Inv := .request h

theorem State.Inv.writeAt {a : Nat} {v : Word} (h : s.Inv) : (s.writeAt a v).Inv := .request h

theorem State.Inv.writeWindow {k : Ctx} {off : Nat} {v : Word} (h : s.Inv) : (s.writeWindow k off v).Inv := .writeAt h

theorem State.Inv.writeAlias {k : Ctx} {off : Nat} {v : Word} (h : s.Inv) : (s.writeAlias k off v).Inv := .writeAt h

theorem ResultInv.engDdatReadServe {k : Ctx} (h : s.Inv) : ResultInv (execEngDdatReadServe k s) := by
  unfold execEngDdatReadServe
  split
  · exact .next h
  · split
    · exact .next h
    · exact .next (.withHost h)

/-! ## Machine/HostCmds.lean -/

theorem ResultInv.safetyParamWrite {k : Ctx} {r : SafParam} {v : Word} (h : s.Inv) :
    ResultInv (execSafetyParamWrite k r v s) := by
  unfold execSafetyParamWrite
  split
  · exact .next (.writeAlias h)
  · exact .next (.writeAlias h)
  · exact .next (.writeWindow h)
  · exact .next (.writeWindow h)

theorem State.Inv.knlAccess {a : Accessor} {off : Nat} {v : Word} (h : s.Inv) : (s.knlAccess a off v).Inv := by
  unfold State.knlAccess
  split
  · exact .writeAlias h
  · exact .ite (.portWrite h) h

theorem State.Inv.mirrorReply {seq : Nat} {ok : Bool} {reason : Nat} (h : s.Inv) : (s.mirrorReply seq ok reason).Inv :=
  .withMir h

theorem State.Inv.mirrorTake {p : MirWrite} (h : s.Inv) : (s.mirrorTake p).1.Inv := by
  unfold State.mirrorTake
  split
  · exact .coefWrite h
  · split
    · exact .fieldWrite h
    · exact h

theorem ResultInv.mirrorWriteReceive {p : MirWrite} (h : s.Inv) : ResultInv (execMirrorWriteReceive p s) :=
  .ite
    (.next h)
    (.ite
      (.next (.mirrorReply h))
      (.ite (.next (.mirrorReply (.mirrorTake h))) (.next (.mirrorReply (.withFree (.mirrorTake h))))))

end Sys2Proof.Machine
end

section
/-! SUPPORT. Every step keeps the invariant (O59): ticks, the other commands and the step. -/

namespace Sys2Proof.Machine

variable {s : State}

/-! ## Machine/TickBoundary.lean -/

theorem State.Inv.countLaw {ch : ChId} {old : Word} (h : s.Inv) : (s.countLaw ch old).Inv :=
  .when (.ite (.countCh (.onChan h)) h) fun h' => .countCh (.onChan h')

theorem State.Inv.endLaw {ch : ChId} (h : s.Inv) : (s.endLaw ch).Inv := .ite (.setLive (.countLaw (.onChan h))) h

theorem State.Inv.endOfTick {ch : ChId} (h : s.Inv) : (s.endOfTick ch).Inv :=
  .thermalTick (.when (.onChan (.endLaw h)) .onChan)

theorem State.Inv.spFollow {ch : ChId} (h : s.Inv) : (s.spFollow ch).Inv := .ite h (.unless (.putChan h) .withFree)

theorem State.Inv.matchTick {ch : ChId} (h : s.Inv) : (s.matchTick ch).Inv := .ite h (.withFree (.putChan h))

theorem State.Inv.startOfTick {ch : ChId} {blend entered : Bool} {prev : Nat} (h : s.Inv) :
    (s.startOfTick ch blend entered prev).Inv :=
  .spFollow (.matchTick (.lawRun (.onChan h)))

theorem State.Inv.padsAtBoundary {ch : ChId} (h : s.Inv) : (s.padsAtBoundary ch).Inv :=
  .ite (.gatesFollow (.contactors (.onPair h))) h

theorem State.Inv.boundary {ch : ChId} {env : TickEnv} (h : s.Inv) : (s.boundary ch env).Inv :=
  .unless
    (.snapshotDue
      (.landCoefs
        (.foldl
          (.when
            (.modeBoundary
              (.padsAtBoundary
                (.foldl (.onChan (.groupApplied (.onChan (.ite h (.endOfTick h))))) fun _ _ h => .landPlain h)))
            .shadowBoundary)
          fun _ _ h => .landJudged h)))
    .startOfTick

theorem ResultInv.tickBoundary {ch : ChId} {env : TickEnv} (h : s.Inv) : ResultInv (execTickBoundary ch env s) :=
  .ite
    (.next (.landAll h))
    (.ite
      (.next h)
      (by
        split
        · exact .next (.landAll (.overrun h))
        · exact .next (.boundary h)))

/-! ## Machine/Step.lean -/

theorem State.Inv.idle (h : s.Inv) : s.idle.Inv := by
  have hf : ((List.finRange 12).foldl (fun s ch => s.innerFollow ch) s).Inv := .foldl h fun _ _ h => .innerFollow h
  unfold State.idle
  generalize List.foldl _ _ _ = t at hf ⊢
  exact .calAdvance (.ite (.withKnl (.withTime hf) rfl) (.withTime hf))

/-! ## Every command, and the step -/

/-- Whatever a command does, the state it leaves keeps the invariant. -/
theorem exec_keepsInv (h : s.Inv) (i : Instr) : ResultInv (exec i s) := by
  cases i with
  | tickBoundary => exact .tickBoundary h
  | carrierUpdatePoint => exact .ite (.next h) (.next (.recordInterlocks (.putChan h)))
  | refreshInsert | skewCrossing | skewWindowExpiry | measLost | limRelease | preDone | bsDone | rideReturn
  | handoverBlendEnd | fingerAcquired | packBackoffEnd | stiffSet | stiffClear | bandSearchEnd | alignLocked
  | alignUnlocked | testEnd | holdoffEnd => exact .ite (.next (.putChan h)) (.next h)
  | tickOverrun => exact .next (.ite (.overrun h) h)
  | lockstepMismatch => exact .ite (.next h) (.next (.record (.hardFault (.putChan h))))
  | uncorrectableEcc => exact .ite (.next h) (.next (.bootSettled (.record (.hardFault (.putChan h)))))
  | fabricParityError => exact .ite (.next h) (.next (.record (.hardFault h)))
  | mirrorFrameSend | heartbeatSend => exact .ite (.next (.withLink h)) (.next h)
  | nop | ldi | mov | ld | ldx | st | stx | ldc | sel | add | sub | neg | abs | min | max | cmp | and | or | xor
  | ash | lsh | mulv | clr | lda | macv | ext | div | sqrt => exact .instr h
  | inPort => exact .in h
  | mailboxWaitEnd => exact .mailboxWaitEnd h
  | outPort => exact .next (.runIf h (.portOut h))
  | pub => exact .next (.runIf h (.onChan h))
  | mul | mac | msu | dmac | pmac => exact .instrC h
  | br => exact .ite (.next h) (.ite (.next (.onEng h)) (.next (.onEng h)))
  | call | loop => exact .ite (.next h) (.ite .fault (.next (.onEng h)))
  | ret => exact .ret h
  | tend => exact .tend h
  | reservedOpcode => exact .ite (.next h) (.next (.record (.onEng (.onChan h))))
  | firOutput => exact .ite (.next h) (.next (.when (.putChan h) .countOvwr))
  | chainOutput => exact .chainOutput h
  | substituteWord | packChip | packCodePeriod | packFrameEnd => exact .ite (.next h) (.next (.putChan h))
  | mclkLoss => exact .ite (.next (.foldl h fun _ _ h => .mclkLost h)) (.next h)
  | clockRecovery => exact .ite (.next (.foldl h fun _ _ h => .mclkBack h)) (.next h)
  | fastPathFillEnd | fastComparatorChange => exact .ite (.next (.fastBits h)) (.next h)
  | skarm | firCdatWrite | firXfGo | firBankWrite | dcbEstWrite | sdiTrimWrite | sdiSrcWrite | engCdatWrite
  | engDdatWrite | lawParamWrite | modeRequest | safeLatchClear | packEnable | packDisable | packPselWrite
  | tripClear | pllRelock | pllRampGo | pllRampHold | pllLevel | ackDisc | ackCont | capArm | capDisarm | capForce
  | capHclr | capAck | chselWrite | groupStagedWrite => exact .next (.writeWindow h)
  | engDdatRead | safTxf0Read | counterLowRead => exact .next (.readAt h)
  | engDdatReadServe => exact .engDdatReadServe h
  | prechargeTimeout => exact .ite (.next (.record (.contactors (.putChan h)))) (.next h)
  | deadBusTimeout | rsyMatchComplete => exact .ite (.next (.contactors (.putChan h))) (.next h)
  | busFoundLive | resyncTimeout => exact .ite (.next (.record (.putChan h))) (.next h)
  | rideTimeout => exact .ite (.next (.latchSafe h)) (.next h)
  | fingerLost => exact .ite (.next (.record (.countCh (.putChan h)))) (.next h)
  | packFrameReceived => exact .packFrameReceived h
  | packDuplicate => exact .packDuplicate h
  | driverFaultFiltered => exact .driverFaultFiltered h
  | blankingEnd => exact .ite (.next (.unless (.putChan h) .desat)) (.next h)
  | tsoftExpiry | toffExpiry | legFaultRelease => exact .next (.putChan h)
  | tordExpiry => exact .tordExpiry h
  | desatWindowClose => exact .desatWindowClose h
  | legOffTimeout => exact .ite (.next (.uvrep h)) (.next h)
  | brakeMinTimeExpiry => exact .next (.brakeFollow (.putChan h))
  | calFail => exact .next (.record (.onChan h))
  | refActivityWindow => exact .refActivityWindow h
  | refMismatchWindow | d3hotTransition => exact .ite (.next (.gset h)) (.next h)
  | refEdgeMissing => exact .refEdgeMissing h
  | lockWindow => exact .lockWindow h
  | lockTimeout => exact .ite (.next (.lockFail h)) (.next h)
  | ceilingGuard => exact .ite (.next (.clockLoss h)) (.next h)
  | channelStart => exact .channelStart h
  | rampSegmentEnd => exact .rampSegmentEnd h
  | hostPllLock | vbatKnlChange => exact .next (.gset h)
  | hostPllLoss => exact .next (.when (.record (.gset h)) fun h1 => .pcieDown (.pcieReset h1))
  | linkTrainingEnd => exact .linkTrainingEnd h
  | retrain | leashClaim | leashRelease | safetyFrameSubmit | safetyConfirm | capGlobalForce | captureDmaGo
  | recRptrWrite | storeRetry | calSet | calSetpps | intMaskWrite | groupOpen | groupAbort | groupGo | mirrorResync
  | stage | stageFlash | loadFull | updOpen | updCommit | imgAbort | imgDataWrite | fuseProg | fuseRevoke
  | paramSave | channelReset => exact .next (.writeAlias h)
  | linkDown => exact .linkDown h
  | mirrorFrameReceive => exact .mirrorFrameReceive h
  | heartbeatReceive => exact .heartbeatReceive h
  | heartbeatTimeout => exact .heartbeatTimeout h
  | leashToggle => exact .next (.onPair h)
  | leashStateChange => exact .leashStateChange h
  | leashReadbackFault => exact .leashReadbackFault h
  | releaseGuardExpiry => exact .ite (.next (.rearm (.when (.setCs h) .onPair))) (.next h)
  | houndTestEnd => exact .houndTestEnd h
  | houndHealthReport => exact .next (.foldl h fun _ _ h => .healthReport h)
  | safetyStrobe => exact .next (.ite (.strobe h) h)
  | discrepancyLatch => exact .ite (.next (.record (.raiseSafe (.countCh (.putChan h))))) (.next h)
  | contactorSettleEnd => exact .contactorSettleEnd h
  | contactorDebounceEnd => exact .ite (.next (.putChan h)) (.ite (.next (.contactorFault h)) (.next h))
  | bcWatchdogExpiry => exact .ite (.next (.connectionStop (.faultClass h))) (.next h)
  | safetyFramePublish => exact .ite (.next (.irq (.withSaf (.foldl h fun _ _ h => .gput h)))) (.next h)
  | safetyParamWrite => exact .safetyParamWrite h
  | safetyCheckDone => exact .safetyCheckDone h
  | ginhSet | ginhClr | snSet | snClr | krst | knlInhWrite | hostWatchdogEnable | hostWatchdogKick | lastWordCommit
  | lastWordSelect => exact .next (.knlAccess h)
  | hostWatchdogExpiry => exact .hostWatchdogExpiry h
  | safetySlotExpiry => exact .safetySlotExpiry h
  | supplyGiveUp => exact .next (.supplyGiveUp h)
  | kennelPowerOn => exact .kennelPowerOn h
  | resetRelease => exact .resetRelease h
  | padRelease => exact .padRelease h
  | kennelPortWrite => exact .ite (.next h) (.ite (.next (.portWrite h)) (.next (.portNack h)))
  | kennelPortRead => exact .ite (.next h) (.ite (.next (.withKnl h rfl)) (.next (.portNack h)))
  | kennelPortTimeout => exact .next (.withKnl h rfl)
  | captureBaseSample => exact .captureBaseSample h
  | postprocDone => exact .postprocDone h
  | captureDmaDone => exact .next (.dmaEnd h)
  | captureEccAbort => exact .next (.record (.when (.onChan h) .gset))
  | recordRequest => exact .next (.record h)
  | recordWrite => exact .recordWrite h
  | recordCloseTimeout => exact .next (.closeOpen h)
  | recorderStartSearchEnd => exact .recorderStartSearchEnd h
  | storeFetchDone => exact .ite (.next (.withRcd (.gset h))) (.next h)
  | persistBatchStart => exact .persistBatchStart h
  | persistBatchCommit => exact .persistBatchCommit h
  | storeFail => exact .storeFail h
  | storeProbeDone => exact .storeProbeDone h
  | setppsTimeout => exact .ite (.next (.gset (.gset h))) (.next h)
  | ppsEdge => exact .ppsEdge h
  | ppsLost => exact .ite (.next (.gset (.gset (.withCal h)))) (.next h)
  | dieSensorConversion => exact .dieSensorConversion h
  | throttleWindow => exact .ite (.next (.capThrottle h)) (.next h)
  | qspiFrame => exact .ite (.next h) (.ite (.next (.gset h)) (.next (.withHost (.answer h))))
  | hostReset => exact .hostReset h
  | groupDone => exact .ite (.next (.groupComplete h)) (.next h)
  | mirrorWriteReceive => exact .mirrorWriteReceive h
  | mirrorWriteAnswer | mirrorWriteTimeout => exact .next (.mirrorDone h)
  | registerWrite | hostRead => exact .next (.request h)
  | imageVerifyDone => exact .imageVerifyDone h
  | flashOpDone => exact .flashOpDone h
  | repairLoadEnd => exact .repairLoadEnd h
  | fuseOpDone => exact .fuseOpDone h
  | paramSaveDone => exact .paramSaveDone h
  | voltageClassLatch => exact .next (.when (.withPins h) .supplyGiveUp)
  | refIntervalFail => exact .next (.setRefAct (.setGoodWindows h))
  | claimCheckEnd => exact .claimCheckEnd h
  | pcieLinkTrainingEnd => exact .ite (.next (.gset (.gset (.gset h)))) (.next h)
  | testReset => exact .ite (.next (.withPins h)) (.next (.withPins (.clearDevice (.withPins h))))
  | supplyReturn => exact .ite (.next (.gset (.resetSequence (.gset h)))) (.next h)
  | kennelPowerOff => exact .kennelPowerOff h

/-- A step runs the front command, or lets the time pass; either keeps the invariant. -/
theorem step_keepsInv (h : s.Inv) : ResultInv (step s) := by
  unfold step
  split
  · exact .next (.idle h)
  · exact exec_keepsInv (.withPending h) _

/-- Settles O59, from one lemma for each operation of the model, in the order of the definitions. -/
theorem stepKeepsInv : Obligations.StepKeepsInv := fun _ t h => step_keepsInv h t

end Sys2Proof.Machine
end

section
/-! SUPPORT. A step without a command (O57): what an idle cycle changes. -/

namespace Sys2Proof.Machine

/-- A channel whose inner pads have followed an inhibit (R264). -/
def Chan.innerFollowed (c : Chan) : Chan := { c with pwm := { c.pwm with lag := 0 } }

theorem State.innerFollow_own (s : State) (ch : ChId) : (s.innerFollow ch).chan ch = (s.chan ch).innerFollowed := by
  unfold State.innerFollow
  split
  · next hlag => rw [Chan.innerFollowed, ← hlag]
  · exact State.chan_putChan_same ..

theorem State.innerFollow_other (s : State) (ch j : ChId) (h : j ≠ ch) : (s.innerFollow ch).chan j = s.chan j := by
  unfold State.innerFollow
  split
  · rfl
  · exact State.chan_putChan_ne _ _ h

/-- The part of the state that the inner pads do not touch: the queue, the times, the registers, the calendar. -/
theorem State.innerFollow_frame (s : State) (ch : ChId) :
    (s.innerFollow ch).pending = s.pending ∧ (s.innerFollow ch).time = s.time ∧ (s.innerFollow ch).g = s.g ∧
      (s.innerFollow ch).cal = s.cal := by
  unfold State.innerFollow
  split <;> exact ⟨rfl, rfl, rfl, rfl⟩

/-- Every channel's inner pads have followed. -/
def State.allInnerFollow (s : State) : State := (List.finRange 12).foldl (fun s ch => s.innerFollow ch) s

theorem State.allInnerFollow_chan (s : State) (ch : ChId) : (s.allInnerFollow).chan ch = (s.chan ch).innerFollowed :=
  foldl_finRange_channel (view := fun s ch => s.chan ch) (g := fun _ c => c.innerFollowed)
    (fun s i => s.innerFollow_own i) (fun s i j h => s.innerFollow_other i j h) s ch

theorem State.allInnerFollow_frame (s : State) :
    s.allInnerFollow.pending = s.pending ∧ s.allInnerFollow.time = s.time ∧ s.allInnerFollow.g = s.g ∧
      s.allInnerFollow.cal = s.cal :=
  foldl_rel (fun s t => t.pending = s.pending ∧ t.time = s.time ∧ t.g = s.g ∧ t.cal = s.cal)
    (fun _ => ⟨rfl, rfl, rfl, rfl⟩)
    (fun _ _ _ ⟨a, b, c, d⟩ ⟨p, q, r, u⟩ => ⟨p.trans a, q.trans b, r.trans c, u.trans d⟩) _
    (fun s ch => s.innerFollow_frame ch) _ s

/-- Without a rate correction the calendar gains 10 ns in a cycle (R428). -/
theorem State.calAdvance_ns (s : State) (hrate : (s.gget Reg.CAL_RATE).toInt = 0) (hfrac : s.cal.frac < 2 ^ 32) :
    s.calAdvance.cal.ns = s.cal.ns + 10 := by
  have hstep : s.calAdvance.cal.ns = s.cal.ns + (s.cal.frac + (10 * 2 ^ 32 * (1000000000 + (0 : Int)) / 1000000000).toNat)
      / 2 ^ 32 := by rw [← hrate]; rfl
  rw [hstep]
  have htoNat : (10 * 2 ^ 32 * (1000000000 + (0 : Int)) / 1000000000).toNat = 10 * 2 ^ 32 := by decide
  omega

/-- The rest of an idle cycle: the reference's 10 ns, the kennel's oscillator and the calendar (R376, R428). -/
def State.idleRest (s : State) (k : Kennel) : State :=
  ({ s with time := { s.time with refNs := s.time.refNs + 10 }, knl := k } : State).calAdvance

theorem State.idle_eq (s : State) : ∃ k, s.idle = s.allInnerFollow.idleRest k := by
  unfold State.idle
  rw [← State.allInnerFollow]
  generalize s.allInnerFollow = u
  dsimp only
  split
  · exact ⟨{ u.knl with time := u.knl.time + 1 }, rfl⟩
  · exact ⟨u.knl, rfl⟩

theorem State.idle_fields (s : State) : s.idle.pending = s.pending ∧ s.idle.time.refNs = s.time.refNs + 10 ∧
    (∀ ch, s.idle.chan ch = (s.chan ch).innerFollowed) ∧
    ((s.gget Reg.CAL_RATE).toInt = 0 → s.cal.frac < 2 ^ 32 → s.idle.cal.ns = s.cal.ns + 10) := by
  obtain ⟨hpending, htime, hg, hcal⟩ := s.allInnerFollow_frame
  have hchan := s.allInnerFollow_chan
  obtain ⟨k, hidle⟩ := s.idle_eq
  have hget : s.allInnerFollow.gget Reg.CAL_RATE = s.gget Reg.CAL_RATE := by rw [State.gget, hg, State.gget]
  rw [hidle]
  generalize s.allInnerFollow = u at *
  refine ⟨hpending, congrArg (·.refNs + 10) htime, hchan, fun hrate hfrac => ?_⟩
  rw [← hcal] at hfrac ⊢
  exact State.calAdvance_ns _ (hget ▸ hrate) hfrac

/-- Settles O57: the definition of `step`, and what an idle cycle changes. -/
theorem stepRunsFront : Obligations.StepRunsFront := by
  intro s
  constructor
  · intro c rest hp
    unfold step
    rw [hp]
  · intro hp
    obtain ⟨hpending, href, hchan, hcal⟩ := s.idle_fields
    exact ⟨s.idle, by unfold step; rw [hp], hpending.trans hp, href, hchan, hcal⟩

end Sys2Proof.Machine
end

section
/-! SUPPORT. The KENNEL's inhibits (O43): a word of KNL_CTL, the global inhibit and SAFE_N, and a host's write. -/

namespace Sys2Proof.Machine

/-! ## KNL_CTL (R378, R391, R393) -/

theorem getField_knlCtlWord (key : BitVec 16) (bit : Nat) : getField (knlCtlWord key bit) Fld.KNL_CTL_KEY = key.toNat := by
  rw [knlCtlWord, getField_setField _ _ _ (by decide)]
  exact Nat.mod_eq_of_lt key.isLt

theorem getLsbD_knlCtlWord (key : BitVec 16) {bit i : Nat} (h : i < 5) :
    (knlCtlWord key bit).getLsbD i = decide (i = bit) := by
  rw [knlCtlWord, getLsbD_setField, if_neg (by simp; omega), BitVec.getLsbD_shiftLeft]
  by_cases hb : i = bit
  · simp [hb]; omega
  · simp [hb]; omega

/-- The command bits of a word of KNL_CTL. -/
theorem knlCtlWord_bits (key : BitVec 16) (bit : Nat) :
    (knlCtlWord key bit).getLsbD 0 = decide (0 = bit) ∧ (knlCtlWord key bit).getLsbD 1 = decide (1 = bit) ∧
    (knlCtlWord key bit).getLsbD 2 = decide (2 = bit) ∧ (knlCtlWord key bit).getLsbD 3 = decide (3 = bit) ∧
    (knlCtlWord key bit).getLsbD 4 = decide (4 = bit) :=
  ⟨getLsbD_knlCtlWord key (by decide), getLsbD_knlCtlWord key (by decide), getLsbD_knlCtlWord key (by decide),
    getLsbD_knlCtlWord key (by decide), getLsbD_knlCtlWord key (by decide)⟩

theorem State.writeKnlCtl_ginhSet (s : State) (a : Accessor) :
    s.writeKnlCtl a (knlCtlWord 0 0) = some (s.setGinh 1).updateSafeN := by
  obtain ⟨b0, b1, b2, b3, b4⟩ := knlCtlWord_bits 0 0
  simp only [State.writeKnlCtl, b0, b1, b2, b3, b4]
  simp

theorem State.writeKnlCtl_ginhClr {s : State} (a : Accessor) (hslot : s.gbit Reg.KNL_STAT Fld.KNL_STAT_SSLOT = false)
    (harm : s.gbit Reg.KNL_STAT Fld.KNL_STAT_SSARM = true) (hpads : s.gbit Reg.KNL_STAT Fld.KNL_STAT_PADREL = true) :
    s.writeKnlCtl a (knlCtlWord 0x4B4E 1) = some (s.setGinh 0).updateSafeN := by
  obtain ⟨b0, b1, b2, b3, b4⟩ := knlCtlWord_bits 0x4B4E 1
  simp only [State.writeKnlCtl, b0, b1, b2, b3, b4, getField_knlCtlWord, hslot, harm, hpads]
  simp

theorem State.writeKnlCtl_noKey (s : State) (a : Accessor) {key : BitVec 16} {bit : Nat} (hkey : key ≠ 0x4B4E)
    (hbit : bit = 1 ∨ bit = 3 ∨ bit = 4) : s.writeKnlCtl a (knlCtlWord key bit) = none := by
  have hk : ¬ key.toNat = 0x4B4E := fun h => hkey (BitVec.eq_of_toNat_eq h)
  obtain ⟨-, b1, -, b3, b4⟩ := knlCtlWord_bits key bit
  have hcmd : (decide (1 = bit) || decide (3 = bit) || decide (4 = bit)) = true := by
    rcases hbit with rfl | rfl | rfl <;> rfl
  simp only [State.writeKnlCtl, b1, b3, b4, getField_knlCtlWord, hk, hcmd]
  simp

theorem State.writeKnlCtl_snSet (s : State) (a : Accessor) :
    s.writeKnlCtl a (knlCtlWord 0 2) = some ({ s with knl := { s.knl with snSet := true } } : State).updateSafeN := by
  obtain ⟨b0, b1, b2, b3, b4⟩ := knlCtlWord_bits 0 2
  simp only [State.writeKnlCtl, b0, b1, b2, b3, b4]
  simp

theorem State.writeKnlCtl_snClr (s : State) (a : Accessor) : s.writeKnlCtl a (knlCtlWord 0x4B4E 3) =
    some ({ s with knl := { s.knl with snWd := false, snSet := false } } : State).updateSafeN := by
  obtain ⟨b0, b1, b2, b3, b4⟩ := knlCtlWord_bits 0x4B4E 3
  simp only [State.writeKnlCtl, b0, b1, b2, b3, b4, getField_knlCtlWord]
  simp

/-! ## The channels follow an inhibit (R263, R321, R380) -/

/-- A loop over the channels sets each channel's property where a step sets its own and keeps the others'. -/
theorem foldl_finRange_sets {f : State → ChId → State} {P : State → Prop} {Q : ChId → State → Prop}
    (hkeeps : ∀ s i, P s → P (f s i)) (hsets : ∀ s i, P s → Q i (f s i))
    (hstays : ∀ s i j, P s → Q j s → Q j (f s i)) {s : State} (h : P s) :
    P ((List.finRange 12).foldl f s) ∧ ∀ j, Q j ((List.finRange 12).foldl f s) := by
  have hloop : ∀ l : List ChId, ∀ s, P s → P (l.foldl f s) ∧ (∀ j, Q j s ∨ j ∈ l → Q j (l.foldl f s)) := by
    intro l
    induction l with
    | nil => exact fun s h => ⟨h, fun j hj => hj.resolve_right (List.not_mem_nil)⟩
    | cons i l ih =>
      intro s h
      obtain ⟨hp, hq⟩ := ih (f s i) (hkeeps s i h)
      refine ⟨hp, fun j hj => hq j ?_⟩
      rcases hj with hj | hj
      · exact .inl (hstays s i j h hj)
      rcases List.mem_cons.1 hj with rfl | hj
      · exact .inl (hsets s j h)
      · exact .inr hj
  obtain ⟨hp, hq⟩ := hloop (List.finRange 12) s h
  exact ⟨hp, fun j => hq j (.inr (List.mem_finRange j))⟩

theorem State.rearm_gfld (s : State) (ch : ChId) {o : Nat} (f : BitField) (h : o < 0x4100) :
    (s.rearm ch).gfld o f = s.gfld o f := by
  obtain ⟨g, -, ht⟩ := s.rearm_eq ch
  rw [ht, State.onPair_eq, State.gfld, State.gget_putChan]
  exact State.gfld_gset_ne _ _ (.inl (Reg.PAIR_CHSTAT_ne_of_lt ch h).symm)

/-- ARMED and the claim leave a channel but for its part in the pair. -/
theorem State.rearm_chan (s : State) (ch : ChId) : ∃ p, (s.rearm ch).chan ch = { s.chan ch with pair := p } := by
  obtain ⟨g, -, ht⟩ := s.rearm_eq ch
  exact ⟨_, by rw [ht, State.onPair_eq, State.chan_putChan_same, State.setCs_chan]⟩

theorem State.rearm_chan_ne (s : State) {ch j : ChId} (h : j ≠ ch) : (s.rearm ch).chan j = s.chan j := by
  obtain ⟨g, -, ht⟩ := s.rearm_eq ch
  rw [ht, State.onPair_eq, State.chan_putChan_ne _ _ h, State.setCs_chan]

/-- A channel's gates and its claim follow an inhibit. -/
def State.inhibitFollows (s : State) (ch : ChId) : State := (s.gatesFollow ch).rearm ch

theorem State.inhibitFollows_gfld (s : State) (ch : ChId) {o : Nat} (f : BitField) (h : o < 0x4100) (hcnt : o ≠ Reg.REC_CNT)
    (hint : o ≠ Reg.INT_STAT) : (s.inhibitFollows ch).gfld o f = s.gfld o f :=
  (State.rearm_gfld _ ch f h).trans (s.gatesFollow_gfld ch f hcnt hint)

theorem State.inhibitFollows_mode (s : State) (ch j : ChId) : ((s.inhibitFollows ch).chan j).mode = (s.chan j).mode := by
  by_cases h : j = ch
  · subst h
    obtain ⟨p, hp⟩ := (s.gatesFollow j).rearm_chan j
    rw [State.inhibitFollows, hp]
    exact (s.stays_gatesFollow j).mode
  · rw [State.inhibitFollows, State.rearm_chan_ne _ h, State.gatesFollow_chan_ne _ h]

theorem State.gatesFollow_driving (s : State) (ch : ChId) (hbar : s.gatesBarred ch = true) (hmode : (s.chan ch).mode ≠ 8) :
    ((s.gatesFollow ch).chan ch).pwm.driving = false := by
  unfold State.gatesFollow
  refine (State.stays_brakeFollow _ ch).drv ?_
  rw [if_neg hmode]
  split
  · rw [State.onChan_eq, State.chan_putChan_same]
    rfl
  · rw [State.onChan_eq, State.chan_putChan_same]
    rfl

theorem State.inhibitFollows_driving (s : State) (ch : ChId) (hbar : s.inhibited ch = true) (hmode : (s.chan ch).mode ≠ 8) :
    ((s.inhibitFollows ch).chan ch).pwm.driving = false := by
  obtain ⟨p, hp⟩ := (s.gatesFollow ch).rearm_chan ch
  rw [State.inhibitFollows, hp]
  exact s.gatesFollow_driving ch (by simp [State.gatesBarred, State.padsInhibited, hbar]) hmode

theorem State.inhibitsFollow_eq (s : State) : s.inhibitsFollow = (List.finRange 12).foldl State.inhibitFollows s := rfl

theorem State.inhibitsFollow_gfld (s : State) {o : Nat} (f : BitField) (h : o < 0x4100) (hcnt : o ≠ Reg.REC_CNT)
    (hint : o ≠ Reg.INT_STAT) : s.inhibitsFollow.gfld o f = s.gfld o f :=
  s.inhibitsFollow_eq ▸ foldl_rel (fun s t : State => t.gfld o f = s.gfld o f) (fun _ => rfl)
    (fun _ _ _ h k => k.trans h) State.inhibitFollows (fun s ch => s.inhibitFollows_gfld ch f h hcnt hint) _ s

theorem State.inhibited_eq {s t : State} (h : ∀ f, t.gfld Reg.KNL_STAT f = s.gfld Reg.KNL_STAT f) (ch : ChId) :
    t.inhibited ch = s.inhibited ch := by
  have hchinh := h Fld.KNL_STAT_CHINH
  unfold State.gfld at hchinh
  unfold State.inhibited State.gbit
  rw [hchinh, h]

/-- An inhibit of every channel takes every gate pad of its own off (R263, R380). -/
theorem State.inhibitsFollow_driving (s : State) (hbar : ∀ ch, s.inhibited ch = true) (ch : ChId)
    (hmode : (s.chan ch).mode ≠ 8) : (s.inhibitsFollow.chan ch).pwm.driving = false := by
  let P := fun t : State => (∀ ch, t.inhibited ch = true) ∧ ∀ ch, (t.chan ch).mode = (s.chan ch).mode
  let Q := fun (j : ChId) (t : State) => (s.chan j).mode ≠ 8 → (t.chan j).pwm.driving = false
  have hkeeps : ∀ t i, P t → P (t.inhibitFollows i) := fun t i ⟨hin, hm⟩ =>
    ⟨fun j => (State.inhibited_eq (fun f => t.inhibitFollows_gfld i f (by decide) (by decide) (by decide)) j).trans (hin j),
      fun j => (t.inhibitFollows_mode i j).trans (hm j)⟩
  have hsets : ∀ t i, P t → Q i (t.inhibitFollows i) := fun t i ⟨hin, hm⟩ h =>
    t.inhibitFollows_driving i (hin i) ((hm i).symm ▸ h)
  have hstays : ∀ t i j, P t → Q j t → Q j (t.inhibitFollows i) := by
    intro t i j ht hq
    by_cases hji : j = i
    · exact hji ▸ hsets t i ht
    · intro h
      rw [State.inhibitFollows, State.rearm_chan_ne _ hji, State.gatesFollow_chan_ne _ hji]
      exact hq h
  rw [s.inhibitsFollow_eq]
  exact (foldl_finRange_sets (P := P) (Q := Q) hkeeps hsets hstays ⟨hbar, fun _ => rfl⟩).2 ch hmode

/-! ## SAFE_N (R384) -/

/-- The sources that hold SAFE_N low. -/
def State.safeNLow (s : State) : Bool :=
  s.knl.snReset || s.knl.snWd || s.knl.snSet || s.gbit Reg.KNL_STAT Fld.KNL_STAT_SSLOT ||
    s.gbit Reg.KNL_STAT Fld.KNL_STAT_SUPPLY

theorem State.reports_irq_if (s : State) (p : Prop) [Decidable p] (n : Nat) : s.reports (if p then s.irq n else s) := by
  split
  · exact State.reports_irq s n
  · exact State.reports_refl s

theorem State.updateSafeN_reports (s : State) :
    (s.gset Reg.KNL_STAT Fld.KNL_STAT_SAFEN (if s.safeNLow then 1 else 0)).reports s.updateSafeN := by
  unfold State.updateSafeN
  rw [← State.safeNLow]
  exact State.reports_irq_if _ _ 4

theorem State.updateSafeN_safeN (s : State) : s.updateSafeN.gbit Reg.KNL_STAT Fld.KNL_STAT_SAFEN = s.safeNLow := by
  rw [State.gbit, s.updateSafeN_reports.gfld _ _ (by decide) (by decide)]
  exact State.gbit_gset_bit s _ _ (by decide) (by decide)

theorem State.updateSafeN_gfld (s : State) {o : Nat} {f : BitField} (hint : o ≠ Reg.INT_STAT) (hcnt : o ≠ Reg.REC_CNT)
    (h : o ≠ Reg.KNL_STAT ∨ Fld.KNL_STAT_SAFEN.lo + Fld.KNL_STAT_SAFEN.width ≤ f.lo ∨
      f.lo + f.width ≤ Fld.KNL_STAT_SAFEN.lo) : s.updateSafeN.gfld o f = s.gfld o f := by
  rw [s.updateSafeN_reports.gfld _ _ hcnt hint]
  exact State.gfld_gset_ne _ _ h

theorem State.updateSafeN_gbit (s : State) {o : Nat} {f : BitField} (hint : o ≠ Reg.INT_STAT) (hcnt : o ≠ Reg.REC_CNT)
    (h : o ≠ Reg.KNL_STAT ∨ Fld.KNL_STAT_SAFEN.lo + Fld.KNL_STAT_SAFEN.width ≤ f.lo ∨
      f.lo + f.width ≤ Fld.KNL_STAT_SAFEN.lo) : s.updateSafeN.gbit o f = s.gbit o f :=
  congrArg (· != 0) (s.updateSafeN_gfld hint hcnt h)

@[simp] theorem State.updateSafeN_chan (s : State) (ch : ChId) : s.updateSafeN.chan ch = s.chan ch :=
  s.updateSafeN_reports.chan ch

/-! ## The global and the channels' inhibits (R380) -/

theorem State.setGinh_gfld (s : State) (n : Nat) {o : Nat} {f : BitField} (h : o < 0x4100) (hcnt : o ≠ Reg.REC_CNT)
    (hint : o ≠ Reg.INT_STAT) : (s.setGinh n).gfld o f =
      ((s.gset Reg.KNL_STAT Fld.KNL_STAT_GINH n).gset Reg.GSTAT Fld.GSTAT_GLOBAL_INH n).gfld o f :=
  State.inhibitsFollow_gfld _ f h hcnt hint

/-- The global inhibit shows in KNL_STAT and GSTAT. -/
theorem State.setGinh_shows (s : State) (b : Bool) : let t := s.setGinh (if b then 1 else 0)
    t.gbit Reg.KNL_STAT Fld.KNL_STAT_GINH = b ∧ t.gbit Reg.GSTAT Fld.GSTAT_GLOBAL_INH = b := by
  constructor
  · rw [State.gbit, State.setGinh_gfld _ _ (by decide) (by decide) (by decide), State.gfld_gset_ne _ _ (.inl (by decide))]
    exact State.gbit_gset_bit s _ b (by decide) (by decide)
  · rw [State.gbit, State.setGinh_gfld _ _ (by decide) (by decide) (by decide)]
    exact State.gbit_gset_bit _ _ b (by decide) (by decide)

/-- A field of KNL_STAT beside the one that the inhibit shows in. -/
theorem State.setGinh_knlStat (s : State) (n : Nat) {f : BitField} (h : Fld.KNL_STAT_GINH.lo + Fld.KNL_STAT_GINH.width ≤ f.lo ∨
    f.lo + f.width ≤ Fld.KNL_STAT_GINH.lo) : (s.setGinh n).gfld Reg.KNL_STAT f = s.gfld Reg.KNL_STAT f := by
  rw [State.setGinh_gfld _ _ (by decide) (by decide) (by decide), State.gfld_gset_ne _ _ (.inl (by decide))]
  exact State.gfld_gset_ne _ _ (.inr h)

theorem State.inhibited_of_ginh {s : State} (h : s.gbit Reg.KNL_STAT Fld.KNL_STAT_GINH = true) (ch : ChId) :
    s.inhibited ch = true := by
  rw [State.inhibited, h, Bool.true_or]

/-- The global inhibit inhibits every channel and takes its own gate pads off (R263, R380). -/
theorem State.setGinh_inhibits (s : State) (ch : ChId) : (s.setGinh 1).inhibited ch = true ∧
    ((s.chan ch).mode ≠ 8 → ((s.setGinh 1).chan ch).pwm.driving = false) := by
  refine ⟨State.inhibited_of_ginh (s.setGinh_shows true).1 ch, fun hmode => ?_⟩
  unfold State.setGinh
  refine State.inhibitsFollow_driving _ (State.inhibited_of_ginh ?_) ch hmode
  rw [State.gbit, State.gfld_gset_ne _ _ (.inl (by decide))]
  exact State.gbit_gset_bit s _ true (by decide) (by decide)

/-- A sum of the powers of two that a predicate names is a mask of them. -/
theorem foldl_bits (n : Nat) (p : Fin n → Bool) :
    let m := (List.finRange n).foldl (fun m i => if p i then m + 2 ^ i.val else m) 0
    m < 2 ^ n ∧ ∀ i : Fin n, m.testBit i.val = p i := by
  induction n with
  | zero => exact ⟨by simp, fun i => i.elim0⟩
  | succ n ih =>
    obtain ⟨hlt, hbit⟩ := ih (fun i => p i.castSucc)
    rw [List.finRange_succ_last, List.foldl_append, List.foldl_map]
    simp only [List.foldl_cons, List.foldl_nil, Fin.val_castSucc, Fin.val_last]
    generalize List.foldl _ 0 _ = m at hlt hbit ⊢
    cases hp : p (Fin.last n)
    · refine ⟨by simp; omega, Fin.lastCases ?_ fun i => ?_⟩
      · simpa [hp] using Nat.testBit_lt_two_pow hlt
      · simpa using hbit i
    · refine ⟨by simp; omega, Fin.lastCases ?_ fun i => ?_⟩
      · rw [if_pos rfl, Nat.add_comm, Fin.val_last, Nat.testBit_two_pow_add_eq, Nat.testBit_lt_two_pow hlt, hp]
        rfl
      · rw [if_pos rfl, Nat.add_comm, Fin.val_castSucc, Nat.testBit_two_pow_add_gt i.isLt]
        exact hbit i

/-- The bits of a mask of channels. -/
theorem testBit_chMask (p : ChId → Bool) (ch : ChId) : (chMask p).testBit ch.val = p ch := (foldl_bits 12 p).2 ch

theorem chMask_lt (p : ChId → Bool) : chMask p < 2 ^ 12 := (foldl_bits 12 p).1

/-- A channel that KNL_INH names is inhibited (R380). -/
theorem State.updateChinh_inhibits (s : State) (ch : ChId) (h : (s.gget Reg.KNL_INH).getLsbD ch.val = true) :
    s.updateChinh.inhibited ch = true := by
  have hmask : s.updateChinh.gfld Reg.KNL_STAT Fld.KNL_STAT_CHINH = chMask fun ch =>
      (s.chan ch).mode = 0 || (s.chan ch).resetting || (s.gget Reg.KNL_INH).getLsbD ch.val := by
    unfold State.updateChinh
    rw [State.inhibitsFollow_gfld _ _ (by decide) (by decide) (by decide), State.gfld_gset _ _ _ _ (by decide)]
    exact Nat.mod_eq_of_lt (chMask_lt _)
  have hbit : (s.updateChinh.gfld Reg.KNL_STAT Fld.KNL_STAT_CHINH).testBit ch.val = true := by
    rw [hmask, testBit_chMask, h, Bool.or_true]
  exact Bool.or_eq_true_iff.2 (.inr hbit)

/-! ## An accessor's write of a kennel register (R390, R461) -/

theorem State.knlAccess_port {s t : State} (hpow : s.knl.powered = true) {off : Nat} {v : Word}
    (hw : s.kennelWrite .port off v = some t) : s.knlAccess .port off v = t := by
  simp only [State.knlAccess, hpow, if_true, State.portWrite, hw]

theorem State.knlAccess_nack {s : State} (hpow : s.knl.powered = true) {off : Nat} {v : Word}
    (hw : s.kennelWrite .port off v = none) : s.knlAccess .port off v = s.portNack := by
  simp only [State.knlAccess, hpow, if_true, State.portWrite, hw]

/-- A host's write of a global register of the KENNEL's block. -/
theorem State.globalWrite_kennel {s t : State} {k : Ctx} {off : Nat} {v : Word} (hlo : 0x1000 ≤ off) (hhi : off < 0x2000)
    (hw : s.kennelWrite (.host k) off v = some t) : s.globalWrite k off v = (t, false) := by
  unfold State.globalWrite
  dsimp only
  rw [if_neg (by unfold Reg.CHRST; omega), if_neg (by omega), if_neg (by omega), if_neg (by omega), if_neg (by omega),
    if_pos hhi, hw]

theorem kennelCommandRegs_rows :
    ∀ off ∈ [Reg.KNL_CTL, Reg.KNL_INH, Reg.KNL_WDT, Reg.KNL_WDKICK, Reg.KNL_LWW, Reg.KNL_LWSEL],
      (findRow globalRows off).isSome = true ∧ 0x1000 ≤ off ∧ off < 0x2000 ∧ off % 4 = 0 ∧ isMsix off = false := by
  decide +kernel

theorem State.knlAccess_host {s t : State} {k : Ctx} {off : Nat} {w : Word} (hserves : s.serves)
    (hoff : off ∈ [Reg.KNL_CTL, Reg.KNL_INH, Reg.KNL_WDT, Reg.KNL_WDKICK, Reg.KNL_LWW, Reg.KNL_LWSEL])
    (hkeeps : s.keepsRoG k off w) (hw : s.kennelWrite (.host k) off w = some t) :
    s.knlAccess (.host k) off w = t.answered := by
  obtain ⟨hrow, hlo, hhi, hal, hmsix⟩ := kennelCommandRegs_rows off hoff
  exact State.writeAlias_ok hserves (by omega) hal hmsix hrow hkeeps (State.globalWrite_kennel hlo hhi hw)

/-- Settles O43: KNL_CTL by its command bits, and what follows an inhibit. -/
theorem kennelInhibits : Obligations.KennelInhibits := by
  intro s v hpow
  have hctl : ∀ {v t}, s.writeKnlCtl .port v = some t → s.knlAccess .port Reg.KNL_CTL v = t := fun h =>
    State.knlAccess_port hpow h
  have hnack : ∀ {v}, s.writeKnlCtl .port v = none → s.knlAccess .port Reg.KNL_CTL v = s.portNack := fun h =>
    State.knlAccess_nack hpow h
  have next : ∀ {u t : State}, u = t → (Host.Outcome.next u : Result) = .next t := congrArg _
  refine ⟨⟨_, next (hctl (s.writeKnlCtl_ginhSet _)), ?_, ?_, fun ch => ⟨?_, fun hmode => ?_⟩⟩,
    fun hslot harm hpads => ⟨_, next (hctl (State.writeKnlCtl_ginhClr _ hslot harm hpads)), ?_, ?_⟩,
    fun key hkey => ⟨next (hnack (s.writeKnlCtl_noKey _ hkey (.inl rfl))),
      next (hnack (s.writeKnlCtl_noKey _ hkey (.inr (.inl rfl)))),
      next (hnack (s.writeKnlCtl_noKey _ hkey (.inr (.inr rfl))))⟩,
    next (hctl (s.writeKnlCtl_snSet _)), next (hctl (s.writeKnlCtl_snClr _)), next (State.knlAccess_port hpow rfl),
    fun ch hv => ?_, s.updateSafeN_safeN, fun k off w t hserves hoff hkeeps hw => State.knlAccess_host hserves hoff hkeeps hw⟩
  · exact (State.updateSafeN_gbit _ (by decide) (by decide) (by decide)).trans (s.setGinh_shows true).1
  · exact (State.updateSafeN_gbit _ (by decide) (by decide) (by decide)).trans (s.setGinh_shows true).2
  · exact State.inhibited_of_ginh
      ((State.updateSafeN_gbit _ (by decide) (by decide) (by decide)).trans (s.setGinh_shows true).1) ch
  · rw [State.updateSafeN_chan]
    exact (s.setGinh_inhibits ch).2 hmode
  · exact (State.updateSafeN_gbit _ (by decide) (by decide) (by decide)).trans (s.setGinh_shows false).1
  · exact (State.updateSafeN_gbit _ (by decide) (by decide) (by decide)).trans (s.setGinh_shows false).2
  · refine State.updateChinh_inhibits _ ch ?_
    rw [State.gget_gput, if_pos rfl, BitVec.getLsbD_and, hv, Bool.true_and]
    exact (by decide : ∀ ch : ChId, (0xFFF#32).getLsbD ch.val = true) ch

end Sys2Proof.Machine
end

section
/-! SUPPORT. A fault or an entry of a mode of one channel: the other channels, and the global registers that it leaves. -/

namespace Sys2Proof.Machine

/-- A field of a global register that no fault, give-up or entry of a mode of a channel changes: none of the pair's, the
images' and the group's results, of KNL_STAT.CHINH and GSTAT.CH_FAULT. -/
def besideFault (o : Nat) (f : BitField) : Bool :=
  o < 0x4000 && o != Reg.REC_CNT && o != Reg.INT_STAT && o != Reg.GRP_RESULT &&
    (!(o == Reg.KNL_STAT || o == Reg.GSTAT) || 12 ≤ f.lo)

/-- What works on one channel, and on no field beside it. -/
structure State.ActsOn (ch : ChId) (s t : State) : Prop where
  others : ∀ j, j ≠ ch → t.chan j = s.chan j
  gfld : ∀ o f, besideFault o f = true → t.gfld o f = s.gfld o f

theorem besideFault_iff (o : Nat) (f : BitField) : besideFault o f = true ↔ o < 0x4000 ∧ o ≠ Reg.REC_CNT ∧ o ≠ Reg.INT_STAT ∧
    o ≠ Reg.GRP_RESULT ∧ (o = Reg.KNL_STAT ∨ o = Reg.GSTAT → 12 ≤ f.lo) := by
  simp [besideFault, and_assoc, Decidable.imp_iff_not_or]

theorem State.ActsOn.refl (ch : ChId) (s : State) : State.ActsOn ch s s := ⟨fun _ _ => rfl, fun _ _ _ => rfl⟩

theorem State.ActsOn.trans {ch : ChId} {s t u : State} (h : State.ActsOn ch s t) (k : State.ActsOn ch t u) :
    State.ActsOn ch s u :=
  ⟨fun j hj => (k.others j hj).trans (h.others j hj), fun o f hf => (k.gfld o f hf).trans (h.gfld o f hf)⟩

theorem State.ActsOn.ite {ch : ChId} {s t u : State} {p : Prop} [Decidable p] (h : State.ActsOn ch s t)
    (k : State.ActsOn ch s u) : State.ActsOn ch s (if p then t else u) := by
  split
  · exact h
  · exact k

theorem State.ActsOn.reports {ch : ChId} {s t : State} (h : s.reports t) : State.ActsOn ch s t :=
  ⟨fun j _ => h.chan j, fun o f hf => by
    obtain ⟨-, hcnt, hint, -⟩ := (besideFault_iff o f).1 hf
    exact h.gfld o f hcnt hint⟩

theorem State.ActsOn.put (s : State) (ch : ChId) (c : Chan) : State.ActsOn ch s (s.putChan ch c) :=
  ⟨fun _ hj => s.chan_putChan_ne c hj, fun _ _ _ => rfl⟩

/-- A change of no channel and of no register. -/
theorem State.ActsOn.of_eq {ch : ChId} {s t : State} (hch : t.ch = s.ch) (hg : t.g = s.g) : State.ActsOn ch s t := by
  refine ⟨fun j _ => ?_, fun o f _ => ?_⟩
  · rw [State.chan, hch, State.chan]
  · rw [State.gfld, State.gget, hg, State.gfld, State.gget]

theorem State.ActsOn.gput (s : State) (ch : ChId) {o : Nat} (w : Word) (h : ∀ f, besideFault o f = false) :
    State.ActsOn ch s (s.gput o w) := by
  refine ⟨fun _ _ => rfl, fun p f hf => ?_⟩
  have hne : p ≠ o := fun e => by simp [e, h f] at hf
  rw [State.gfld, State.gget_gput, if_neg hne, State.gfld]

theorem besideFault_high {o : Nat} (h : 0x4000 ≤ o) (f : BitField) : besideFault o f = false := by
  simp [besideFault]
  omega

/-- A field that the first twelve bits of KNL_STAT or GSTAT show. -/
theorem State.ActsOn.gsetLow (s : State) (ch : ChId) {o : Nat} {f : BitField} (n : Nat) (ho : o = Reg.KNL_STAT ∨ o = Reg.GSTAT)
    (hf : f.lo + f.width ≤ 12) : State.ActsOn ch s (s.gset o f n) := by
  refine ⟨fun _ _ => rfl, fun p q hq => State.gfld_gset_ne _ _ ?_⟩
  obtain ⟨-, -, -, -, hlow⟩ := (besideFault_iff p q).1 hq
  by_cases hpo : p = o
  · exact .inr (.inl (Nat.le_trans hf (hlow (hpo ▸ ho))))
  · exact .inl hpo

theorem State.ActsOn.capOnly {ch : ChId} {s t : State} (h : s.CapOnly t ch) : State.ActsOn ch s t :=
  ⟨fun j hj => (h.rest.chan j).trans (s.chan_putChan_ne _ hj), fun o f hf => by
    obtain ⟨-, hcnt, hint, -⟩ := (besideFault_iff o f).1 hf
    exact h.rest.gfld o f hcnt hint⟩

theorem State.actsOn_countCh (s : State) (ch : ChId) (reg : Nat) (hi ev : Bool) :
    State.ActsOn ch s (s.countCh ch reg hi ev) := (State.ActsOn.put s ch _).trans (.reports (s.reports_countCh ch reg hi ev))

theorem State.actsOn_setCs (s : State) (ch : ChId) (f : BitField) (n : Nat) : State.ActsOn ch s (s.setCs ch f n) :=
  .gput s ch _ (besideFault_high (by unfold Reg.PAIR_CHSTAT; omega))

theorem State.actsOn_groupDiscard (s : State) (ch : ChId) : State.ActsOn ch s (s.groupDiscard ch) :=
  ⟨fun j _ => s.groupDiscard_chan ch j, fun o f hf => by
    obtain ⟨-, -, -, hgrp, -⟩ := (besideFault_iff o f).1 hf
    exact s.groupDiscard_gfld ch f hgrp⟩

theorem State.actsOn_gatesFollow (s : State) (ch : ChId) : State.ActsOn ch s (s.gatesFollow ch) :=
  ⟨fun _ hj => s.gatesFollow_chan_ne hj, fun o f hf => by
    obtain ⟨-, hcnt, hint, -⟩ := (besideFault_iff o f).1 hf
    exact s.gatesFollow_gfld ch f hcnt hint⟩

theorem State.actsOn_pairLeaveShadow (s : State) (ch : ChId) : State.ActsOn ch s (s.pairLeaveShadow ch) := by
  unfold State.pairLeaveShadow
  extract_lets t
  exact ((((State.ActsOn.put s ch _).trans (t.actsOn_setCs ch _ 0)).trans (State.actsOn_setCs _ ch _ 0)).trans
    (.gput _ ch 0 (besideFault_high (by unfold Reg.HND_HEALTH; omega)))).trans (.put _ ch _)

theorem State.actsOn_chinhFollow (s : State) (ch : ChId) : State.ActsOn ch s (s.chinhFollow ch) :=
  (State.ActsOn.gsetLow s ch _ (.inl rfl) (by decide)).trans (State.actsOn_gatesFollow _ ch)

theorem State.actsOn_enterMode (s : State) (ch : ChId) (m tc : Nat) : State.ActsOn ch s (s.enterMode ch m tc) := by
  unfold State.enterMode
  extract_lets c old s1 s2 s3 s4 s5
  have h1 : State.ActsOn ch s s1 := .put s ch _
  have h2 : State.ActsOn ch s1 s2 := .ite (s1.actsOn_groupDiscard ch) (.refl ch s1)
  have h3 : State.ActsOn ch s2 s3 := .ite (.refl ch s2) ((s2.actsOn_countCh ch _ _ _).trans (.reports (State.reports_irq ..)))
  have h4 : State.ActsOn ch s3 s4 := .reports (State.reports_record ..)
  have h5 : State.ActsOn ch s4 s5 := .ite (s4.actsOn_pairLeaveShadow ch) (.refl ch s4)
  exact (((((h1.trans h2).trans h3).trans h4).trans h5).trans (s5.actsOn_chinhFollow ch)).trans (.put _ ch _)

theorem State.actsOn_repairEnds (s : State) (ch : ChId) (err : Nat) : State.ActsOn ch s (s.repairEnds ch err) := by
  unfold State.repairEnds
  dsimp only
  refine State.ActsOn.trans ?_ (.capOnly (State.capOnly_capFree _ ch))
  refine State.ActsOn.trans ?_ (.reports (State.reports_irq _ 7))
  refine State.ActsOn.trans ?_ (.reports (State.reports_record ..))
  exact ⟨fun _ _ => rfl, (State.ActsOn.gput s ch (o := Reg.IMG_STAT) _ (besideFault_high (by decide))).gfld⟩

theorem State.actsOn_faultHalt (s : State) (ch : ChId) : State.ActsOn ch s (s.faultHalt ch) := by
  unfold State.faultHalt
  extract_lets u was w x y z v
  have hu : State.ActsOn ch s u := (s.actsOn_groupDiscard ch).trans (.put _ ch _)
  have hw : State.ActsOn ch u w := .ite (u.actsOn_repairEnds ch 8) (.refl ch u)
  have hx : State.ActsOn ch w x := .ite (.refl ch w) (w.actsOn_enterMode ch 1 8)
  have hy : State.ActsOn ch x y := .put x ch _
  have hz : State.ActsOn ch y z := .gsetLow y ch _ (.inr rfl) (by decide)
  have hv : State.ActsOn ch z v := .ite (.refl ch z) (.reports (State.reports_irq _ _))
  exact (((((hu.trans hw).trans hx).trans hy).trans hz).trans hv).trans (.capOnly (State.capOnly_capFault v ch))

theorem State.actsOn_releaseGivenUp (s : State) (ch : ChId) (cause : Nat) :
    State.ActsOn ch s (s.releaseGivenUp ch cause) := by
  unfold State.releaseGivenUp
  extract_lets s1 s2 s3 s4
  have h1 : State.ActsOn ch s s1 := ((s.actsOn_groupDiscard ch).trans (.put _ ch _)).trans (State.actsOn_gatesFollow _ ch)
  have h2 : State.ActsOn ch s1 s2 := (s1.actsOn_setCs ch _ 1).trans (State.actsOn_setCs _ ch _ cause)
  have h3 : State.ActsOn ch s2 s3 :=
    ((State.ActsOn.gput s2 ch _ (besideFault_high (by decide))).trans (.reports (State.reports_countG ..))).trans
      (.reports (State.reports_irq _ 3))
  have h4 : State.ActsOn ch s3 s4 := .reports (State.reports_record ..)
  have h := ((h1.trans h2).trans h3).trans h4
  clear_value s4
  exact h.trans (.ite (.refl ch s4) (.of_eq rfl rfl))

theorem State.actsOn_giveUp (s : State) (ch : ChId) (cause : Nat) : State.ActsOn ch s (s.giveUp ch cause) :=
  (s.actsOn_releaseGivenUp ch cause).trans
    (.ite (State.actsOn_faultHalt _ ch) (.ite (.refl ch _) (State.actsOn_enterMode _ ch 1 8)))

end Sys2Proof.Machine
end

section
/-! SUPPORT. The KENNEL's watchdogs (O44): KNL_WDT and KNL_WDKICK, the host watchdog's expiry and the safety slot's. -/

namespace Sys2Proof.Machine

/-! ## A device give-up (R37, R180) -/

/-- A channel's part in a device give-up. -/
def State.deviceFault (cause : Nat) (s : State) (ch : ChId) : State :=
  if s.isPair && s.holds ch then s.giveUp ch cause else if (s.chan ch).mode = 0 then s else s.faultHalt ch

theorem State.actsOn_deviceFault (s : State) (cause : Nat) (ch : ChId) : State.ActsOn ch s (s.deviceFault cause ch) :=
  .ite (s.actsOn_giveUp ch cause) (.ite (.refl ch s) (s.actsOn_faultHalt ch))

theorem State.deviceGiveUp_gfld (s : State) (cause : Nat) {o : Nat} {f : BitField} (h : besideFault o f = true) :
    (s.deviceGiveUp cause).gfld o f = s.gfld o f :=
  foldl_rel (fun s t : State => t.gfld o f = s.gfld o f) (fun _ => rfl) (fun _ _ _ h k => k.trans h)
    (State.deviceFault cause) (fun s ch => (s.actsOn_deviceFault cause ch).gfld o f h) _ s

/-- A channel out of OFF is in HALT with FAULT afterwards. -/
theorem State.deviceFault_halts (s : State) {cause : Nat} (ch : ChId) (hcause : cause ≤ 6) (hmode : (s.chan ch).mode ≠ 0) :
    ((s.deviceFault cause ch).chan ch).mode = 1 ∧ ((s.deviceFault cause ch).chan ch).faulted = true := by
  have hfault : ∀ t : State, ((t.faultHalt ch).chan ch).mode = 1 ∧ ((t.faultHalt ch).chan ch).faulted = true := fun t => by
    obtain ⟨hm, hf, -⟩ := t.faultHalt_sets ch
    exact ⟨hm, hf⟩
  unfold State.deviceFault
  rw [if_neg hmode]
  split
  · rw [State.giveUp, if_pos hcause]
    exact hfault _
  · exact hfault s

/-- Every channel out of OFF is in HALT with FAULT after a device give-up for cause 5 or 6. -/
theorem State.deviceGiveUp_halts (s : State) {cause : Nat} (hcause : cause ≤ 6) (ch : ChId) (hmode : (s.chan ch).mode ≠ 0) :
    ((s.deviceGiveUp cause).chan ch).mode = 1 ∧ ((s.deviceGiveUp cause).chan ch).faulted = true := by
  let P := fun t : State => ∀ j, (s.chan j).mode ≠ 0 → (t.chan j).mode ≠ 0
  let Q := fun (j : ChId) (t : State) => (s.chan j).mode ≠ 0 → (t.chan j).mode = 1 ∧ (t.chan j).faulted = true
  have hsets : ∀ t i, P t → Q i (t.deviceFault cause i) := fun t i hp hm => t.deviceFault_halts i hcause (hp i hm)
  have hothers : ∀ (t : State) i j, j ≠ i → (t.deviceFault cause i).chan j = t.chan j := fun t i =>
    (t.actsOn_deviceFault cause i).others
  have hkeeps : ∀ t i, P t → P (t.deviceFault cause i) := by
    intro t i hp j hm
    by_cases hji : j = i
    · subst hji
      rw [(hsets t j hp hm).1]
      decide
    · rw [hothers t i j hji]
      exact hp j hm
  have hstays : ∀ t i j, P t → Q j t → Q j (t.deviceFault cause i) := by
    intro t i j hp hq
    by_cases hji : j = i
    · exact hji ▸ hsets t i hp
    · intro hm
      rw [hothers t i j hji]
      exact hq hm
  exact (foldl_finRange_sets (P := P) (Q := Q) (f := State.deviceFault cause) hkeeps hsets hstays fun _ hm => hm).2 ch hmode

/-! ## The safety slot's expiry (R381) -/

/-- The pair is told of a device give-up (R331). -/
def State.tellGiveUp (s : State) : State :=
  { s with link := { s.link with giveUp := s.link.giveUp || s.gbit Reg.GSTAT Fld.GSTAT_PAIR } }

theorem State.tellGiveUp_gfld (s : State) (o : Nat) (f : BitField) : s.tellGiveUp.gfld o f = s.gfld o f := rfl

theorem State.tellGiveUp_chan (s : State) (ch : ChId) : s.tellGiveUp.chan ch = s.chan ch := rfl

theorem State.lastWord_gfld (s : State) (src : Nat) (code : Byte) (data : Word) (o : Nat) (f : BitField) :
    (s.lastWord src code data).gfld o f = s.gfld o f := rfl

/-- The inhibits that an expiry of the safety slot sets: the slot's bit, the global inhibit and SAFE_N. -/
def State.slotInhibits (s : State) : State := ((s.gset Reg.KNL_STAT Fld.KNL_STAT_SSLOT 1).setGinh 1).updateSafeN

/-- What an expiry of the safety slot sets before the give-up. -/
def State.slotExpired (s : State) (a b : Bool) : State :=
  (s.slotInhibits.lastWord 1 0 (BitVec.ofNat 32 ((if a then 1 else 0) + (if b then 2 else 0)))).tellGiveUp

theorem State.slotExpired_gfld (s : State) (a b : Bool) (o : Nat) (f : BitField) :
    (s.slotExpired a b).gfld o f = s.slotInhibits.gfld o f :=
  (State.tellGiveUp_gfld ..).trans (State.lastWord_gfld ..)

theorem State.inhibitsFollow_mode (s : State) (ch : ChId) : (s.inhibitsFollow.chan ch).mode = (s.chan ch).mode :=
  s.inhibitsFollow_eq ▸ foldl_rel (fun s t : State => (t.chan ch).mode = (s.chan ch).mode) (fun _ => rfl)
    (fun _ _ _ h k => k.trans h) State.inhibitFollows (fun s i => s.inhibitFollows_mode i ch) _ s

theorem State.slotExpired_mode (s : State) (a b : Bool) (ch : ChId) :
    ((s.slotExpired a b).chan ch).mode = (s.chan ch).mode := by
  rw [State.slotExpired, State.tellGiveUp_chan, State.lastWord_chan, State.slotInhibits, State.updateSafeN_chan]
  exact State.inhibitsFollow_mode _ ch

theorem State.slotInhibits_shows (s : State) : s.slotInhibits.gbit Reg.KNL_STAT Fld.KNL_STAT_SSLOT = true ∧
    s.slotInhibits.gbit Reg.KNL_STAT Fld.KNL_STAT_GINH = true ∧
    s.slotInhibits.gbit Reg.KNL_STAT Fld.KNL_STAT_SAFEN = true := by
  have hslot : ((s.gset Reg.KNL_STAT Fld.KNL_STAT_SSLOT 1).setGinh 1).gbit Reg.KNL_STAT Fld.KNL_STAT_SSLOT = true := by
    rw [State.gbit, State.setGinh_knlStat _ _ (by decide)]
    exact State.gbit_gset_bit s _ true (by decide) (by decide)
  refine ⟨(State.updateSafeN_gbit _ (by decide) (by decide) (by decide)).trans hslot,
    (State.updateSafeN_gbit _ (by decide) (by decide) (by decide)).trans (State.setGinh_shows _ true).1, ?_⟩
  rw [State.slotInhibits, State.updateSafeN_safeN, State.safeNLow, hslot, Bool.or_true, Bool.true_or]

theorem exec_safetySlotExpiry {s : State} {a b : Bool} (hpow : s.knl.powered = true) (hup : s.knl.up = true)
    (hslot : s.gbit Reg.KNL_STAT Fld.KNL_STAT_SSLOT = false)
    (hmiss : s.gbit Reg.KNL_STAT Fld.KNL_STAT_SSARM = true → a = true ∨ b = true) :
    exec (.safetySlotExpiry a b) s = .next ((s.slotExpired a b).deviceGiveUp 6) := by
  have hidle : (!(s.knl.powered && s.knl.up) || s.gbit Reg.KNL_STAT Fld.KNL_STAT_SSLOT ||
      (s.gbit Reg.KNL_STAT Fld.KNL_STAT_SSARM && !a && !b)) = false := by
    rw [hpow, hup, hslot]
    cases harm : s.gbit Reg.KNL_STAT Fld.KNL_STAT_SSARM
    · rfl
    · rcases hmiss harm with rfl | rfl
      · rfl
      · cases a <;> rfl
  show execSafetySlotExpiry a b s = _
  unfold execSafetySlotExpiry
  rw [if_neg (ne_true_of_eq_false hidle)]
  dsimp only [State.slotExpired, State.tellGiveUp, State.slotInhibits]

theorem safetySlotExpiry_shows (s : State) (a b : Bool) : let t := (s.slotExpired a b).deviceGiveUp 6
    t.gbit Reg.KNL_STAT Fld.KNL_STAT_SSLOT = true ∧ t.gbit Reg.KNL_STAT Fld.KNL_STAT_GINH = true ∧
    t.gbit Reg.KNL_STAT Fld.KNL_STAT_SAFEN = true ∧
    ∀ ch : ChId, (s.chan ch).mode ≠ 0 → (t.chan ch).mode = 1 ∧ (t.chan ch).faulted = true := by
  have hknl : ∀ {f : BitField}, besideFault Reg.KNL_STAT f = true →
      ((s.slotExpired a b).deviceGiveUp 6).gbit Reg.KNL_STAT f = s.slotInhibits.gbit Reg.KNL_STAT f := fun h =>
    congrArg (· != 0) ((State.deviceGiveUp_gfld _ 6 h).trans (s.slotExpired_gfld a b _ _))
  obtain ⟨hslot, hginh, hsafe⟩ := s.slotInhibits_shows
  exact ⟨(hknl (by decide)).trans hslot, (hknl (by decide)).trans hginh, (hknl (by decide)).trans hsafe,
    fun ch hm => State.deviceGiveUp_halts _ (by decide) ch (by rwa [State.slotExpired_mode])⟩

/-! ## The host watchdog (R382) -/

/-- A field of one bit is that bit. -/
theorem getField_bit (w : Word) (lo : Nat) : (getField w ⟨lo, 1⟩ != 0) = w.getLsbD lo := by
  rw [getField, BitVec.extractLsb'_toNat, Nat.shiftRight_eq_div_pow, BitVec.getLsbD, Nat.testBit_eq_decide_div_mod_eq]
  rcases Nat.mod_two_eq_zero_or_one (w.toNat / 2 ^ lo) with h | h <;> simp [h]

theorem getLsbD_wdtEnabled (v : Word) : (setField v Fld.KNL_WDT_EN 1).getLsbD 14 = true := by
  rw [getLsbD_setField, if_pos (by decide)]
  rfl

/-- Enabling the watchdog starts it with its time-out. -/
theorem State.writeKnlWdt_enables {s : State} {w : Word} (hon : w.getLsbD 14 = true) (hlo : 1 ≤ getField w Fld.KNL_WDT_TO)
    (hhi : getField w Fld.KNL_WDT_TO ≤ 10000) (hoff : s.gbit Reg.KNL_WDT Fld.KNL_WDT_EN = false) :
    s.writeKnlWdt w = some { s.gput Reg.KNL_WDT (w &&& 0xFFFF) with
      knl := { s.knl with wdRun := true, wdTo := getField w Fld.KNL_WDT_TO } } := by
  have hrange : (decide (getField w Fld.KNL_WDT_TO = 0) || decide (10000 < getField w Fld.KNL_WDT_TO) ||
      (s.gbit Reg.KNL_WDT Fld.KNL_WDT_EN && !w.getLsbD 14)) = false := by
    rw [hoff, decide_eq_false (by omega), decide_eq_false (by omega)]
    rfl
  unfold State.writeKnlWdt
  dsimp only
  rw [if_neg (ne_true_of_eq_false hrange), hon, hoff]
  rfl

/-- The host watchdog has expired: it no longer runs, and holds SAFE_N where ACT says so. -/
def State.wdExpired (s : State) : State :=
  ((({ s with knl := { s.knl with wdRun := false, snWd := s.knl.snWd || s.gbit Reg.KNL_WDT Fld.KNL_WDT_ACT } } : State).gset
    Reg.KNL_STAT Fld.KNL_STAT_HWDX 1).irq 4).lastWord 2 0 (BitVec.ofNat 32 s.knl.wdTo)

theorem exec_hostWatchdogExpiry {s : State} (hen : s.gbit Reg.KNL_WDT Fld.KNL_WDT_EN = true) (hrun : s.knl.wdRun = true) :
    exec .hostWatchdogExpiry s = .next (s.wdExpired.record 0x12 0xF 1 2 (recData [(0, 2, s.knl.wdTo)])).updateSafeN := by
  show execHostWatchdogExpiry s = _
  unfold execHostWatchdogExpiry
  rw [hen, hrun]
  rfl

theorem State.reports.knl {s t : State} (h : s.reports t) : t.knl = s.knl := by rw [h.1]

theorem State.reports.ch {s t : State} (h : s.reports t) : t.ch = s.ch := by rw [h.1]

theorem State.updateSafeN_knl (s : State) : s.updateSafeN.knl = s.knl := s.updateSafeN_reports.knl

/-- What the host watchdog's expiry shows; the channels stay (R382). -/
theorem State.wdExpired_shows (s : State) : s.wdExpired.gbit Reg.KNL_STAT Fld.KNL_STAT_HWDX = true ∧
    s.wdExpired.knl.wdRun = false ∧ s.wdExpired.knl.lwSeq = s.knl.lwSeq + 1 ∧ s.wdExpired.ch = s.ch ∧
    (s.gbit Reg.KNL_WDT Fld.KNL_WDT_ACT = true → s.wdExpired.knl.snWd = true) := by
  unfold State.wdExpired
  generalize hu : ({ s with knl := { s.knl with
    wdRun := false, snWd := s.knl.snWd || s.gbit Reg.KNL_WDT Fld.KNL_WDT_ACT } } : State) = u
  have hknl : ((u.gset Reg.KNL_STAT Fld.KNL_STAT_HWDX 1).irq 4).knl = u.knl := (State.reports_irq _ 4).knl
  have hshow : ((u.gset Reg.KNL_STAT Fld.KNL_STAT_HWDX 1).irq 4).gbit Reg.KNL_STAT Fld.KNL_STAT_HWDX = true := by
    rw [State.gbit, (State.reports_irq _ 4).gfld _ _ (by decide) (by decide)]
    exact State.gbit_gset_bit u _ true (by decide) (by decide)
  have hch : ((u.gset Reg.KNL_STAT Fld.KNL_STAT_HWDX 1).irq 4).ch = u.ch := (State.reports_irq _ 4).ch
  generalize (u.gset Reg.KNL_STAT Fld.KNL_STAT_HWDX 1).irq 4 = w at hknl hshow hch
  subst hu
  refine ⟨hshow, congrArg Kennel.wdRun hknl, congrArg (·.lwSeq + 1) hknl, hch, fun hact => ?_⟩
  refine (congrArg Kennel.snWd hknl).trans ?_
  show (s.knl.snWd || s.gbit Reg.KNL_WDT Fld.KNL_WDT_ACT) = true
  rw [hact, Bool.or_true]

/-- Settles O44: the KENNEL's writes, what an expiry of the host watchdog shows, and the give-up that the safety slot's
makes. -/
theorem kennelWatchdogs : Obligations.KennelWatchdogs := by
  intro s v hpow
  refine ⟨fun hlo hhi hoff => ?_, fun hen => ?_, fun hcode => ?_, fun hen hrun => ?_, fun a b hup hslot hmiss => ?_⟩
  · have hw := s.writeKnlWdt_enables (getLsbD_wdtEnabled v) hlo hhi hoff
    refine ⟨_, congrArg Host.Outcome.next (State.knlAccess_port hpow hw), rfl, rfl, ?_⟩
    have hget : (({ s.gput Reg.KNL_WDT (setField v Fld.KNL_WDT_EN 1 &&& 0xFFFF) with knl := { s.knl with
        wdRun := true, wdTo := getField (setField v Fld.KNL_WDT_EN 1) Fld.KNL_WDT_TO } } : State).gget Reg.KNL_WDT) =
        setField v Fld.KNL_WDT_EN 1 &&& 0xFFFF := (s.gget_gput ..).trans (if_pos rfl)
    rw [State.gbit, State.gfld, hget, getField_bit, BitVec.getLsbD_and, getLsbD_wdtEnabled]
    rfl
  · have hw : s.writeKnlKick 0x0000A55A = some { s with knl := { s.knl with
        wdRun := true, wdTo := s.gfld Reg.KNL_WDT Fld.KNL_WDT_TO } } := by
      unfold State.writeKnlKick
      rw [if_neg (by decide), if_pos hen]
    exact congrArg Host.Outcome.next (State.knlAccess_port hpow hw)
  · have hw : s.writeKnlKick v = none := if_pos (by simpa using hcode)
    exact congrArg Host.Outcome.next (State.knlAccess_nack hpow hw)
  · obtain ⟨hshow, hstop, hseq, hch, hact⟩ := s.wdExpired_shows
    refine ⟨_, exec_hostWatchdogExpiry hen hrun, ?_, ?_, ?_, ?_, fun h => ?_⟩
    · rw [State.updateSafeN_gbit _ (by decide) (by decide) (by decide), State.gbit,
        (State.reports_record ..).gfld _ _ (by decide) (by decide)]
      exact hshow
    · rw [State.updateSafeN_knl, State.record_knl, hstop]
    · rw [State.updateSafeN_knl, State.record_knl, hseq]
    · rw [State.updateSafeN_reports _ |>.ch]
      exact (State.record_ch ..).trans hch
    · rw [State.updateSafeN_safeN, State.safeNLow, State.record_knl, hact h, Bool.or_true, Bool.true_or, Bool.true_or,
        Bool.true_or]
  · exact ⟨_, exec_safetySlotExpiry hpow hup hslot hmiss, safetySlotExpiry_shows s a b⟩

end Sys2Proof.Machine
end

section
/-! SUPPORT. The last-word bank and the kennel port (O46). -/

namespace Sys2Proof.Machine

theorem State.lastWord_bank (s : State) (src : Nat) (code : Byte) (data : Word) :
    (s.lastWord src code data).knl.bank.length ≤ 32 ∧
    (s.lastWord src code data).knl.bank.head? = some #v[BitVec.ofNat 32 (s.knl.lwSeq + 1),
      code ++ (BitVec.ofNat 8 src ++ s.knl.boots.extractLsb' 0 16), BitVec.ofNat 32 (s.knl.time / 1024), data] :=
  ⟨List.length_take_le .., rfl⟩

/-- A commit of the port that no entry of the last ms holds off (R388). -/
theorem State.commitLastWord_port {s : State} (code : Byte) (h : s.knl.lwAtPort = none) :
    s.commitLastWord .port code = { s.lastWord 0xF1 code s.knl.lwd[accNum .port] with
      knl := { (s.lastWord 0xF1 code s.knl.lwd[accNum .port]).knl with lwAtPort := some s.knl.time } } := by
  simp only [State.commitLastWord, h]
  rfl

theorem State.commitLastWord_early {s : State} (code : Byte) {n : Nat} (h : s.knl.lwAtPort = some n)
    (hn : s.knl.time < n + 100000) : s.commitLastWord .port code = s.countG Reg.KNL_CNT true false := by
  simp only [State.commitLastWord, h, hn, decide_true, if_true]

theorem State.selectLastWord_written {s : State} (a : Accessor) {idx : BitVec 5} {w : Vector Word 4}
    (h : s.knl.bank[idx.toNat]? = some w) : s.selectLastWord a idx =
      { s with free := s.free + 1, knl := { s.knl with copies := s.knl.copies.set (accNum a) ⟨idx, true, w⟩ } } := by
  simp only [State.selectLastWord, h]

theorem byteWord_wordBytes (v : Word) : byteWord (wordBytes v) = v := by
  refine BitVec.eq_of_getLsbD_eq fun i hi => ?_
  simp only [byteWord, wordBytes, List.getD_cons_zero, List.getD_cons_succ, BitVec.getLsbD_append, BitVec.getLsbD_extractLsb']
  split
  · next h => simp [h]
  split
  · next h => simp [h, show 8 + (i - 8) = i by omega]
  split
  · next h => simp [h, show 16 + (i - 8 - 8) = i by omega]
  · next h => simp [show i - 8 - 8 - 8 < 8 by omega, show 24 + (i - 8 - 8 - 8) = i by omega]

/-- A transfer of six bytes with its PEC writes the register (R390). -/
theorem exec_kennelPortWrite {s : State} (hpow : s.knl.powered = true) (p : Byte) (v : Word) (hp : p.toNat ≤ 0x11) :
    exec (.kennelPortWrite ((p :: wordBytes v) ++ [crc8 0x07 0 (s.portAddr :: p :: wordBytes v)])) s =
      .next (s.portWrite (0x1000 + 4 * p.toNat) v) := by
  show execKennelPortWrite _ s = _
  have hpec : ((p :: wordBytes v) ++ [crc8 0x07 0 (s.portAddr :: p :: wordBytes v)]).getD 5 0 =
      crc8 0x07 0 (s.portAddr :: p :: wordBytes v) := rfl
  have hword : byteWord ((((p :: wordBytes v) ++ [crc8 0x07 0 (s.portAddr :: p :: wordBytes v)]).drop 1).take 4) = v :=
    byteWord_wordBytes v
  unfold execKennelPortWrite
  dsimp only
  rw [hpow, if_neg (by decide), if_pos, hword]
  · rfl
  · rw [hpec]
    simpa [wordBytes] using hp

theorem exec_kennelPortRead {s : State} (hpow : s.knl.powered = true) (p : Byte) (hp : p.toNat ≤ 0x11) :
    let d := wordBytes (s.kennelRead .port (0x1000 + 4 * p.toNat))
    exec (.kennelPortRead p) s = .next { s with knl := { s.knl with
      portOut := d ++ [crc8 0x07 0 ([s.portAddr, p, s.portAddr ||| 1] ++ d)] } } := by
  show execKennelPortRead p s = _
  unfold execKennelPortRead
  rw [hpow, if_neg (by decide), if_pos hp]

theorem exec_kennelPortRead_nack {s : State} (hpow : s.knl.powered = true) (p : Byte) (hp : 0x11 < p.toNat) :
    exec (.kennelPortRead p) s = .next s.portNack := by
  show execKennelPortRead p s = _
  unfold execKennelPortRead
  rw [hpow, if_neg (by decide), if_neg (Nat.not_le.2 hp)]

/-- Settles O46: the bank, its commits and selections, and the port's transfers. -/
theorem lastWords : Obligations.LastWords := by
  intro s v src code data
  refine ⟨s.lastWord_bank src code data, fun hpow => ⟨fun hnone => ?_, fun n hlast hearly => ?_, fun w hw => ?_,
    fun p hp => ⟨exec_kennelPortWrite hpow p v hp, exec_kennelPortRead hpow p hp⟩, fun p => exec_kennelPortRead_nack hpow p⟩,
    rfl⟩
  · refine ⟨_, congrArg Host.Outcome.next ((State.knlAccess_port hpow rfl).trans (State.commitLastWord_port _ hnone)),
      rfl, rfl, _, rfl, rfl⟩
  · exact congrArg Host.Outcome.next ((State.knlAccess_port hpow rfl).trans (State.commitLastWord_early _ hlast hearly))
  · exact congrArg Host.Outcome.next ((State.knlAccess_port hpow rfl).trans (State.selectLastWord_written _ hw))

end Sys2Proof.Machine
end

section
/-! SUPPORT. SAFE causes and outputs of all channels (11_safety_functions.md): what raising or ending a cause leaves, and what
the gates and contactors leave of a channel's safety registers. -/

namespace Sys2Proof.Machine

/-! ## Raising and ending a SAFE cause (R189) -/

/-- Only SAFE causes of channels were raised or ended: every other register, the safety state, and what is latched stay. -/
structure State.RaisesOnly (s t : State) : Prop where
  get : ∀ j o, o ≠ Reg.CH_SAFE_LIVE → o ≠ Reg.CH_SAFE_LATCH → (t.chan j).get o = (s.chan j).get o
  chsaf : ∀ j, (t.chan j).saf = (s.chan j).saf
  latch : ∀ j i, ((s.chan j).get Reg.CH_SAFE_LATCH).getLsbD i = true → ((t.chan j).get Reg.CH_SAFE_LATCH).getLsbD i = true
  gget : ∀ o, o ≠ Reg.REC_CNT → o ≠ Reg.INT_STAT → t.gget o = s.gget o
  saf : t.saf = s.saf
  knl : t.knl = s.knl
  store : t.store = s.store

theorem State.RaisesOnly.refl (s : State) : s.RaisesOnly s :=
  ⟨fun _ _ _ _ => rfl, fun _ => rfl, fun _ _ h => h, fun _ _ _ => rfl, rfl, rfl, rfl⟩

theorem State.RaisesOnly.trans {s t u : State} (h : s.RaisesOnly t) (k : t.RaisesOnly u) : s.RaisesOnly u :=
  ⟨fun j o a b => (k.get j o a b).trans (h.get j o a b), fun j => (k.chsaf j).trans (h.chsaf j),
    fun j i a => k.latch j i (h.latch j i a), fun o a b => (k.gget o a b).trans (h.gget o a b), k.saf.trans h.saf,
    k.knl.trans h.knl, k.store.trans h.store⟩

theorem State.RaisesOnly.ite {s t u : State} {p : Prop} [Decidable p] (h : s.RaisesOnly t) (k : s.RaisesOnly u) :
    s.RaisesOnly (if p then t else u) := by
  split
  · exact h
  · exact k

theorem State.RaisesOnly.gfld {s t : State} (h : s.RaisesOnly t) {o : Nat} (f : BitField) (hcnt : o ≠ Reg.REC_CNT)
    (hint : o ≠ Reg.INT_STAT) : t.gfld o f = s.gfld o f := congrArg (getField · f) (h.gget o hcnt hint)

theorem State.RaisesOnly.reports {s t : State} (h : s.reports t) : s.RaisesOnly t :=
  ⟨fun j _ _ _ => by rw [h.chan j], fun j => by rw [h.chan j], fun j _ a => by rwa [h.chan j], h.2, by rw [h.1],
    by rw [h.1], by rw [h.1]⟩

/-- An update of one channel's LIVE and LATCH that keeps what is latched. -/
theorem State.RaisesOnly.put {s : State} {ch : ChId} {c : Chan}
    (hget : ∀ o, o ≠ Reg.CH_SAFE_LIVE → o ≠ Reg.CH_SAFE_LATCH → c.get o = (s.chan ch).get o) (hsaf : c.saf = (s.chan ch).saf)
    (hlatch : ∀ i, ((s.chan ch).get Reg.CH_SAFE_LATCH).getLsbD i = true → (c.get Reg.CH_SAFE_LATCH).getLsbD i = true) :
    s.RaisesOnly (s.putChan ch c) := by
  refine ⟨fun j o a b => ?_, fun j => ?_, fun j i a => ?_, fun _ _ _ => rfl, rfl, rfl, rfl⟩
  · rw [State.chan_putChan]
    split
    · next h => exact h ▸ hget o a b
    · rfl
  · rw [State.chan_putChan]
    split
    · next h => exact h ▸ hsaf
    · rfl
  · rw [State.chan_putChan]
    split
    · next h =>
      subst h
      exact hlatch i a
    · exact a

theorem State.raisesOnly_raiseSafe (s : State) (ch : ChId) (b : Nat) : s.RaisesOnly (s.raiseSafe ch b) := by
  unfold State.raiseSafe
  extract_lets c fresh d e u
  have hu : s.RaisesOnly u := .put
    (fun o a b => by rw [Chan.get_put, if_neg b, Chan.get_put, if_neg a]) rfl
    (fun i a => by
      rw [Chan.get_put, if_pos rfl, BitVec.getLsbD_or, Chan.get_put, if_neg (by decide)]
      exact Bool.or_eq_true_iff.2 (.inl a))
  exact hu.trans (.ite (.reports ((State.reports_record ..).irq _)) (.refl u))

theorem State.raisesOnly_setLive (s : State) (ch : ChId) (b : Nat) (on : Bool) : s.RaisesOnly (s.setLive ch b on) := by
  unfold State.setLive
  refine .ite (.ite (.refl s) (s.raisesOnly_raiseSafe ch b)) (.put (fun o a _ => ?_) rfl (fun i a => ?_))
  · rw [Chan.get_put, if_neg a]
  · rw [Chan.get_put, if_neg (by decide)]
    exact a

theorem State.raiseSafe_chan_ne (s : State) {ch j : ChId} (b : Nat) (h : j ≠ ch) : (s.raiseSafe ch b).chan j = s.chan j := by
  unfold State.raiseSafe
  dsimp only
  split
  · rw [State.irq_chan, State.record_chan, State.chan_putChan_ne _ _ h]
  · exact s.chan_putChan_ne _ h

theorem getLsbD_shiftLeft_one {b i : Nat} (hb : b < 32) : (1#32 <<< b).getLsbD i = decide (i = b) := by
  rw [BitVec.getLsbD_shiftLeft]
  by_cases h : i = b
  · simp [h, hb]
  · by_cases hlt : i < b
    · simp [h, hlt]
    · simp [h, show ¬ i - b = 0 by omega]

/-- LIVE after a cause's raising: its bit, and the others as they were (R189). -/
theorem State.raiseSafe_live (s : State) (ch j : ChId) {b : Nat} (i : Nat) (hb : b < 32) :
    (((s.raiseSafe ch b).chan j).get Reg.CH_SAFE_LIVE).getLsbD i =
      (((s.chan j).get Reg.CH_SAFE_LIVE).getLsbD i || decide (j = ch ∧ i = b)) := by
  by_cases h : j = ch
  · subst h
    rw [State.raiseSafe_chan, Chan.get_put, if_neg (by decide), Chan.get_put, if_pos rfl, BitVec.getLsbD_or,
      getLsbD_shiftLeft_one hb]
    simp
  · rw [State.raiseSafe_chan_ne _ _ h]
    simp [h]

/-- LIVE's bit of a cause follows its condition, and the other bits stay (R189). -/
theorem State.setLive_live (s : State) (ch j : ChId) {b : Nat} (on : Bool) (i : Nat) (hb : b < 32) :
    (((s.setLive ch b on).chan j).get Reg.CH_SAFE_LIVE).getLsbD i =
      if j = ch ∧ i = b then on else ((s.chan j).get Reg.CH_SAFE_LIVE).getLsbD i := by
  unfold State.setLive
  dsimp only
  cases on with
  | true =>
    rw [if_pos rfl]
    split
    · next hlive =>
      split
      · next h =>
        obtain ⟨rfl, rfl⟩ := h
        exact hlive
      · rfl
    · rw [State.raiseSafe_live s ch j i hb]
      split
      · next h => simp [h]
      · next h => simp [h]
  | false =>
    rw [if_neg (by decide), State.onChan_eq]
    by_cases h : j = ch
    · subst h
      rw [State.chan_putChan_same, Chan.get_put, if_pos rfl, BitVec.getLsbD_and, BitVec.getLsbD_not,
        getLsbD_shiftLeft_one hb]
      by_cases hi : i = b
      · simp [hi]
      · simp only [hi, decide_false, Bool.not_false, Bool.and_true, and_false, if_false, Bool.and_eq_left_iff_imp,
          decide_eq_true_eq]
        exact BitVec.lt_of_getLsbD
    · rw [State.chan_putChan_ne _ _ h, if_neg (fun a => h a.1)]

/-! ## Gates and contactors (R263, R345) -/

/-- A channel after its gates and brake have followed, but for its PWM unit: the safety state and every register beside PWM_STAT
and PWM_CNT1. -/
def Chan.PwmOnly (c d : Chan) : Prop :=
  d.saf = c.saf ∧ ∀ o, o ≠ Reg.PWM_STAT → o ≠ Reg.PWM_CNT1 → d.get o = c.get o

theorem Chan.PwmOnly.refl (c : Chan) : c.PwmOnly c := ⟨rfl, fun _ _ _ => rfl⟩

theorem Chan.PwmOnly.trans {a b c : Chan} (h : a.PwmOnly b) (k : b.PwmOnly c) : a.PwmOnly c :=
  ⟨k.1.trans h.1, fun o x y => (k.2 o x y).trans (h.2 o x y)⟩

theorem State.pwmOnly_put {s : State} {ch : ChId} {c : Chan} (h : (s.chan ch).PwmOnly c) :
    (s.chan ch).PwmOnly ((s.putChan ch c).chan ch) := by
  rwa [State.chan_putChan_same]

theorem State.pwmOnly_showBrake (s : State) (ch : ChId) : (s.chan ch).PwmOnly ((s.showBrake ch).chan ch) :=
  State.pwmOnly_put ⟨rfl, fun _ a _ => (Chan.get_put ..).trans (if_neg a)⟩

theorem State.pwmOnly_brakeFollow (s : State) (ch : ChId) : (s.chan ch).PwmOnly ((s.brakeFollow ch).chan ch) := by
  have turn : ∀ on, (s.chan ch).PwmOnly (((s.putChan ch ((s.chan ch).brakeTurn on s.time.refNs)).showBrake ch).chan ch) :=
    fun on => (State.pwmOnly_put (c := (s.chan ch).brakeTurn on s.time.refNs) ⟨rfl, fun _ _ _ => rfl⟩).trans
      (State.pwmOnly_showBrake _ ch)
  unfold State.brakeFollow
  extract_lets c t
  split
  · exact s.pwmOnly_showBrake ch
  split
  · split
    · exact turn false
    · exact s.pwmOnly_showBrake ch
  split
  · exact s.pwmOnly_showBrake ch
  split
  · exact turn _
  · rw [State.countCh_chan]
    exact (turn _).trans ⟨rfl, fun _ _ b => (Chan.get_put ..).trans (if_neg b)⟩

theorem State.pwmOnly_gatesFollow (s : State) (ch j : ChId) : (s.chan j).PwmOnly ((s.gatesFollow ch).chan j) := by
  by_cases h : j = ch
  · subst h
    have off : ∀ b, (s.chan j).PwmOnly ((s.onChan j (·.gatesOff b)).chan j) := fun b =>
      State.pwmOnly_put ⟨rfl, fun _ _ _ => rfl⟩
    unfold State.gatesFollow
    refine Chan.PwmOnly.trans ?_ (State.pwmOnly_brakeFollow _ j)
    split
    · exact .refl _
    split
    · exact off false
    split
    · exact off true
    · exact .refl _
  · rw [State.gatesFollow_chan_ne _ h]
    exact .refl _

/-- A channel after its contactor commands have followed, but for K1CMD and K2CMD and the contactors' timers. -/
structure Chan.ContactorsOnly (c d : Chan) : Prop where
  permA : d.saf.permA = c.saf.permA
  permB : d.saf.permB = c.saf.permB
  get : ∀ o, o ≠ Reg.SAF_CH_STAT → d.get o = c.get o
  stat : ∀ f : BitField, (f.lo + f.width ≤ 7 ∨ f.lo = 8 ∧ f.width = 1 ∨ 10 ≤ f.lo) →
    d.fld Reg.SAF_CH_STAT f = c.fld Reg.SAF_CH_STAT f

theorem Chan.ContactorsOnly.refl (c : Chan) : c.ContactorsOnly c := ⟨rfl, rfl, fun _ _ => rfl, fun _ _ => rfl⟩

theorem Chan.ContactorsOnly.trans {a b c : Chan} (h : a.ContactorsOnly b) (k : b.ContactorsOnly c) : a.ContactorsOnly c :=
  ⟨k.permA.trans h.permA, k.permB.trans h.permB, fun o x => (k.get o x).trans (h.get o x),
    fun f x => (k.stat f x).trans (h.stat f x)⟩

/-- A change of a contactor's command, if it is one. -/
theorem Chan.ContactorsOnly.command (c : Chan) (same : Bool) {f : BitField} (n : Nat) (x : SafCh)
    (hf : f = Fld.SAF_CH_STAT_K1CMD ∨ f = Fld.SAF_CH_STAT_K2CMD) (ha : x.permA = c.saf.permA) (hb : x.permB = c.saf.permB) :
    c.ContactorsOnly (if same then c else { c.setFld Reg.SAF_CH_STAT f n with saf := x }) := by
  split
  · exact .refl c
  · refine ⟨ha, hb, fun o h => (Chan.get_put ..).trans (if_neg h), fun g hg => ?_⟩
    refine (Chan.fld_setFld_ne c _ _ f g n (.inr ?_))
    rcases hf with rfl | rfl <;> simp <;> omega

theorem State.contactorsOnly_contactors (s : State) (ch j : ChId) : (s.chan j).ContactorsOnly ((s.contactors ch).chan j) := by
  by_cases h : j = ch
  · subst h
    unfold State.contactors
    extract_lets c perm en k1 k2 x1 x2 c1 x3 x4 c2
    have h1 : (s.chan j).ContactorsOnly c1 :=
      .command c _ _ _ (.inl rfl) rfl rfl
    have h2 : c1.ContactorsOnly c2 :=
      .command c1 _ _ _ (.inr rfl) rfl rfl
    rw [State.chan_putChan_same]
    exact h1.trans h2
  · rw [State.contactors, State.chan_putChan_ne _ _ h]
    exact .refl _

/-- A channel after a step that keeps what a strobe shows of it: its permits, its SAF_CH_STAT beside the contactors' commands,
and its LIVE bits up to UNCONF. -/
structure Chan.KeepsShown (c d : Chan) : Prop where
  permA : d.saf.permA = c.saf.permA
  permB : d.saf.permB = c.saf.permB
  stat : ∀ f : BitField, (f.lo + f.width ≤ 7 ∨ f.lo = 8 ∧ f.width = 1 ∨ 10 ≤ f.lo) →
    d.fld Reg.SAF_CH_STAT f = c.fld Reg.SAF_CH_STAT f
  live : ∀ i, i < 5 → (d.get Reg.CH_SAFE_LIVE).getLsbD i = (c.get Reg.CH_SAFE_LIVE).getLsbD i

theorem Chan.KeepsShown.refl (c : Chan) : c.KeepsShown c := ⟨rfl, rfl, fun _ _ => rfl, fun _ _ => rfl⟩

theorem Chan.KeepsShown.trans {a b c : Chan} (h : a.KeepsShown b) (k : b.KeepsShown c) : a.KeepsShown c :=
  ⟨k.permA.trans h.permA, k.permB.trans h.permB, fun f x => (k.stat f x).trans (h.stat f x),
    fun i x => (k.live i x).trans (h.live i x)⟩

theorem Chan.ContactorsOnly.keepsShown {c d : Chan} (h : c.ContactorsOnly d) : c.KeepsShown d :=
  ⟨h.permA, h.permB, h.stat, fun i _ => by rw [h.get Reg.CH_SAFE_LIVE (by decide)]⟩

theorem Chan.PwmOnly.keepsShown {c d : Chan} (h : c.PwmOnly d) : c.KeepsShown d :=
  ⟨by rw [h.1], by rw [h.1], fun f _ => congrArg (getField · f) (h.2 Reg.SAF_CH_STAT (by decide) (by decide)),
    fun i _ => by rw [h.2 Reg.CH_SAFE_LIVE (by decide) (by decide)]⟩

/-- Raising a cause above UNCONF (SEDIS) leaves what a strobe shows. -/
theorem State.keepsShown_raiseSafe (s : State) (ch j : ChId) {b : Nat} (hb : b < 32) (h5 : 5 ≤ b) :
    (s.chan j).KeepsShown ((s.raiseSafe ch b).chan j) := by
  have hr := s.raisesOnly_raiseSafe ch b
  refine ⟨by rw [hr.chsaf j], by rw [hr.chsaf j],
    fun f _ => congrArg (getField · f) (hr.get j Reg.SAF_CH_STAT (by decide) (by decide)), fun i hi => ?_⟩
  rw [State.raiseSafe_live s ch j i hb, decide_eq_false (by omega), Bool.or_false]

/-! ## What a strobe shows of a channel (R346 to R349) -/

/-- The samples and causes that a strobe shows of a channel. -/
structure Chan.Shows (d : Chan) (a b : SafSample) (conf : Bool) : Prop where
  sga : d.bit Reg.SAF_CH_STAT Fld.SAF_CH_STAT_SGA = (a.sga || b.sga)
  sgb : d.bit Reg.SAF_CH_STAT Fld.SAF_CH_STAT_SGB = (a.sgb || b.sgb)
  k1 : d.bit Reg.SAF_CH_STAT Fld.SAF_CH_STAT_K1FB = a.k1Closed
  k2 : d.bit Reg.SAF_CH_STAT Fld.SAF_CH_STAT_K2FB = a.k2Closed
  sgi : (d.get Reg.CH_SAFE_LIVE).getLsbD 0 = (a.sga || b.sga || a.sgb || b.sgb)
  disc : (d.get Reg.CH_SAFE_LIVE).getLsbD 1 = d.bit Reg.SAF_CH_STAT Fld.SAF_CH_STAT_DISC
  unconf : (d.get Reg.CH_SAFE_LIVE).getLsbD 4 = !conf

theorem Chan.KeepsShown.bit {c d : Chan} (h : c.KeepsShown d) (f : BitField)
    (hf : f.lo + f.width ≤ 7 ∨ f.lo = 8 ∧ f.width = 1 ∨ 10 ≤ f.lo) : d.bit Reg.SAF_CH_STAT f = c.bit Reg.SAF_CH_STAT f :=
  congrArg (· != 0) (h.stat f hf)

theorem Chan.KeepsShown.shows {c d : Chan} {a b : SafSample} {conf : Bool} (h : c.KeepsShown d) (k : c.Shows a b conf) :
    d.Shows a b conf :=
  ⟨(h.bit _ (by decide)).trans k.sga, (h.bit _ (by decide)).trans k.sgb, (h.bit _ (by decide)).trans k.k1,
    (h.bit _ (by decide)).trans k.k2, (h.live 0 (by decide)).trans k.sgi,
    (h.live 1 (by decide)).trans (k.disc.trans (h.bit _ (by decide)).symm), (h.live 4 (by decide)).trans k.unconf⟩

/-- The permits of a channel agree with its INH bits and each engine's own view of SGI (R346, R347). -/
structure Chan.Permitted (d : Chan) (a b : SafSample) : Prop where
  inhA : d.bit Reg.SAF_CH_STAT Fld.SAF_CH_STAT_INH_A = !d.saf.permA.getLsbD 0
  inhB : d.bit Reg.SAF_CH_STAT Fld.SAF_CH_STAT_INH_B = !d.saf.permB.getLsbD 0
  ownA : d.saf.permA.getLsbD 0 = true → a.sga = false ∧ a.sgb = false
  ownB : d.saf.permB.getLsbD 0 = true → b.sga = false ∧ b.sgb = false

theorem Chan.KeepsShown.permitted {c d : Chan} {a b : SafSample} (h : c.KeepsShown d) (k : c.Permitted a b) :
    d.Permitted a b :=
  ⟨by rw [h.bit _ (by decide), h.permA, k.inhA], by rw [h.bit _ (by decide), h.permB, k.inhB],
    fun x => k.ownA (h.permA ▸ x), fun x => k.ownB (h.permB ▸ x)⟩

/-- The gate causes of a LIVE word, but for SGI. -/
theorem and_gateCauses_eq (n : Nat) : n &&& 0x1E = 2 * (n / 2 &&& 15) := by
  refine Nat.eq_of_testBit_eq fun i => ?_
  cases i with
  | zero => simp
  | succ i => rw [Nat.testBit_and, Nat.testBit_succ, Nat.testBit_succ, Nat.testBit_succ, Nat.mul_div_cancel_left _ (by decide),
      Nat.testBit_and]

/-- An engine gives the gate permit exactly where no gate cause is live in its view (R346). -/
theorem Chan.permits_gates (c : Chan) (sgi all : Bool) : (c.permits sgi all).getLsbD 0 = true ↔
    all = false ∧ sgi = false ∧ c.get Reg.CH_SAFE_LIVE &&& 0x1E = 0 := by
  have hlive : c.get Reg.CH_SAFE_LIVE &&& 0x1E = 0 ↔ (c.get Reg.CH_SAFE_LIVE).toNat / 2 % 16 = 0 := by
    rw [← BitVec.toNat_inj, BitVec.toNat_and]
    show (c.get Reg.CH_SAFE_LIVE).toNat &&& 0x1E = 0 ↔ _
    rw [and_gateCauses_eq, Nat.and_two_pow_sub_one_eq_mod _ 4]
    omega
  rw [hlive]
  unfold Chan.permits gateCauses
  extract_lets live both k
  rw [BitVec.getLsbD_append, if_pos (by decide), BitVec.getLsbD_ofBool, Nat.and_two_pow_sub_one_eq_mod _ 5]
  cases all <;> cases sgi <;> simp [live] <;> omega

/-! ## One channel's evaluation (R346 to R352) -/

theorem Chan.discStrobe_bit (c : Chan) (a b : Bool) (f : BitField) (h : f.lo + f.width ≤ 4 ∨ 7 ≤ f.lo) :
    (c.discStrobe a b).bit Reg.SAF_CH_STAT f = c.bit Reg.SAF_CH_STAT f := by
  have clear : ∀ (d : Chan) (g : BitField) n, (4 ≤ g.lo ∧ g.lo + g.width ≤ 7) →
      (d.setFld Reg.SAF_CH_STAT g n).bit Reg.SAF_CH_STAT f = d.bit Reg.SAF_CH_STAT f := fun d g n hg =>
    Chan.bit_setFld_ne d _ _ g f n (by omega)
  unfold Chan.discStrobe
  split
  · rfl
  extract_lets c1 x1 c2
  have h1 : c1.bit Reg.SAF_CH_STAT f = c.bit Reg.SAF_CH_STAT f := by
    unfold c1
    split
    · exact clear c _ 1 (by decide)
    · rfl
  have h2 : c2.bit Reg.SAF_CH_STAT f = c1.bit Reg.SAF_CH_STAT f := by
    unfold c2
    split <;> rfl
  split
  · refine Eq.trans ?_ (h2.trans h1)
    exact (clear _ _ 0 (by decide)).trans ((clear _ _ 0 (by decide)).trans (clear _ _ 0 (by decide)))
  · exact h2.trans h1

theorem Chan.kStrobe_get (c : Chan) (k2 : Bool) (o : Nat) : (c.kStrobe k2).get o = c.get o := by
  unfold Chan.kStrobe
  split <;> rfl

theorem Chan.contRelease_bit (c : Chan) (f : BitField) (h : f.lo + f.width ≤ 11) :
    c.contRelease.bit Reg.SAF_CH_STAT f = c.bit Reg.SAF_CH_STAT f := by
  unfold Chan.contRelease
  dsimp only
  split
  · exact (Chan.bit_setFld_ne _ _ _ _ _ _ (.inr (.inr (Nat.le_trans h (by decide))))).trans
      (Chan.bit_setFld_ne _ _ _ _ _ _ (.inr (.inr h)))
  · rfl

theorem State.setLive_chan_ne (s : State) {ch j : ChId} (b : Nat) (on : Bool) (h : j ≠ ch) :
    (s.setLive ch b on).chan j = s.chan j := by
  unfold State.setLive
  dsimp only
  split
  · split
    · rfl
    · exact s.raiseSafe_chan_ne b h
  · exact s.chan_putChan_ne _ h

/-- Setting a LIVE bit leaves SAF_CH_STAT. -/
theorem State.setLive_bit (s : State) (ch j : ChId) (b : Nat) (on : Bool) (f : BitField) :
    ((s.setLive ch b on).chan j).bit Reg.SAF_CH_STAT f = (s.chan j).bit Reg.SAF_CH_STAT f := by
  unfold Chan.bit Chan.fld
  rw [(s.raisesOnly_setLive ch b on).get j _ (by decide) (by decide)]

theorem State.setLive_gbit (s : State) (ch : ChId) (b : Nat) (on : Bool) (f : BitField) :
    (s.setLive ch b on).gbit Reg.SAF_STAT f = s.gbit Reg.SAF_STAT f :=
  congrArg (· != 0) ((s.raisesOnly_setLive ch b on).gfld f (by decide) (by decide))

/-- The evaluation of a channel keeps the common status and the other channels, and shows the channel's samples. -/
theorem State.strobeChan_shows (s : State) (ch : ChId) (a b : SafSample) :
    (∀ f, (s.strobeChan ch a b).gbit Reg.SAF_STAT f = s.gbit Reg.SAF_STAT f) ∧
    (∀ j, j ≠ ch → (s.strobeChan ch a b).chan j = s.chan j) ∧
    ((s.strobeChan ch a b).chan ch).Shows a b (s.gbit Reg.SAF_STAT Fld.SAF_STAT_CONF) := by
  unfold State.strobeChan
  extract_lets c before sga sgb bit c1 c2 x1 c3 x2 c4 c5 s1 s2 s3 s4 s5 s6
  have shown : ∀ f : BitField, f.lo + f.width ≤ 4 ∨ 7 ≤ f.lo ∧ f.lo + f.width ≤ 11 →
      c5.bit Reg.SAF_CH_STAT f = c2.bit Reg.SAF_CH_STAT f := by
    intro f hf
    have h4 : c4.bit Reg.SAF_CH_STAT f = c2.bit Reg.SAF_CH_STAT f := by
      unfold c4
      split <;> rfl
    unfold c5
    rw [Chan.contRelease_bit _ _ (by omega), ← h4, ← c4.discStrobe_bit sga sgb f (by omega)]
    unfold Chan.bit Chan.fld
    rw [Chan.kStrobe_get, Chan.kStrobe_get]
  clear_value c5
  have h2 : (∀ f, s2.gbit Reg.SAF_STAT f = s.gbit Reg.SAF_STAT f) ∧ (∀ j, j ≠ ch → s2.chan j = s.chan j) ∧
      (∀ f, (s2.chan ch).bit Reg.SAF_CH_STAT f = c5.bit Reg.SAF_CH_STAT f) := by
    have hput : s1.chan ch = c5 := s.chan_putChan_same ch c5
    have hne : ∀ j, j ≠ ch → s1.chan j = s.chan j := fun j hj => s.chan_putChan_ne c5 hj
    unfold s2
    split
    · refine ⟨fun f => congrArg (· != 0) (s1.countCh_gfld ch _ _ _ f (by decide) (by decide)), fun j hj => ?_, fun f => ?_⟩
      · rw [State.countCh_chan_ne _ _ _ _ hj, hne j hj]
      · rw [State.countCh_chan, hput]
        unfold Chan.bit Chan.fld
        rw [Chan.get_put, if_neg (by decide)]
    · exact ⟨fun _ => rfl, hne, fun f => by rw [hput]⟩
  obtain ⟨hg2, hne2, hbit2⟩ := h2
  clear_value s2
  have hg6 : ∀ f, s6.gbit Reg.SAF_STAT f = s.gbit Reg.SAF_STAT f := fun f => by
    unfold s6 s5 s4 s3
    simp only [State.setLive_gbit, hg2]
  have hbit : ∀ on (f : BitField), f.lo + f.width ≤ 4 ∨ 7 ≤ f.lo ∧ f.lo + f.width ≤ 11 →
      ((s6.setLive ch 4 on).chan ch).bit Reg.SAF_CH_STAT f = c2.bit Reg.SAF_CH_STAT f := fun on f hf => by
    unfold s6 s5 s4 s3
    simp only [State.setLive_bit, hbit2, shown f hf]
  have hdisc : ∀ on, ((s6.setLive ch 4 on).chan ch).bit Reg.SAF_CH_STAT Fld.SAF_CH_STAT_DISC =
      c5.bit Reg.SAF_CH_STAT Fld.SAF_CH_STAT_DISC := fun on => by
    unfold s6 s5 s4 s3
    simp only [State.setLive_bit, hbit2]
  have hlive : ∀ on i, i < 5 → (((s6.setLive ch 4 on).chan ch).get Reg.CH_SAFE_LIVE).getLsbD i =
      if i = 4 then on else ((s6.chan ch).get Reg.CH_SAFE_LIVE).getLsbD i := fun on i _ => by
    rw [State.setLive_live s6 ch ch on i (by decide)]
    simp only [true_and]
  have hlow : ∀ i, i < 2 → ((s6.chan ch).get Reg.CH_SAFE_LIVE).getLsbD i = ((s4.chan ch).get Reg.CH_SAFE_LIVE).getLsbD i :=
    fun i hi => by
      unfold s6 s5
      rw [State.setLive_live _ ch ch _ i (by decide), if_neg (by omega), State.setLive_live _ ch ch _ i (by decide),
        if_neg (by omega)]
  refine ⟨fun f => (State.setLive_gbit ..).trans (hg6 f), fun j hj => ?_, ?_⟩
  · unfold s6 s5 s4 s3
    simp only [State.setLive_chan_ne _ _ _ hj, hne2 j hj]
  · refine ⟨?_, ?_, ?_, ?_, ?_, ?_, ?_⟩
    · rw [hbit _ _ (by decide)]
      unfold c2 c1
      rw [Chan.bit_setFld_ne _ _ _ _ _ _ (by decide), Chan.bit_setFld_ne _ _ _ _ _ _ (by decide),
        Chan.bit_setFld_ne _ _ _ _ _ _ (by decide)]
      exact Chan.bit_setFld_ite _ _ _ (by decide) rfl
    · rw [hbit _ _ (by decide)]
      unfold c2 c1
      rw [Chan.bit_setFld_ne _ _ _ _ _ _ (by decide), Chan.bit_setFld_ne _ _ _ _ _ _ (by decide)]
      exact Chan.bit_setFld_ite _ _ _ (by decide) rfl
    · rw [hbit _ _ (by decide)]
      unfold c2
      rw [Chan.bit_setFld_ne _ _ _ _ _ _ (by decide)]
      exact Chan.bit_setFld_ite _ _ _ (by decide) rfl
    · rw [hbit _ _ (by decide)]
      exact Chan.bit_setFld_ite _ _ _ (by decide) rfl
    · rw [hlive _ 0 (by decide), if_neg (by decide), hlow 0 (by decide)]
      unfold s4 s3
      rw [State.setLive_live _ ch ch _ 0 (by decide), if_neg (by simp), State.setLive_live _ ch ch _ 0 (by decide),
        if_pos ⟨rfl, rfl⟩]
      unfold sga sgb
      simp only [Bool.or_assoc]
    · rw [hlive _ 1 (by decide), if_neg (by decide), hlow 1 (by decide), hdisc]
      unfold s4
      rw [State.setLive_live _ ch ch _ 1 (by decide), if_pos ⟨rfl, rfl⟩]
    · rw [hlive _ 4 (by decide), if_pos rfl, hg6]

/-! ## The permits (R344, R346, R347) -/

/-- A bit written as the complement of a condition reads so. -/
theorem Chan.bit_setFld_not (c : Chan) (r : Nat) {f : BitField} (b : Bool) (h : f.lo + f.width ≤ 32) (hw : f.width = 1) :
    (c.setFld r f (if b then 0 else 1)).bit r f = !b := by
  cases b
  · exact c.bit_setFld r f h (by omega)
  · exact c.bit_setFld0 r f h

theorem State.contactors_gget (s : State) (ch : ChId) (o : Nat) : (s.contactors ch).gget o = s.gget o := rfl

/-- The permits keep the common status, and what is shown of every channel; the channel's own agree with its INH bits. -/
theorem State.permitChan_permits (s : State) (ch : ChId) (a b : SafSample) :
    (∀ f, (s.permitChan ch a b).gbit Reg.SAF_STAT f = s.gbit Reg.SAF_STAT f) ∧
    (∀ j, j ≠ ch → (s.chan j).KeepsShown ((s.permitChan ch a b).chan j)) ∧
    (∀ x y conf, (s.chan ch).Shows x y conf → ((s.permitChan ch a b).chan ch).Shows x y conf) ∧
    ((s.permitChan ch a b).chan ch).Permitted a b := by
  unfold State.permitChan
  extract_lets all c pa pb x c1 c2
  have follow : ∀ j, ((s.putChan ch c2).chan j).KeepsShown ((((s.putChan ch c2).contactors ch).gatesFollow ch).chan j) :=
    fun j => ((s.putChan ch c2).contactorsOnly_contactors ch j).keepsShown.trans
      (((s.putChan ch c2).contactors ch).pwmOnly_gatesFollow ch j).keepsShown
  have hget : ∀ o, o ≠ Reg.SAF_CH_STAT → c2.get o = c.get o := fun o h =>
    (Chan.get_put ..).trans ((if_neg h).trans ((Chan.get_put ..).trans (if_neg h)))
  have hbit : ∀ f : BitField, (f.lo + f.width ≤ 2 ∨ 4 ≤ f.lo) → c2.bit Reg.SAF_CH_STAT f = c.bit Reg.SAF_CH_STAT f :=
    fun f hf => (Chan.bit_setFld_ne _ _ _ _ _ _ (.inr (by dsimp only; omega))).trans
      (Chan.bit_setFld_ne c1 _ _ _ _ _ (.inr (by dsimp only; omega)))
  refine ⟨fun f => ?_, fun j hj => ?_, fun x y conf h => ?_, ?_⟩
  · exact congrArg (· != 0) (State.gatesFollow_gfld _ ch f (by decide) (by decide))
  · refine Chan.KeepsShown.trans ?_ (follow j)
    rw [State.chan_putChan_ne _ _ hj]
    exact .refl _
  · refine (follow ch).shows ?_
    rw [State.chan_putChan_same]
    obtain ⟨hsga, hsgb, hk1, hk2, hsgi, hdisc, hconf⟩ := h
    have hlive : c2.get Reg.CH_SAFE_LIVE = (s.chan ch).get Reg.CH_SAFE_LIVE := hget _ (by decide)
    exact ⟨(hbit _ (by decide)).trans hsga, (hbit _ (by decide)).trans hsgb, (hbit _ (by decide)).trans hk1,
      (hbit _ (by decide)).trans hk2, by rwa [hlive], by rw [hlive, hdisc]; exact (hbit _ (by decide)).symm, by rwa [hlive]⟩
  · refine (follow ch).permitted ?_
    rw [State.chan_putChan_same]
    have own : ∀ x y, (c.permits (x || y) all).getLsbD 0 = true → x = false ∧ y = false := fun x y h =>
      Bool.or_eq_false_iff.1 ((Chan.permits_gates ..).1 h).2.1
    refine ⟨?_, ?_, own _ _, own _ _⟩
    · refine (Chan.bit_setFld_ne _ _ _ _ _ _ (by decide)).trans ?_
      exact Chan.bit_setFld_not c1 _ _ (by decide) rfl
    · exact Chan.bit_setFld_not _ _ _ (by decide) rfl

/-- One channel's evaluation and permits at a strobe. -/
def State.strobeOne (env : StrobeEnv) (s : State) (ch : ChId) : State :=
  s.strobeChan ch (sampleOf env.a ch) (sampleOf env.b ch)

def State.permitOne (env : StrobeEnv) (s : State) (ch : ChId) : State :=
  s.permitChan ch (sampleOf env.a ch) (sampleOf env.b ch)

def State.strobeAll (env : StrobeEnv) (s : State) : State := (List.finRange 12).foldl (State.strobeOne env) s

def State.permitAll (env : StrobeEnv) (s : State) : State := (List.finRange 12).foldl (State.permitOne env) s

/-- What a strobe shows of a channel, with CONF. -/
def State.ShowsAt (env : StrobeEnv) (conf : Bool) (ch : ChId) (s : State) : Prop :=
  (s.chan ch).Shows (sampleOf env.a ch) (sampleOf env.b ch) conf

def State.PermittedAt (env : StrobeEnv) (ch : ChId) (s : State) : Prop :=
  (s.chan ch).Permitted (sampleOf env.a ch) (sampleOf env.b ch)

def State.Conf (conf : Bool) (s : State) : Prop := s.gbit Reg.SAF_STAT Fld.SAF_STAT_CONF = conf

theorem State.strobeAll_shows (env : StrobeEnv) {conf : Bool} {s : State} (h : s.Conf conf) :
    (s.strobeAll env).Conf conf ∧ ∀ ch, (s.strobeAll env).ShowsAt env conf ch := by
  have hkeeps : ∀ (t : State) i, t.Conf conf → (t.strobeOne env i).Conf conf := fun t i ht =>
    ((t.strobeChan_shows i (sampleOf env.a i) (sampleOf env.b i)).1 _).trans ht
  have hsets : ∀ (t : State) i, t.Conf conf → (t.strobeOne env i).ShowsAt env conf i := fun t i ht => by
    have hshows := (t.strobeChan_shows i (sampleOf env.a i) (sampleOf env.b i)).2.2
    rw [show t.gbit Reg.SAF_STAT Fld.SAF_STAT_CONF = conf from ht] at hshows
    exact hshows
  have hstays : ∀ (t : State) i j, t.Conf conf → t.ShowsAt env conf j → (t.strobeOne env i).ShowsAt env conf j :=
    fun t i j ht hj => by
      by_cases hji : j = i
      · subst hji
        exact hsets t j ht
      · unfold State.ShowsAt State.strobeOne
        rw [(t.strobeChan_shows i _ _).2.1 j hji]
        exact hj
  exact foldl_finRange_sets (P := State.Conf conf) (Q := State.ShowsAt env conf) hkeeps hsets hstays h

/-- A later state of the same strobe: the common status is as it was, and every channel shows its samples. -/
def State.StaysShown (s : State) (env : StrobeEnv) (conf : Bool) (t : State) : Prop :=
  (∀ f, t.gbit Reg.SAF_STAT f = s.gbit Reg.SAF_STAT f) ∧ ∀ ch, t.ShowsAt env conf ch

theorem State.permitOne_permits (env : StrobeEnv) (s : State) (ch : ChId) :
    (∀ f, (s.permitOne env ch).gbit Reg.SAF_STAT f = s.gbit Reg.SAF_STAT f) ∧
    (∀ j, j ≠ ch → (s.chan j).KeepsShown ((s.permitOne env ch).chan j)) ∧
    (∀ conf, s.ShowsAt env conf ch → (s.permitOne env ch).ShowsAt env conf ch) ∧ (s.permitOne env ch).PermittedAt env ch := by
  obtain ⟨hg, hne, hshow, hperm⟩ := s.permitChan_permits ch (sampleOf env.a ch) (sampleOf env.b ch)
  exact ⟨hg, hne, hshow _ _, hperm⟩

/-- The permits of every channel keep the common status and what is shown, and agree with the INH bits. -/
theorem State.permitAll_permits (env : StrobeEnv) {conf : Bool} {s : State}
    (hs : ∀ ch, s.ShowsAt env conf ch) : (∀ f, (s.permitAll env).gbit Reg.SAF_STAT f = s.gbit Reg.SAF_STAT f) ∧
      (∀ ch, (s.permitAll env).ShowsAt env conf ch) ∧ ∀ ch, (s.permitAll env).PermittedAt env ch := by
  have hkeeps : ∀ (t : State) i, s.StaysShown env conf t → s.StaysShown env conf (t.permitOne env i) := by
    intro t i ⟨hg, hshow⟩
    obtain ⟨kg, kne, kown, -⟩ := t.permitOne_permits env i
    refine ⟨fun f => (kg f).trans (hg f), fun ch => ?_⟩
    by_cases hj : ch = i
    · subst hj
      exact kown _ (hshow ch)
    · exact (kne ch hj).shows (hshow ch)
  have hsets : ∀ (t : State) i, s.StaysShown env conf t → (t.permitOne env i).PermittedAt env i := fun t i _ =>
    (t.permitOne_permits env i).2.2.2
  have hstays : ∀ (t : State) i j, s.StaysShown env conf t → t.PermittedAt env j → (t.permitOne env i).PermittedAt env j := by
    intro t i j hp hj
    by_cases hji : j = i
    · subst hji
      exact hsets t j hp
    · exact ((t.permitOne_permits env i).2.1 j hji).permitted hj
  obtain ⟨⟨hg, hshow⟩, hp⟩ :=
    foldl_finRange_sets (P := s.StaysShown env conf) (Q := State.PermittedAt env) hkeeps hsets hstays (s := s) ⟨fun _ => rfl, hs⟩
  exact ⟨hg, hshow, hp⟩

/-! ## The exchange and the whole strobe (R342, R343, R385) -/

/-- A step that keeps CONF and what is shown of every channel. -/
def State.KeepsShown (s t : State) : Prop :=
  t.gbit Reg.SAF_STAT Fld.SAF_STAT_CONF = s.gbit Reg.SAF_STAT Fld.SAF_STAT_CONF ∧ ∀ ch, (s.chan ch).KeepsShown (t.chan ch)

theorem State.KeepsShown.refl (s : State) : s.KeepsShown s := ⟨rfl, fun _ => .refl _⟩

theorem State.KeepsShown.trans {s t u : State} (h : s.KeepsShown t) (k : t.KeepsShown u) : s.KeepsShown u :=
  ⟨k.1.trans h.1, fun ch => (h.2 ch).trans (k.2 ch)⟩

theorem State.declareSedis_keepsShown (s : State) (k d : Nat) : s.KeepsShown (s.declareSedis k d) := by
  unfold State.declareSedis
  split
  · exact .refl s
  · have hset : s.KeepsShown (((s.gset Reg.SAF_STAT Fld.SAF_STAT_SEDIS 1).irq 2).record 0x11 0xF 6 3
        (recData [(0, 1, k), (1, 1, d)])) := by
      have hr : State.reports (s.gset Reg.SAF_STAT Fld.SAF_STAT_SEDIS 1) _ :=
        ((s.gset Reg.SAF_STAT Fld.SAF_STAT_SEDIS 1).reports_irq 2).record 0x11 0xF 6 3
          (recData [(0, 1, k), (1, 1, d)])
      refine ⟨?_, fun ch => ?_⟩
      · unfold State.gbit State.gfld
        rw [hr.gget _ (by decide) (by decide)]
        exact State.gbit_gset_ne s 1 (f := Fld.SAF_STAT_SEDIS) (g := Fld.SAF_STAT_CONF) (.inr (by decide))
      · rw [hr.chan ch]
        exact .refl _
    refine hset.trans (foldl_rel State.KeepsShown .refl (fun _ _ _ => .trans) _ (fun t ch => ⟨?_, fun j => ?_⟩) _ _)
    · exact congrArg (· != 0) ((t.raisesOnly_raiseSafe ch 5).gfld _ (by decide) (by decide))
    · exact t.keepsShown_raiseSafe ch j (by decide) (by decide)

theorem State.exchange_keepsShown (s : State) (env : StrobeEnv) : s.KeepsShown (s.exchange env) := by
  have declare : ∀ (t : State) k d, (t.gbit Reg.SAF_STAT Fld.SAF_STAT_CONF = s.gbit Reg.SAF_STAT Fld.SAF_STAT_CONF) →
      (∀ ch, t.chan ch = s.chan ch) → s.KeepsShown (t.declareSedis k d) := fun t k d hg hc =>
    State.KeepsShown.trans ⟨hg, fun ch => by rw [hc ch]; exact .refl _⟩ (t.declareSedis_keepsShown k d)
  unfold State.exchange
  extract_lets differ deaf x s1
  split
  · exact declare _ _ _ rfl fun _ => rfl
  split
  · exact declare _ _ _ rfl fun _ => rfl
  split
  · exact declare _ _ _ rfl fun _ => rfl
  split
  · exact declare _ _ _ rfl fun _ => rfl
  · exact ⟨rfl, fun _ => .refl _⟩

/-- The strobe after the taken frame: every channel, the permits, the exchange, and the permits once more where it declares
SEDIS (R342 to R344). -/
def State.strobeRest (s : State) (env : StrobeEnv) : State :=
  let s := (s.strobeAll env).permitAll env
  let was := s.gbit Reg.SAF_STAT Fld.SAF_STAT_SEDIS
  let s := s.exchange env
  let now := s.gbit Reg.SAF_STAT Fld.SAF_STAT_SEDIS
  let s := if now && !was then s.permitAll env else s
  if now then s else s.slotRefresh

theorem State.slotRefresh_conf (s : State) :
    s.slotRefresh.gbit Reg.SAF_STAT Fld.SAF_STAT_CONF = s.gbit Reg.SAF_STAT Fld.SAF_STAT_CONF :=
  State.gbit_gset_ne (o := Reg.KNL_STAT) (p := Reg.SAF_STAT) _ 1 (.inl (by decide))

/-- A refreshed slot is armed (R381). -/
theorem State.slotRefresh_armed (s : State) : s.slotRefresh.gbit Reg.KNL_STAT Fld.KNL_STAT_SSARM = true :=
  State.gbit_gset_bit _ _ true (by decide) rfl

theorem State.strobeRest_eq {s t : State} {env : StrobeEnv} (h : (s.strobeAll env).permitAll env = t) :
    s.strobeRest env =
      let now := (t.exchange env).gbit Reg.SAF_STAT Fld.SAF_STAT_SEDIS
      let u := if now && !t.gbit Reg.SAF_STAT Fld.SAF_STAT_SEDIS then (t.exchange env).permitAll env else t.exchange env
      if now then u else u.slotRefresh := by
  subst h
  rfl

theorem State.strobe_eq (s : State) (env : StrobeEnv) :
    s.strobe env = ((s.gset Reg.SAF_STAT Fld.SAF_STAT_STRB s.strobeSource).checkFrame).strobeRest env := rfl

/-- A strobe shows and permits every channel by the samples, and without SEDIS refreshes the safety slot. -/
theorem State.strobeRest_shows (s : State) (env : StrobeEnv) :
    (∃ conf, (s.strobeRest env).Conf conf ∧ ∀ ch, (s.strobeRest env).ShowsAt env conf ch) ∧
    (∀ ch, (s.strobeRest env).PermittedAt env ch) ∧
    ((s.strobeRest env).gbit Reg.SAF_STAT Fld.SAF_STAT_SEDIS = false →
      (s.strobeRest env).gbit Reg.KNL_STAT Fld.KNL_STAT_SSARM = true) := by
  obtain ⟨hconf, hshow⟩ := s.strobeAll_shows env (conf := s.gbit Reg.SAF_STAT Fld.SAF_STAT_CONF) rfl
  obtain ⟨hg, hshow, hperm⟩ := (s.strobeAll env).permitAll_permits env hshow
  have hconf : ((s.strobeAll env).permitAll env).Conf (s.gbit Reg.SAF_STAT Fld.SAF_STAT_CONF) := (hg _).trans hconf
  obtain ⟨kconf, kchan⟩ := ((s.strobeAll env).permitAll env).exchange_keepsShown env
  generalize hs1 : (s.strobeAll env).permitAll env = s1 at *
  have hconf2 : (s1.exchange env).Conf (s.gbit Reg.SAF_STAT Fld.SAF_STAT_CONF) := kconf.trans hconf
  have hshow2 : ∀ ch, (s1.exchange env).ShowsAt env (s.gbit Reg.SAF_STAT Fld.SAF_STAT_CONF) ch := fun ch =>
    (kchan ch).shows (hshow ch)
  have hperm2 : ∀ ch, (s1.exchange env).PermittedAt env ch := fun ch => (kchan ch).permitted (hperm ch)
  rw [State.strobeRest_eq hs1]
  dsimp only
  generalize s1.exchange env = s2 at *
  generalize s1.gbit Reg.SAF_STAT Fld.SAF_STAT_SEDIS = was
  generalize hnow' : s2.gbit Reg.SAF_STAT Fld.SAF_STAT_SEDIS = now
  generalize h3' : (if now && !was then s2.permitAll env else s2) = s3
  by_cases hnow : now = true
  · rw [if_pos hnow]
    have h3 : (∃ conf, s3.Conf conf ∧ ∀ ch, s3.ShowsAt env conf ch) ∧ (∀ ch, s3.PermittedAt env ch) ∧
        s3.gbit Reg.SAF_STAT Fld.SAF_STAT_SEDIS = now := by
      rw [← h3']
      split
      · obtain ⟨lg, lshow, lperm⟩ := s2.permitAll_permits env hshow2
        exact ⟨⟨_, (lg _).trans hconf2, lshow⟩, lperm, (lg _).trans hnow'⟩
      · exact ⟨⟨_, hconf2, hshow2⟩, hperm2, hnow'⟩
    obtain ⟨hc, hp, hsedis⟩ := h3
    exact ⟨hc, hp, fun h => absurd (hsedis.symm.trans h) (by rw [hnow]; decide)⟩
  · have h3 : s3 = s2 := h3'.symm.trans (if_neg (by rw [eq_false_of_ne_true hnow]; simp))
    rw [if_neg hnow, h3]
    exact ⟨⟨_, s2.slotRefresh_conf.trans hconf2, hshow2⟩, hperm2, fun _ => s2.slotRefresh_armed⟩

/-- Settles O39: the samples and causes that each channel shows, and the permits behind its INH bits, hold after its own step
of the strobe and are kept by every later one. -/
theorem safetyStrobe : Obligations.SafetyStrobe := by
  unfold Obligations.SafetyStrobe
  intro s env
  refine ⟨fun h => ?_, fun hp hu => ⟨s.strobe env, ?_, fun ch => ?_, ?_⟩, fun c sgi all => c.permits_gates sgi all⟩
  · show execSafetyStrobe env s = _
    unfold execSafetyStrobe
    rw [if_neg]
    rcases h with h | h <;> simp [h]
  · show execSafetyStrobe env s = _
    unfold execSafetyStrobe
    rw [if_pos (by rw [hp, hu]; rfl)]
  · rw [State.strobe_eq]
    obtain ⟨⟨conf, hconf, hshow⟩, hperm, -⟩ := State.strobeRest_shows
      (s.gset Reg.SAF_STAT Fld.SAF_STAT_STRB s.strobeSource).checkFrame env
    obtain ⟨hsga, hsgb, hk1, hk2, hsgi, hdisc, hunconf⟩ := hshow ch
    obtain ⟨hia, hib, hoa, hob⟩ := hperm ch
    exact ⟨hsga, hsgb, hk1, hk2, hsgi, hdisc, hunconf.trans (congrArg (!·) hconf).symm, hia, hib, hoa, hob⟩
  · rw [State.strobe_eq]
    exact (State.strobeRest_shows _ env).2.2

end Sys2Proof.Machine
end

section
/-! SUPPORT. Discrepancy and contactors (11_safety_functions.md R348 to R352). (O40) -/

namespace Sys2Proof.Machine

/-! ## Raising a cause (R189) -/

/-- A raised cause is live and latched; every other register of the channel stays. -/
theorem State.raiseSafe_raised (s : State) (ch : ChId) {b : Nat} (hb : b < 32) :
    (((s.raiseSafe ch b).chan ch).get Reg.CH_SAFE_LIVE).getLsbD b = true ∧
      (((s.raiseSafe ch b).chan ch).get Reg.CH_SAFE_LATCH).getLsbD b = true := by
  rw [State.raiseSafe_chan]
  constructor
  · rw [Chan.get_put, if_neg (by decide), Chan.get_put, if_pos rfl]
    exact getLsbD_or_bit _ hb
  · rw [Chan.get_put, if_pos rfl]
    exact getLsbD_or_bit _ hb

theorem State.raiseSafe_fld (s : State) (ch j : ChId) (b : Nat) (f : BitField) :
    ((s.raiseSafe ch b).chan j).fld Reg.SAF_CH_STAT f = (s.chan j).fld Reg.SAF_CH_STAT f :=
  congrArg (getField · f) ((s.raisesOnly_raiseSafe ch b).get j _ (by decide) (by decide))

/-! ## The discrepancy (R348, R349) -/

/-- A discrepancy is due: one engine's count has reached N, and no latch of this disagreement had one that had. -/
theorem Chan.discDue_iff (c : Chan) : c.discDue = true ↔
    (c.fld Reg.SAF_CH_CFG Fld.SAF_CH_CFG_TD ≤ c.saf.discA ∨ c.fld Reg.SAF_CH_CFG Fld.SAF_CH_CFG_TD ≤ c.saf.discB) ∧
      c.saf.discAt < c.fld Reg.SAF_CH_CFG Fld.SAF_CH_CFG_TD := by
  simp [Chan.discDue, Chan.discCount]

/-- The latched discrepancy: DISC, its cause, and the count it was latched at. -/
theorem execDiscrepancyLatch_due {s : State} {ch : ChId} (h : (s.chan ch).discDue = true) :
    ∃ t, execDiscrepancyLatch ch s = .next t ∧ (t.chan ch).bit Reg.SAF_CH_STAT Fld.SAF_CH_STAT_DISC = true ∧
      ((t.chan ch).get Reg.CH_SAFE_LATCH).getLsbD 1 = true ∧
      (t.chan ch).saf.discAt = max (s.chan ch).saf.discA (s.chan ch).saf.discB := by
  unfold execDiscrepancyLatch
  extract_lets c st x y c1 s1
  refine ⟨_, if_pos h, ?_⟩
  have hchan : s1.chan ch = c1.put Reg.SAF_CH_CNT (counterStep (c1.get Reg.SAF_CH_CNT) true) := by
    unfold s1
    rw [State.countCh_chan, State.chan_putChan_same]
  have hbit : (s1.chan ch).bit Reg.SAF_CH_STAT Fld.SAF_CH_STAT_DISC = true := by
    rw [hchan]
    unfold Chan.bit Chan.fld
    rw [Chan.get_put, if_neg (by decide)]
    exact c.bit_setFld Reg.SAF_CH_STAT Fld.SAF_CH_STAT_DISC (by decide) (by decide)
  have hat : (s1.chan ch).saf.discAt = c.discCount := by
    rw [hchan]
    rfl
  clear_value s1
  rw [State.record_chan]
  exact ⟨(congrArg (· != 0) (s1.raiseSafe_fld ch ch 1 _)).trans hbit, (s1.raiseSafe_raised ch (by decide)).2,
    (congrArg SafCh.discAt ((s1.raisesOnly_raiseSafe ch 1).chsaf ch)).trans hat⟩

/-! ## The contactors (R350 to R352) -/

theorem kFltField_bounds (k2 : Bool) : (kFltField k2).lo + (kFltField k2).width ≤ 32 ∧ (kFltField k2).width = 3 := by
  cases k2 <;> decide

/-- A contactor fault shows its code, and raises CONT. -/
theorem State.contactorFault_shows (s : State) (ch : ChId) (k2 : Bool) {n : Nat} (hn : n < 8) :
    ((s.contactorFault ch k2 n).chan ch).fld Reg.SAF_CH_STAT (kFltField k2) = n ∧
      (((s.contactorFault ch k2 n).chan ch).get Reg.CH_SAFE_LIVE).getLsbD 2 = true ∧
      (((s.contactorFault ch k2 n).chan ch).get Reg.CH_SAFE_LATCH).getLsbD 2 = true := by
  unfold State.contactorFault
  extract_lets c x y d
  rw [State.record_chan]
  obtain ⟨hlive, hlatch⟩ := (s.putChan ch d).raiseSafe_raised ch (b := 2) (by decide)
  refine ⟨?_, hlive, hlatch⟩
  rw [State.raiseSafe_fld, State.chan_putChan_same]
  obtain ⟨hfit, hwidth⟩ := kFltField_bounds k2
  refine (c.fld_setFld Reg.SAF_CH_STAT (kFltField k2) n hfit).trans ?_
  rw [hwidth]
  exact Nat.mod_eq_of_lt hn

/-! ## The acknowledgements (R349, R352) -/

theorem State.capAbsent_of_safety (s : State) (k : Ctx) {off : Nat} (h : 0x3000 ≤ off) : s.capAbsent k off = false := by
  simp [State.capAbsent, Nat.not_lt.2 h]

/-- An acknowledgement of a channel outside the black channel is taken on its arrival. -/
theorem State.writeWindow_safAck {s : State} {k : Ctx} {ch : ChId} {v : Word} (h : s.reaches k ch)
    (hblack : s.blackMask.testBit ch.val = false) (hro : s.keepsRo k ch Reg.SAF_ACK v) :
    s.writeWindow k Reg.SAF_ACK v = ((s.writeSafAck ch v k.val).1).answered := by
  refine State.writeWindow_ok h (by decide) (by decide) (by decide) (by decide +kernel) (s.capAbsent_of_safety k (by decide)) hro ?_
  have hok : (s.writeSafAck ch v k.val).2 = false := by
    unfold State.writeSafAck
    rw [hblack, Bool.and_false]
    rfl
  rw [State.chanWrite, if_neg (by decide), if_pos (by decide), State.safetyWrite, if_neg (by decide), if_pos rfl]
  show ((s.writeSafAck ch v k.val).1, if (s.writeSafAck ch v k.val).2 then Verdict.bad else Verdict.ok) = _
  rw [hok]
  rfl

/-- An acknowledgement of a latched discrepancy sets DACK (R349). -/
theorem State.writeSafAck_disc {s : State} {ch : ChId} (src : Nat) (hblack : s.blackMask.testBit ch.val = false)
    (hdisc : (s.chan ch).bit Reg.SAF_CH_STAT Fld.SAF_CH_STAT_DISC = true) :
    (s.writeSafAck ch 1 src).1 = s.putChan ch ((s.chan ch).setFld Reg.SAF_CH_STAT Fld.SAF_CH_STAT_DACK 1) := by
  unfold State.writeSafAck
  rw [hblack, Bool.and_false, if_neg (by decide), State.onChan_eq]
  dsimp only
  rw [hdisc, if_neg (by simp), if_pos (by decide)]

/-- An acknowledgement of a contactor fault counts until the codes clear (R352). -/
theorem State.writeSafAck_cont {s : State} {ch : ChId} (src : Nat) (hblack : s.blackMask.testBit ch.val = false)
    (hflt : (s.chan ch).fld Reg.SAF_CH_STAT Fld.SAF_CH_STAT_K1FLT ≠ 0 ∨
      (s.chan ch).fld Reg.SAF_CH_STAT Fld.SAF_CH_STAT_K2FLT ≠ 0) :
    (s.writeSafAck ch 2 src).1 =
      s.putChan ch { s.chan ch with saf := { (s.chan ch).saf with contAck := true } } := by
  have hnone : ((2 : Word).getLsbD 0 && (s.chan ch).bit Reg.SAF_CH_STAT Fld.SAF_CH_STAT_DISC) = false := rfl
  unfold State.writeSafAck
  rw [hblack, Bool.and_false, if_neg (by decide), State.onChan_eq]
  dsimp only
  simp only [hnone, Bool.false_eq_true, if_false]
  rw [if_pos]
  rcases hflt with h | h <;> simp [h]

/-- Settles O40: each clause is one branch of its operation; the causes come from what a raised cause leaves. -/
theorem discrepancyAndContactors : Obligations.DiscrepancyAndContactors := by
  unfold Obligations.DiscrepancyAndContactors
  intro s ch k2 k
  dsimp only
  refine ⟨fun h => ⟨fun hat => execDiscrepancyLatch_due ((Chan.discDue_iff _).2 ⟨h, hat⟩), fun hat => ?_⟩, fun hset hen => ?_,
    fun hset hen hok => ?_, fun hset hen hck hcons hflt => ?_, fun hcons => ?_, fun hcons hen hck hset hflt => ?_,
    fun n hn => s.contactorFault_shows ch k2 hn,
    fun hreach hblack => ⟨fun hro hdisc => ?_, fun hro hflt => ?_⟩⟩
  · show execDiscrepancyLatch ch s = _
    exact if_neg fun hdue => Nat.not_lt.2 hat ((Chan.discDue_iff _).1 hdue).2
  · show execContactorSettleEnd ch k2 s = _
    unfold execContactorSettleEnd
    rw [if_neg (by simp [hset]), if_pos (by simp [hen])]
  · show execContactorSettleEnd ch k2 s = _
    unfold execContactorSettleEnd
    rw [if_neg (by simp [hset]), if_neg (by simp [hen]), if_pos]
    rcases hok with hok | hok | hok <;> simp [hok]
  · show execContactorSettleEnd ch k2 s = _
    unfold execContactorSettleEnd
    rw [if_neg (by simp [hset]), if_neg (by simp [hen]), if_neg (by simp [hck, hcons, hflt])]
  · show execContactorDebounceEnd ch k2 s = _
    exact if_pos hcons
  · show execContactorDebounceEnd ch k2 s = _
    exact (if_neg (by simp [hcons])).trans (if_pos (by simp [hen, hck, hset, hflt]))
  · show Host.Outcome.next (s.writeWindow k Reg.SAF_ACK 1) = _
    rw [State.writeWindow_safAck hreach hblack hro, State.writeSafAck_disc _ hblack hdisc]
  · show Host.Outcome.next (s.writeWindow k Reg.SAF_ACK 2) = _
    rw [State.writeWindow_safAck hreach hblack hro, State.writeSafAck_cont _ hblack hflt]

end Sys2Proof.Machine
end

section
/-! SUPPORT. A read that flow control holds back (16_host_interface.md R465): over PCI Express with 64 reads waiting, none
reaches the device. (O41) -/

namespace Sys2Proof.Machine

/-- A read that flow control holds back changes nothing (R465, log 37). -/
theorem State.readAt_held {s : State} (a : Nat) (hpcie : s.pcie = true) (hfull : 64 ≤ s.host.waiting.length) :
    s.readAt a = s := by
  simp [State.readAt, State.request, State.readHeld, hpcie, hfull]

/-- The device over PCI Express, its image loaded, with 64 reads of ENG_DDAT waiting. -/
def State.heldReads : State :=
  let s := (State.reset.gset Reg.GSTAT Fld.GSTAT_IMAGE_OK 1).gset Reg.HOST_STAT Fld.HOST_STAT_MODE 0
  { s with host := { s.host with waiting := List.replicate 64 ⟨0, 0, .me, 0⟩ } }

theorem State.heldReads_serves : State.heldReads.serves ∧ State.heldReads.readsBlank = false ∧
    State.heldReads.pcie = true ∧ State.heldReads.host.rdata = [] := by
  unfold State.serves
  decide +kernel

theorem State.heldReads_readAt (a : Nat) : State.heldReads.readAt a = State.heldReads :=
  State.readAt_held a State.heldReads_serves.2.2.1 (Nat.le_of_eq (List.length_replicate ..).symm)

/-- Refutes O41: with 64 reads waiting over PCI Express, flow control holds the read of SAF_TXF0 back (R465), so it latches
nothing and returns no data. -/
theorem not_blackChannel : ¬ Obligations.BlackChannel := by
  unfold Obligations.BlackChannel
  intro h
  obtain ⟨hserves, hblank, -, hrdata⟩ := State.heldReads_serves
  obtain ⟨-, -, -, -, hread⟩ := h State.heldReads 0 0
  have hexec : exec (.safTxf0Read 0) State.heldReads = .next (State.heldReads.readAt (aliasAddr 0 (Reg.SAF_TXF 0))) := rfl
  have hdata := hread hserves hblank
  rw [hexec, State.heldReads_readAt] at hdata
  injection hdata with hstate
  have hword : State.heldReads.host.rdata = [State.heldReads.gget (Reg.SAF_TXF 0)] := congrArg (·.host.rdata) hstate
  rw [hrdata] at hword
  cases hword

end Sys2Proof.Machine
end

section
/-! SUPPORT. A read that flow control holds back latches no pair (16_host_interface.md R465, R529). (O51) -/

namespace Sys2Proof.Machine

/-- Refutes O51: with 64 reads waiting over PCI Express, flow control holds the read of a pair's low word back (R465), so it
latches nothing and returns no data. -/
theorem not_hostPort : ¬ Obligations.HostPort := by
  unfold Obligations.HostPort
  intro h
  obtain ⟨hserves, hblank, -, hrdata⟩ := State.heldReads_serves
  obtain ⟨-, hpair, -⟩ := h State.heldReads 0 0
  have hexec : exec (.counterLowRead 0 (BitVec.ofNat 18 (aliasAddr 0 Reg.REC_SEQ_LO))) State.heldReads =
      .next (State.heldReads.readAt (BitVec.ofNat 18 (aliasAddr 0 Reg.REC_SEQ_LO)).toNat) := rfl
  have hdata := (hpair Reg.REC_SEQ_LO (List.mem_cons_self ..) hserves hblank).1
  rw [hexec, State.heldReads_readAt] at hdata
  injection hdata with hstate
  have hword : State.heldReads.host.rdata = [State.heldReads.globalValue 0 Reg.REC_SEQ_LO] :=
    congrArg (·.host.rdata) hstate
  rw [hrdata] at hword
  cases hword

end Sys2Proof.Machine
end

section
/-! SUPPORT. How a host's accepted write of a global register reaches its block (16_host_interface.md R294, R479). (O42, O47, O49,
O50, O52 to O54) -/

namespace Sys2Proof.Machine

/-- A write of the host interface's own registers. -/
theorem State.globalWrite_host {s t : State} {k : Ctx} {off : Nat} {v : Word} (hlo : 0x200 ≤ off) (hhi : off < 0x800)
    (hw : s.writeHostBlock k off v = (t, false)) : s.globalWrite k off v = (t, false) := by
  unfold State.globalWrite
  dsimp only
  rw [if_neg (by unfold Reg.CHRST; omega), if_neg (by omega), if_neg (by omega), if_pos hhi, hw]
  rfl

/-- A write of the recorder or calendar. -/
theorem State.globalWrite_recorder {s t : State} {k : Ctx} {off : Nat} {v : Word} (hlo : 0x2000 ≤ off) (hhi : off < 0x3000)
    (hw : s.writeRecBlock off v = (t, false)) : s.globalWrite k off v = (t, false) := by
  unfold State.globalWrite
  dsimp only
  rw [if_neg (by unfold Reg.CHRST; omega), if_neg (by omega), if_neg (by omega), if_neg (by omega), if_neg (by omega),
    if_neg (by omega), if_pos hhi, hw]
  rfl

/-- A write of the safety block. -/
theorem State.globalWrite_safety (s : State) (k : Ctx) {off : Nat} (v : Word) (hlo : 0x3000 ≤ off) (hhi : off < 0x4000) :
    s.globalWrite k off v = s.writeSafBlock k off v := by
  unfold State.globalWrite
  dsimp only
  rw [if_neg (by unfold Reg.CHRST; omega), if_neg (by omega), if_neg (by omega), if_neg (by omega), if_neg (by omega),
    if_neg (by omega), if_neg (by omega), if_pos hhi]

/-- A write of the image loader or the parameter store. -/
theorem State.globalWrite_image {s t : State} {k : Ctx} {off : Nat} {v : Word} (hlo : 0x5000 ≤ off) (hhi : off < 0x6000)
    (hw : s.writeImgBlock off v = .inr t) : s.globalWrite k off v = (t, false) := by
  unfold State.globalWrite
  dsimp only
  rw [if_neg (by unfold Reg.CHRST; omega), if_neg (by omega), if_neg (by omega), if_neg (by omega), if_neg (by omega),
    if_neg (by omega), if_neg (by omega), if_neg (by omega), if_neg (by omega), if_pos hhi, hw]

/-- A write of the common capture block. -/
theorem State.globalWrite_gcap {s t : State} {k : Ctx} {off : Nat} {v : Word} (hlo : 0x6000 ≤ off)
    (hw : s.writeGcap k off v = some t) : s.globalWrite k off v = (t, false) := by
  unfold State.globalWrite
  dsimp only
  rw [if_neg (by unfold Reg.CHRST; omega), if_neg (by omega), if_neg (by omega), if_neg (by omega), if_neg (by omega),
    if_neg (by omega), if_neg (by omega), if_neg (by omega), if_neg (by omega), if_neg (by omega), hw]

/-- A write without commands changes its own register and no other. -/
theorem State.plainWriteG_cases (s : State) (off : Nat) (v : Word) :
    s.plainWriteG off v = s ∨ ∃ w, s.plainWriteG off v = s.gput off w := by
  unfold State.plainWriteG
  split
  · split
    · exact .inr ⟨_, rfl⟩
    · exact .inr ⟨_, rfl⟩
  · exact .inl rfl

end Sys2Proof.Machine
end

section
/-! SUPPORT. The safety parameter set and its confirmation (11_safety_functions.md R358, R360 to R363). (O42) -/

namespace Sys2Proof.Machine

theorem State.gget_gset_ne (s : State) {o p : Nat} (f : BitField) (n : Nat) (h : p ≠ o) : (s.gset o f n).gget p = s.gget p :=
  (State.gget_gput ..).trans (if_neg h)

/-! ## Every channel raises a cause (R189, R360) -/

theorem State.raiseAll_raised (s : State) {b : Nat} (hb : b < 32) :
    s.RaisesOnly ((List.finRange 12).foldl (fun s ch => s.raiseSafe ch b) s) ∧
      ∀ j : ChId, ((((List.finRange 12).foldl (fun s ch => s.raiseSafe ch b) s).chan j).get Reg.CH_SAFE_LATCH).getLsbD b = true :=
  foldl_finRange_sets (P := s.RaisesOnly) (Q := fun j t => ((t.chan j).get Reg.CH_SAFE_LATCH).getLsbD b = true)
    (fun t i h => h.trans (t.raisesOnly_raiseSafe i b)) (fun t i _ => (t.raiseSafe_raised i hb).2)
    (fun t i j _ h => (t.raisesOnly_raiseSafe i b).latch j b h) (.refl s)

/-- SAF_STAT.CONF and GSTAT.SAFETY_CONF are written together. -/
theorem State.setConf_conf (s : State) (b : Bool) :
    (s.setConf (if b then 1 else 0)).gbit Reg.SAF_STAT Fld.SAF_STAT_CONF = b ∧
      (s.setConf (if b then 1 else 0)).gbit Reg.GSTAT Fld.GSTAT_SAFETY_CONF = b := by
  unfold State.setConf
  refine ⟨?_, State.gbit_gset_bit _ _ b (by decide) rfl⟩
  rw [State.gbit_gset_ne _ _ (.inl (by decide))]
  exact State.gbit_gset_bit _ _ b (by decide) rfl

/-- A changed set: unconfirmed in every channel, its check value to be computed anew; no register beside SAF_STAT and GSTAT
changes. -/
theorem State.safetyChanged_shows (s : State) (off : Nat) :
    (s.safetyChanged off).gbit Reg.SAF_STAT Fld.SAF_STAT_CONF = false ∧
    (s.safetyChanged off).gbit Reg.GSTAT Fld.GSTAT_SAFETY_CONF = false ∧
    (s.safetyChanged off).gbit Reg.SAF_STAT Fld.SAF_STAT_CHKV = false ∧ (s.safetyChanged off).saf.chkDue = true ∧
    (∀ j : ChId, (((s.safetyChanged off).chan j).get Reg.CH_SAFE_LATCH).getLsbD 4 = true) ∧
    (∀ o, o ∉ [Reg.SAF_STAT, Reg.GSTAT, Reg.REC_CNT, Reg.INT_STAT] → (s.safetyChanged off).gget o = s.gget o) := by
  unfold State.safetyChanged
  extract_lets s1 x s2 s3
  obtain ⟨hr, hl⟩ := s2.raiseAll_raised (b := 4) (by decide)
  have hr' : s2.RaisesOnly (s3.record 0x11 0xF 8 1 (recData [(0, 4, off)])) := hr.trans (.reports (State.reports_record ..))
  obtain ⟨hconf, hgconf⟩ := s.setConf_conf false
  have hbit : ∀ {o} (f : BitField), o ≠ Reg.REC_CNT → o ≠ Reg.INT_STAT →
      (s3.record 0x11 0xF 8 1 (recData [(0, 4, off)])).gbit o f = s1.gbit o f := fun f hc hi =>
    congrArg (· != 0) (hr'.gfld f hc hi)
  refine ⟨?_, ?_, ?_, congrArg Saf.chkDue hr'.saf, fun j => ?_, fun o ho => ?_⟩
  · rw [hbit _ (by decide) (by decide)]
    exact (State.gbit_gset_ne _ 0 (.inr (by decide))).trans hconf
  · rw [hbit _ (by decide) (by decide)]
    exact (State.gbit_gset_ne _ 0 (.inl (by decide))).trans hgconf
  · rw [hbit _ (by decide) (by decide)]
    exact State.gbit_gset_bit _ _ false (by decide) rfl
  · rw [State.record_chan]
    exact hl j
  · simp only [List.mem_cons, List.not_mem_nil, or_false, not_or] at ho
    obtain ⟨hstat, hgstat, hcnt, hint⟩ := ho
    rw [hr'.gget o hcnt hint]
    exact (State.gget_gset_ne _ _ _ hstat).trans ((State.gget_gset_ne _ _ _ hgstat).trans (State.gget_gset_ne _ _ _ hstat))

/-! ## What a change of CHMASK does to the connection (R358) -/

/-- Only the black channel's connection changed: its state, its counter, and causes that are raised. -/
structure State.ConnectionOnly (s t : State) : Prop where
  latch : ∀ j i, ((s.chan j).get Reg.CH_SAFE_LATCH).getLsbD i = true → ((t.chan j).get Reg.CH_SAFE_LATCH).getLsbD i = true
  saf : t.saf = s.saf
  gget : ∀ o, o ∉ [Reg.SAF_STAT, Reg.SAF_CNT1, Reg.REC_CNT, Reg.INT_STAT] → t.gget o = s.gget o
  stat : ∀ f : BitField, f.lo + f.width ≤ 6 ∨ 8 ≤ f.lo → t.gfld Reg.SAF_STAT f = s.gfld Reg.SAF_STAT f

theorem State.ConnectionOnly.refl (s : State) : s.ConnectionOnly s := ⟨fun _ _ h => h, rfl, fun _ _ => rfl, fun _ _ => rfl⟩

theorem State.ConnectionOnly.trans {s t u : State} (h : s.ConnectionOnly t) (k : t.ConnectionOnly u) : s.ConnectionOnly u :=
  ⟨fun j i a => k.latch j i (h.latch j i a), k.saf.trans h.saf, fun o a => (k.gget o a).trans (h.gget o a),
    fun f a => (k.stat f a).trans (h.stat f a)⟩

theorem State.RaisesOnly.connectionOnly {s t : State} (h : s.RaisesOnly t) : s.ConnectionOnly t :=
  ⟨h.latch, h.saf, fun o a => h.gget o (fun e => a (by simp [e])) (fun e => a (by simp [e])),
    fun f _ => h.gfld f (by decide) (by decide)⟩

theorem State.connectionOnly_setBcst (s : State) (n : Nat) : s.ConnectionOnly (s.setBcst n) := by
  unfold State.setBcst
  split
  · exact .refl s
  · refine State.ConnectionOnly.trans (t := s.gset Reg.SAF_STAT Fld.SAF_STAT_BCST n) ⟨fun _ _ h => h, rfl, fun o ho => ?_, fun f hf => ?_⟩
      (State.RaisesOnly.reports (State.reports_irq _ 2)).connectionOnly
    · exact State.gget_gset_ne _ _ _ fun e => ho (by simp [e])
    · exact State.gfld_gset_ne _ _ (.inr (by dsimp only; omega))

theorem State.connectionOnly_connectionStop (s : State) (cls : Nat) : s.ConnectionOnly (s.connectionStop cls) := by
  unfold State.connectionStop
  split
  · exact .refl s
  extract_lets u
  have hcount : (s.setBcst 1).ConnectionOnly ((s.setBcst 1).countG Reg.SAF_CNT1 true true) := by
    refine State.ConnectionOnly.trans (t := (s.setBcst 1).gput Reg.SAF_CNT1 (counterStep ((s.setBcst 1).gget Reg.SAF_CNT1) true))
      ⟨fun _ _ h => h, rfl, fun o ho => (State.gget_gput ..).trans (if_neg fun e => ho (by simp [e])), fun f _ => ?_⟩
      (State.RaisesOnly.reports (State.reports_countG ..)).connectionOnly
    exact congrArg (getField · f) ((State.gget_gput ..).trans (if_neg (by decide)))
  have hu : s.ConnectionOnly u := ((s.connectionOnly_setBcst 1).trans hcount).trans
    (State.RaisesOnly.reports (State.reports_record ..)).connectionOnly
  refine hu.trans (State.RaisesOnly.connectionOnly ?_)
  exact foldl_rel State.RaisesOnly .refl (fun _ _ _ => .trans) _
    (fun t ch => .ite (t.raisesOnly_raiseSafe ch 3) (.refl t)) _ _

theorem State.connectionOnly_chmaskChanged (s : State) (old : Nat) : s.ConnectionOnly (s.chmaskChanged old) := by
  unfold State.chmaskChanged
  split
  · exact .refl s
  split
  · exact s.connectionOnly_setBcst 0
  split
  · exact (s.connectionOnly_setBcst 0).trans (State.connectionOnly_connectionStop _ 0)
  · exact .refl s

/-! ## The writes of the set and of SAF_CTL -/

theorem safetySetRegs_rows : ∀ off ∈ [Reg.SAF_CONNID, Reg.SAF_BC_CFG],
    (findRow globalRows off).isSome = true ∧ 0x3000 ≤ off ∧ off < 0x4000 ∧ off % 4 = 0 ∧ isMsix off = false ∧
    off ≠ Reg.SAF_CTL ∧ off ∉ [Reg.SAF_STAT, Reg.GSTAT, Reg.SAF_CNT1, Reg.REC_CNT, Reg.INT_STAT] := by
  decide +kernel

/-- A write that changes SAF_CONNID or SAF_BC_CFG while no channel drives (R360). -/
theorem State.writeSafGlobal_changes {s : State} {off : Nat} {v : Word} (src : Nat) (hok : off = Reg.SAF_BC_CFG → bcCfgOk v = true)
    (hidle : s.anyDriving = false) (hnew : (s.plainWriteG off v).gget off ≠ s.gget off) :
    s.writeSafGlobal off v src = (((s.plainWriteG off v).safetyChanged off).chmaskChanged s.blackMask, false) := by
  have hrange : (decide (off = Reg.SAF_BC_CFG) && !bcCfgOk v) = false := by
    by_cases h : off = Reg.SAF_BC_CFG
    · rw [hok h]
      exact Bool.and_false _
    · simp [h]
  unfold State.writeSafGlobal
  rw [if_neg (by simpa using hrange), if_neg (by simp [hidle]), if_neg hnew]

/-- What a changed parameter of the common set leaves (R360 to R362). -/
theorem State.changedSafGlobal_shows (s : State) {off : Nat} (v : Word) (old : Nat)
    (hoff : off ∉ [Reg.SAF_STAT, Reg.GSTAT, Reg.SAF_CNT1, Reg.REC_CNT, Reg.INT_STAT]) :
    let t := (((s.plainWriteG off v).safetyChanged off).chmaskChanged old).answered
    t.gget off = (s.plainWriteG off v).gget off ∧ t.gbit Reg.SAF_STAT Fld.SAF_STAT_CONF = false ∧
      t.gbit Reg.GSTAT Fld.GSTAT_SAFETY_CONF = false ∧ t.gbit Reg.SAF_STAT Fld.SAF_STAT_CHKV = false ∧ t.saf.chkDue = true ∧
      ∀ j : ChId, ((t.chan j).get Reg.CH_SAFE_LATCH).getLsbD 4 = true := by
  simp only [List.mem_cons, List.not_mem_nil, or_false, not_or] at hoff
  obtain ⟨hstat, hgstat, hcnt1, hcnt, hint⟩ := hoff
  generalize s.plainWriteG off v = u
  obtain ⟨hconf, hgconf, hchkv, hdue, hlatch, hget⟩ := u.safetyChanged_shows off
  have hc := (u.safetyChanged off).connectionOnly_chmaskChanged old
  generalize u.safetyChanged off = w at *
  generalize w.chmaskChanged old = x at *
  refine ⟨(hc.gget off (by simp [hstat, hcnt1, hcnt, hint])).trans (hget off (by simp [hstat, hgstat, hcnt, hint])),
    (congrArg (· != 0) (hc.stat _ (by decide))).trans hconf, ?_, (congrArg (· != 0) (hc.stat _ (by decide))).trans hchkv,
    (congrArg Saf.chkDue hc.saf).trans hdue, fun j => hc.latch j 4 (hlatch j)⟩
  exact (congrArg (fun w => getField w Fld.GSTAT_SAFETY_CONF != 0) (hc.gget Reg.GSTAT (by decide))).trans hgconf

/-- A write of SAF_CH_CFG or SAF_K_CFG that changes it while no channel drives (R360). -/
theorem State.writeWindow_safChan {s : State} {k : Ctx} {ch : ChId} {off : Nat} {v : Word} (hreach : s.reaches k ch)
    (hoff : off ∈ [Reg.SAF_CH_CFG, Reg.SAF_K_CFG]) (hro : s.keepsRo k ch off v) (hch : off = Reg.SAF_CH_CFG → chCfgOk v = true)
    (hk : off = Reg.SAF_K_CFG → kCfgOk v = true) (hidle : s.anyDriving = false)
    (hnew : (s.chan ch).plainWord off v ≠ (s.chan ch).get off) :
    s.writeWindow k off v = ((s.onChan ch fun c => c.put off (c.plainWord off v)).safetyChanged off).answered := by
  have hrange : (if off = Reg.SAF_CH_CFG then chCfgOk v else kCfgOk v) = true := by
    simp only [List.mem_cons, List.not_mem_nil, or_false] at hoff
    rcases hoff with rfl | rfl
    · exact hch rfl
    · exact hk rfl
  have hsaf : s.writeSafChan ch off v k.val = ((s.onChan ch fun c => c.put off (c.plainWord off v)).safetyChanged off, false) := by
    unfold State.writeSafChan
    rw [if_neg (by simp only [hrange]; decide), if_neg (by simp [hidle]), if_neg hnew]
  have hrow : ∀ off ∈ [Reg.SAF_CH_CFG, Reg.SAF_K_CFG], (findRow chanRows off).isSome = true ∧ 0x3000 ≤ off ∧ off < 0x4000 ∧
      off % 4 = 0 ∧ off ≠ Reg.CH_MODE_REQ ∧ (off = Reg.SAF_CH_CFG || off = Reg.SAF_K_CFG) = true := by decide +kernel
  obtain ⟨hp, hlo, hhi, hal, hmode, hcfg⟩ := hrow off hoff
  refine State.writeWindow_ok hreach (by omega) hhi hal hp (s.capAbsent_of_safety k hlo) hro ?_
  rw [State.chanWrite, if_neg hmode, if_pos hlo, State.safetyWrite, if_pos hcfg]
  show ((s.writeSafChan ch off v k.val).1, if (s.writeSafChan ch off v k.val).2 then Verdict.bad else Verdict.ok) = _
  rw [hsaf]
  rfl

/-- The end of UNCONF in every channel. -/
theorem State.endAll_only (s : State) (b : Nat) : s.RaisesOnly ((List.finRange 12).foldl (fun s ch => s.setLive ch b false) s) :=
  foldl_rel State.RaisesOnly .refl (fun _ _ _ => .trans) _ (fun t ch => t.raisesOnly_setLive ch b false) _ _

/-- A computed check value meets the stored confirmation: an equal one confirms the set, and it counts once (R363). -/
def State.meetStored (s : State) (v : Word) : State :=
  if s.store.confirm = some v then
    (List.finRange 12).foldl (fun s ch => s.setLive ch 4 false) ({ s with store := { s.store with confirm := none } }.setConf 1)
  else { s with store := { s.store with confirm := none } }

theorem State.meetStored_shows (s : State) (v : Word) :
    (s.meetStored v).gget Reg.SAF_CHECK = s.gget Reg.SAF_CHECK ∧
    (s.meetStored v).gbit Reg.SAF_STAT Fld.SAF_STAT_CHKV = s.gbit Reg.SAF_STAT Fld.SAF_STAT_CHKV ∧
    (s.meetStored v).saf = s.saf ∧
    (s.store.confirm = some v → (s.meetStored v).gbit Reg.SAF_STAT Fld.SAF_STAT_CONF = true) := by
  unfold State.meetStored
  split
  · have hr := (({ s with store := { s.store with confirm := none } } : State).setConf 1).endAll_only 4
    have hconf := (({ s with store := { s.store with confirm := none } } : State).setConf_conf true).1
    refine ⟨?_, ?_, hr.saf, fun _ => (congrArg (· != 0) (hr.gfld _ (by decide) (by decide))).trans hconf⟩
    · rw [hr.gget _ (by decide) (by decide)]
      exact (State.gget_gset_ne _ _ _ (by decide)).trans (State.gget_gset_ne _ _ _ (by decide))
    · refine (congrArg (· != 0) (hr.gfld _ (by decide) (by decide))).trans ?_
      exact (State.gbit_gset_ne _ _ (.inl (by decide))).trans (State.gbit_gset_ne _ _ (.inr (by decide)))
  · next hne => exact ⟨rfl, rfl, rfl, fun h => absurd h hne⟩

theorem State.gset_saf (s : State) (o : Nat) (f : BitField) (n : Nat) : (s.gset o f n).saf = s.saf := rfl

/-- Both engines have found the check value (R361). -/
def State.showCheck (s : State) (v : Word) : State :=
  (({ s with saf := { s.saf with chkDue := false } } : State).gput Reg.SAF_CHECK v).gset Reg.SAF_STAT
    Fld.SAF_STAT_CHKV 1

theorem State.showCheck_shows (s : State) (v : Word) : (s.showCheck v).gget Reg.SAF_CHECK = v ∧
    (s.showCheck v).gbit Reg.SAF_STAT Fld.SAF_STAT_CHKV = true ∧ (s.showCheck v).saf.chkDue = false ∧
    (s.showCheck v).store = s.store := by
  unfold State.showCheck
  refine ⟨?_, State.gbit_gset_bit _ _ true (by decide) rfl, ?_, rfl⟩
  case refine_2 => rw [State.gset_saf, State.gput_saf]
  rw [State.gget_gset_ne _ _ _ (by decide), State.gget_gput, if_pos rfl]

theorem execSafetyCheckDone_eq {s : State} (hdue : s.saf.chkDue = true) :
    execSafetyCheckDone none none s = .next ((s.showCheck s.safetyCheck).meetStored s.safetyCheck) := by
  unfold execSafetyCheckDone State.meetStored State.showCheck
  generalize s.safetyCheck = v
  simp only [hdue, Bool.not_true, Bool.false_eq_true, if_false, Option.getD_none, bne_self_eq_false]

/-- The check value is shown, and a stored confirmation of it confirms the set (R361, R363). -/
theorem execSafetyCheckDone_agrees {s : State} (hdue : s.saf.chkDue = true) :
    ∃ t, execSafetyCheckDone none none s = .next t ∧ t.gget Reg.SAF_CHECK = crc32c (bytesOf s.safetySet) ∧
      t.gbit Reg.SAF_STAT Fld.SAF_STAT_CHKV = true ∧ t.saf.chkDue = false ∧
      (s.store.confirm = some (crc32c (bytesOf s.safetySet)) → t.gbit Reg.SAF_STAT Fld.SAF_STAT_CONF = true) := by
  obtain ⟨hcheck, hchkv, hsaf, hconf⟩ := (s.showCheck s.safetyCheck).meetStored_shows s.safetyCheck
  obtain ⟨kcheck, kchkv, kdue, kstore⟩ := s.showCheck_shows s.safetyCheck
  rw [kstore] at hconf
  exact ⟨_, execSafetyCheckDone_eq hdue, hcheck.trans kcheck, hchkv.trans kchkv, (congrArg Saf.chkDue hsaf).trans kdue, hconf⟩

theorem State.startSave_gget (s : State) (j : SaveJob) {o : Nat} (h : o ≠ Reg.PAR_STAT) : (s.startSave j).gget o = s.gget o := by
  have shows : ∀ t : State, t.showSaves.gget o = t.gget o := fun t =>
    (State.gget_gset_ne _ _ _ h).trans (State.gget_gset_ne _ _ _ h)
  unfold State.startSave
  split
  · exact shows _
  · exact shows _

/-- An accepted confirmation (R362). -/
theorem State.writeSafCtl_confirms {s : State} {v : Word} (src : Nat) (hconf : getField v Fld.SAF_CTL_CONF = 1)
    (hcode : getField v Fld.SAF_CTL_CODE = 0xC0F1) (hchkv : s.gbit Reg.SAF_STAT Fld.SAF_STAT_CHKV = true)
    (heq : s.gget Reg.SAF_CONFIRM = s.gget Reg.SAF_CHECK) (hidle : s.anyDriving = false) :
    ∃ t, s.writeSafCtl v src = (t, false) ∧ t.gbit Reg.SAF_STAT Fld.SAF_STAT_CONF = true ∧
      t.gbit Reg.GSTAT Fld.GSTAT_SAFETY_CONF = true := by
  unfold State.writeSafCtl
  rw [if_neg (by rw [hconf]; decide), if_pos (by rw [hcode, hchkv, heq, hidle]; simp)]
  extract_lets u w
  have hr := (s.setConf 1).endAll_only 4
  obtain ⟨hset, hgset⟩ := s.setConf_conf true
  have hu : ∀ {o} (f : BitField), o ≠ Reg.PAR_STAT → o ≠ Reg.REC_CNT → o ≠ Reg.INT_STAT →
      (w.record 0x11 0xF 7 0 (recData [(0, 4, (w.gget Reg.SAF_CHECK).toNat)])).gbit o f = (s.setConf 1).gbit o f := by
    intro o f hpar hcnt hint
    have hget : w.gget o = (s.setConf 1).gget o := (State.startSave_gget _ _ hpar).trans (hr.gget o hcnt hint)
    have hrec := (w.reports_record 0x11 0xF 7 0 (recData [(0, 4, (w.gget Reg.SAF_CHECK).toNat)])).gget o hcnt hint
    exact congrArg (fun x => getField x f != 0) (hrec.trans hget)
  exact ⟨_, rfl, (hu _ (by decide) (by decide) (by decide)).trans hset, (hu _ (by decide) (by decide) (by decide)).trans hgset⟩

/-- Settles O42: a changed parameter raises UNCONF everywhere; the check and SAF_CTL write CONF back. -/
theorem safetyParameters : Obligations.SafetyParameters := by
  unfold Obligations.SafetyParameters
  intro s k ch v hidle
  refine ⟨fun r off hr hserves hro hok hnew => ?_, fun r off hr hreach hro hch hk hnew => ?_, fun hdue => ?_,
    fun x hdue hx => ?_, fun hserves hro hcode hchkv heq => ?_⟩
  · have hoff : off ∈ [Reg.SAF_CONNID, Reg.SAF_BC_CFG] := by
      simp only [List.mem_cons, Prod.mk.injEq, List.not_mem_nil, or_false] at hr ⊢
      exact hr.imp And.right And.right
    obtain ⟨hrow, hlo, hhi, hal, hmsix, hctl, hother⟩ := safetySetRegs_rows off hoff
    refine ⟨(((s.plainWriteG off v).safetyChanged off).chmaskChanged s.blackMask).answered, ?_, s.changedSafGlobal_shows v _ hother⟩
    have hwrite : s.globalWrite k off v = (((s.plainWriteG off v).safetyChanged off).chmaskChanged s.blackMask, false) := by
      rw [State.globalWrite_safety s k v hlo hhi, State.writeSafBlock, if_neg hctl,
        if_pos (by simpa using hoff), State.writeSafGlobal_changes _ hok hidle hnew]
    have halias := State.writeAlias_ok hserves (by omega) hal hmsix hrow hro hwrite
    simp only [List.mem_cons, Prod.mk.injEq, List.not_mem_nil, or_false] at hr
    rcases hr with ⟨rfl, rfl⟩ | ⟨rfl, rfl⟩
    · exact congrArg Host.Outcome.next halias
    · exact congrArg Host.Outcome.next halias
  · have hoff : off ∈ [Reg.SAF_CH_CFG, Reg.SAF_K_CFG] := by
      simp only [List.mem_cons, Prod.mk.injEq, List.not_mem_nil, or_false] at hr ⊢
      exact hr.imp And.right And.right
    have hwin := State.writeWindow_safChan hreach hoff hro hch hk hidle hnew
    simp only [List.mem_cons, Prod.mk.injEq, List.not_mem_nil, or_false] at hr
    rcases hr with ⟨rfl, rfl⟩ | ⟨rfl, rfl⟩
    · exact congrArg Host.Outcome.next hwin
    · exact congrArg Host.Outcome.next hwin
  · exact execSafetyCheckDone_agrees hdue
  · show ∃ t, execSafetyCheckDone (some x) none s = .next t ∧ t.saf.chkDiff = true
    unfold execSafetyCheckDone
    extract_lets w va vb y u
    exact ⟨_, (if_neg (by simp [hdue])).trans (if_pos (by simpa [va, vb, w] using hx)), rfl⟩
  · obtain ⟨t, hctl, hconf, hgconf⟩ := State.writeSafCtl_confirms (v := setField v Fld.SAF_CTL_CONF 1) k.val
      (getField_setField _ _ _ (by decide)) ((getField_setField_ne _ _ _ _ (by decide)).trans hcode) hchkv heq hidle
    have hwrite : s.globalWrite k Reg.SAF_CTL (setField v Fld.SAF_CTL_CONF 1) = (t, false) := by
      rw [State.globalWrite_safety s k _ (by decide) (by decide), State.writeSafBlock, if_pos rfl, hctl]
    exact ⟨t.answered, congrArg Host.Outcome.next (State.writeAlias_ok hserves (by decide) (by decide) (by decide)
      (by decide +kernel) hro hwrite), hconf, hgconf⟩

end Sys2Proof.Machine
end

section
/-! SUPPORT. The capture sets of a channel (13_capture_and_trigger.md R401 to R407): what each of their operations leaves. (O47, O48) -/

namespace Sys2Proof.Machine

/-! ## Segments and fields of a set -/

@[simp] theorem Chan.capSet_put (c : Chan) (o : Nat) (w : Word) (k : SetId) : (c.put o w).capSet k = c.capSet k := rfl

@[simp] theorem Chan.capSet_setFld (c : Chan) (o : Nat) (f : BitField) (n : Nat) (k : SetId) :
    (c.setFld o f n).capSet k = c.capSet k := rfl

@[simp] theorem Chan.capSet_setCapState (c : Chan) (j k : SetId) (n : Nat) : (c.setCapState j n).capSet k = c.capSet k := rfl

@[simp] theorem Chan.fld_setCap (c : Chan) (k : SetId) (x : CapSet) (o : Nat) (f : BitField) :
    (c.setCap k x).fld o f = c.fld o f := rfl

@[simp] theorem Chan.bit_setCap (c : Chan) (k : SetId) (x : CapSet) (o : Nat) (f : BitField) :
    (c.setCap k x).bit o f = c.bit o f := rfl

@[simp] theorem Chan.capState_setCapState (c : Chan) (k : SetId) {n : Nat} (h : n < 8) : (c.setCapState k n).capState k = n :=
  (c.fld_setFld _ _ n (by decide)).trans (Nat.mod_eq_of_lt h)

@[simp] theorem Chan.capSet_setSeg (c : Chan) (k : SetId) (i : Fin 64) (x : SegSt) :
    (c.setSeg k i x).capSet k = { c.capSet k with segs := (c.capSet k).segs.set i x } := c.capSet_setCap k _

@[simp] theorem Chan.capSet_setPp (c : Chan) (k : SetId) (l : List (Fin 64)) :
    (c.setPp k l).capSet k = { c.capSet k with pp := l } := c.capSet_setCap k _

/-- UNREAD alone changes with a segment. -/
theorem Chan.fld_setSeg (c : Chan) (k : SetId) (i : Fin 64) (x : SegSt) {o : Nat} {f : BitField}
    (h : o ≠ Reg.CAP_STAT k ∨ f.lo + f.width ≤ 11 ∨ 18 ≤ f.lo) : (c.setSeg k i x).fld o f = c.fld o f := by
  refine (Chan.fld_setFld_ne _ _ _ _ _ _ ?_).trans (c.fld_setCap k _ o f)
  rcases h with h | h | h
  · exact .inl h
  · exact .inr (.inr h)
  · exact .inr (.inl h)

/-- PPEND alone changes with the segments that await post-processing. -/
theorem Chan.fld_setPp (c : Chan) (k : SetId) (l : List (Fin 64)) {o : Nat} {f : BitField}
    (h : o ≠ Reg.CAP_STAT k ∨ f.lo + f.width ≤ 18 ∨ 19 ≤ f.lo) : (c.setPp k l).fld o f = c.fld o f := by
  refine (Chan.fld_setFld_ne _ _ _ _ _ _ ?_).trans (c.fld_setCap k _ o f)
  rcases h with h | h | h
  · exact .inl h
  · exact .inr (.inr h)
  · exact .inr (.inl h)

/-- A segment's state after a change of one. -/
theorem Chan.segs_setSeg (c : Chan) (k : SetId) (i j : Fin 64) (x : SegSt) :
    ((c.setSeg k i x).capSet k).segs[j] = if j = i then x else (c.capSet k).segs[j] := by
  rw [Chan.capSet_setSeg]
  show ((c.capSet k).segs.set i x)[j.val] = _
  rw [Vector.getElem_set]
  by_cases h : j = i
  · rw [if_pos h, if_pos (congrArg Fin.val h).symm]
  · rw [if_neg h, if_neg fun e => h (Fin.ext e.symm)]
    rfl

/-! ## FILL, IDLE and the closing of a record (R401, R402, R406) -/

/-- A set that enters FILL in a segment. -/
theorem Chan.capFill_fills (c : Chan) (k : SetId) (i : Fin 64) (ow : Bool) :
    (c.capFill k i ow).capState k = 1 ∧ (c.capFill k i ow).capSeg k = i ∧ ((c.capFill k i ow).capSet k).segs[i] = SegSt.open ∧
      ((c.capFill k i ow).capSet k).prev = 0 := by
  unfold Chan.capFill
  extract_lets c1 c2
  refine ⟨Chan.capState_setCapState _ k (by decide), ?_, ?_, ?_⟩
  · have hseg : c2.fld (Reg.CAP_STAT k) Fld.CAP_STAT_SEGW = i.val := by
      rw [Chan.fld_setPp _ _ _ (.inr (.inl (by decide)))]
      exact (Chan.fld_setFld _ _ _ _ (by decide)).trans (Nat.mod_eq_of_lt i.isLt)
    unfold Chan.capSeg
    rw [Chan.setCapState, Chan.fld_setFld_ne _ _ _ _ _ _ (.inr (.inl (by decide))), Chan.fld_setCap, hseg]
    exact Fin.ext (Nat.mod_eq_of_lt i.isLt)
  · have hopen : (c2.capSet k).segs[i] = SegSt.open := by
      unfold c2 c1
      rw [Chan.capSet_setPp]
      exact (c.segs_setSeg k i i .open).trans (if_pos rfl)
    rw [Chan.capSet_setCapState, Chan.capSet_setCap]
    exact hopen
  · rw [Chan.capSet_setCapState, Chan.capSet_setCap]

/-- A set that enters IDLE; where it holds no segment, no segment changes. -/
theorem Chan.capIdle_idles (c : Chan) (k : SetId) : (c.capIdle k).capState k = 0 ∧
    ((c.capSet k).holds = false → ((c.capIdle k).capSet k).segs = (c.capSet k).segs) := by
  unfold Chan.capIdle
  refine ⟨Chan.capState_setCapState _ k (by decide), fun h => ?_⟩
  simp [h]

/-- The open record closed: its segment is unread and held no longer. -/
theorem Chan.capClosed_closes (c : Chan) (k : SetId) (p : Bool) :
    ((c.capClosed k p).capSet k).segs[c.capSeg k] = SegSt.unread ∧ ((c.capClosed k p).capSet k).holds = false ∧
      ((c.capClosed k p).capSet k).trig = none := by
  unfold Chan.capClosed
  extract_lets seg rseq h c1 c2 x c3 c4 c5
  have h2 : (c2.capSet k).segs[seg] = SegSt.unread := (c1.segs_setSeg k seg seg .unread).trans (if_pos rfl)
  have h3 : (c3.capSet k).segs[seg] = SegSt.unread ∧ (c3.capSet k).holds = false ∧ (c3.capSet k).trig = none := by
    unfold c3
    rw [Chan.capSet_setCap]
    exact ⟨h2, rfl, rfl⟩
  have h4 : (c4.capSet k).segs[seg] = SegSt.unread ∧ (c4.capSet k).holds = false ∧ (c4.capSet k).trig = none := by
    unfold c4
    split
    · have e := c3.capSet_setPp k (x.pp ++ [seg])
      exact ⟨(congrArg (fun y : CapSet => y.segs[seg]) e).trans h3.1, (congrArg CapSet.holds e).trans h3.2.1,
        (congrArg CapSet.trig e).trans h3.2.2⟩
    · exact h3
  rw [Chan.capSet_setCapState]
  unfold c5
  split
  · exact h4
  · exact h4

end Sys2Proof.Machine
end

section
/-! SUPPORT. A global register's write that its block rejects (16_host_interface.md R479). (O47, O52) -/

namespace Sys2Proof.Machine

/-- A write by a context of a global register that its block rejects. -/
theorem State.writeAlias_rejected {s t : State} {k : Ctx} {off : Nat} {v : Word} (h : s.serves) (hhi : off < 0x8000)
    (hal : off % 4 = 0) (hm : isMsix off = false) (hp : (findRow globalRows off).isSome = true) (hr : s.keepsRoG k off v)
    (hw : s.globalWrite k off v = (t, true)) : s.writeAlias k off v = (t.violation k 5 (aliasAddr k off) true).answered := by
  obtain ⟨hup, hd3⟩ := h
  have hk := k.isLt
  have haddr : (BitVec.ofNat 18 (aliasAddr k off)).toNat = aliasAddr k off := by
    rw [BitVec.toNat_ofNat]
    exact Nat.mod_eq_of_lt (by unfold aliasAddr; omega)
  have hbar : ¬ aliasAddr k off < 0x8000 ∧ ¬ aliasAddr k off < 0x10000 ∧ ¬ aliasAddr k off < 0x20000 ∧
      aliasAddr k off < 0x40000 ∧ ¬ 0x40000 ≤ aliasAddr k off ∧ aliasAddr k off % 4 = 0 ∧
      (aliasAddr k off - 0x20000) % 0x8000 = off ∧ (aliasAddr k off - 0x20000) / 0x8000 = k.val := by
    unfold aliasAddr
    omega
  obtain ⟨b1, b2, b3, b4, b5, hword, hoff, hctxno⟩ := hbar
  have hplace : placeOf (aliasAddr k off) = .glob off := by
    simp only [placeOf, b1, b2, b3, b4, hoff, if_true, if_false]
  have hctx : s.ctxOf (aliasAddr k off) = k := by
    simp only [State.ctxOf, b1, b2, b3, b5, hctxno, decide_false, Bool.or_self, Bool.false_eq_true, if_false]
    exact Fin.ext (Nat.mod_eq_of_lt hk)
  have hpres : s.present k (.glob off) = true := by simp [State.present, hm, hp]
  have hwg : s.writeGlob k off v = ⟨t, 5, none, []⟩ := by
    unfold State.keepsRoG at hr
    simp only [State.writeGlob, hr, hw, writeCause, Bool.false_and, Bool.false_eq_true, if_false, if_true]
  have hacc : s.access k (aliasAddr k off) false (some v) = ⟨t, 5, none, []⟩ := by
    simp only [State.access, hplace, hpres, Bool.not_true, Bool.false_eq_true, if_false, State.writePlace, hwg]
  unfold State.writeAlias State.writeAt State.request
  simp only [hup, Bool.not_true, hd3, if_false, Bool.false_eq_true]
  simp only [haddr, hword, State.answer, hctx, hacc, hplace]
  rfl

/-- A capture register's rejection. -/
theorem State.globalWrite_gcap_rejected {s : State} {k : Ctx} {off : Nat} {v : Word} (hlo : 0x6000 ≤ off)
    (hw : s.writeGcap k off v = none) :
    s.globalWrite k off v = ((s.gset Reg.GCAP_GSTAT Fld.GCAP_GSTAT_REJ 1).rejectRecord 0x09 0xF off v k.val 0, true) := by
  unfold State.globalWrite
  dsimp only
  rw [if_neg (by unfold Reg.CHRST; omega), if_neg (by omega), if_neg (by omega), if_neg (by omega), if_neg (by omega),
    if_neg (by omega), if_neg (by omega), if_neg (by omega), if_neg (by omega), if_neg (by omega), hw]
  have hrej : s.rejectGlobal k off v = (s.gset Reg.GCAP_GSTAT Fld.GCAP_GSTAT_REJ 1).rejectRecord 0x09 0xF off v k.val 0 := by
    unfold State.rejectGlobal
    rw [if_neg (by omega), if_neg (by omega), if_neg (by omega), if_neg (by omega), if_neg (by omega)]
  exact congrArg (·, true) hrej

/-- What a rejection's report leaves: its cause in the context's status, and the registers beside the port's (R480). -/
theorem State.violation_frame (s : State) (k : Ctx) (cause addr : Nat) (wr : Bool) :
    (s.violation k cause addr wr).dma = s.dma ∧
    ∀ o, o ≠ Reg.HOST_VIO → o ≠ Reg.REC_CNT → o ≠ Reg.INT_STAT → (s.violation k cause addr wr).gget o = s.gget o := by
  unfold State.violation
  extract_lets w u1 u2 u3
  have h2 : u2.dma = s.dma ∧ ∀ o, o ≠ Reg.HOST_VIO → u2.gget o = s.gget o :=
    ⟨rfl, fun o h => (State.gget_gset_ne _ _ _ h).trans ((State.gget_gset_ne _ _ _ h).trans (State.gget_gset_ne _ _ _ h))⟩
  have h3 : u2.reports u3 := by
    unfold u3
    split
    · exact State.reports_refl u2
    · exact State.reports_record ..
  have h4 := h3.irq 6
  refine ⟨?_, fun o hv hc hi => (h4.2 o hc hi).trans (h2.2 o hv)⟩
  rw [h4.1]
  exact h2.1

end Sys2Proof.Machine
end

section
/-! SUPPORT. CAP_CTL, GCAP_FORCE and the capture DMA (13_capture_and_trigger.md R400 to R417). (O47) -/

namespace Sys2Proof.Machine

/-! ## CAP_CTL (R400, R401, R406, R410) -/

theorem capCtl_row : ∀ j : Fin 4, ∃ r, findRow chanRows (Reg.CAP_CTL j) = some r ∧ r.counter = false ∧ r.w1c = 0 ∧ r.rws = 0 ∧
    (r.rw = 0 && r.rwl = 0 && r.wo = 0) = false := by decide +kernel

theorem capCtl_place : ∀ j : Fin 4, stickyOnly (Reg.CAP_CTL j) = false ∧ plainAtOnce (Reg.CAP_CTL j) = false ∧
    capCtlOf (Reg.CAP_CTL j) = some j ∧ Fin.ofNat 4 ((Reg.CAP_CTL j - 0x2C00) / 0x100) = j ∧ Reg.CAP_CTL j % 4 = 0 ∧
    (Reg.CAP_CTL j - 0x2C00) % 0x100 = 0 ∧ 0x2C00 ≤ Reg.CAP_CTL j ∧ Reg.CAP_CTL j < 0x3000 ∧
    Reg.CAP_CTL j ∉ [Reg.CH_TICK_DIV, Reg.CH_OUTER_DIV, Reg.CH_MODE_REQ, Reg.PWM_TRIP, Reg.CH_SAFE_LATCH, Reg.ENG_CDAT,
      Reg.ENG_DDAT, Reg.LAW_STAT, Reg.PLL_CTL] := by decide +kernel

/-- An accepted write of CAP_CTL acts at once. -/
theorem State.writeWindow_capCtl {s : State} {k : Ctx} {ch : ChId} {j : Fin 4} {v : Word} (hreach : s.reaches k ch)
    (habs : s.capAbsent k (Reg.CAP_CTL j) = false) (hlost : (s.chan ch).clockLost = false)
    (hro : s.keepsRo k ch (Reg.CAP_CTL j) v) (hok : (s.chan ch).capCtlBad j v = false) :
    s.writeWindow k (Reg.CAP_CTL j) v = (s.capCtl ch j v).answered := by
  obtain ⟨r, hrow, hcnt, hw1c, hrws, hfields⟩ := capCtl_row j
  obtain ⟨hsticky, hplain, hcap, hset, hal, hslot, hlo, hhi, hother⟩ := capCtl_place j
  simp only [List.mem_cons, List.not_mem_nil, or_false, not_or] at hother
  obtain ⟨htick, houter, hreq, htrip, hlatch, hcdat, hddat, hlaw, hctl⟩ := hother
  generalize hoff : Reg.CAP_CTL j.val = off at *
  have hopen : (s.chan ch).blockShut off = false := by
    have hmode : (decide ((s.chan ch).mode = 0) || decide ((s.chan ch).mode = 11)) = false := by
      unfold Chan.capCtlBad at hok
      simp only [Bool.or_eq_false_iff] at hok ⊢
      exact hok.1.1
    unfold Chan.blockShut
    rw [hmode]
    rfl
  have hcause : s.arrivalCause ch off v = none := by
    have hne : ¬ off < 0x0400 ∧ ¬ off < 0x0800 ∧ ¬ off < 0x0C00 ∧
        ¬ off < 0x1400 ∧ ¬ off < 0x1C00 ∧ ¬ off < 0x1CA0 ∧ ¬ off < 0x2000 ∧ ¬ off < 0x2400 ∧ ¬ off < 0x2800 ∧
        ¬ off < 0x2C00 := by omega
    obtain ⟨h2, h3, h4, h5, h6, h7, h8, h9, h10, h11⟩ := hne
    simp only [State.arrivalCause, hopen, hsticky, htick, houter, h2, h3, h4, h5, h6, h7, h8, h9, h10, h11, hhi, hset, hslot, hok,
      if_true, if_false, Bool.false_eq_true, decide_false, Bool.or_self]
  refine State.writeWindow_ok hreach (by omega) (by omega) hal (by simp [hrow]) habs hro ?_
  have hchan : ¬ 0x3000 ≤ off := by omega
  simp only [State.chanWrite, hreq, hchan, htrip, hlatch, hcdat, hddat, hopen, hrow, hcnt, State.fieldWrite, hcause,
    State.stickyWrite, hw1c, hrws, hlaw, hlost, hfields, State.takeWrite, hplain, hctl, hcap, if_true, if_false,
    Bool.false_eq_true, decide_true, Bool.and_self]

/-- The bits of CAP_CTL, one at a time. -/
theorem State.capCtl_arm {s : State} {ch : ChId} {j : Fin 4} (hidle : (s.chan ch).capState j = 0)
    (hntr : (s.chan ch).capNtr j ≠ 0) : s.capCtl ch j 1 = s.capStart ch j := by
  have hbits : (1 : Word).getLsbD 0 = true ∧ (1 : Word).getLsbD 1 = false ∧ (1 : Word).getLsbD 2 = false ∧
      (1 : Word).getLsbD 3 = false ∧ (1 : Word).getLsbD 4 = false := by decide
  obtain ⟨b0, b1, b2, b3, b4⟩ := hbits
  simp only [State.capCtl, b0, b1, b2, b3, b4, hidle, decide_true, Bool.and_self, Bool.true_and, bne_iff_ne, ne_eq, hntr,
    not_false_eq_true, if_true, if_false, Bool.false_eq_true]

theorem State.capCtl_disarm (s : State) (ch : ChId) (j : Fin 4) : s.capCtl ch j 2 = s.capDisarmSet ch j := by
  have hbits : (2 : Word).getLsbD 0 = false ∧ (2 : Word).getLsbD 1 = true ∧ (2 : Word).getLsbD 2 = false ∧
      (2 : Word).getLsbD 3 = false ∧ (2 : Word).getLsbD 4 = false := by decide
  obtain ⟨b0, b1, b2, b3, b4⟩ := hbits
  simp only [State.capCtl, b0, b1, b2, b3, b4, Bool.false_and, if_true, if_false, Bool.false_eq_true]

theorem State.capCtl_force (s : State) (ch : ChId) (j : Fin 4) :
    s.capCtl ch j 4 = s.onCap ch j (fun x => { x with force := true }) := by
  have hbits : (4 : Word).getLsbD 0 = false ∧ (4 : Word).getLsbD 1 = false ∧ (4 : Word).getLsbD 2 = true ∧
      (4 : Word).getLsbD 3 = false ∧ (4 : Word).getLsbD 4 = false := by decide
  obtain ⟨b0, b1, b2, b3, b4⟩ := hbits
  simp only [State.capCtl, b0, b1, b2, b3, b4, Bool.false_and, if_true, if_false, Bool.false_eq_true]

theorem State.capCtl_hclr (s : State) (ch : ChId) (j : Fin 4) : s.capCtl ch j 8 = s.capClearHist ch j := by
  have hbits : (8 : Word).getLsbD 0 = false ∧ (8 : Word).getLsbD 1 = false ∧ (8 : Word).getLsbD 2 = false ∧
      (8 : Word).getLsbD 3 = true ∧ (8 : Word).getLsbD 4 = false := by decide
  obtain ⟨b0, b1, b2, b3, b4⟩ := hbits
  simp only [State.capCtl, b0, b1, b2, b3, b4, Bool.false_and, if_true, if_false, Bool.false_eq_true]

theorem ackWord_bits : ∀ g : Fin 64, (BitVec.ofNat 32 (16 + 32 * g.val)).getLsbD 0 = false ∧
    (BitVec.ofNat 32 (16 + 32 * g.val)).getLsbD 1 = false ∧ (BitVec.ofNat 32 (16 + 32 * g.val)).getLsbD 2 = false ∧
    (BitVec.ofNat 32 (16 + 32 * g.val)).getLsbD 3 = false ∧ (BitVec.ofNat 32 (16 + 32 * g.val)).getLsbD 4 = true ∧
    Fin.ofNat 64 (getField (BitVec.ofNat 32 (16 + 32 * g.val)) Fld.CAP_CTL_SEG) = g := by decide +kernel

theorem State.capCtl_ack (s : State) (ch : ChId) (j : Fin 4) (g : Fin 64) :
    s.capCtl ch j (BitVec.ofNat 32 (16 + 32 * g.val)) = s.putChan ch ((s.chan ch).setSeg j g .free) := by
  obtain ⟨b0, b1, b2, b3, b4, hseg⟩ := ackWord_bits g
  simp only [State.capCtl, b0, b1, b2, b3, b4, hseg, Bool.false_and, if_true, if_false, Bool.false_eq_true, State.onChan_eq]

/-- A set that is armed takes the lowest free segment, or waits (R401, R406). -/
theorem State.capStart_free {s : State} {ch : ChId} {j : SetId} {i : Fin 64} (h : (s.chan ch).capFree j = some i) :
    s.capStart ch j = s.putChan ch ((s.chan ch).capFill j i false) := by
  unfold State.capStart
  dsimp only
  rw [h]

theorem State.capStart_none {s : State} {ch : ChId} {j : SetId} (h : (s.chan ch).capFree j = none)
    (hovw : (s.chan ch).bit (Reg.CAP_CFG j) Fld.CAP_CFG_OVW = false) :
    s.capStart ch j = s.putChan ch ((s.chan ch).setCapState j 5) := by
  unfold State.capStart
  dsimp only
  rw [h, hovw]

/-- A closed record: its channel, and the segment that holds it. -/
theorem State.capClose_closes {s : State} {ch : ChId} {j : SetId} (trunc : Bool) (h : ((s.chan ch).capSet j).trig.isSome) :
    ((s.capClose ch j trunc).chan ch) = (s.chan ch).capClosed j s.die.paused := by
  obtain ⟨t, ht⟩ := Option.isSome_iff_exists.1 h
  unfold State.capClose
  dsimp only
  rw [ht]
  exact State.chan_putChan_same _ _ _

/-- DISARM enters IDLE; only an open record is stored, and its segment is unread (R401). -/
theorem State.capDisarmSet_disarms (s : State) (ch : ChId) (j : SetId) :
    ((s.capDisarmSet ch j).chan ch).capState j = 0 ∧ ((s.chan ch).capState j ≠ 3 → (s.capDisarmSet ch j).sram = s.sram) ∧
      ((s.chan ch).capState j = 3 → ((s.chan ch).capSet j).trig.isSome →
        (((s.capDisarmSet ch j).chan ch).capSet j).segs[(s.chan ch).capSeg j] = SegSt.unread) := by
  unfold State.capDisarmSet
  extract_lets t
  rw [State.onChan_eq, State.chan_putChan_same]
  refine ⟨?_, fun h => ?_, fun h htrig => ?_⟩
  · split
    · assumption
    · exact (Chan.capIdle_idles _ _).1
  · show t.sram = s.sram
    exact congrArg State.sram (if_neg h)
  · have ht : t.chan ch = (s.chan ch).capClosed j s.die.paused :=
      (congrArg (State.chan · ch) (if_pos h)).trans (State.capClose_closes true htrig)
    obtain ⟨hunread, hholds, -⟩ := (s.chan ch).capClosed_closes j s.die.paused
    rw [← ht] at hunread hholds
    split
    · exact hunread
    · exact (congrArg (fun v : Vector SegSt 64 => v[(s.chan ch).capSeg j]) ((Chan.capIdle_idles _ _).2 hholds)).trans hunread

/-- A word of the store after a region of it has been cleared. -/
theorem sget_filter {α : Type} (d : Nat → α) (p : Nat → Bool) (m : List (Nat × α)) (i : Nat) :
    sget d (m.filter fun x => p x.1) i = if p i then sget d m i else d i := by
  induction m with
  | nil => simp
  | cons x m ih =>
    obtain ⟨a, w⟩ := x
    by_cases hp : p a = true
    · rw [List.filter_cons_of_pos (by exact hp)]
      by_cases hi : i = a
      · subst hi
        simp [sget, hp]
      · simp [sget, hi, ih]
    · rw [List.filter_cons_of_neg (by exact hp), ih]
      by_cases hi : i = a
      · subst hi
        simp [hp]
      · simp [sget, hi]

theorem State.capClearHist_clears (s : State) (ch : ChId) (j : SetId) :
    ((s.capClearHist ch j).chan ch).bit (Reg.CAP_STAT j) Fld.CAP_STAT_HSAT = false ∧
    ∀ i, (s.capClearHist ch j).sramGet i =
      if ((s.chan ch).capBase j.val).2 * 1024 ≤ i ∧
        i < ((s.chan ch).capBase j.val).2 * 1024 + (s.chan ch).fld (Reg.CAP_LAYOUT j) Fld.CAP_LAYOUT_HREG * 1024
      then sramDefault i else s.sramGet i := by
  unfold State.capClearHist
  extract_lets c a n t
  refine ⟨?_, fun i => ?_⟩
  · rw [State.onChan_eq, State.chan_putChan_same]
    exact Chan.bit_setFld0 _ _ _ (by decide)
  · refine (sget_filter sramDefault (fun x => !(decide (a ≤ x) && decide (x < a + n))) s.sram i).trans ?_
    by_cases h : a ≤ i ∧ i < a + n
    · rw [if_neg (by simp [h.1, h.2]), if_pos h]
    · rw [if_pos (by simp only [Bool.not_eq_true', Bool.and_eq_false_iff, decide_eq_false_iff_not]; omega), if_neg h]
      rfl

/-! ## GCAP_FORCE (R400) -/

theorem Chan.capSet_setCap_ne (c : Chan) {j k : SetId} (x : CapSet) (h : j ≠ k) : (c.setCap k x).capSet j = c.capSet j := by
  have hne : k.val ≠ j.val := fun e => h (Fin.ext e.symm)
  simp [Chan.capSet, Chan.setCap, hne]

/-- A set that obeys GCAP_FORCE is forced. -/
def State.forceSet (ch : ChId) (s : State) (k : SetId) : State :=
  if (s.chan ch).bit (Reg.CAP_CFG k) Fld.CAP_CFG_GFORCE then s.onCap ch k fun x => { x with force := true } else s

/-- The flag of a set after another, or the same, has been forced; what it obeys stays. -/
theorem State.forceSet_force (s : State) (a ch : ChId) (k j : SetId) :
    (((s.forceSet a k).chan ch).capSet j).force = (((s.chan ch).capSet j).force ||
      (decide (ch = a ∧ j = k) && (s.chan ch).bit (Reg.CAP_CFG j) Fld.CAP_CFG_GFORCE)) ∧
    ((s.forceSet a k).chan ch).bit (Reg.CAP_CFG j) Fld.CAP_CFG_GFORCE = (s.chan ch).bit (Reg.CAP_CFG j) Fld.CAP_CFG_GFORCE := by
  unfold State.forceSet
  by_cases hch : ch = a
  · subst hch
    by_cases hk : j = k
    · subst hk
      split
      · next h => simp [h]
      · next h => simp [h]
    · split
      · simp [hk, Chan.capSet_setCap_ne _ _ hk]
      · simp [hk]
  · split
    · simp [hch, State.chan_putChan_ne _ _ hch]
    · simp [hch]

theorem State.forceSets_force (a ch : ChId) (j : SetId) (l : List SetId) (s : State) :
    (((l.foldl (State.forceSet a) s).chan ch).capSet j).force = (((s.chan ch).capSet j).force ||
      (decide (ch = a ∧ j ∈ l) && (s.chan ch).bit (Reg.CAP_CFG j) Fld.CAP_CFG_GFORCE)) ∧
    ((l.foldl (State.forceSet a) s).chan ch).bit (Reg.CAP_CFG j) Fld.CAP_CFG_GFORCE =
      (s.chan ch).bit (Reg.CAP_CFG j) Fld.CAP_CFG_GFORCE := by
  induction l generalizing s with
  | nil => simp
  | cons k l ih =>
    obtain ⟨hf, hb⟩ := s.forceSet_force a ch k j
    obtain ⟨kf, kb⟩ := ih (s.forceSet a k)
    refine ⟨?_, kb.trans hb⟩
    rw [List.foldl_cons, kf, hf, hb, Bool.or_assoc, ← Bool.and_or_distrib_right]
    congr 2
    rw [← Bool.decide_or]
    exact decide_eq_decide.2 (by simp only [List.mem_cons]; tauto)

/-- The sets of a named channel are forced. -/
def State.forceChan (v : Word) (s : State) (a : ChId) : State :=
  if !v.getLsbD a.val then s else (List.finRange 4).foldl (State.forceSet a) s

theorem State.capGlobalForce_eq (s : State) (v : Word) : s.capGlobalForce v = (List.finRange 12).foldl (State.forceChan v) s := rfl

theorem State.forceChans_force (v : Word) (ch : ChId) (j : SetId) (l : List ChId) (s : State) :
    (((l.foldl (State.forceChan v) s).chan ch).capSet j).force = (((s.chan ch).capSet j).force ||
      (decide (ch ∈ l) && (v.getLsbD ch.val && (s.chan ch).bit (Reg.CAP_CFG j) Fld.CAP_CFG_GFORCE))) := by
  induction l generalizing s with
  | nil => simp
  | cons a l ih =>
    have hone : (((s.forceChan v a).chan ch).capSet j).force = (((s.chan ch).capSet j).force ||
        (decide (ch = a) && (v.getLsbD ch.val && (s.chan ch).bit (Reg.CAP_CFG j) Fld.CAP_CFG_GFORCE))) ∧
        ((s.forceChan v a).chan ch).bit (Reg.CAP_CFG j) Fld.CAP_CFG_GFORCE =
          (s.chan ch).bit (Reg.CAP_CFG j) Fld.CAP_CFG_GFORCE := by
      unfold State.forceChan
      obtain ⟨hf, hb⟩ := State.forceSets_force a ch j (List.finRange 4) s
      by_cases hv : v.getLsbD a.val = true
      · rw [if_neg (by simp [hv]), hf, hb]
        refine ⟨?_, rfl⟩
        by_cases hch : ch = a
        · subst hch
          simp [hv, List.mem_finRange]
        · simp [hch]
      · rw [if_pos (by simpa using hv)]
        refine ⟨?_, rfl⟩
        by_cases hch : ch = a
        · subst hch
          simp [hv]
        · simp [hch]
    rw [List.foldl_cons, ih, hone.1, hone.2, Bool.or_assoc, ← Bool.and_or_distrib_right, ← Bool.decide_or]
    congr 2
    exact decide_eq_decide.2 (by simp only [List.mem_cons])

theorem State.capGlobalForce_force (s : State) (v : Word) (ch : ChId) (j : SetId) :
    (((s.capGlobalForce v).chan ch).capSet j).force = (((s.chan ch).capSet j).force ||
      (v.getLsbD ch.val && (s.chan ch).bit (Reg.CAP_CFG j) Fld.CAP_CFG_GFORCE)) := by
  rw [State.capGlobalForce_eq, State.forceChans_force]
  simp [List.mem_finRange]

/-! ## The capture DMA (R411) -/

theorem State.dmaShow_dma (s : State) : s.dmaShow.dma = s.dma := rfl

/-- QUEUED and BUSY alone change as the DMA's state is shown. -/
theorem State.dmaShow_gfld (s : State) {o : Nat} {f : BitField} (h : o ≠ Reg.GCAP_DMA_STAT ∨ 6 ≤ f.lo) :
    s.dmaShow.gfld o f = s.gfld o f := by
  unfold State.dmaShow
  refine (State.gfld_gset_ne _ _ ?_).trans (State.gfld_gset_ne _ _ ?_)
  · exact h.imp id fun h => .inl (by dsimp only; omega)
  · exact h.imp id fun h => .inl (by dsimp only; omega)

/-- The next descriptor runs where none did. -/
theorem State.dmaNext_starts {s : State} (h : s.dma.running = none) :
    s.dmaNext.dma.running = s.dma.queue.head? ∧ s.dmaNext.dma.queue = s.dma.queue.tail := by
  unfold State.dmaNext
  rw [h]
  cases hq : s.dma.queue with
  | nil => exact ⟨h, hq⟩
  | cons d l => exact ⟨rfl, rfl⟩

/-- What the start of the next descriptor leaves: the channels, what was delivered last, and the other fields. -/
theorem State.dmaNext_frame (s : State) : (∀ ch, s.dmaNext.chan ch = s.chan ch) ∧ s.dmaNext.dma.lastData = s.dma.lastData ∧
    s.dmaNext.dma.lastAddr = s.dma.lastAddr ∧
    ∀ {o : Nat} {f : BitField}, (o ≠ Reg.GCAP_DMA_STAT ∨ 6 ≤ f.lo) → s.dmaNext.gfld o f = s.gfld o f := by
  unfold State.dmaNext
  split
  · exact ⟨fun _ => rfl, rfl, rfl, fun h => State.dmaShow_gfld _ h⟩
  · exact ⟨fun _ => rfl, rfl, rfl, fun h => State.dmaShow_gfld _ h⟩

/-- The result of a copy, as shown (R417). -/
def State.dmaReport (s : State) (d : DmaDesc) (e : Nat) : State :=
  let s := (s.gset Reg.GCAP_DMA_STAT Fld.GCAP_DMA_STAT_LTAG (getField d.sel Fld.GCAP_DMA_SEL_TAG)).gset
    Reg.GCAP_DMA_STAT Fld.GCAP_DMA_STAT_LERR e
  if e = 0 then s else s.gset Reg.GCAP_GSTAT Fld.GCAP_GSTAT_DMAERR 1

/-- The words of a copy without error reach the host. -/
def State.dmaDeliver (s : State) (d : DmaDesc) (ws : List Word) (e : Nat) : State :=
  if e = 0 then { s with dma := { s.dma with lastAddr := d.lo.toNat + 2 ^ 32 * d.hi.toNat, lastData := ws } } else s

/-- The segment of a copied record becomes free. -/
def State.dmaRelease (s : State) (d : DmaDesc) (e : Nat) : State :=
  if h : e = 0 ∧ getField d.sel Fld.GCAP_DMA_SEL_KIND = 0 ∧ getField d.sel Fld.GCAP_DMA_SEL_CH < 12 then
    s.onChan ⟨_, h.2.2⟩ fun c => c.setSeg (Fin.ofNat 4 (getField d.sel Fld.GCAP_DMA_SEL_SET))
      (Fin.ofNat 64 (getField d.sel Fld.GCAP_DMA_SEL_SEG)) .free
  else s

/-- The DMA is free again, and the context's vector is raised. -/
def State.dmaIdle (s : State) (d : DmaDesc) : State := { s with dma := { s.dma with running := none } }.irq (20 + d.ctx.val)

theorem State.dmaEnd_eq {s : State} {d : DmaDesc} (err : DmaEnd) (h : s.dma.running = some d) :
    s.dmaEnd err = ((((s.dmaReport d (dmaErr (s.dmaWords d).isNone err)).dmaDeliver d ((s.dmaWords d).getD [])
      (dmaErr (s.dmaWords d).isNone err)).dmaRelease d (dmaErr (s.dmaWords d).isNone err)).dmaIdle d).dmaNext := by
  unfold State.dmaEnd
  rw [h]
  rfl

theorem State.dmaReport_shows (s : State) (d : DmaDesc) {e : Nat} (h : e < 8) : (s.dmaReport d e).dma = s.dma ∧
    (s.dmaReport d e).gfld Reg.GCAP_DMA_STAT Fld.GCAP_DMA_STAT_LTAG = getField d.sel Fld.GCAP_DMA_SEL_TAG ∧
    (s.dmaReport d e).gfld Reg.GCAP_DMA_STAT Fld.GCAP_DMA_STAT_LERR = e := by
  unfold State.dmaReport
  extract_lets t
  have htag : t.gfld Reg.GCAP_DMA_STAT Fld.GCAP_DMA_STAT_LTAG = getField d.sel Fld.GCAP_DMA_SEL_TAG := by
    refine (State.gfld_gset_ne _ _ (.inr (.inr (by decide)))).trans ?_
    exact (State.gfld_gset _ _ _ _ (by decide)).trans (Nat.mod_eq_of_lt (BitVec.isLt _))
  have herr : t.gfld Reg.GCAP_DMA_STAT Fld.GCAP_DMA_STAT_LERR = e :=
    (State.gfld_gset _ _ _ _ (by decide)).trans (Nat.mod_eq_of_lt h)
  split
  · exact ⟨rfl, htag, herr⟩
  · exact ⟨rfl, (State.gfld_gset_ne _ _ (.inl (by decide))).trans htag, (State.gfld_gset_ne _ _ (.inl (by decide))).trans herr⟩

theorem State.dmaDeliver_delivers (s : State) (d : DmaDesc) (ws : List Word) (e : Nat) :
    (s.dmaDeliver d ws e).dma.queue = s.dma.queue ∧ (s.dmaDeliver d ws e).g = s.g ∧
    (e = 0 → (s.dmaDeliver d ws e).dma.lastData = ws ∧
      (s.dmaDeliver d ws e).dma.lastAddr = d.lo.toNat + 2 ^ 32 * d.hi.toNat) := by
  unfold State.dmaDeliver
  split
  · exact ⟨rfl, rfl, fun _ => ⟨rfl, rfl⟩⟩
  · next h => exact ⟨rfl, rfl, fun e => absurd e h⟩

theorem State.segs_freed (s : State) (ch : ChId) (k : SetId) (i : Fin 64) :
    (((s.onChan ch fun c => c.setSeg k i .free).chan ch).capSet k).segs[i] = SegSt.free :=
  (congrArg (fun c : Chan => (c.capSet k).segs[i]) (State.chan_putChan_same ..)).trans
    ((Chan.segs_setSeg ..).trans (if_pos rfl))

theorem State.dmaRelease_releases (s : State) (d : DmaDesc) (e : Nat) :
    (s.dmaRelease d e).dma = s.dma ∧ (s.dmaRelease d e).g = s.g ∧
    ∀ (h : getField d.sel Fld.GCAP_DMA_SEL_CH < 12), e = 0 → getField d.sel Fld.GCAP_DMA_SEL_KIND = 0 →
      (((s.dmaRelease d e).chan ⟨_, h⟩).capSet (Fin.ofNat 4 (getField d.sel Fld.GCAP_DMA_SEL_SET))).segs[
        Fin.ofNat 64 (getField d.sel Fld.GCAP_DMA_SEL_SEG)] = SegSt.free := by
  unfold State.dmaRelease
  split
  · refine ⟨rfl, rfl, fun h _ _ => ?_⟩
    exact s.segs_freed ⟨_, h⟩ _ _
  · next hno => exact ⟨rfl, rfl, fun h he hkind => absurd ⟨he, hkind, h⟩ hno⟩

theorem State.dmaIdle_frame (s : State) (d : DmaDesc) : (s.dmaIdle d).dma = { s.dma with running := none } ∧
    (∀ ch, (s.dmaIdle d).chan ch = s.chan ch) ∧ ∀ f, (s.dmaIdle d).gfld Reg.GCAP_DMA_STAT f = s.gfld Reg.GCAP_DMA_STAT f := by
  have hr := ({ s with dma := { s.dma with running := none } } : State).reports_irq (20 + d.ctx.val)
  refine ⟨?_, fun ch => hr.chan ch, fun f => hr.gfld Reg.GCAP_DMA_STAT f (by decide) (by decide)⟩
  unfold State.dmaIdle
  rw [hr.1]

theorem dmaErr_lt (absent : Bool) (err : DmaEnd) : dmaErr absent err < 8 := by
  cases absent <;> cases err <;> decide

/-- A copy's end (R411, R417). -/
theorem State.dmaEnd_ends {s : State} {d : DmaDesc} (err : DmaEnd) (h : s.dma.running = some d) :
    (s.dmaEnd err).gfld Reg.GCAP_DMA_STAT Fld.GCAP_DMA_STAT_LTAG = getField d.sel Fld.GCAP_DMA_SEL_TAG ∧
    (s.dmaEnd err).gfld Reg.GCAP_DMA_STAT Fld.GCAP_DMA_STAT_LERR = dmaErr (s.dmaWords d).isNone err ∧
    (s.dmaEnd err).dma.running = s.dma.queue.head? ∧ (s.dmaEnd err).dma.queue = s.dma.queue.tail ∧
    (∀ ws, err = .ok → s.dmaWords d = some ws → (s.dmaEnd err).dma.lastData = ws ∧
      (s.dmaEnd err).dma.lastAddr = d.lo.toNat + 2 ^ 32 * d.hi.toNat ∧
      ∀ (h : getField d.sel Fld.GCAP_DMA_SEL_CH < 12), getField d.sel Fld.GCAP_DMA_SEL_KIND = 0 →
        (((s.dmaEnd err).chan ⟨_, h⟩).capSet (Fin.ofNat 4 (getField d.sel Fld.GCAP_DMA_SEL_SET))).segs[
          Fin.ofNat 64 (getField d.sel Fld.GCAP_DMA_SEL_SEG)] = SegSt.free) := by
  rw [State.dmaEnd_eq err h]
  have hwords : ∀ ws, err = .ok → s.dmaWords d = some ws → dmaErr (s.dmaWords d).isNone err = 0 ∧ (s.dmaWords d).getD [] = ws :=
    fun ws he hw => by
      rw [he, hw]
      exact ⟨rfl, rfl⟩
  have hlt := dmaErr_lt (s.dmaWords d).isNone err
  generalize dmaErr (s.dmaWords d).isNone err = e at *
  generalize (s.dmaWords d).getD [] = data at *
  obtain ⟨hdma1, htag, herr⟩ := s.dmaReport_shows d hlt
  obtain ⟨hqueue, hg2, hdata⟩ := (s.dmaReport d e).dmaDeliver_delivers d data e
  generalize s.dmaReport d e = u1 at *
  obtain ⟨hdma3, hg3, hfree⟩ := (u1.dmaDeliver d data e).dmaRelease_releases d e
  generalize u1.dmaDeliver d data e = u2 at *
  obtain ⟨hdma4, hchan4, hfld4⟩ := (u2.dmaRelease d e).dmaIdle_frame d
  generalize u2.dmaRelease d e = u3 at *
  have hfld : ∀ f, (u3.dmaIdle d).gfld Reg.GCAP_DMA_STAT f = u1.gfld Reg.GCAP_DMA_STAT f := fun f => by
    rw [hfld4]
    unfold State.gfld State.gget
    rw [hg3, hg2]
  generalize u3.dmaIdle d = u4 at *
  obtain ⟨hrun, hnext⟩ := State.dmaNext_starts (s := u4) (by rw [hdma4])
  obtain ⟨hchan5, hlast, haddr, hfld5⟩ := u4.dmaNext_frame
  have hq : u4.dma.queue = s.dma.queue := by rw [hdma4, ← hdma1, ← hqueue, ← hdma3]
  refine ⟨(hfld5 (.inr (by decide))).trans ((hfld _).trans htag), (hfld5 (.inr (by decide))).trans ((hfld _).trans herr),
    hrun.trans (congrArg List.head? hq), hnext.trans (congrArg List.tail hq), fun ws he hw => ?_⟩
  obtain ⟨he0, hws⟩ := hwords ws he hw
  obtain ⟨hd, ha⟩ := hdata he0
  refine ⟨?_, ?_, fun hch hkind => ?_⟩
  · rw [hlast, hdma4, ← hws, ← hd, hdma3]
  · rw [haddr, hdma4, ← ha, hdma3]
  · rw [hchan5, hchan4]
    exact hfree hch he0 hkind

/-! ## THROT (R412, R445) -/

theorem capStat_injective : ∀ j k : Fin 4, j ≠ k → Reg.CAP_STAT j ≠ Reg.CAP_STAT k := by decide

/-- A set's THR follows the pause and its PPEND. -/
def State.throttleSet (on : Bool) (ch : ChId) (s : State) (k : SetId) : State := s.onChan ch fun c =>
  c.setFld (Reg.CAP_STAT k.val) Fld.CAP_STAT_THR (if on && c.bit (Reg.CAP_STAT k.val) Fld.CAP_STAT_PPEND then 1 else 0)

theorem State.throttleSet_thr (on : Bool) (s : State) (a ch : ChId) (k j : SetId) :
    ((s.throttleSet on a k).chan ch).bit (Reg.CAP_STAT j) Fld.CAP_STAT_PPEND =
      (s.chan ch).bit (Reg.CAP_STAT j) Fld.CAP_STAT_PPEND ∧
    ((s.throttleSet on a k).chan ch).bit (Reg.CAP_STAT j) Fld.CAP_STAT_THR = if ch = a ∧ j = k then
      on && (s.chan ch).bit (Reg.CAP_STAT j) Fld.CAP_STAT_PPEND else (s.chan ch).bit (Reg.CAP_STAT j) Fld.CAP_STAT_THR := by
  unfold State.throttleSet
  rw [State.onChan_eq]
  by_cases hch : ch = a
  · subst hch
    rw [State.chan_putChan_same]
    refine ⟨Chan.bit_setFld_ne _ _ _ _ _ _ (.inr (by decide)), ?_⟩
    by_cases hk : j = k
    · subst hk
      refine Eq.trans ?_ (if_pos ⟨rfl, rfl⟩).symm
      exact Chan.bit_setFld_ite _ _ _ (by decide) rfl
    · refine Eq.trans ?_ (if_neg fun h => hk h.2).symm
      exact Chan.bit_setFld_ne _ _ _ _ _ _ (.inl (capStat_injective j k hk))
  · rw [State.chan_putChan_ne _ _ hch]
    exact ⟨rfl, (if_neg fun h => hch h.1).symm⟩

theorem State.throttleSets_thr (on : Bool) (a ch : ChId) (j : SetId) (l : List SetId) (s : State) :
    ((l.foldl (State.throttleSet on a) s).chan ch).bit (Reg.CAP_STAT j) Fld.CAP_STAT_PPEND =
      (s.chan ch).bit (Reg.CAP_STAT j) Fld.CAP_STAT_PPEND ∧
    ((l.foldl (State.throttleSet on a) s).chan ch).bit (Reg.CAP_STAT j) Fld.CAP_STAT_THR = if ch = a ∧ j ∈ l then
      on && (s.chan ch).bit (Reg.CAP_STAT j) Fld.CAP_STAT_PPEND else (s.chan ch).bit (Reg.CAP_STAT j) Fld.CAP_STAT_THR := by
  induction l generalizing s with
  | nil => simp
  | cons k l ih =>
    obtain ⟨hp, ht⟩ := s.throttleSet_thr on a ch k j
    obtain ⟨kp, kt⟩ := ih (s.throttleSet on a k)
    refine ⟨kp.trans hp, ?_⟩
    rw [List.foldl_cons, kt, hp, ht]
    by_cases hch : ch = a
    · by_cases hk : j = k
      · simp [hch, hk]
      · simp [hch, hk]
    · simp [hch]

/-- The sets of a channel. -/
def State.throttleChan (on : Bool) (s : State) (a : ChId) : State := (List.finRange 4).foldl (State.throttleSet on a) s

theorem State.capThrottle_eq (s : State) (on : Bool) : s.capThrottle on =
    (List.finRange 12).foldl (State.throttleChan on) { s with die := { s.die with paused := on } } := rfl

theorem State.capThrottle_thr (s : State) (on : Bool) (ch : ChId) (j : SetId) :
    ((s.capThrottle on).chan ch).bit (Reg.CAP_STAT j) Fld.CAP_STAT_THR =
      (on && (s.chan ch).bit (Reg.CAP_STAT j) Fld.CAP_STAT_PPEND) := by
  have hview := foldl_finRange_channel (f := State.throttleChan on)
    (view := fun s ch => ((s.chan ch).bit (Reg.CAP_STAT j) Fld.CAP_STAT_PPEND, (s.chan ch).bit (Reg.CAP_STAT j) Fld.CAP_STAT_THR))
    (g := fun _ p => (p.1, on && p.1))
    (fun t i => by
      obtain ⟨hp, ht⟩ := State.throttleSets_thr on i i j (List.finRange 4) t
      rw [if_pos ⟨rfl, List.mem_finRange j⟩] at ht
      exact Prod.ext hp ht)
    (fun t i c h => by
      obtain ⟨hp, ht⟩ := State.throttleSets_thr on i c j (List.finRange 4) t
      rw [if_neg fun e => h e.1] at ht
      exact Prod.ext hp ht)
    { s with die := { s.die with paused := on } } ch
  exact congrArg Prod.snd hview

/-! ## The commands (R400, R411) -/

theorem gcapCommandRegs_rows : ∀ off ∈ [Reg.GCAP_FORCE, Reg.GCAP_DMA_GO],
    (findRow globalRows off).isSome = true ∧ 0x6000 ≤ off ∧ off < 0x8000 ∧ off % 4 = 0 ∧ isMsix off = false := by
  decide +kernel

theorem State.writeAlias_gcap {s t : State} {k : Ctx} {off : Nat} {v : Word} (hserves : s.serves)
    (hoff : off ∈ [Reg.GCAP_FORCE, Reg.GCAP_DMA_GO]) (hro : s.keepsRoG k off v) (hw : s.writeGcap k off v = some t) :
    s.writeAlias k off v = t.answered := by
  obtain ⟨hrow, hlo, hhi, hal, hmsix⟩ := gcapCommandRegs_rows off hoff
  exact State.writeAlias_ok hserves hhi hal hmsix hrow hro (State.globalWrite_gcap hlo hw)

theorem State.writeGcap_go (s : State) (k : Ctx) (v : Word) : s.writeGcap k Reg.GCAP_DMA_GO v =
    if (s.dmaGo k v).2 then none else some (s.dmaGo k v).1 := by
  unfold State.writeGcap
  rw [if_neg (by decide), if_neg (by decide), if_neg (by decide), if_neg (by decide), if_pos rfl]

theorem getLsbD_or_one (v : Word) : (v ||| 1).getLsbD 0 = true := by
  rw [BitVec.getLsbD_or]
  exact Bool.or_true _

theorem State.dmaGo_queues {s : State} (k : Ctx) (v : Word) (h : s.dma.queue.length < 16) : s.dmaGo k (v ||| 1) =
    (({ s with dma := { s.dma with queue := s.dma.queue ++ [s.dma.staged[k]] } } : State).dmaNext, false) := by
  unfold State.dmaGo
  rw [getLsbD_or_one, if_neg (by decide), if_neg (by omega)]

theorem State.dmaGo_full {s : State} (k : Ctx) (v : Word) (h : 16 ≤ s.dma.queue.length) :
    s.dmaGo k (v ||| 1) = (s, true) := by
  unfold State.dmaGo
  rw [getLsbD_or_one, if_neg (by decide), if_pos h]

/-- GO with sixteen descriptors waiting is rejected (R413, R480). -/
theorem execCaptureDmaGo_full {s : State} {k : Ctx} {v : Word} (hserves : s.serves)
    (hro : s.keepsRoG k Reg.GCAP_DMA_GO (v ||| 1)) (h : 16 ≤ s.dma.queue.length) :
    ∃ t, execCaptureDmaGo k v s = .next t ∧ t.dma = s.dma ∧ t.gbit Reg.GCAP_GSTAT Fld.GCAP_GSTAT_REJ = true ∧
      getField t.host.ctxs[k].stat Fld.CTX_STAT_VCAUSE = 5 := by
  obtain ⟨hrow, hlo, hhi, hal, hmsix⟩ := gcapCommandRegs_rows Reg.GCAP_DMA_GO (by simp)
  have hnone : s.writeGcap k Reg.GCAP_DMA_GO (v ||| 1) = none := by
    rw [State.writeGcap_go, State.dmaGo_full k v h, if_pos rfl]
  have hrej := (s.gset Reg.GCAP_GSTAT Fld.GCAP_GSTAT_REJ 1).reports_rejectRecord 0x09 0xF Reg.GCAP_DMA_GO (v ||| 1) k.val 0
  have halias := State.writeAlias_rejected hserves hhi hal hmsix hrow hro (State.globalWrite_gcap_rejected hlo hnone)
  generalize (s.gset Reg.GCAP_GSTAT Fld.GCAP_GSTAT_REJ 1).rejectRecord 0x09 0xF Reg.GCAP_DMA_GO (v ||| 1) k.val 0 = u at *
  obtain ⟨hdma, hget⟩ := u.violation_frame k 5 (aliasAddr k Reg.GCAP_DMA_GO) true
  refine ⟨_, congrArg Host.Outcome.next halias, hdma.trans ?_, ?_, ?_⟩
  · rw [hrej.1]
    rfl
  · have hword : (u.violation k 5 (aliasAddr k Reg.GCAP_DMA_GO) true).answered.gget Reg.GCAP_GSTAT =
        (s.gset Reg.GCAP_GSTAT Fld.GCAP_GSTAT_REJ 1).gget Reg.GCAP_GSTAT :=
      (hget Reg.GCAP_GSTAT (by decide) (by decide) (by decide)).trans (hrej.2 Reg.GCAP_GSTAT (by decide) (by decide))
    exact (congrArg (fun w => getField w Fld.GCAP_GSTAT_REJ != 0) hword).trans (State.gbit_gset_bit _ _ true (by decide) rfl)
  · show getField (u.violation k 5 (aliasAddr k Reg.GCAP_DMA_GO) true).host.ctxs[k].stat _ = 5
    rw [State.violation_ctx]
    exact CtxPort.reported_vcause _ _ _ (by decide)

/-- Settles O47: CAP_CTL bit by bit, then the capture DMA and THROT. -/
theorem captureControl : Obligations.CaptureControl := by
  unfold Obligations.CaptureControl
  refine ⟨fun s k ch j v => ⟨fun i f hi hreach habs hlost hro hok => ?_, fun hidle hntr => ⟨fun i hfree => ?_, fun hnone hovw => ?_⟩,
    ?_, s.capCtl_force ch j, ?_, fun g => ⟨?_, fun i => ?_⟩, fun hserves hro => ⟨?_, s.capGlobalForce_force v ch j⟩⟩,
    fun s k v => ⟨fun hgo hroom => ?_, fun hgo hfull => execCaptureDmaGo_full hgo.1 hgo.2 hfull, fun d err hrun => ?_,
      fun run hthrot => ⟨s.capThrottle (!run), ?_, fun ch j => s.capThrottle_thr (!run) ch j⟩⟩⟩
  · have hwin := congrArg (Host.Outcome.next (φ := Fault) (ρ := Refusal)) (State.writeWindow_capCtl hreach habs hlost hro hok)
    simp only [List.mem_cons, Prod.mk.injEq, List.not_mem_nil, or_false] at hi
    rcases hi with ⟨rfl, rfl⟩ | ⟨rfl, rfl⟩ | ⟨rfl, rfl⟩ | ⟨rfl, rfl⟩ | ⟨rfl, rfl⟩
    · exact hwin
    · exact hwin
    · exact hwin
    · exact hwin
    · exact hwin
  · have hfill := (s.chan ch).capFill_fills j i false
    rw [State.capCtl_arm hidle hntr, State.capStart_free hfree]
    simp only [State.chan_putChan_same]
    exact ⟨trivial, hfill⟩
  · rw [State.capCtl_arm hidle hntr]
    exact State.capStart_none hnone hovw
  · rw [State.capCtl_disarm]
    exact s.capDisarmSet_disarms ch j
  · rw [State.capCtl_hclr]
    exact s.capClearHist_clears ch j
  · rw [State.capCtl_ack, State.chan_putChan_same]
  · rw [State.capCtl_ack]
    exact (congrArg (fun c : Chan => (c.capSet j).segs[i]) (State.chan_putChan_same ..)).trans (Chan.segs_setSeg ..)
  · exact congrArg Host.Outcome.next (State.writeAlias_gcap hserves (by simp) hro (if_pos rfl))
  · refine congrArg Host.Outcome.next (State.writeAlias_gcap hgo.1 (by simp) hgo.2 ?_)
    rw [State.writeGcap_go, State.dmaGo_queues k v hroom]
    rfl
  · obtain ⟨htag, herr, hnext, hqueue, hdata⟩ := State.dmaEnd_ends err hrun
    refine ⟨s.dmaEnd err, rfl, htag, herr.trans ?_, hnext, hqueue, hdata⟩
    cases err with
    | ok => rfl
    | ecc => rfl
    | abort => rfl
  · exact if_pos hthrot

end Sys2Proof.Machine
end

section
/-! SUPPORT. Base samples, records and post-processing (13_capture_and_trigger.md R398 to R410). (O48) -/

namespace Sys2Proof.Machine

/-! ## Base samples (R398, R404) -/

/-- With no onset, none is missed. -/
theorem State.capMissed_zero (s : State) (ch : ChId) (k : SetId) : s.capMissed ch k 0 = s := by
  unfold State.capMissed
  extract_lets c
  generalize List.range 17 = l
  induction l with
  | nil => rfl
  | cons j l ih =>
    rw [List.foldl_cons, if_pos (by simp)]
    exact ih

/-- What every base sample ends with. -/
def State.capSampled (c : Chan) (ch : ChId) (j : SetId) (t : State) : State :=
  t.onCap ch j fun x => { x with events := 0, entered := false, lastNum := c.postNum, lastTick := some c.tickCount }

/-- A set's conditions after a sample. -/
def State.capJudged (s : State) (ch : ChId) (j : SetId) : State :=
  s.onCap ch j fun x => { x with conds := ((s.chan ch).capConds j).2.2, force := false }

/-- What a base sample does by the set's state (R401 to R405). -/
def State.capTakes (s : State) (ch : ChId) (j : SetId) (hits onsets : Nat) : State :=
  let c := s.chan ch
  let u := s.capJudged ch j
  match c.capState j with
  | 1 => if hits = 0 then u.capPre ch j else u.capTrigger ch j (u.capNow ch j) hits (c.capQ j) false
  | 2 => if hits = 0 then u.capPre ch j else u.capTrigger ch j (u.capNow ch j) hits (c.capQ j) false
  | 3 => (u.capMissed ch j onsets).capPost ch j
  | 4 => (u.capMissed ch j onsets).onCap ch j fun x => { x with
      onsets := x.onsets + ((List.range 17).filter fun j => onsets.testBit j).length }
  | 5 => if c.bit (Reg.CAP_STAT j) Fld.CAP_STAT_PPEND then u.capMissed ch j onsets else (u.capMissed ch j onsets).capStart ch j
  | _ => u

theorem State.capTakes_idle {s : State} {ch : ChId} {j : SetId} (hits onsets : Nat) (h : (s.chan ch).capState j = 0) :
    s.capTakes ch j hits onsets = s.capJudged ch j := by
  unfold State.capTakes
  simp only [h]

theorem State.capTakes_waiting {s : State} {ch : ChId} {j : SetId} (hits onsets : Nat)
    (h : (s.chan ch).capState j = 1 ∨ (s.chan ch).capState j = 2) : s.capTakes ch j hits onsets =
      if hits = 0 then (s.capJudged ch j).capPre ch j
      else (s.capJudged ch j).capTrigger ch j ((s.capJudged ch j).capNow ch j) hits ((s.chan ch).capQ j) false := by
  unfold State.capTakes
  rcases h with h | h
  · simp only [h]
  · simp only [h]

theorem State.capTakes_post {s : State} {ch : ChId} {j : SetId} (hits onsets : Nat) (h : (s.chan ch).capState j = 3) :
    s.capTakes ch j hits onsets = ((s.capJudged ch j).capMissed ch j onsets).capPost ch j := by
  unfold State.capTakes
  simp only [h]

theorem State.capTakes_wait {s : State} {ch : ChId} {j : SetId} (hits : Nat) (h : (s.chan ch).capState j = 5)
    (hpend : (s.chan ch).bit (Reg.CAP_STAT j) Fld.CAP_STAT_PPEND = false) :
    s.capTakes ch j hits 0 = (s.capJudged ch j).capStart ch j := by
  unfold State.capTakes
  simp only [h]
  rw [hpend, if_neg (by decide), State.capMissed_zero]

theorem execCaptureBaseSample_due {s : State} {ch : ChId} {j : SetId} (h0 : (s.chan ch).mode ≠ 0) (h11 : (s.chan ch).mode ≠ 11)
    (htick : (s.chan ch).ticking = true) (hntr : (s.chan ch).capNtr j ≠ 0)
    (hok : (s.chan ch).bit Reg.CH_MODE_CUR Fld.CH_MODE_CUR_FAULT = false) (hdue : (s.chan ch).capDue j = true) :
    execCaptureBaseSample ch j s = .next (State.capSampled (s.chan ch) ch j (s.capTakes ch j
      (((s.chan ch).capConds j).1 + if ((s.chan ch).capSet j).force then 65536 else 0)
      (((s.chan ch).capConds j).2.1 + if ((s.chan ch).capSet j).force then 65536 else 0))) := by
  unfold execCaptureBaseSample
  rw [if_neg (by simp [h0, h11, htick, hntr, hok, hdue])]
  rfl

theorem Chan.capP_add_capQ {c : Chan} {j : SetId} (hdepth : 1 ≤ c.capDepth j)
    (hpre : c.fld (Reg.CAP_CFG j) Fld.CAP_CFG_PRE ≤ 100) : c.capP j + c.capQ j + 1 = c.capDepth j := by
  have hle : c.capP j ≤ c.capDepth j - 1 := by
    unfold Chan.capP
    exact Nat.div_le_of_le_mul ((Nat.mul_comm 100 _).symm ▸ Nat.mul_le_mul_left _ hpre)
  unfold Chan.capQ
  omega

/-! ## Rows in the capture SRAM (R397) -/

theorem sget_ssetMany {α : Type} [DecidableEq α] (d : Nat → α) (ws : List α) (m : List (Nat × α)) (a i : Nat) :
    sget d (ssetMany d m a ws) i = if h : a ≤ i ∧ i - a < ws.length then ws[i - a] else sget d m i := by
  induction ws generalizing m a with
  | nil => simp [ssetMany]
  | cons w ws ih =>
    rw [ssetMany, ih, sget_sset]
    by_cases hlt : i < a
    · rw [dif_neg (by omega), dif_neg (by omega), if_neg (by omega)]
    by_cases heq : i = a
    · subst heq
      rw [dif_neg (by omega), if_pos rfl, dif_pos ⟨Nat.le_refl _, by simp⟩]
      simp
    · by_cases hin : i - (a + 1) < ws.length
      · have hsub : i - a = (i - (a + 1)) + 1 := by omega
        rw [dif_pos ⟨by omega, hin⟩, dif_pos ⟨by omega, by simp; omega⟩]
        simp [hsub]
      · rw [dif_neg (by omega), if_neg heq, dif_neg (by simp; omega)]

/-- A row stored is read back word by word. -/
theorem State.sramGet_sramPut (s : State) (a : Nat) (ws : List Word) {i : Nat} (h : i < ws.length) :
    (s.sramPut a ws).sramGet (a + i) = ws.getD i 0 := by
  unfold State.sramGet State.sramPut
  have hsub : a + i - a = i := by omega
  rw [sget_ssetMany, dif_pos ⟨by omega, by omega⟩]
  simp [hsub, h]

@[simp] theorem Chan.capRowAddr_setCap (c : Chan) (k : SetId) (x : CapSet) (seg row : Nat) :
    (c.setCap k x).capRowAddr k seg row = c.capRowAddr k seg row := rfl

@[simp] theorem Chan.capSeg_setCap (c : Chan) (k : SetId) (x : CapSet) : (c.setCap k x).capSeg k = c.capSeg k := rfl

/-- A stored row lands at the set's next row, and the set's channel differs in its row and phase alone (R397). -/
theorem State.capStore_stores (s : State) (ch : ChId) (k : SetId) (row : List Word) :
    ((s.capStore ch k row).chan ch) = (s.chan ch).setCap k { (s.chan ch).capSet k with
      row := (((s.chan ch).capSet k).row + 1) % max 1 ((s.chan ch).capDepth k), since := 0 } ∧
    ∀ i, i < row.length → (s.capStore ch k row).sramGet
      ((s.chan ch).capRowAddr k ((s.chan ch).capSeg k).val ((s.chan ch).capSet k).row + i) = row.getD i 0 := by
  unfold State.capStore
  refine ⟨?_, fun i h => s.sramGet_sramPut _ row h⟩
  exact State.chan_putChan_same _ _ _

/-! ## The trigger sample (R402, R403) -/

/-- What a set remembers of its trigger sample. -/
def Chan.capTrigOf (c : Chan) (k : SetId) (m : CapSample) (mask : Nat) : CapTrig :=
  ⟨mask, m.time, m.epoch, m.tick, m.mode, if (c.capSet k).prev = 0 then 0 else (c.capSet k).since + 1,
    min (c.capSet k).prev (c.capP k), decide (c.capP k ≤ (c.capSet k).prev)⟩

/-- The trigger sample of a set that records Q more rows: POST, what is remembered of it, and its row (R402). -/
theorem State.capTrigger_triggers (s : State) (ch : ChId) (k : SetId) (m : CapSample) (mask : Nat) {q : Nat} (hq : 0 < q) :
    ((s.capTrigger ch k m mask q false).chan ch).capState k = 3 ∧
    (((s.capTrigger ch k m mask q false).chan ch).capSet k).trig = some ((s.chan ch).capTrigOf k m mask) ∧
    (((s.capTrigger ch k m mask q false).chan ch).capSet k).q = q ∧
    ∀ i, i < m.row.length → (s.capTrigger ch k m mask q false).sramGet
      ((s.chan ch).capRowAddr k ((s.chan ch).capSeg k).val ((s.chan ch).capSet k).row + i) = m.row.getD i 0 := by
  unfold State.capTrigger
  extract_lets c x prev t u v
  rw [if_neg (by omega)]
  obtain ⟨hchan, hrow⟩ := u.capStore_stores ch k m.row
  have hu : u.chan ch = c.setCap k { c.capSet k with trig := some t, post := 0, q := q, dec := 0 } :=
    State.chan_putChan_same _ _ _
  have hset : ((u.capStore ch k m.row).chan ch).capSet k =
      { (u.chan ch).capSet k with row := (((u.chan ch).capSet k).row + 1) % max 1 ((u.chan ch).capDepth k), since := 0 } := by
    rw [hchan, Chan.capSet_setCap]
  have hold : (u.chan ch).capSet k = { c.capSet k with trig := some t, post := 0, q := q, dec := 0 } := by
    rw [hu, Chan.capSet_setCap]
  have hv : v.chan ch = ((u.capStore ch k m.row).chan ch).setCapState k 3 := State.chan_putChan_same _ _ _
  refine ⟨?_, ?_, ?_, fun i hi => ?_⟩
  · rw [hv]
    exact Chan.capState_setCapState _ k (by decide)
  · rw [hv, Chan.capSet_setCapState, hset, hold]
    rfl
  · rw [hv, Chan.capSet_setCapState, hset, hold]
  · have haddr : (u.chan ch).capRowAddr k ((u.chan ch).capSeg k).val ((u.chan ch).capSet k).row =
        c.capRowAddr k (c.capSeg k).val (c.capSet k).row := by
      rw [hold, hu]
      rfl
    rw [← haddr]
    exact hrow i hi

/-! ## POST (R402, R401, R416) -/

theorem captureRegs_distinct : ∀ k : Fin 4, Reg.CAP_RSEQ_LO k ≠ Reg.CAP_STAT k ∧ Reg.CAP_RSEQ_HI k ≠ Reg.CAP_STAT k ∧
    Reg.CAP_CFG k ≠ Reg.CAP_STAT k ∧ Reg.CAP_RSEQ_LO k ≠ Reg.CAP_RSEQ_HI k ∧ Reg.CAP_CFG k ≠ Reg.CAP_RSEQ_LO k ∧
    Reg.CAP_CFG k ≠ Reg.CAP_RSEQ_HI k := by decide

/-- Low and high word of a record's number. -/
theorem wordPair_toNat (n : Nat) :
    (BitVec.ofNat 32 n).toNat + 2 ^ 32 * (BitVec.ofNat 32 (n / 2 ^ 32)).toNat = n % 2 ^ 64 := by
  simp only [BitVec.toNat_ofNat]
  omega

/-- The set of a record that closes: HOLD or IDLE, and the next RSEQ. -/
theorem Chan.capClosed_numbers (c : Chan) (k : SetId) (p : Bool) :
    (c.capClosed k p).capState k = (if c.bit (Reg.CAP_CFG k) Fld.CAP_CFG_AUTO then 4 else 0) ∧
    ((c.capClosed k p).get (Reg.CAP_RSEQ_LO k)).toNat + 2 ^ 32 * ((c.capClosed k p).get (Reg.CAP_RSEQ_HI k)).toNat =
      c.capNextSeq k % 2 ^ 64 := by
  obtain ⟨hlo, hhi, hcfg, hpair, hcfglo, hcfghi⟩ := captureRegs_distinct k
  unfold Chan.capClosed
  extract_lets seg rseq h c1 c2 x c3 c4 c5
  have hset : ∀ (d : Chan) (f : BitField) n o, o ≠ Reg.CAP_STAT k → (d.setFld (Reg.CAP_STAT k) f n).get o = d.get o :=
    fun d f n o ho => (Chan.get_put ..).trans (if_neg ho)
  have h5 : ∀ o, o ≠ Reg.CAP_STAT k → c5.get o = c1.get o := fun o ho => by
    have h3 : c3.get o = c1.get o := hset _ _ _ o ho
    have h4 : c4.get o = c3.get o := by
      unfold c4
      split
      · exact hset _ _ _ o ho
      · rfl
    unfold c5
    split
    · exact (hset _ _ _ o ho).trans (h4.trans h3)
    · exact h4.trans h3
  refine ⟨?_, ?_⟩
  · have hauto : c5.bit (Reg.CAP_CFG k) Fld.CAP_CFG_AUTO = c.bit (Reg.CAP_CFG k) Fld.CAP_CFG_AUTO := by
      have hword : c5.get (Reg.CAP_CFG k) = c.get (Reg.CAP_CFG k) := by
        rw [h5 _ hcfg, Chan.get_put, if_neg hcfghi, Chan.get_put, if_neg hcfglo]
      exact congrArg (fun w => getField w Fld.CAP_CFG_AUTO != 0) hword
    rw [hauto]
    exact Chan.capState_setCapState _ k (by split <;> decide)
  · rw [Chan.setCapState, hset _ _ _ _ hlo, hset _ _ _ _ hhi, h5 _ hlo, h5 _ hhi, Chan.get_put, if_neg hpair, Chan.get_put,
      if_pos rfl, Chan.get_put, if_pos rfl]
    exact wordPair_toNat rseq

/-- The last row of a record that stores every Q-th one closes it (R402, R416). -/
theorem State.capPost_closes {s : State} {ch : ChId} {k : SetId} {g : CapTrig}
    (hdec : (s.chan ch).capDec k ≤ ((s.chan ch).capSet k).dec + 1) (htrig : ((s.chan ch).capSet k).trig = some g)
    (hq : ((s.chan ch).capSet k).q ≤ ((s.chan ch).capSet k).post + 1) :
    ∃ (d : Chan) (p : Bool), (s.capPost ch k).chan ch = d.capClosed k p ∧ d.regs = (s.chan ch).regs := by
  unfold State.capPost
  rw [if_neg (by omega)]
  extract_lets t
  rw [if_pos hq]
  obtain ⟨hchan, -⟩ := s.capStore_stores ch k ((s.chan ch).capRow k)
  have ht : t.chan ch = ((s.capStore ch k ((s.chan ch).capRow k)).chan ch).setCap k
      { ((s.capStore ch k ((s.chan ch).capRow k)).chan ch).capSet k with
        dec := 0, post := (((s.capStore ch k ((s.chan ch).capRow k)).chan ch).capSet k).post + 1 } :=
    State.chan_putChan_same _ _ _
  refine ⟨t.chan ch, t.die.paused, State.capClose_closes false ?_, ?_⟩
  · rw [ht, Chan.capSet_setCap, hchan, Chan.capSet_setCap]
    show ((s.chan ch).capSet k).trig.isSome = true
    rw [htrig]
    rfl
  · rw [ht, hchan]
    rfl

/-! ## Post-processing (R410) -/

/-- A state with another capture SRAM. -/
def State.SramOnly (s t : State) : Prop := t = { s with sram := t.sram }

theorem State.SramOnly.refl (s : State) : s.SramOnly s := rfl

theorem State.SramOnly.trans {s t u : State} (h : s.SramOnly t) (k : t.SramOnly u) : s.SramOnly u := by
  unfold State.SramOnly at *
  rw [k, h]

theorem State.sramOnly_binAdd (s : State) (a : Nat) : s.SramOnly (s.binAdd a).1 := by
  unfold State.binAdd
  dsimp only
  split <;> rfl

theorem State.sramOnly_cellAdd (s : State) (b cell : Nat) : s.SramOnly (s.cellAdd b cell).1 := by
  unfold State.cellAdd
  dsimp only
  split <;> rfl

/-- A loop of binning steps changes the capture SRAM alone. -/
theorem State.sramOnly_foldl {α : Type} {f : State × Bool → α → State × Bool} (hf : ∀ (r : State × Bool) a, r.1.SramOnly (f r a).1)
    (l : List α) (r : State × Bool) : r.1.SramOnly (l.foldl f r).1 :=
  foldl_rel (fun a b : State × Bool => a.1.SramOnly b.1) (fun a => .refl a.1) (fun _ _ _ => .trans) f hf l r

theorem State.sramOnly_binRow (s : State) (c : Chan) (k : SetId) (a i len : Nat) : s.SramOnly (s.binRow c k a i len).1 := by
  unfold State.binRow
  extract_lets ntr h base tag val t
  split
  · refine State.sramOnly_foldl (fun r t => ?_) _ (s, false)
    dsimp only
    split
    · exact r.1.sramOnly_binAdd _
    · exact .refl r.1
  · split
    · exact s.sramOnly_cellAdd base _
    · exact .refl s

/-- The oldest pending record has been binned: the others stay pending, and no report is made. -/
theorem execPostprocDone_bins {s : State} {ch : ChId} {j : SetId} {g : Fin 64} {rest : List (Fin 64)}
    (hpp : ((s.chan ch).capSet j).pp = g :: rest) (hthr : (s.chan ch).bit (Reg.CAP_STAT j) Fld.CAP_STAT_THR = false)
    (hcopy : s.copiesHist ch j = false) :
    ∃ t, execPostprocDone ch j s = .next t ∧ ((t.chan ch).capSet j).pp = rest ∧ t.rcd = s.rcd ∧ t.g = s.g ∧
      (t.chan ch).bit (Reg.CAP_STAT j) Fld.CAP_STAT_PPEND = !rest.isEmpty := by
  unfold execPostprocDone
  dsimp only
  rw [hpp]
  dsimp only
  rw [if_neg (by simp [hthr, hcopy])]
  generalize hr : List.foldl _ (s, false) _ = r
  have hsram : s.SramOnly r.1 := by
    rw [← hr]
    refine State.sramOnly_foldl (fun r i => ?_) _ (s, false)
    exact r.1.sramOnly_binRow ..
  have hch : r.1.chan ch = s.chan ch := by
    rw [hsram]
    rfl
  rw [State.onChan_eq, hch]
  refine ⟨_, rfl, ?_, ?_, ?_, ?_⟩
  · rw [State.chan_putChan_same]
    split
    · exact congrArg CapSet.pp ((s.chan ch).capSet_setPp j rest)
    · exact congrArg CapSet.pp ((s.chan ch).capSet_setPp j rest)
  · rw [hsram]
    rfl
  · rw [hsram]
    rfl
  · rw [State.chan_putChan_same]
    have hpend : ((s.chan ch).setPp j rest).bit (Reg.CAP_STAT j) Fld.CAP_STAT_PPEND = !rest.isEmpty :=
      Chan.bit_setFld_not _ _ _ (by decide) rfl
    split
    · exact (Chan.bit_setFld_ne _ _ _ _ _ _ (.inr (by decide))).trans hpend
    · exact hpend

theorem capStat_ne_modeCur : ∀ j : Fin 4, Reg.CH_MODE_CUR ≠ Reg.CAP_STAT j := by decide

/-! ## An uncorrectable error (R407) -/

/-- A set that enters IDLE leaves the mode of its channel. -/
theorem Chan.faulted_capIdle (c : Chan) (k : SetId) : (c.capIdle k).faulted = c.faulted := by
  unfold Chan.faulted Chan.bit Chan.fld
  rw [(c.capOnly_capIdle k).2 _ (by decide)]

/-- The open record is discarded, and the error is shown and recorded. -/
theorem execCaptureEccAbort_aborts (s : State) (ch : ChId) (j reader : Fin 4) (a : Word) :
    ∃ t, execCaptureEccAbort ch j reader a s = .next t ∧ (t.chan ch).capState j = 0 ∧
      (t.chan ch).bit (Reg.CAP_STAT j) Fld.CAP_STAT_ECCAB = true ∧ (t.chan ch).faulted = (s.chan ch).faulted ∧ t.sram = s.sram ∧
      (reader = 3 → t.gbit Reg.GCAP_GSTAT Fld.GCAP_GSTAT_WUE = true) := by
  unfold execCaptureEccAbort
  extract_lets u v
  have hr := v.reports_record 0x09 ch.val 2 2 (recData [(0, 1, j.val), (1, 1, reader.val), (4, 4, a.toNat)])
  have hv : v.chan ch = ((s.chan ch).capIdle j).setFld (Reg.CAP_STAT j) Fld.CAP_STAT_ECCAB 1 ∧ v.sram = s.sram := by
    have hu : u.chan ch = ((s.chan ch).capIdle j).setFld (Reg.CAP_STAT j) Fld.CAP_STAT_ECCAB 1 := State.chan_putChan_same _ _ _
    unfold v
    split
    · exact ⟨hu, rfl⟩
    · exact ⟨hu, rfl⟩
  refine ⟨_, rfl, ?_, ?_, ?_, ?_, fun h => ?_⟩
  · rw [hr.chan, hv.1]
    exact (Chan.fld_setFld_ne _ _ _ _ _ _ (.inr (by decide))).trans ((s.chan ch).capIdle_idles j).1
  · rw [hr.chan, hv.1]
    exact Chan.bit_setFld _ _ _ (by decide) (by decide)
  · rw [hr.chan, hv.1, ← Chan.faulted_capIdle (s.chan ch) j]
    exact Chan.bit_setFld_ne _ _ _ _ _ _ (.inl (capStat_ne_modeCur j))
  · rw [hr.1]
    exact hv.2
  · refine (congrArg (· != 0) (hr.gfld _ _ (by decide) (by decide))).trans ?_
    unfold v
    rw [if_pos h]
    exact State.gbit_gset_bit _ _ true (by decide) rfl

/-- Settles O48: each base sample's state in turn, then the closing of a record and what follows it. -/
theorem captureRecords : Obligations.CaptureRecords := by
  unfold Obligations.CaptureRecords
  intro s ch j
  dsimp only
  refine ⟨fun h0 h11 htick hntr hok hdue => ?_, Chan.capP_add_capQ, ⟨rfl, fun m mask q hq => ?_⟩, fun hdec => if_pos hdec,
    fun g hdec htrig hq hpost => ?_, fun hstate hhold => ?_, fun g rest hpp hthr hcopy => execPostprocDone_bins hpp hthr hcopy,
    execCaptureEccAbort_aborts s ch j⟩
  · have hrun := execCaptureBaseSample_due h0 h11 htick hntr hok hdue
    have hcase : ∀ t, s.capTakes ch j (((s.chan ch).capConds j).1 + if ((s.chan ch).capSet j).force then 65536 else 0)
        (((s.chan ch).capConds j).2.1 + if ((s.chan ch).capSet j).force then 65536 else 0) = t →
        exec (.captureBaseSample ch j) s = .next (State.capSampled (s.chan ch) ch j t) := fun t ht => by
      rw [← ht]
      exact hrun
    refine ⟨fun h => hcase _ (State.capTakes_idle _ _ h), fun h => hcase _ (State.capTakes_waiting _ _ h),
      fun h => hcase _ (State.capTakes_post _ _ h), fun h hon hpend => hcase _ ?_⟩
    rw [hon]
    exact State.capTakes_wait _ h hpend
  · obtain ⟨hstate, htrig, hlen, hrow⟩ := s.capTrigger_triggers ch j m mask hq
    refine ⟨hstate, ⟨_, htrig, rfl, rfl, rfl, rfl, rfl, ?_⟩, hlen, hrow⟩
    exact decide_eq_true_iff
  · obtain ⟨d, p, hchan, hregs⟩ := State.capPost_closes hdec htrig hq
    have hget : ∀ o, d.get o = (s.chan ch).get o := fun o => by
      unfold Chan.get
      rw [hregs]
    have hseg : d.capSeg j = (s.chan ch).capSeg j := by
      unfold Chan.capSeg Chan.fld
      rw [hget]
    obtain ⟨hstate, hseq⟩ := d.capClosed_numbers j p
    refine ⟨?_, ?_, ?_⟩
    · have hunread := (d.capClosed_closes j p).1
      rw [← hchan] at hunread
      simpa only [hseg] using hunread
    · rw [hchan, hstate]
      unfold Chan.bit Chan.fld
      rw [hget]
    · rw [hchan, hseq]
      unfold Chan.capNextSeq
      rw [hget, hget]
  · refine if_pos ?_
    simp only [hstate, decide_true, Bool.true_and, Bool.or_eq_true, Bool.not_eq_true', decide_eq_true_eq]
    cases hkind : (s.chan ch).bit (Reg.CAP_HOLD j) Fld.CAP_HOLD_KIND with
    | false => exact .inl rfl
    | true => exact .inr (hhold hkind)

end Sys2Proof.Machine
end

section
/-! SUPPORT. The event ring, its queue and the persistent store (14_event_recorder.md R421 to R436). (O49, O50) -/

namespace Sys2Proof.Machine

/-! ## Requests (R421, R425) -/

/-- What a request for a record leaves of the recorder: all but its queue, its ring and the count of dropped requests. -/
def Recorder.Requests (a b : Recorder) : Prop := b = { a with queue := b.queue, ring := b.ring, bad := b.bad, drops := b.drops }

theorem Recorder.Requests.refl (a : Recorder) : a.Requests a := rfl

theorem Recorder.Requests.trans {a b c : Recorder} (h : a.Requests b) (k : b.Requests c) : a.Requests c := by
  unfold Recorder.Requests at *
  rw [k, h]

theorem State.mergeRecord_requests {s t : State} {r : RecRec} (h : s.mergeRecord r = some t) : s.rcd.Requests t.rcd := by
  unfold State.mergeRecord at h
  split at h
  · split at h
    · cases h
      rfl
    · cases h
  · dsimp only at h
    split at h
    · cases h
      rfl
    · cases h

theorem State.enqueue_requests {s t : State} {r : RecRec} {b : Bool} (h : s.enqueue r b = some t) : s.rcd.Requests t.rcd := by
  unfold State.enqueue at h
  split at h
  · next u hu =>
    cases h
    exact State.mergeRecord_requests hu
  · generalize (if (b || r.sev == 3) = true then 64 else 48) = n at h
    by_cases hn : s.rcd.queue.length < n
    · rw [if_pos hn] at h
      cases h
      rfl
    · rw [if_neg hn] at h
      cases h

theorem State.getD_enqueue_requests (s t : State) (r : RecRec) (b : Bool) (h : s.rcd.Requests t.rcd) :
    s.rcd.Requests ((s.enqueue r b).getD t).rcd := by
  cases he : s.enqueue r b with
  | none => exact h
  | some u => exact State.enqueue_requests he

theorem State.dropRecord_requests (s : State) : s.rcd.Requests s.dropRecord.rcd := by
  unfold State.dropRecord
  extract_lets w fresh y x t
  have ht : s.rcd.Requests t.rcd := rfl
  split
  · exact ht.trans (t.getD_enqueue_requests t _ true (.refl _))
  · exact ht

theorem State.requestRecord_requests (s : State) (r : RecRec) (b : Bool) : s.rcd.Requests (s.requestRecord r b).rcd :=
  s.getD_enqueue_requests s.dropRecord r b s.dropRecord_requests

/-- A request that merges with none and finds an entry it may use joins the queue. -/
theorem State.record_queues {s : State} {blk ch code sev : Nat} {d : RecData} (hsev : sev < 256)
    (hmerge : s.mergeRecord (s.newRecord blk ch code sev d) = none) (hroom : s.rcd.queue.length < if sev = 3 then 64 else 48) :
    s.record blk ch code sev d = { s with rcd := { s.rcd with queue := s.rcd.queue ++ [s.newRecord blk ch code sev d] } } := by
  have hthree : ((s.newRecord blk ch code sev d).sev == 3) = decide (sev = 3) := by
    rw [Bool.eq_iff_iff, beq_iff_eq, decide_eq_true_iff]
    show BitVec.ofNat 8 sev = 3 ↔ sev = 3
    rw [← BitVec.toNat_inj, BitVec.toNat_ofNat, Nat.mod_eq_of_lt hsev]
    rfl
  unfold State.record State.requestRecord State.enqueue
  rw [hmerge]
  dsimp only
  rw [hthree, if_pos (by simpa using hroom)]
  rfl

/-! ## The ring (R422 to R425) -/

/-- The newest record closed; the ring is otherwise as it was. -/
theorem State.closeOpen_closes (s : State) : s.closeOpen = { s with rcd := { s.rcd with ring := s.closeOpen.rcd.ring } } ∧
    (sget ringDefault s.closeOpen.rcd.ring (s.rcd.seq % 8192)).flags.getLsbD 2 = false ∧
    ∀ n, n ≠ s.rcd.seq % 8192 → sget ringDefault s.closeOpen.rcd.ring n = sget ringDefault s.rcd.ring n := by
  refine ⟨rfl, ?_, fun n hn => ?_⟩
  · refine (congrArg (fun r : RecRec => r.flags.getLsbD 2) ((sget_sset ..).trans (if_pos rfl))).trans ?_
    show ((_ : BitVec 8) &&& 0xFB).getLsbD 2 = false
    rw [BitVec.getLsbD_and]
    exact Bool.and_false _
  · exact (sget_sset ..).trans (if_neg hn)

/-- The oldest SEQ of the ring when SEQ `n` enters (R423). -/
def oldestAfter (old n : Nat) : Nat := if old = 0 then n else max old (n - 8191)

/-- A record as the writer enters it: open, unless its REPEAT has saturated (R425). -/
def RecRec.entered (r : RecRec) (n : Nat) : RecRec :=
  { r with seq := n, flags := if r.flags.getLsbD 3 then r.flags else r.flags ||| 4 }

theorem State.ringPut_ring (s : State) (r : RecRec) : (s.ringPut r).rcd.ring =
    sset ringDefault s.closeOpen.rcd.ring ((s.rcd.seq + 1) % 8192) (r.entered (s.rcd.seq + 1)) :=
  congrArg Recorder.ring (State.irq_rcd _ _)

theorem State.ringPut_old (s : State) (r : RecRec) : (s.ringPut r).rcd.old = oldestAfter s.rcd.old (s.rcd.seq + 1) := by
  refine (congrArg Recorder.old (State.irq_rcd _ _)).trans ?_
  show (if s.rcd.old = 0 then s.rcd.seq + 1 else if s.rcd.old + 8192 ≤ s.rcd.seq + 1 then s.rcd.seq + 1 - 8191 else s.rcd.old) = _
  unfold oldestAfter
  split
  · rfl
  · split <;> omega

/-- What a record in the ring leaves: the queue, the calendar, the store and the registers. -/
theorem State.ringPut_frame (s : State) (r : RecRec) :
    (s.ringPut r).rcd.seq = s.rcd.seq + 1 ∧ (s.ringPut r).rcd.queue = s.rcd.queue ∧ (s.ringPut r).rcd.drops = s.rcd.drops ∧
    (s.ringPut r).cal = s.cal ∧ (s.ringPut r).store = s.store ∧
    ∀ o, o ≠ Reg.INT_STAT → (s.ringPut r).gget o = s.gget o :=
  ⟨congrArg Recorder.seq (State.irq_rcd _ _), (congrArg Recorder.queue (State.irq_rcd _ _)).trans rfl,
    (congrArg Recorder.drops (State.irq_rcd _ _)).trans rfl, State.irq_cal _ _, State.irq_store _ _, fun _ ho => State.irq_gget _ _ _ ho⟩

/-- The record that enters is the newest, and the newest before it is closed (R422, R425). -/
theorem State.ringPut_puts (s : State) (r : RecRec) :
    sget ringDefault (s.ringPut r).rcd.ring ((s.rcd.seq + 1) % 8192) = r.entered (s.rcd.seq + 1) ∧
    (sget ringDefault (s.ringPut r).rcd.ring (s.rcd.seq % 8192)).flags.getLsbD 2 = false := by
  rw [State.ringPut_ring, sget_sset, sget_sset, if_pos rfl, if_neg (by omega)]
  exact ⟨rfl, s.closeOpen_closes.2.1⟩

/-- RECORD_WRITE with no time set waiting and no dropped request to report. -/
theorem execRecordWrite_writes {s : State} {r : RecRec} {rest : List RecRec} (hqueue : s.rcd.queue = r :: rest)
    (hsearch : s.searching = false) (hwait : s.cal.waiting = none) (hdrops : s.rcd.drops = 0) :
    execRecordWrite s = .next (({ s with rcd := { s.rcd with queue := rest } } : State).ringPut r) := by
  obtain ⟨-, -, kdrops, kcal, -⟩ := ({ s with rcd := { s.rcd with queue := rest } } : State).ringPut_frame r
  unfold execRecordWrite
  rw [hqueue]
  dsimp only
  rw [if_neg (by simp [hsearch]), kcal]
  dsimp only
  rw [hwait]
  dsimp only
  rw [if_pos]
  rw [kdrops]
  simp [hdrops]

/-! ## The start search (R424, R430) -/

/-- EPOCH alone, and a record, change with a new epoch. -/
theorem State.setEpoch_sets (s : State) {ep : Nat} (h : ep ≤ 65535) : (s.setEpoch ep).calEpoch = ep ∧
    s.rcd.Requests (s.setEpoch ep).rcd ∧ (s.setEpoch ep).store = s.store ∧ (s.setEpoch ep).cal = s.cal ∧
    ∀ o, o ≠ Reg.CAL_STAT → o ≠ Reg.REC_CNT → o ≠ Reg.INT_STAT → (s.setEpoch ep).gget o = s.gget o := by
  unfold State.setEpoch
  extract_lets fresh t
  have ht : t.calEpoch = ep ∧ t.rcd = s.rcd ∧ t.store = s.store ∧ t.cal = s.cal ∧
      ∀ o, o ≠ Reg.CAL_STAT → t.gget o = s.gget o := by
    refine ⟨?_, rfl, rfl, rfl, fun o ho => (State.gget_gset_ne _ _ _ ho).trans (State.gget_gset_ne _ _ _ ho)⟩
    refine (State.gfld_gset_ne _ _ (.inr (.inr (by decide)))).trans ?_
    exact (State.gfld_gset _ _ _ _ (by decide)).trans (Nat.mod_eq_of_lt (Nat.lt_succ_of_le h))
  obtain ⟨hep, hrcd, hstore, hcal, hget⟩ := ht
  clear_value t
  split
  · have hr := t.reports_requestRecord (t.saturated 0x13 0xF Reg.CAL_STAT Fld.CAL_STAT_EPSAT.lo) true
    have hq := t.requestRecord_requests (t.saturated 0x13 0xF Reg.CAL_STAT Fld.CAL_STAT_EPSAT.lo) true
    refine ⟨(hr.gfld _ _ (by decide) (by decide)).trans hep, hrcd ▸ hq, ?_, ?_,
      fun o ho hc hi => (hr.gget o hc hi).trans (hget o ho)⟩
    · rw [hr.1]
      exact hstore
    · rw [hr.1]
      exact hcal
  · exact ⟨hep, hrcd ▸ .refl _, hstore, hcal, fun o ho _ _ => hget o ho⟩

/-- The newest committed record, where the store answers. -/
def State.foundRecord (s : State) (ok : Bool) : Option RecRec := if ok then s.newestCommitted else none

/-- The SEQ and the epoch from which the recorder goes on. -/
def searchBase (found : Option RecRec) : Nat :=
  match found with
  | some r => r.seq
  | none => 0

def searchEpoch (found : Option RecRec) : Nat :=
  match found with
  | some r => min 65535 (r.epoch + 1)
  | none => 0

theorem searchEpoch_le (found : Option RecRec) : searchEpoch found ≤ 65535 := by
  cases found with
  | none => exact Nat.zero_le _
  | some r => exact Nat.min_le_left ..

/-- The store's answer shows PERS. -/
def State.searchAnswered (s : State) (ok : Bool) : State :=
  ({ s.gset Reg.REC_STAT Fld.REC_STAT_SEARCH 0 with rcd := { s.rcd with answers := ok } } : State).showPers

/-- SEQ goes on from `seq`, above the newest committed record (R422, R424). -/
def State.seqFrom (s : State) (newest seq first : Nat) : State :=
  { s with rcd := { s.rcd with seq := seq, old := 0, base := first }, store := { s.store with pseq := newest } }

theorem State.seqFrom_frame (s : State) (newest seq first : Nat) : (s.seqFrom newest seq first).rcd.seq = seq ∧
    (s.seqFrom newest seq first).rcd.old = 0 ∧ (s.seqFrom newest seq first).store.pseq = newest ∧
    ∀ o, (s.seqFrom newest seq first).gget o = s.gget o := ⟨rfl, rfl, rfl, fun _ => rfl⟩

theorem execRecorderStartSearchEnd_eq {s : State} (ok : Bool) (h : s.searching = true) :
    ∃ d, execRecorderStartSearchEnd ok s = .next
      ((((s.searchAnswered ok).setEpoch (searchEpoch (s.foundRecord ok))).seqFrom (searchBase (s.foundRecord ok))
        (searchBase (s.foundRecord ok) + 2 ^ 32 - 1) (searchBase (s.foundRecord ok) + 2 ^ 32)).ringPut d) := by
  unfold execRecorderStartSearchEnd
  rw [if_neg (by simp [h])]
  exact ⟨_, rfl⟩

theorem State.searchAnswered_shows (s : State) (ok : Bool) : (s.searchAnswered ok).searching = false ∧
    (s.searchAnswered ok).gbit Reg.REC_STAT Fld.REC_STAT_PERS =
      (ok && s.storeSlots != 0 && !s.gbit Reg.REC_STAT Fld.REC_STAT_RECFAIL) := by
  unfold State.searchAnswered State.showPers
  refine ⟨?_, ?_⟩
  · exact (State.gbit_gset_ne _ _ (.inr (by decide))).trans (State.gbit_gset_bit _ _ false (by decide) rfl)
  · refine (State.gbit_gset_bit _ _ _ (by decide) rfl).trans ?_
    have hslots : (s.gset Reg.REC_STAT Fld.REC_STAT_SEARCH 0).gfld Reg.REC_PCFG Fld.REC_PCFG_SIZE =
        s.gfld Reg.REC_PCFG Fld.REC_PCFG_SIZE := State.gfld_gset_ne _ _ (.inl (by decide))
    have hfail : (s.gset Reg.REC_STAT Fld.REC_STAT_SEARCH 0).gbit Reg.REC_STAT Fld.REC_STAT_RECFAIL =
        s.gbit Reg.REC_STAT Fld.REC_STAT_RECFAIL := State.gbit_gset_ne _ _ (.inr (by decide))
    have hsame : (s.gset Reg.REC_STAT Fld.REC_STAT_SEARCH 0).storeSlots = s.storeSlots := by
      unfold State.storeSlots
      rw [hslots]
    rw [← hfail, ← hsame]
    rfl

/-- The recorder's state after its start search (R424). -/
theorem execRecorderStartSearchEnd_ends {s : State} (ok : Bool) (h : s.searching = true) :
    ∃ t, execRecorderStartSearchEnd ok s = .next t ∧ t.searching = false ∧
      t.gbit Reg.REC_STAT Fld.REC_STAT_PERS = (ok && s.storeSlots != 0 &&
        !s.gbit Reg.REC_STAT Fld.REC_STAT_RECFAIL) ∧ t.rcd.seq = searchBase (s.foundRecord ok) + 2 ^ 32 ∧
      t.store.pseq = searchBase (s.foundRecord ok) ∧ t.calEpoch = searchEpoch (s.foundRecord ok) ∧ t.rcd.old = t.rcd.seq := by
  obtain ⟨d, hrun⟩ := execRecorderStartSearchEnd_eq ok h
  obtain ⟨hsearch, hpers⟩ := s.searchAnswered_shows ok
  obtain ⟨hep, -, -, -, hget⟩ := (s.searchAnswered ok).setEpoch_sets (searchEpoch_le (s.foundRecord ok))
  generalize (s.searchAnswered ok).setEpoch (searchEpoch (s.foundRecord ok)) = u at *
  obtain ⟨jseq, jold, jpseq, jget⟩ := u.seqFrom_frame (searchBase (s.foundRecord ok))
    (searchBase (s.foundRecord ok) + 2 ^ 32 - 1) (searchBase (s.foundRecord ok) + 2 ^ 32)
  generalize u.seqFrom (searchBase (s.foundRecord ok)) (searchBase (s.foundRecord ok) + 2 ^ 32 - 1)
    (searchBase (s.foundRecord ok) + 2 ^ 32) = w at *
  obtain ⟨hseq, -, -, -, hstore, kget⟩ := w.ringPut_frame d
  have hold := w.ringPut_old d
  have hstat : (w.ringPut d).gget Reg.REC_STAT = (s.searchAnswered ok).gget Reg.REC_STAT :=
    (kget _ (by decide)).trans ((jget _).trans (hget Reg.REC_STAT (by decide) (by decide) (by decide)))
  have hbit : ∀ f, (w.ringPut d).gbit Reg.REC_STAT f = (s.searchAnswered ok).gbit Reg.REC_STAT f := fun f =>
    congrArg (fun w => getField w f != 0) hstat
  refine ⟨_, hrun, (hbit _).trans hsearch, (hbit _).trans hpers, ?_, (congrArg Store.pseq hstore).trans jpseq, ?_, ?_⟩
  · rw [hseq, jseq]
    omega
  · exact (congrArg (getField · Fld.CAL_STAT_EPOCH) ((kget Reg.CAL_STAT (by decide)).trans (jget _))).trans hep
  · rw [hold, hseq, jold, oldestAfter, if_pos rfl]

/-! ## The host's writes (R426, R436) -/

theorem recCommandRegs_rows : ∀ off ∈ [Reg.REC_CTL, Reg.REC_RPTR, Reg.CAL_CTL],
    (findRow globalRows off).isSome = true ∧ 0x2000 ≤ off ∧ off < 0x3000 ∧ off % 4 = 0 ∧ isMsix off = false := by
  decide +kernel

theorem State.writeAlias_recorder {s t : State} {k : Ctx} {off : Nat} {v : Word} (hserves : s.serves)
    (hoff : off ∈ [Reg.REC_CTL, Reg.REC_RPTR, Reg.CAL_CTL]) (hro : s.keepsRoG k off v)
    (hw : s.writeRecBlock off v = (t, false)) : s.writeAlias k off v = t.answered := by
  obtain ⟨hrow, hlo, hhi, hal, hmsix⟩ := recCommandRegs_rows off hoff
  exact State.writeAlias_ok hserves (by omega) hal hmsix hrow hro (State.globalWrite_recorder hlo hhi hw)

theorem State.writeRecBlock_rptr (s : State) (v : Word) : s.writeRecBlock Reg.REC_RPTR v = s.writeRptr v := by
  unfold State.writeRecBlock
  rw [if_neg (by decide), if_pos rfl]

theorem State.writeRecBlock_ctl (s : State) (v : Word) : s.writeRecBlock Reg.REC_CTL v = s.writeRecCtl v := if_pos rfl

theorem State.writeRptr_ring {s : State} {v : Word} (h : v.getLsbD 31 = false) (hslot : getField v Fld.REC_RPTR_SLOT < 8192) :
    s.writeRptr v = ((s.gput Reg.REC_RPTR (v &&& 0x8001FFFF)).gset Reg.REC_STAT Fld.REC_STAT_SBUSY 0, false) := by
  unfold State.writeRptr
  simp only [h, Bool.false_eq_true, if_false]
  rw [if_neg (by omega)]

theorem State.writeRptr_store {s : State} {v : Word} (h : v.getLsbD 31 = true)
    (hslot : getField v Fld.REC_RPTR_SLOT < s.storeSlots) :
    s.writeRptr v = ((s.gput Reg.REC_RPTR (v &&& 0x8001FFFF)).gset Reg.REC_STAT Fld.REC_STAT_SBUSY 1, false) := by
  unfold State.writeRptr
  simp only [h, if_true]
  rw [if_neg (by omega)]

theorem State.writeRecCtl_retry {s : State} (v : Word) (hfail : s.gbit Reg.REC_STAT Fld.REC_STAT_RECFAIL = true)
    (hslots : s.storeSlots ≠ 0) :
    s.writeRecCtl (v ||| 1) = ({ s with rcd := { s.rcd with probing := true } }, false) := by
  unfold State.writeRecCtl
  rw [getLsbD_or_one, if_neg (by decide), if_pos (by simp [hfail, hslots])]

/-! ## Batches (R433 to R436) -/

/-- Where the next record in turn may be copied, no record is skipped (R434). -/
theorem State.persistGap_of_next {s : State} (hold : s.rcd.old ≤ s.nextPersist) (hn : 0 < s.persistable.2) : s.persistGap = s := by
  have hfirst : max s.nextPersist s.rcd.old = s.nextPersist := Nat.max_eq_left hold
  unfold State.persistable at hn
  unfold State.persistGap
  dsimp only at hn ⊢
  rw [hfirst] at hn ⊢
  generalize min (s.closedFrom s.nextPersist) 8192 = m at hn ⊢
  rw [if_pos]
  cases m with
  | zero => exact absurd hn (by simp)
  | succ m =>
    rw [List.range_succ_eq_map, List.takeWhile_cons] at hn ⊢
    cases hh : s.ringHolds (s.nextPersist + 0) with
    | false =>
      rw [hh] at hn
      exact absurd hn (by simp)
    | true => simp

/-- The batch's own slots, before its records are stored: the store's bytes alone change (R433). -/
theorem State.keepSurvivors_mram (s : State) (n : Nat) :
    s.keepSurvivors n = { s with store := { s.store with mram := (s.keepSurvivors n).store.mram } } := by
  unfold State.keepSurvivors
  dsimp only
  refine foldl_rel (fun a b : State => b = { a with store := { a.store with mram := b.store.mram } }) (fun _ => rfl)
    (fun a b c h k => ?_) _ (fun b a => ?_) _ _
  · rw [k, h]
  · dsimp only
    split <;> rfl

theorem State.storeRecords_mram (s : State) (first n : Nat) :
    s.storeRecords first n = { s with store := { s.store with mram := (s.storeRecords first n).store.mram } } := by
  induction n with
  | zero => rfl
  | succ n ih =>
    unfold State.storeRecords
    dsimp only
    generalize s.storeRecords first n = t at ih ⊢
    rw [ih]

theorem State.storeRecords_slots (s : State) (first n : Nat) : (s.storeRecords first n).storeSlots = s.storeSlots := by
  rw [State.storeRecords_mram]
  rfl

/-- One more record in its slot. -/
theorem State.storeRecords_succ (s : State) (first n a : Nat) :
    sget storeDefault (s.storeRecords first (n + 1)).store.mram a =
      if a = (s.store.head + n) % max 1 s.storeSlots then ⟨sget ringDefault s.rcd.ring ((first + n) % 8192), 0⟩
      else sget storeDefault (s.storeRecords first n).store.mram a := by
  have h := s.storeRecords_mram first n
  have hslots := s.storeRecords_slots first n
  refine (sget_sset ..).trans ?_
  generalize s.storeRecords first n = t at h hslots ⊢
  have hring : t.rcd.ring = s.rcd.ring := by rw [h]
  have hhead : t.store.head = s.store.head := by rw [h]
  rw [hslots, hring, hhead]

/-- Slots of a store in turn from `h` on are distinct, as long as they go round at most once. -/
theorem wrap_ne {m h i j : Nat} (hj : j < m) (hi : i < j) : (h + i) % m ≠ (h + j) % m := by
  intro e
  have hmod : i % m = j % m := Nat.ModEq.add_left_cancel' h e
  rw [Nat.mod_eq_of_lt (hi.trans hj), Nat.mod_eq_of_lt hj] at hmod
  omega

/-- Each of the batch's records stands in its slot with STORE 0 (R433). -/
theorem State.storeRecords_stores (s : State) (first : Nat) {n : Nat} (hn : n ≤ max 1 s.storeSlots) {i : Nat} (hi : i < n) :
    sget storeDefault (s.storeRecords first n).store.mram ((s.store.head + i) % max 1 s.storeSlots) =
      ⟨sget ringDefault s.rcd.ring ((first + i) % 8192), 0⟩ := by
  induction n with
  | zero => exact absurd hi (Nat.not_lt_zero _)
  | succ n ih =>
    rw [State.storeRecords_succ]
    by_cases hin : i = n
    · rw [if_pos (by rw [hin]), hin]
    · have hlt : i < n := by omega
      rw [if_neg (wrap_ne (by omega) hlt), ih (by omega) hlt]

/-- A configured store has at least 8192 slots, more than a batch holds (R432). -/
theorem State.storeSlots_ge {s : State} (h : s.storeSlots ≠ 0) : 8192 ≤ s.storeSlots := by
  unfold State.storeSlots at h ⊢
  dsimp only at h ⊢
  split
  · next h0 => exact absurd (if_pos h0) h
  · exact Nat.le_mul_of_pos_right _ (Nat.two_pow_pos _)

/-- A batch begins with the records that may be persisted next. -/
theorem execPersistBatchStart_begins {s : State} {byTime : Bool} {n : Nat}
    (hn : n = min (s.gfld Reg.REC_PCFG Fld.REC_PCFG_BMAX) s.persistable.2) (hpers : s.gbit Reg.REC_STAT Fld.REC_STAT_PERS = true)
    (hbatch : s.rcd.batch = none) (hold : s.rcd.old ≤ s.nextPersist) (hpos : 0 < n)
    (htime : byTime = false → n = s.gfld Reg.REC_PCFG Fld.REC_PCFG_BMAX) :
    execPersistBatchStart byTime none s =
      .next { (s.keepSurvivors n).storeRecords s.persistable.1 n with
        rcd := { ((s.keepSurvivors n).storeRecords s.persistable.1 n).rcd with batch := some (s.persistable.1, n) } } := by
  have hgap : s.persistGap = s := State.persistGap_of_next hold (by omega)
  unfold execPersistBatchStart
  dsimp only
  rw [if_pos hpers, hgap, ← hn, if_neg]
  cases byTime with
  | true => simp [hpers, hbatch]; omega
  | false => simp [hpers, hbatch, ← htime rfl]; omega

/-- What its beginning stores. -/
theorem State.batchStored (s : State) {first n : Nat} (hn : n < 32) (hslots : s.storeSlots ≠ 0) {i : Nat} (hi : i < n) :
    sget storeDefault ((s.keepSurvivors n).storeRecords first n).store.mram ((s.store.head + i) % s.storeSlots) =
      ⟨sget ringDefault s.rcd.ring ((first + i) % 8192), 0⟩ := by
  have hge := State.storeSlots_ge hslots
  have hkeep := s.keepSurvivors_mram n
  generalize s.keepSurvivors n = t at hkeep ⊢
  have hsl : t.storeSlots = s.storeSlots := by rw [hkeep]; rfl
  have hhead : t.store.head = s.store.head := by rw [hkeep]
  have hring : t.rcd.ring = s.rcd.ring := by rw [hkeep]
  have hmax : max 1 t.storeSlots = s.storeSlots := by rw [hsl]; omega
  have h := t.storeRecords_stores first (n := n) (by omega) hi
  rwa [hmax, hhead, hring] at h

/-- Occurrences that record no saturation change their counter alone. -/
theorem State.countGBy_silent (s : State) (n reg : Nat) (hi : Bool) :
    s.countGBy n reg hi false = s.gput reg (addHalf (s.gget reg) hi n) := rfl

/-- The state after a batch's COMMIT, with its count of retries (R433, R435). -/
def State.batchCommitted (s : State) (first n : Nat) (retries : Word) : State :=
  { s.gput Reg.REC_PCNT retries with
    store := { s.store with
      mram := sset storeDefault s.store.mram s.store.head
        { sget storeDefault s.store.mram s.store.head with st := 0x80#8 ||| BitVec.ofNat 8 (n - 1) },
      head := (s.store.head + n) % max 1 (s.gput Reg.REC_PCNT retries).storeSlots, pseq := first + n - 1 },
    rcd := { s.rcd with batch := none } }

theorem execPersistBatchCommit_commits {s : State} {first n : Nat} (retries : Nat) (h : s.rcd.batch = some (first, n)) :
    execPersistBatchCommit retries s = .next (s.batchCommitted first n (addHalf (s.gget Reg.REC_PCNT) true retries)) := by
  unfold execPersistBatchCommit
  rw [h]
  rfl

theorem State.batchCommitted_commits (s : State) (first n : Nat) (retries : Word) :
    (s.batchCommitted first n retries).rcd.batch = none ∧
    (s.batchCommitted first n retries).store.pseq = first + n - 1 ∧
    (s.batchCommitted first n retries).store.head = (s.store.head + n) % max 1 s.storeSlots ∧
    (sget storeDefault (s.batchCommitted first n retries).store.mram s.store.head).st = 0x80#8 ||| BitVec.ofNat 8 (n - 1) := by
  refine ⟨rfl, rfl, ?_, congrArg StoreRec.st ((sget_sset ..).trans (if_pos rfl))⟩
  have hslots : (s.gput Reg.REC_PCNT retries).storeSlots = s.storeSlots := by
    unfold State.storeSlots
    rw [show (s.gput Reg.REC_PCNT retries).gfld Reg.REC_PCFG Fld.REC_PCFG_SIZE = s.gfld Reg.REC_PCFG Fld.REC_PCFG_SIZE from
      congrArg (getField · _) ((State.gget_gput ..).trans (if_neg (by decide)))]
  exact congrArg (fun m => (s.store.head + n) % max 1 m) hslots

/-- No batch is open. -/
def State.endBatch (s : State) : State := { s with rcd := { s.rcd with batch := none } }

theorem State.endBatch_gget (s : State) (o : Nat) : s.endBatch.gget o = s.gget o := rfl

theorem State.endBatch_gbit (s : State) (o : Nat) (f : BitField) : s.endBatch.gbit o f = s.gbit o f := rfl

/-- The store's writes end (R435): its fault shown, no batch open. -/
def State.storeFailed (s : State) : State :=
  (((s.gset Reg.GSTAT Fld.GSTAT_RECFAIL 1).gset Reg.REC_STAT Fld.REC_STAT_RECFAIL 1).gset Reg.REC_STAT Fld.REC_STAT_PERS 0).endBatch

theorem State.storeFailed_shows (s : State) : s.storeFailed.gbit Reg.REC_STAT Fld.REC_STAT_RECFAIL = true ∧
    s.storeFailed.gbit Reg.GSTAT Fld.GSTAT_RECFAIL = true ∧ s.storeFailed.gbit Reg.REC_STAT Fld.REC_STAT_PERS = false ∧
    s.storeFailed.rcd.batch = none ∧ s.storeFailed.gget Reg.REC_PSTAT = s.gget Reg.REC_PSTAT ∧ s.storeFailed.store = s.store := by
  unfold State.storeFailed
  rw [State.endBatch_gbit, State.endBatch_gbit, State.endBatch_gbit, State.endBatch_gget]
  refine ⟨?_, ?_, State.gbit_gset_bit _ _ false (by decide) rfl, rfl, ?_, rfl⟩
  · exact (State.gbit_gset_ne _ _ (.inr (by decide))).trans (State.gbit_gset_bit _ _ true (by decide) rfl)
  · refine (State.gbit_gset_ne _ _ (.inl (by decide))).trans ((State.gbit_gset_ne _ _ (.inl (by decide))).trans ?_)
    exact State.gbit_gset_bit _ _ true (by decide) rfl
  · exact (State.gget_gset_ne _ _ _ (by decide)).trans ((State.gget_gset_ne _ _ _ (by decide)).trans
      (State.gget_gset_ne _ _ _ (by decide)))

/-- The failure's retries counted, its word shown and left as a last word. -/
def State.storeFault (s : State) (cause : BitVec 8) (w : Word) : State :=
  ((if cause = 3 then s else s.countGBy 3 Reg.REC_PCNT true false).gput Reg.REC_PSTAT w).lastWord 6 0 w

theorem State.storeFault_keeps (s : State) (cause : BitVec 8) (w : Word) :
    (s.storeFault cause w).gget Reg.REC_PSTAT = w ∧ (s.storeFault cause w).store = s.store := by
  unfold State.storeFault
  refine ⟨(State.gget_gput ..).trans (if_pos rfl), ?_⟩
  by_cases h : cause = 3
  · rw [if_pos h]
    rfl
  · rw [if_neg h]
    rfl

theorem execStoreFail_fails {s : State} (cause : BitVec 8) (slot : BitVec 24) (hslots : s.storeSlots ≠ 0)
    (hfail : s.gbit Reg.REC_STAT Fld.REC_STAT_RECFAIL = false) :
    ∃ d, execStoreFail cause slot s = .next ((s.storeFault cause (slot ++ cause)).storeFailed.record 0x13 0xF 4 3 d) := by
  unfold execStoreFail
  rw [if_neg (by simp [hslots, hfail])]
  exact ⟨_, rfl⟩

/-- Records keep the registers other than REC_CNT and INT_STAT, and all of the recorder but its requests. -/
theorem State.record_keeps (s : State) (blk ch code sev : Nat) (d : RecData) :
    (s.record blk ch code sev d).rcd.batch = s.rcd.batch ∧ (s.record blk ch code sev d).store = s.store ∧
    ∀ o, o ≠ Reg.REC_CNT → o ≠ Reg.INT_STAT → (s.record blk ch code sev d).gget o = s.gget o := by
  have hq : s.rcd.Requests (s.record blk ch code sev d).rcd := s.requestRecord_requests _ _
  have hr := s.reports_record blk ch code sev d
  refine ⟨?_, ?_, hr.gget⟩
  · rw [hq]
  · rw [hr.1]

/-- RECFAIL is gone and PERS is set: the store works again (R436). -/
def State.storeWorks (s : State) : State :=
  (({ s with rcd := { s.rcd with probing := false } } : State).gset Reg.GSTAT Fld.GSTAT_RECFAIL 0).gset
    Reg.REC_STAT Fld.REC_STAT_RECFAIL 0 |>.gset Reg.REC_STAT Fld.REC_STAT_PERS 1

theorem State.storeWorks_shows (s : State) : s.storeWorks.gbit Reg.REC_STAT Fld.REC_STAT_RECFAIL = false ∧
    s.storeWorks.gbit Reg.GSTAT Fld.GSTAT_RECFAIL = false ∧ s.storeWorks.gbit Reg.REC_STAT Fld.REC_STAT_PERS = true := by
  unfold State.storeWorks
  refine ⟨?_, ?_, State.gbit_gset_bit _ _ true (by decide) rfl⟩
  · exact (State.gbit_gset_ne _ _ (.inr (by decide))).trans (State.gbit_gset_bit _ _ false (by decide) rfl)
  · refine (State.gbit_gset_ne _ _ (.inl (by decide))).trans ((State.gbit_gset_ne _ _ (.inl (by decide))).trans ?_)
    exact State.gbit_gset_bit _ _ false (by decide) rfl

theorem execStoreProbeDone_works {s : State} (h : s.rcd.probing = true) :
    ∃ d, execStoreProbeDone true s = .next (s.storeWorks.record 0x13 0xF 6 1 d) := by
  unfold execStoreProbeDone
  rw [if_neg (by simp [h])]
  exact ⟨_, rfl⟩

theorem execStoreProbeDone_fails {s : State} (h : s.rcd.probing = true) :
    execStoreProbeDone false s = .next { s with rcd := { s.rcd with probing := false } } := by
  unfold execStoreProbeDone
  rw [if_neg (by simp [h])]
  rfl

/-- Settles O49: requests, the ring, the start search, reading, batches and the store's failures, each by its lemma above. -/
theorem recorder : Obligations.Recorder := by
  unfold Obligations.Recorder
  intro s
  refine ⟨fun req => ?_, fun r rest hqueue hsearch hwait hdrops => ?_, ⟨s.closeOpen, rfl, ?_⟩, fun ok hsearch => ?_,
    fun k v hserves hro => ⟨fun h hslot => ?_, fun h hslot => ?_⟩, ?_, fun byTime => ?_, fun first n retries hbatch => ?_,
    fun cause slot hslots hfail => ?_, fun k v hserves hro hfail hslots => ?_, fun hprobe => ⟨execStoreProbeDone_fails hprobe, ?_⟩⟩
  · dsimp only
    intro hmerge hroom
    refine congrArg Host.Outcome.next (State.record_queues req.sev.isLt hmerge (lt_of_lt_of_eq hroom ?_))
    exact if_congr BitVec.toNat_inj.symm rfl rfl
  · obtain ⟨hseq, hq, -⟩ := ({ s with rcd := { s.rcd with queue := rest } } : State).ringPut_frame r
    obtain ⟨hring, hclosed⟩ := ({ s with rcd := { s.rcd with queue := rest } } : State).ringPut_puts r
    exact ⟨_, execRecordWrite_writes hqueue hsearch hwait hdrops, hq, hseq, hring, hclosed, State.ringPut_old _ _⟩
  · obtain ⟨-, hclosed, hother⟩ := s.closeOpen_closes
    exact ⟨hother, hclosed, rfl⟩
  · obtain ⟨t, hrun, ht, hpers, hseq, hpseq, hep, hold⟩ := execRecorderStartSearchEnd_ends ok hsearch
    refine ⟨t, hrun, ht, hpers, fun r hok _ hnew => ?_, fun hok => ?_, hold⟩
    · have hfound : s.foundRecord ok = some r := by rw [State.foundRecord, if_pos hok, hnew]
      rw [hfound] at hseq hpseq hep
      exact ⟨hseq, hpseq, hep⟩
    · have hfound : s.foundRecord ok = none := by rw [State.foundRecord, hok]; rfl
      rw [hfound] at hseq hep
      exact ⟨hseq, hep⟩
  · exact congrArg Host.Outcome.next (State.writeAlias_recorder hserves (by simp) hro
      ((s.writeRecBlock_rptr v).trans (State.writeRptr_ring h hslot)))
  · exact congrArg Host.Outcome.next (State.writeAlias_recorder hserves (by simp) hro
      ((s.writeRecBlock_rptr v).trans (State.writeRptr_store h hslot)))
  · exact fun h => if_pos h
  · dsimp only
    intro hpers hbatch hold hpos htime hslots
    have hkeep := s.keepSurvivors_mram (min (s.gfld Reg.REC_PCFG Fld.REC_PCFG_BMAX) s.persistable.2)
    have hlt : min (s.gfld Reg.REC_PCFG Fld.REC_PCFG_BMAX) s.persistable.2 < 32 :=
      (Nat.min_le_left ..).trans_lt (BitVec.isLt _)
    have hrun := execPersistBatchStart_begins rfl hpers hbatch hold hpos htime
    have hstored := fun i => s.batchStored (first := s.persistable.1) hlt hslots (i := i)
    generalize min (s.gfld Reg.REC_PCFG Fld.REC_PCFG_BMAX) s.persistable.2 = n at *
    have hrec := (s.keepSurvivors n).storeRecords_mram s.persistable.1 n
    refine ⟨_, hrun, rfl, ?_, hstored⟩
    generalize (s.keepSurvivors n).storeRecords s.persistable.1 n = u at hrec ⊢
    generalize s.keepSurvivors n = w at hkeep hrec
    have huw : u.store.pseq = w.store.pseq := by rw [hrec]
    have hws : w.store.pseq = s.store.pseq := by rw [hkeep]
    exact huw.trans hws
  · exact ⟨_, execPersistBatchCommit_commits retries hbatch, s.batchCommitted_commits _ _ _⟩
  · obtain ⟨d, hrun⟩ := execStoreFail_fails cause slot hslots hfail
    obtain ⟨hword, hstore⟩ := s.storeFault_keeps cause (slot ++ cause)
    generalize s.storeFault cause (slot ++ cause) = u at *
    obtain ⟨hrec, hg, hpers, hbatch, hpstat, hust⟩ := u.storeFailed_shows
    generalize u.storeFailed = w at *
    obtain ⟨kbatch, kstore, kget⟩ := w.record_keeps 0x13 0xF 4 3 d
    have hstat := kget Reg.REC_STAT (by decide) (by decide)
    exact ⟨_, hrun, (congrArg (fun w => getField w _ != 0) hstat).trans hrec,
      (congrArg (fun w => getField w _ != 0) (kget Reg.GSTAT (by decide) (by decide))).trans hg,
      (congrArg (fun w => getField w _ != 0) hstat).trans hpers, kbatch.trans hbatch,
      (kget _ (by decide) (by decide)).trans (hpstat.trans hword), kstore.trans (hust.trans hstore)⟩
  · exact congrArg Host.Outcome.next (State.writeAlias_recorder hserves (by simp) hro
      ((s.writeRecBlock_ctl _).trans (State.writeRecCtl_retry v hfail hslots)))
  · obtain ⟨d, hrun⟩ := execStoreProbeDone_works hprobe
    obtain ⟨hrec, hg, hpers⟩ := s.storeWorks_shows
    generalize s.storeWorks = w at *
    obtain ⟨-, -, kget⟩ := w.record_keeps 0x13 0xF 6 1 d
    have hstat := kget Reg.REC_STAT (by decide) (by decide)
    exact ⟨_, hrun, (congrArg (fun w => getField w _ != 0) hstat).trans hrec,
      (congrArg (fun w => getField w _ != 0) (kget Reg.GSTAT (by decide) (by decide))).trans hg,
      (congrArg (fun w => getField w _ != 0) hstat).trans hpers⟩

end Sys2Proof.Machine
end

section
/-! SUPPORT. The calendar (14_event_recorder.md R429 to R431): setting the time, and the edges of PPS. (O50) -/

namespace Sys2Proof.Machine

/-! ## Setting the time (R429, R430) -/

/-- A new epoch leaves CAL_STAT's lock as it is. -/
theorem State.setEpoch_ppslock (s : State) (ep : Nat) :
    (s.setEpoch ep).gbit Reg.CAL_STAT Fld.CAL_STAT_PPSLOCK = s.gbit Reg.CAL_STAT Fld.CAL_STAT_PPSLOCK := by
  unfold State.setEpoch
  extract_lets fresh t
  have ht : t.gbit Reg.CAL_STAT Fld.CAL_STAT_PPSLOCK = s.gbit Reg.CAL_STAT Fld.CAL_STAT_PPSLOCK :=
    (State.gbit_gset_ne _ _ (.inr (by decide))).trans (State.gbit_gset_ne _ _ (.inr (by decide)))
  clear_value t
  split
  · have hr := t.reports_requestRecord (t.saturated 0x13 0xF Reg.CAL_STAT Fld.CAL_STAT_EPSAT.lo) true
    exact (congrArg (· != 0) (hr.gfld Reg.CAL_STAT Fld.CAL_STAT_PPSLOCK (by decide) (by decide))).trans ht
  · exact ht

/-- What a set of the time leaves: the last edge of PPS, the lock, and every register but CAL_STAT and those of records. -/
structure State.TimeSet (s t : State) : Prop where
  edge : t.cal.lastEdge = s.cal.lastEdge
  lock : t.gbit Reg.CAL_STAT Fld.CAL_STAT_PPSLOCK = s.gbit Reg.CAL_STAT Fld.CAL_STAT_PPSLOCK
  gget : ∀ o, o ≠ Reg.CAL_STAT → o ≠ Reg.REC_CNT → o ≠ Reg.INT_STAT → t.gget o = s.gget o

theorem State.TimeSet.refl (s : State) : s.TimeSet s := ⟨rfl, rfl, fun _ _ _ _ => rfl⟩

theorem State.TimeSet.trans {s t u : State} (h : s.TimeSet t) (k : t.TimeSet u) : s.TimeSet u :=
  ⟨k.edge.trans h.edge, k.lock.trans h.lock, fun o a b c => (k.gget o a b c).trans (h.gget o a b c)⟩

theorem State.TimeSet.reports {s t : State} (h : s.reports t) : s.TimeSet t :=
  ⟨by rw [h.1], congrArg (· != 0) (h.gfld _ _ (by decide) (by decide)), fun o _ b c => h.gget o b c⟩

/-- A field of CAL_STAT beside the lock. -/
theorem State.TimeSet.gset (s : State) {f : BitField} (n : Nat) (h : 18 ≤ f.lo ∨ f.lo + f.width ≤ 17) :
    s.TimeSet (s.gset Reg.CAL_STAT f n) := by
  refine ⟨rfl, State.gbit_gset_ne _ _ (.inr ?_), fun o ho _ _ => State.gget_gset_ne _ _ _ ho⟩
  show f.lo + f.width ≤ 17 ∨ 17 + 1 ≤ f.lo
  omega

theorem State.TimeSet.setEpoch (s : State) {ep : Nat} (h : ep ≤ 65535) : s.TimeSet (s.setEpoch ep) := by
  obtain ⟨-, -, -, hcal, hget⟩ := s.setEpoch_sets h
  exact ⟨congrArg Calendar.lastEdge hcal, s.setEpoch_ppslock ep, hget⟩

/-- A change of neither the last edge nor a register. -/
theorem State.TimeSet.of_eq {s t : State} (hcal : t.cal.lastEdge = s.cal.lastEdge) (hg : t.g = s.g) : s.TimeSet t := by
  refine ⟨hcal, ?_, fun o _ _ _ => ?_⟩
  · rw [State.gbit, State.gfld, State.gget, hg, State.gbit, State.gfld, State.gget]
  · rw [State.gget, hg, State.gget]

/-- EPOCH's part of a set of the time. -/
def State.epochFor (s : State) (new : Nat) : State :=
  if new < s.cal.ns then s.setEpoch (min 65535 (s.calEpoch + 1)) else s

theorem State.timeSet_epochFor (s : State) (new : Nat) : s.TimeSet (s.epochFor new) := by
  unfold State.epochFor
  split
  · exact .setEpoch s (Nat.min_le_left ..)
  · exact .refl s

theorem State.epochFor_epoch (s : State) (new : Nat) : (s.epochFor new).calEpoch =
    if new < s.cal.ns ∧ s.calEpoch < 65535 then s.calEpoch + 1 else s.calEpoch := by
  have hlt : s.calEpoch < 65536 := BitVec.isLt _
  unfold State.epochFor
  by_cases h : new < s.cal.ns
  · obtain ⟨hep, -⟩ := s.setEpoch_sets (ep := min 65535 (s.calEpoch + 1)) (Nat.min_le_left ..)
    rw [if_pos h, hep]
    split <;> omega
  · rw [if_neg h, if_neg (fun hc => h hc.1)]

/-- The calendar's time itself. -/
def State.calTime (s : State) (new : Nat) : State := { s with cal := { s.cal with ns := new, frac := 0, waiting := none } }

theorem State.calTime_frame (s : State) (new : Nat) : (s.calTime new).cal.ns = new ∧
    (s.calTime new).calEpoch = s.calEpoch := ⟨rfl, rfl⟩

theorem State.calApply_eq (s : State) (new : Nat) :
    s.calApply new = ((s.epochFor new).calTime new).gset Reg.CAL_STAT Fld.CAL_STAT_VALID 1 := rfl

theorem State.timeSet_calApply (s : State) (new : Nat) : s.TimeSet (s.calApply new) := by
  have htime : (s.epochFor new).TimeSet ((s.epochFor new).calTime new) := .of_eq rfl rfl
  rw [State.calApply_eq]
  exact ((s.timeSet_epochFor new).trans htime).trans (.gset _ (f := Fld.CAL_STAT_VALID) 1 (.inr (by decide)))

/-- The calendar's new time shows, valid, with its epoch. -/
theorem State.calApply_applies (s : State) (new : Nat) : (s.calApply new).cal.ns = new ∧
    (s.calApply new).gbit Reg.CAL_STAT Fld.CAL_STAT_VALID = true ∧
    (s.calApply new).calEpoch = if new < s.cal.ns ∧ s.calEpoch < 65535 then s.calEpoch + 1 else s.calEpoch := by
  rw [State.calApply_eq]
  refine ⟨rfl, State.gbit_gset_bit _ _ true (by decide) rfl, ?_⟩
  refine (State.gfld_gset_ne _ _ (.inr (.inr (by decide)))).trans ?_
  exact ((s.epochFor new).calTime_frame new).2.trans (s.epochFor_epoch new)

theorem State.timeSet_calSet (s : State) (new cause : Nat) : s.TimeSet (s.calSet new cause) := by
  have hclose : s.TimeSet s.closeOpen := .of_eq rfl rfl
  unfold State.calSet
  dsimp only
  generalize s.closeOpen = t at hclose
  split
  · exact hclose.trans (.of_eq rfl rfl)
  · exact hclose.trans ((State.TimeSet.reports (State.reports_recordReserved ..)).trans (State.timeSet_calApply _ new))

/-- With an entry free, the set takes effect at once (R429). -/
theorem State.calSet_sets (s : State) (new cause : Nat) (h : s.rcd.queue.length < 64) : (s.calSet new cause).cal.ns = new ∧
    (s.calSet new cause).gbit Reg.CAL_STAT Fld.CAL_STAT_VALID = true ∧
    (s.calSet new cause).calEpoch = if new < s.cal.ns ∧ s.calEpoch < 65535 then s.calEpoch + 1 else s.calEpoch := by
  have hclose : s.closeOpen.cal = s.cal ∧ s.closeOpen.calEpoch = s.calEpoch ∧ s.closeOpen.rcd.queue = s.rcd.queue := ⟨rfl, rfl, rfl⟩
  unfold State.calSet
  dsimp only
  generalize s.closeOpen = t at hclose
  obtain ⟨hcal, hep, hq⟩ := hclose
  rw [if_neg (by rw [hq]; omega)]
  generalize recData [(0, 8, t.cal.ns), (8, 8, new), (16, 2, t.calEpoch), (18, 2, t.epochAfter new), (20, 1, cause)] = d
  have hr := t.reports_recordReserved 0x13 0xF 2 1 d
  generalize t.recordReserved 0x13 0xF 2 1 d = u at hr ⊢
  have hucal : u.cal = t.cal := by rw [hr.1]
  have huep : u.calEpoch = t.calEpoch := hr.gfld _ _ (by decide) (by decide)
  have happ := u.calApply_applies new
  rwa [hucal, huep, hcal, hep] at happ

/-! ## The host's writes -/

theorem State.writeRecBlock_cal (s : State) (v : Word) : s.writeRecBlock Reg.CAL_CTL v = s.writeCalCtl v := by
  unfold State.writeRecBlock
  rw [if_neg (by decide), if_neg (by decide), if_pos rfl]

theorem calCommand_bits (v : Word) :
    ((v &&& 0xFFFFFFFC) ||| 1).getLsbD 0 = true ∧ ((v &&& 0xFFFFFFFC) ||| 1).getLsbD 1 = false ∧
    ((v &&& 0xFFFFFFFC) ||| 2).getLsbD 0 = false ∧ ((v &&& 0xFFFFFFFC) ||| 2).getLsbD 1 = true := by
  simp

theorem State.writeCalCtl_set {s : State} (v : Word) (h : s.gbit Reg.CAL_STAT Fld.CAL_STAT_SETPEND = false) :
    s.writeCalCtl ((v &&& 0xFFFFFFFC) ||| 1) =
      (s.calSet ((s.gget Reg.CAL_SET_LO).toNat + 2 ^ 32 * (s.gget Reg.CAL_SET_HI).toNat) 1, false) := by
  obtain ⟨hset, hpps, -⟩ := calCommand_bits v
  unfold State.writeCalCtl
  dsimp only
  rw [hset, hpps, h]
  rfl

theorem State.writeCalCtl_setpps {s : State} (v : Word) (h : s.gbit Reg.CAL_STAT Fld.CAL_STAT_SETPEND = false) :
    s.writeCalCtl ((v &&& 0xFFFFFFFC) ||| 2) = (s.gset Reg.CAL_STAT Fld.CAL_STAT_SETPEND 1, false) := by
  obtain ⟨-, -, hset, hpps⟩ := calCommand_bits v
  unfold State.writeCalCtl
  dsimp only
  rw [hset, hpps, h]
  rfl

/-! ## PPS (R431) -/

/-- An accepted edge's registers: its time and its phase error. -/
def State.edgeAt (s : State) (e : Int) : State :=
  ({ s with cal := { s.cal with lastEdge := some s.time.refNs } } : State).gput Reg.PPS_STAT (BitVec.ofInt 32 e)

/-- What an accepted edge with error `e` does to the time and the rate. -/
def State.edgeActs (s : State) (e : Int) : State :=
  if s.gbit Reg.CAL_STAT Fld.CAL_STAT_SETPEND then
    (s.gset Reg.CAL_STAT Fld.CAL_STAT_SETPEND 0).calSet
      ((s.gget Reg.CAL_SET_LO).toNat + 2 ^ 32 * (s.gget Reg.CAL_SET_HI).toNat) 2
  else if s.gbit Reg.PPS_CFG Fld.PPS_CFG_STEP && s.gfld Reg.PPS_CFG Fld.PPS_CFG_STEPTH * 1000 < e.natAbs then
    (s.countG Reg.CAL_CNT false false).calSet ((s.cal.ns : Int) - e).toNat 3
  else { s.gput Reg.CAL_RATE (BitVec.ofInt 32 (clampTo 500000 (Config.freeWord s.free).toInt)) with free := s.free + 1 }

/-- The edge's effect leaves its time, its error and the lock. -/
theorem State.edgeActs_keeps (s : State) (e : Int) : (s.edgeActs e).cal.lastEdge = s.cal.lastEdge ∧
    (s.edgeActs e).gget Reg.PPS_STAT = s.gget Reg.PPS_STAT ∧
    (s.edgeActs e).gbit Reg.CAL_STAT Fld.CAL_STAT_PPSLOCK = s.gbit Reg.CAL_STAT Fld.CAL_STAT_PPSLOCK := by
  have hset : ∀ {t : State}, s.TimeSet t → t.cal.lastEdge = s.cal.lastEdge ∧ t.gget Reg.PPS_STAT = s.gget Reg.PPS_STAT ∧
      t.gbit Reg.CAL_STAT Fld.CAL_STAT_PPSLOCK = s.gbit Reg.CAL_STAT Fld.CAL_STAT_PPSLOCK := fun h =>
    ⟨h.edge, h.gget _ (by decide) (by decide) (by decide), h.lock⟩
  have hput : ∀ {o : Nat} (w : Word), o ≠ Reg.PPS_STAT → o ≠ Reg.CAL_STAT → (s.gput o w).cal.lastEdge = s.cal.lastEdge ∧
      (s.gput o w).gget Reg.PPS_STAT = s.gget Reg.PPS_STAT ∧
      (s.gput o w).gbit Reg.CAL_STAT Fld.CAL_STAT_PPSLOCK = s.gbit Reg.CAL_STAT Fld.CAL_STAT_PPSLOCK := fun w hp hc =>
    ⟨rfl, (State.gget_gput ..).trans (if_neg hp.symm),
      congrArg (fun w => getField w Fld.CAL_STAT_PPSLOCK != 0) ((State.gget_gput ..).trans (if_neg hc.symm))⟩
  unfold State.edgeActs
  split
  · exact hset ((State.TimeSet.gset s 0 (.inl (by decide))).trans (State.timeSet_calSet _ _ 2))
  split
  · have hcount := s.reports_countG Reg.CAL_CNT false false
    obtain ⟨kedge, kstat, klock⟩ := hput (o := Reg.CAL_CNT) (counterStep (s.gget Reg.CAL_CNT) false) (by decide) (by decide)
    generalize s.gput Reg.CAL_CNT (counterStep (s.gget Reg.CAL_CNT) false) = t at *
    have h := (State.TimeSet.reports hcount).trans (State.timeSet_calSet _ ((s.cal.ns : Int) - e).toNat 3)
    exact ⟨h.edge.trans kedge, (h.gget _ (by decide) (by decide) (by decide)).trans kstat, h.lock.trans klock⟩
  · exact hput (o := Reg.CAL_RATE) _ (by decide) (by decide)

/-- The lock after an edge: only it and the run of good edges change. -/
theorem State.ppsLock_keeps (s : State) (e : Int) : (s.ppsLock e).cal.lastEdge = s.cal.lastEdge ∧
    (s.ppsLock e).gget Reg.PPS_STAT = s.gget Reg.PPS_STAT := by
  unfold State.ppsLock
  dsimp only
  generalize (if e.natAbs ≤ 1000 then s.cal.good + 1 else 0) = n
  split
  · exact ⟨rfl, State.gget_gset_ne _ _ _ (by decide)⟩
  split
  · exact ⟨rfl, State.gget_gset_ne _ _ _ (by decide)⟩
  · exact ⟨rfl, rfl⟩

theorem State.ppsLock_lost (s : State) {e : Int} (h : 10000 < e.natAbs) :
    (s.ppsLock e).gbit Reg.CAL_STAT Fld.CAL_STAT_PPSLOCK = false := by
  unfold State.ppsLock
  dsimp only
  rw [if_pos h]
  exact State.gbit_gset_bit _ _ false (by decide) rfl

theorem State.ppsLock_locked (s : State) {e : Int} (h : e.natAbs ≤ 1000) (hgood : 7 ≤ s.cal.good) :
    (s.ppsLock e).gbit Reg.CAL_STAT Fld.CAL_STAT_PPSLOCK = true := by
  unfold State.ppsLock
  dsimp only
  rw [if_neg (by omega), if_pos h, if_pos (by omega)]
  exact State.gbit_gset_bit _ _ true (by decide) rfl

theorem execPpsEdge_soon {s : State} {n : Nat} (hen : s.gbit Reg.PPS_CFG Fld.PPS_CFG_EN = true)
    (hlast : s.cal.lastEdge = some n) (h : s.time.refNs < n + 900000000) :
    execPpsEdge s = .next (s.countG Reg.CAL_CNT true false) := by
  unfold execPpsEdge
  rw [if_neg (by simp [hen]), hlast]
  exact if_pos (decide_eq_true h)

theorem execPpsEdge_accepted {s : State} (hen : s.gbit Reg.PPS_CFG Fld.PPS_CFG_EN = true)
    (h : ∀ n, s.cal.lastEdge = some n → n + 900000000 ≤ s.time.refNs) :
    execPpsEdge s = .next (((s.edgeAt (ppsError s.cal.ns)).ppsLock (ppsError s.cal.ns)).edgeActs (ppsError s.cal.ns)) := by
  unfold execPpsEdge State.edgeActs
  rw [if_neg (by simp [hen]), if_neg]
  · dsimp only
    unfold State.edgeAt
    generalize State.ppsLock _ _ = t
    split
    · rfl
    split <;> rfl
  · cases hlast : s.cal.lastEdge with
    | none => simp
    | some n =>
      have := h n hlast
      simp only [decide_eq_true_eq]
      omega

/-- The error is the captured time less the nearest whole second (R431). -/
theorem ppsError_spec (n : Nat) : 2 * |ppsError n| ≤ 1000000000 ∧ (n - ppsError n) % 1000000000 = 0 := by
  unfold ppsError
  dsimp only
  split
  · rw [abs_of_nonneg (by omega)]
    omega
  · rw [abs_of_neg (by omega)]
    omega

end Sys2Proof.Machine
end

section
/-! SUPPORT. The die sensors (15_thermal.md R442 to R444): a conversion's reading, and what its limits and trips leave of the
sensors. (O50) -/

namespace Sys2Proof.Machine

/-! ## The sensors' state through faults and give-ups -/

theorem State.CapOnly.die {s t : State} {ch : ChId} (h : s.CapOnly t ch) : t.die = s.die := by
  rw [h.rest.1]
  rfl

theorem State.countCh_die (s : State) (ch : ChId) (reg : Nat) (hi ev : Bool) : (s.countCh ch reg hi ev).die = s.die := by
  rw [(s.reports_countCh ch reg hi ev).1]
  rfl

theorem State.countG_die (s : State) (reg : Nat) (hi ev : Bool) : (s.countG reg hi ev).die = s.die := by
  rw [(s.reports_countG reg hi ev).1]
  rfl

theorem State.groupDiscard_die (s : State) (ch : ChId) : (s.groupDiscard ch).die = s.die := by
  unfold State.groupDiscard
  split <;> rfl

theorem State.brakeFollow_die (s : State) (ch : ChId) : (s.brakeFollow ch).die = s.die := by
  unfold State.brakeFollow
  extract_lets c t
  have ht : t.die = s.die := rfl
  clear_value t
  split
  · rfl
  split
  · split <;> rfl
  split
  · rfl
  split
  · exact ht
  · exact (State.countCh_die ..).trans ht

theorem State.gatesFollow_die (s : State) (ch : ChId) : (s.gatesFollow ch).die = s.die := by
  unfold State.gatesFollow
  dsimp only
  refine (State.brakeFollow_die _ ch).trans ?_
  split
  · rfl
  split
  · rfl
  split <;> rfl

theorem State.pairLeaveShadow_die (s : State) (ch : ChId) : (s.pairLeaveShadow ch).die = s.die := rfl

theorem State.contactors_die (s : State) (ch : ChId) : (s.contactors ch).die = s.die := rfl

theorem State.enterMode_die (s : State) (ch : ChId) (m tc : Nat) : (s.enterMode ch m tc).die = s.die := by
  unfold State.enterMode
  extract_lets c old s1 s2 s3 s4 s5
  have h1 : s1.die = s.die := rfl
  have h2 : s2.die = s1.die := by
    show (if _ then _ else _ : State).die = _
    split
    · exact s1.groupDiscard_die ch
    · rfl
  have h3 : s3.die = s2.die := by
    show (if _ then _ else _ : State).die = _
    split
    · rfl
    · exact (State.irq_die ..).trans (State.countCh_die ..)
  have h4 : s4.die = s3.die := State.record_die ..
  have h5 : s5.die = s4.die := by
    show (if _ then _ else _ : State).die = _
    split
    · exact s4.pairLeaveShadow_die ch
    · rfl
  clear_value s5
  refine (State.contactors_die _ ch).trans ?_
  exact (State.gatesFollow_die _ ch).trans (h5.trans (h4.trans (h3.trans (h2.trans h1))))

theorem State.repairEnds_die (s : State) (ch : ChId) (err : Nat) : (s.repairEnds ch err).die = s.die := by
  unfold State.repairEnds
  dsimp only
  refine (State.CapOnly.die (State.capOnly_capFree _ ch)).trans ?_
  exact (State.irq_die ..).trans (State.record_die ..)

theorem State.faultHalt_die (s : State) (ch : ChId) : (s.faultHalt ch).die = s.die := by
  unfold State.faultHalt
  extract_lets u was w x y z v
  have hu : u.die = s.die := (s.groupDiscard_die ch)
  have hw : w.die = u.die := by
    show (if _ then _ else _ : State).die = _
    split
    · exact u.repairEnds_die ch 8
    · rfl
  have hx : x.die = w.die := by
    show (if _ then _ else _ : State).die = _
    split
    · rfl
    · exact w.enterMode_die ch 1 8
  have hz : z.die = x.die := rfl
  have hv : v.die = z.die := by
    show (if _ then _ else _ : State).die = _
    split
    · rfl
    · exact State.irq_die ..
  clear_value v
  exact (State.CapOnly.die (State.capOnly_capFault v ch)).trans (hv.trans (hz.trans (hx.trans (hw.trans hu))))

theorem State.setCs_die (s : State) (ch : ChId) (f : BitField) (n : Nat) : (s.setCs ch f n).die = s.die := rfl

theorem State.releaseGivenUp_die (s : State) (ch : ChId) (cause : Nat) : (s.releaseGivenUp ch cause).die = s.die := by
  unfold State.releaseGivenUp
  extract_lets s1 s2 s3 s4
  have h1 : s1.die = s.die := (State.gatesFollow_die _ ch).trans (s.groupDiscard_die ch)
  have h2 : s2.die = s1.die := (State.setCs_die ..).trans (State.setCs_die ..)
  have h3 : s3.die = s2.die := (State.irq_die ..).trans (State.countG_die ..)
  have h4 : s4.die = s3.die := State.record_die ..
  have h : s4.die = s.die := h4.trans (h3.trans (h2.trans h1))
  clear_value s4
  split <;> exact h

theorem State.giveUp_die (s : State) (ch : ChId) (cause : Nat) : (s.giveUp ch cause).die = s.die := by
  unfold State.giveUp
  have h := s.releaseGivenUp_die ch cause
  dsimp only
  generalize s.releaseGivenUp ch cause = t at h ⊢
  split
  · exact (t.faultHalt_die ch).trans h
  split
  · exact h
  · exact (t.enterMode_die ch 1 8).trans h

theorem State.raiseSafe_die (s : State) (ch : ChId) (b : Nat) : (s.raiseSafe ch b).die = s.die := by
  unfold State.raiseSafe
  extract_lets c fresh c1 c2 t
  have ht : t.die = s.die := rfl
  clear_value t
  split
  · exact ((State.irq_die ..).trans (State.record_die ..)).trans ht
  · exact ht

theorem State.setLive_die (s : State) (ch : ChId) (b : Nat) (on : Bool) : (s.setLive ch b on).die = s.die := by
  unfold State.setLive
  dsimp only
  split
  · split
    · rfl
    · exact s.raiseSafe_die ch b
  · rfl

/-! ## Limits and trips (R444) -/

/-- The sensors' words and runs of good readings stay. -/
structure State.KeepsSensors (s t : State) : Prop where
  good : t.die.good = s.die.good
  word : ∀ n : Fin 16, t.gget (Reg.THM_T n) = s.gget (Reg.THM_T n)

theorem State.KeepsSensors.refl (s : State) : s.KeepsSensors s := ⟨rfl, fun _ => rfl⟩

theorem State.KeepsSensors.trans {s t u : State} (h : s.KeepsSensors t) (k : t.KeepsSensors u) : s.KeepsSensors u :=
  ⟨k.good.trans h.good, fun n => (k.word n).trans (h.word n)⟩

theorem State.KeepsSensors.ite {s t u : State} {p : Prop} [Decidable p] (h : s.KeepsSensors t) (k : s.KeepsSensors u) :
    s.KeepsSensors (if p then t else u) := by
  split
  · exact h
  · exact k

theorem thmT_range (n : Fin 16) : 0x110 ≤ Reg.THM_T n ∧ Reg.THM_T n < 0x150 := by
  show 0x110 ≤ 0x110 + 4 * n.val ∧ 0x110 + 4 * n.val < 0x150
  omega

/-- A sensor's word is none of the registers that a fault, a give-up or a record touches. -/
theorem thmT_beside : ∀ n : Fin 16, Reg.THM_T n < 0x4000 ∧ Reg.THM_T n ≠ Reg.REC_CNT ∧ Reg.THM_T n ≠ Reg.INT_STAT ∧
    Reg.THM_T n ≠ Reg.GRP_RESULT ∧ Reg.THM_T n ≠ Reg.KNL_STAT ∧ Reg.THM_T n ≠ Reg.GSTAT := by
  decide

/-- A register that is no sensor's. -/
theorem State.KeepsSensors.gput (s : State) {o : Nat} (w : Word) (h : o < 0x110 ∨ 0x150 ≤ o) : s.KeepsSensors (s.gput o w) := by
  refine ⟨rfl, fun n => (State.gget_gput ..).trans (if_neg ?_)⟩
  have := thmT_range n
  omega

theorem State.KeepsSensors.gset (s : State) {o : Nat} (f : BitField) (n : Nat) (h : o < 0x110 ∨ 0x150 ≤ o) :
    s.KeepsSensors (s.gset o f n) := .gput s _ h

theorem State.KeepsSensors.onChan (s : State) (ch : ChId) (f : Chan → Chan) : s.KeepsSensors (s.onChan ch f) :=
  ⟨rfl, fun _ => rfl⟩

theorem State.KeepsSensors.reports {s t : State} (h : s.reports t) : s.KeepsSensors t := by
  refine ⟨by rw [h.1], fun n => ?_⟩
  obtain ⟨-, hcnt, hint, -⟩ := thmT_beside n
  exact h.gget _ hcnt hint

theorem State.KeepsSensors.countG (s : State) {o : Nat} (hi ev : Bool) (h : o < 0x110 ∨ 0x150 ≤ o) :
    s.KeepsSensors (s.countG o hi ev) := (State.KeepsSensors.gput s _ h).trans (.reports (s.reports_countG o hi ev))

/-- The channel and the pair alone: no field of a sensor. -/
theorem State.KeepsSensors.actsOn {s t : State} {ch : ChId} (h : State.ActsOn ch s t) (hdie : t.die = s.die) :
    s.KeepsSensors t := by
  refine ⟨by rw [hdie], fun n => BitVec.eq_of_toNat_eq ?_⟩
  have hbeside : besideFault (Reg.THM_T n) ⟨0, 32⟩ = true := by
    obtain ⟨hlo, hcnt, hint, hgrp, hknl, hg⟩ := thmT_beside n
    exact (besideFault_iff _ _).2 ⟨hlo, hcnt, hint, hgrp, fun h => (h.elim hknl hg).elim⟩
  have hfld := h.gfld (Reg.THM_T n) ⟨0, 32⟩ hbeside
  simpa [State.gfld, getField, BitVec.extractLsb'_eq_self] using hfld

theorem State.keepsSensors_setLive (s : State) (ch : ChId) (b : Nat) (on : Bool) : s.KeepsSensors (s.setLive ch b on) := by
  refine ⟨by rw [State.setLive_die], fun n => ?_⟩
  obtain ⟨-, hcnt, hint, -⟩ := thmT_beside n
  exact (s.raisesOnly_setLive ch b on).gget _ hcnt hint

theorem State.keepsSensors_raiseSafe (s : State) (ch : ChId) (b : Nat) : s.KeepsSensors (s.raiseSafe ch b) := by
  refine ⟨by rw [State.raiseSafe_die], fun n => ?_⟩
  obtain ⟨-, hcnt, hint, -⟩ := thmT_beside n
  exact (s.raisesOnly_raiseSafe ch b).gget _ hcnt hint

theorem State.keepsSensors_dieLimit (s : State) (bit seen : BitField) (code sev : Nat) (on off : Int) (m : Nat) (t : Int) :
    s.KeepsSensors (s.dieLimit bit seen code sev on off m t) := by
  have hset : ∀ (u : State) f n, u.KeepsSensors (u.gset Reg.THM_STAT f n) := fun u f n => .gset u f n (.inl (by decide))
  unfold State.dieLimit
  refine .ite (.ite (hset s _ 0) (.refl s)) (.ite ?_ (.refl s))
  exact (((hset s _ 1).trans (hset _ _ 1)).trans (.reports (State.reports_irq _ 1))).trans (.reports (State.reports_record ..))

theorem State.keepsSensors_dieTripSeen (s : State) (n : Nat) : s.KeepsSensors (s.dieTripSeen n) := by
  unfold State.dieTripSeen
  dsimp only
  refine State.KeepsSensors.trans ?_ (.reports (State.reports_record ..))
  refine State.KeepsSensors.trans ?_ (.reports (State.reports_irq _ 1))
  exact (State.KeepsSensors.gset s _ 1 (.inl (by decide))).trans (.countG _ true true (.inl (by decide)))

theorem State.keepsSensors_dieTripChan (s : State) (ch : ChId) : s.KeepsSensors (s.dieTripChan ch) := by
  unfold State.dieTripChan
  refine (s.keepsSensors_raiseSafe ch 8).trans ?_
  exact .ite (.actsOn (State.actsOn_giveUp _ ch 10) (State.giveUp_die _ ch 10)) (.refl _)

theorem State.KeepsSensors.foldl {α : Type} {f : State → α → State} (hf : ∀ s a, State.KeepsSensors s (f s a)) (l : List α)
    (s : State) : s.KeepsSensors (l.foldl f s) :=
  foldl_rel State.KeepsSensors .refl (fun _ _ _ h k => h.trans k) f hf l s

theorem State.keepsSensors_dieChanTrips (s : State) : s.KeepsSensors s.dieChanTrips := by
  refine .foldl (fun s ch => ?_) _ s
  dsimp only
  refine .ite (.ite ⟨rfl, fun _ => rfl⟩ (.refl s)) (.ite ?_ (.refl s))
  refine State.KeepsSensors.trans ?_ (State.keepsSensors_dieTripChan _ ch)
  refine State.KeepsSensors.trans ?_ (State.keepsSensors_dieTripSeen _ ch.val)
  exact ⟨rfl, fun _ => rfl⟩

theorem State.keepsSensors_dieCentTrip (s : State) : s.KeepsSensors s.dieCentTrip := by
  unfold State.dieCentTrip
  split
  · exact .refl s
  · next n t _ =>
    refine .ite (.ite ⟨rfl, fun _ => rfl⟩ (.refl s)) (.ite ?_ (.refl s))
    refine State.KeepsSensors.trans ?_ (.foldl State.keepsSensors_dieTripChan _ _)
    refine State.KeepsSensors.trans ?_ (State.keepsSensors_dieTripSeen _ n)
    exact ⟨rfl, fun _ => rfl⟩

theorem State.keepsSensors_dieShow (s : State) : s.KeepsSensors s.dieShow :=
  (State.KeepsSensors.gset s _ _ (.inl (by decide))).trans (.foldl (fun s ch => s.keepsSensors_setLive ch 8 _) _ _)

theorem State.keepsSensors_capThrottle (s : State) (on : Bool) : s.KeepsSensors (s.capThrottle on) := by
  unfold State.capThrottle
  extract_lets x u
  have hu : s.KeepsSensors u := ⟨rfl, fun _ => rfl⟩
  clear_value u
  exact hu.trans (.foldl (fun s ch => .foldl (fun s k => .onChan s ch _) _ s) _ _)

/-- The warnings and the throttling that the hottest sensor decides (R444, R445). -/
def State.dieLimits (s : State) : State :=
  match s.dieMax (s.dieGood (List.range 16)) with
  | none => s
  | some (m, t) =>
    let s := s.gset Reg.THM_STAT Fld.THM_STAT_HOT m
    let s := s.dieLimit Fld.THM_STAT_WARN Fld.THM_STAT_WARN_SEEN 1 1 440 428 m t
    let was := s.gbit Reg.THM_STAT Fld.THM_STAT_THROT
    let s := s.dieLimit Fld.THM_STAT_THROT Fld.THM_STAT_THR_SEEN 2 2 460 448 m t
    let now := s.gbit Reg.THM_STAT Fld.THM_STAT_THROT
    if now && !was then s.countG Reg.THM_CNT false false else if was && !now then s.capThrottle false else s

theorem State.keepsSensors_dieLimits (s : State) : s.KeepsSensors s.dieLimits := by
  unfold State.dieLimits
  split
  · exact .refl s
  · extract_lets u v was w now
    have hu : s.KeepsSensors u := .gset s _ _ (.inl (by decide))
    have hv : u.KeepsSensors v := u.keepsSensors_dieLimit ..
    have hw : v.KeepsSensors w := v.keepsSensors_dieLimit ..
    clear_value w
    refine ((hu.trans hv).trans hw).trans (.ite (.countG w false false (.inl (by decide))) (.ite ?_ (.refl w)))
    exact w.keepsSensors_capThrottle false

theorem execDieSensorConversion_eq (n : Fin 16) (w : BitVec 12) (s : State) : execDieSensorConversion n w s =
    .next (s.dieRead n w.toInt).dieLimits.dieChanTrips.dieCentTrip.dieShow := rfl

theorem State.keepsSensors_conversion (s : State) : s.KeepsSensors s.dieLimits.dieChanTrips.dieCentTrip.dieShow :=
  ((s.keepsSensors_dieLimits.trans (State.keepsSensors_dieChanTrips _)).trans (State.keepsSensors_dieCentTrip _)).trans
    (State.keepsSensors_dieShow _)

/-! ## A reading (R442, R443) -/

/-- Whether a reading fails the sensor: out of its range, or too far from the last. -/
def State.dieBad (s : State) (n : Fin 16) (t : Int) : Bool :=
  decide (t < -220) || decide (600 < t) || (s.die.seen.getLsbD n.val && decide (80 < (t - s.dieT n.val).natAbs))

/-- The run of good readings with this one. -/
def State.dieRun (s : State) (n : Fin 16) (t : Int) : Nat := if s.dieBad n t then 0 else s.die.good[n] + 1

/-- Whether the sensor has failed after this reading. -/
def State.dieFails (s : State) (n : Fin 16) (t : Int) : Bool := s.dieBad n t || (s.dieFailed n.val && s.dieRun n t < 10)

/-- THM_Tn of a reading. -/
def dieWord (t : Int) (fail : Bool) : Word :=
  BitVec.ofNat 32 ((BitVec.ofInt 12 t).toNat + (if fail then 4096 else 0) + 8192 * dieRate t)

theorem dieRate_lt (t : Int) : dieRate t < 4 := by
  unfold dieRate
  dsimp only
  split
  · omega
  split <;> omega

theorem dieWord_fields (w : BitVec 12) (fail : Bool) :
    (dieWord w.toInt fail).extractLsb' 0 12 = w ∧ getField (dieWord w.toInt fail) Fld.THM_T_FAIL = (if fail then 1 else 0) ∧
    getField (dieWord w.toInt fail) Fld.THM_T_RATE = dieRate w.toInt := by
  have hw := w.isLt
  have hr := dieRate_lt w.toInt
  unfold dieWord
  rw [BitVec.ofInt_toInt]
  generalize dieRate w.toInt = r at hr ⊢
  refine ⟨BitVec.eq_of_toNat_eq ?_, ?_, ?_⟩
  all_goals
    simp only [getField, BitVec.extractLsb'_toNat, BitVec.toNat_ofNat, Nat.shiftRight_eq_div_pow]
    cases fail <;> simp <;> omega

/-- The reading's own state: its word, its run, and nothing of the other sensors' runs. -/
theorem State.dieRead_reads (s : State) (n : Fin 16) (t : Int) :
    (s.dieRead n t).gget (Reg.THM_T n) = dieWord t (s.dieFails n t) ∧ (s.dieRead n t).die.good[n] = s.dieRun n t := by
  unfold State.dieRead
  extract_lets bad was run fail x s1 s2 m f s3
  have hword : s2.gget (Reg.THM_T n) = dieWord t (s.dieFails n t) := (State.gget_gput ..).trans (if_pos rfl)
  have hgood : s2.die.good = s.die.good.set n (s.dieRun n t) := rfl
  clear_value s2
  have h3 : s2.KeepsSensors s3 := .gset s2 _ _ (.inl (by decide))
  clear_value s3
  clear_value fail was f m
  have h4 : s2.KeepsSensors (if (fail && !was) = true then
      s3.record 0x0A 0xF 4 2 (recData [(0, 1, n.val), (2, 2, (BitVec.ofInt 16 t).toNat)]) else s3) :=
    h3.trans (.ite (.reports (State.reports_record ..)) (.refl s3))
  refine ⟨(h4.word n).trans hword, ?_⟩
  refine (congrArg (fun g : Vector Nat 16 => g[n]) (h4.good.trans hgood)).trans ?_
  exact Vector.getElem_set_self ..

/-- A conversion's effect on its sensor. -/
theorem execDieSensorConversion_reads (s : State) (n : Fin 16) (w : BitVec 12) : ∃ t, execDieSensorConversion n w s = .next t ∧
    t.dieT n.val = w.toInt ∧ t.gfld (Reg.THM_T n.val) Fld.THM_T_RATE = dieRate w.toInt ∧
    t.dieFailed n.val = s.dieFails n w.toInt ∧ t.die.good[n] = s.dieRun n w.toInt := by
  obtain ⟨hword, hgood⟩ := s.dieRead_reads n w.toInt
  obtain ⟨ht, hfail, hrate⟩ := dieWord_fields w (s.dieFails n w.toInt)
  refine ⟨_, execDieSensorConversion_eq n w s, ?_⟩
  generalize s.dieRead n w.toInt = u at hword hgood ⊢
  obtain ⟨kgood, kword⟩ := u.keepsSensors_conversion
  generalize u.dieLimits.dieChanTrips.dieCentTrip.dieShow = v at kgood kword ⊢
  have hv := (kword n).trans hword
  refine ⟨?_, ?_, ?_, ?_⟩
  · rw [State.dieT, hv, ht]
  · rw [State.gfld, hv, hrate]
  · rw [State.dieFailed, State.gbit, State.gfld, hv, hfail]
    cases s.dieFails n w.toInt <;> rfl
  · exact (congrArg (fun g : Vector Nat 16 => g[n]) kgood).trans hgood

/-- A reading out of −55 to 150 °C fails its sensor (R443). -/
theorem State.dieFails_out (s : State) (n : Fin 16) {t : Int} (h : t < -220 ∨ 600 < t) :
    s.dieFails n t = true ∧ s.dieRun n t = 0 := by
  have hbad : s.dieBad n t = true := by
    unfold State.dieBad
    rcases h with h | h <;> simp [h]
  rw [State.dieFails, State.dieRun, hbad]
  exact ⟨rfl, rfl⟩

theorem State.dieBad_in (s : State) (n : Fin 16) {t : Int} (hlo : -220 ≤ t) (hhi : t ≤ 600)
    (h : s.die.seen.getLsbD n.val = false ∨ |t - s.dieT n.val| ≤ 80) : s.dieBad n t = false := by
  unfold State.dieBad
  rw [decide_eq_false (by omega), decide_eq_false (by omega)]
  rcases h with h | h
  · rw [h]
    rfl
  · rw [decide_eq_false (p := 80 < (t - s.dieT n.val).natAbs)]
    · exact Bool.and_false _
    · have := Int.natCast_natAbs (t - s.dieT n.val)
      omega

/-- Settles O50: the host's commands, the edges of PPS and a die reading, each by its lemma above. -/
theorem calendarAndDie : Obligations.CalendarAndDie := by
  unfold Obligations.CalendarAndDie
  intro s
  dsimp only
  refine ⟨fun k v hserves => ⟨fun hro hpend => ⟨?_, s.calSet_sets _ 1⟩, fun hro hpend => ?_⟩, fun h => if_pos h, fun hen =>
    ⟨fun n hlast hsoon => execPpsEdge_soon hen hlast hsoon, fun hlate => ?_, if_pos hen⟩, ppsError_spec, fun n w => ?_⟩
  · exact congrArg Host.Outcome.next (State.writeAlias_recorder hserves (by simp) hro
      ((s.writeRecBlock_cal _).trans (State.writeCalCtl_set v hpend)))
  · exact congrArg Host.Outcome.next (State.writeAlias_recorder hserves (by simp) hro
      ((s.writeRecBlock_cal _).trans (State.writeCalCtl_setpps v hpend)))
  · have hrun := execPpsEdge_accepted hen hlate
    generalize ppsError s.cal.ns = e at *
    have hat : (s.edgeAt e).cal.lastEdge = some s.time.refNs ∧ (s.edgeAt e).gget Reg.PPS_STAT = BitVec.ofInt 32 e ∧
        (s.edgeAt e).cal.good = s.cal.good := ⟨rfl, (State.gget_gput ..).trans (if_pos rfl), rfl⟩
    generalize s.edgeAt e = u at hat hrun
    obtain ⟨hlast, hstat, hgood⟩ := hat
    obtain ⟨klast, kstat⟩ := u.ppsLock_keeps e
    have hlost := fun h => u.ppsLock_lost (e := e) h
    have hlocked := fun h hg => u.ppsLock_locked (e := e) h hg
    generalize u.ppsLock e = x at *
    obtain ⟨jlast, jstat, jlock⟩ := x.edgeActs_keeps e
    refine ⟨_, hrun, jlast.trans (klast.trans hlast), jstat.trans (kstat.trans hstat), fun h => jlock.trans (hlost h),
      fun h hg => jlock.trans (hlocked h ?_)⟩
    rwa [hgood]
  · obtain ⟨t, hrun, hread, hrate, hfail, hgood⟩ := execDieSensorConversion_reads s n w
    refine ⟨t, hrun, hread, hrate, fun hout => ?_, fun hlo hhi hseen hwas => ?_, fun hlo hhi hnear hwas => ?_⟩
    · obtain ⟨hf, hr⟩ := s.dieFails_out n hout
      exact ⟨hfail.trans hf, hgood.trans hr⟩
    · have hbad := s.dieBad_in n hlo hhi (.inl hseen)
      rw [hfail, State.dieFails, hbad, hwas]
      rfl
    · have hbad := s.dieBad_in n hlo hhi (.inr hnear)
      rw [hfail, State.dieFails, State.dieRun, hbad, hwas]
      simp

end Sys2Proof.Machine
end

section
/-! SUPPORT. Fuses, the parameter store and per-channel resets (17_configuration_image.md R488, R501 to R505,
18_startup_reset_power.md R520, R522). (O53, O54) -/

namespace Sys2Proof.Machine

/-! ## The host's writes -/

theorem imgCommandRegs_rows : ∀ off ∈ [Reg.IMG_CTL, Reg.IMG_DATA, Reg.IMG_FUSE, Reg.PAR_CTL],
    (findRow globalRows off).isSome = true ∧ 0x5000 ≤ off ∧ off < 0x6000 ∧ off % 4 = 0 ∧ isMsix off = false := by
  decide +kernel

theorem State.writeAlias_image {s t : State} {k : Ctx} {off : Nat} {v : Word} (hserves : s.serves)
    (hoff : off ∈ [Reg.IMG_CTL, Reg.IMG_DATA, Reg.IMG_FUSE, Reg.PAR_CTL]) (hro : s.keepsRoG k off v)
    (hw : s.writeImgBlock off v = .inr t) : s.writeAlias k off v = t.answered := by
  obtain ⟨hrow, hlo, hhi, hal, hmsix⟩ := imgCommandRegs_rows off hoff
  exact State.writeAlias_ok hserves (by omega) hal hmsix hrow hro (State.globalWrite_image hlo hhi hw)

theorem State.writeImgBlock_fuse (s : State) (v : Word) : s.writeImgBlock Reg.IMG_FUSE v = s.writeImgFuse v := by
  unfold State.writeImgBlock
  rw [if_neg (by decide), if_neg (by decide), if_pos rfl]

theorem State.writeImgBlock_par (s : State) (v : Word) : s.writeImgBlock Reg.PAR_CTL v = s.writeParCtl v := by
  unfold State.writeImgBlock
  rw [if_neg (by decide), if_neg (by decide), if_neg (by decide), if_pos rfl]

/-! ## Fuses (R488) -/

/-- The command bits of a write of IMG_FUSE leave its slot and its key. -/
theorem fuseCommand_fields (v : Word) {c : Word} (h : c = 4 ∨ c = 8) :
    getField ((v &&& 0xFFFFFFF3) ||| c) Fld.IMG_FUSE_SLOT = getField v Fld.IMG_FUSE_SLOT ∧
    getField ((v &&& 0xFFFFFFF3) ||| c) Fld.IMG_FUSE_KEY = getField v Fld.IMG_FUSE_KEY ∧
    ((v &&& 0xFFFFFFF3) ||| c).getLsbD 2 = (c == 4) ∧ ((v &&& 0xFFFFFFF3) ||| c).getLsbD 3 = (c == 8) := by
  unfold getField
  refine ⟨congrArg BitVec.toNat (BitVec.eq_of_getLsbD_eq fun i hi => ?_),
    congrArg BitVec.toNat (BitVec.eq_of_getLsbD_eq fun i hi => ?_), ?_, ?_⟩
  · have hi2 : i < 2 := hi
    rcases h with rfl | rfl <;> interval_cases i <;> simp
  · have hi16 : i < 16 := hi
    rcases h with rfl | rfl <;> interval_cases i <;> simp
  · rcases h with rfl | rfl <;> simp
  · rcases h with rfl | rfl <;> simp

/-- A fuse command under way. -/
def State.fuseRuns (s : State) (j : Fin 4) (rev : Bool) : State :=
  ({ s with ldr := { s.ldr with fuse := some (j, rev) } } : State).gset Reg.IMG_KEY Fld.IMG_KEY_FBUSY 1

/-- The slot that a write of IMG_FUSE names. -/
def fuseSlot (w : Word) : Fin 4 := Fin.ofNat 4 (getField w Fld.IMG_FUSE_SLOT)

theorem State.writeImgFuse_prog {s : State} {w : Word} (hidle : s.ldr.fuse = none) (hkey : getField w Fld.IMG_FUSE_KEY = 0x4655)
    (hprog : w.getLsbD 2 = true) (hrev : w.getLsbD 3 = false) (hhash : s.store.fuses[fuseSlot w].hash = none) :
    s.writeImgFuse w = .inr (s.fuseRuns (fuseSlot w) false) := by
  unfold fuseSlot at hhash ⊢
  unfold State.writeImgFuse
  dsimp only
  rw [hkey, hprog, hrev, hidle, hhash]
  rfl

theorem State.writeImgFuse_revoke {s : State} {w : Word} (hidle : s.ldr.fuse = none)
    (hkey : getField w Fld.IMG_FUSE_KEY = 0x4655) (hprog : w.getLsbD 2 = false) (hrev : w.getLsbD 3 = true)
    (hhash : s.store.fuses[fuseSlot w].hash.isSome = true) (hother : s.otherKey (fuseSlot w) = true) :
    s.writeImgFuse w = .inr (s.fuseRuns (fuseSlot w) true) := by
  unfold fuseSlot at hhash hother ⊢
  unfold State.writeImgFuse
  dsimp only
  rw [hkey, hprog, hrev, hidle, hhash, hother]
  rfl

/-- A slot of the fuses. -/
def State.fuseAt (s : State) (j : Fin 4) : FuseSlot := s.store.fuses[j]

/-- A fuse command from the host, by its command bits. -/
theorem State.writeImgFuse_command {s : State} {v c : Word} (hc : c = 4 ∨ c = 8) (hidle : s.ldr.fuse = none)
    (hkey : getField v Fld.IMG_FUSE_KEY = 0x4655) (hprog : c = 4 → (s.fuseAt (fuseSlot v)).hash = none)
    (hrev : c = 8 → (s.fuseAt (fuseSlot v)).hash.isSome = true ∧ s.otherKey (fuseSlot v) = true) :
    s.writeImgFuse ((v &&& 0xFFFFFFF3) ||| c) = .inr (s.fuseRuns (fuseSlot v) (c == 8)) := by
  obtain ⟨hslot, hk, h2, h3⟩ := fuseCommand_fields v hc
  have hj : fuseSlot ((v &&& 0xFFFFFFF3) ||| c) = fuseSlot v := congrArg (Fin.ofNat 4) hslot
  generalize (v &&& 0xFFFFFFF3) ||| c = w at *
  rw [← hj] at hprog hrev ⊢
  rcases hc with rfl | rfl
  · exact State.writeImgFuse_prog hidle (hk.trans hkey) h2 h3 (hprog rfl)
  · obtain ⟨hhash, hother⟩ := hrev rfl
    exact State.writeImgFuse_revoke hidle (hk.trans hkey) h2 h3 hhash hother

/-- What a fuse command's end makes of its slot. -/
def State.fuseAfter (s : State) (j : Fin 4) (rev : Bool) : FuseSlot :=
  if rev then { s.store.fuses[j] with revoked := true } else { s.store.fuses[j] with hash := some s.stagedHash }

/-- A slot programmed or revoked, and no fuse command under way. -/
def State.fuseSet (s : State) (j : Fin 4) (rev : Bool) : State :=
  { s with store := { s.store with fuses := s.store.fuses.set j (s.fuseAfter j rev) }, ldr := { s.ldr with fuse := none } }

theorem execFuseOpDone_eq {s : State} {j : Fin 4} {rev : Bool} (h : s.ldr.fuse = some (j, rev)) :
    ∃ d, execFuseOpDone s = .next (((s.fuseSet j rev).showKeys.gset Reg.IMG_KEY Fld.IMG_KEY_FBUSY 0).record 0x15 0xF 3 1 d) := by
  unfold execFuseOpDone
  rw [h]
  exact ⟨_, rfl⟩

theorem execFuseOpDone_sets {s : State} {j : Fin 4} {rev : Bool} (h : s.ldr.fuse = some (j, rev)) :
    ∃ t, execFuseOpDone s = .next t ∧ t.ldr.fuse = none ∧ t.gbit Reg.IMG_KEY Fld.IMG_KEY_FBUSY = false ∧
      t.store.fuses[j] = s.fuseAfter j rev := by
  obtain ⟨d, hrun⟩ := execFuseOpDone_eq h
  have hset : (s.fuseSet j rev).ldr.fuse = none ∧ (s.fuseSet j rev).store.fuses[j] = s.fuseAfter j rev :=
    ⟨rfl, Vector.getElem_set_self ..⟩
  generalize s.fuseSet j rev = u at hset hrun
  have hshow : u.showKeys.ldr = u.ldr ∧ u.showKeys.store = u.store := ⟨rfl, rfl⟩
  generalize u.showKeys = w at hshow hrun
  have hw : (w.gset Reg.IMG_KEY Fld.IMG_KEY_FBUSY 0).ldr = w.ldr ∧ (w.gset Reg.IMG_KEY Fld.IMG_KEY_FBUSY 0).store = w.store ∧
      (w.gset Reg.IMG_KEY Fld.IMG_KEY_FBUSY 0).gbit Reg.IMG_KEY Fld.IMG_KEY_FBUSY = false :=
    ⟨rfl, rfl, State.gbit_gset_bit _ _ false (by decide) rfl⟩
  generalize w.gset Reg.IMG_KEY Fld.IMG_KEY_FBUSY 0 = x at hw hrun
  obtain ⟨-, hstore, hget⟩ := x.record_keeps 0x15 0xF 3 1 d
  have hldr := x.record_ldr 0x15 0xF 3 1 d
  generalize x.record 0x15 0xF 3 1 d = y at *
  obtain ⟨hwl, hws, hbusy⟩ := hw
  obtain ⟨hul, hus⟩ := hshow
  obtain ⟨hfuse, hslot⟩ := hset
  refine ⟨y, hrun, ?_, ?_, ?_⟩
  · rw [hldr, hwl, hul, hfuse]
  · exact (congrArg (fun w => getField w _ != 0) (hget Reg.IMG_KEY (by decide) (by decide))).trans hbusy
  · exact (congrArg (fun st : Store => st.fuses[j]) (hstore.trans (hws.trans hus))).trans hslot

/-! ## Saves (R504, R505) -/

theorem State.writeParCtl_saves {s : State} {v : Word} (hq : s.ldr.queued = []) (hm : v.extractLsb' 0 12 ≠ 0)
    (hmode : ∀ c : ChId, v.getLsbD c.val = true → (s.chan c).mode ≠ 11) :
    s.writeParCtl v = .inr (s.hostSave (v.extractLsb' 0 12)) := by
  unfold State.writeParCtl
  dsimp only
  rw [if_neg hm, hq, if_neg (by simp), if_neg]
  rw [List.any_eq_true]
  rintro ⟨c, -, hc⟩
  have hlt := c.isLt
  simp only [Bool.and_eq_true, decide_eq_true_eq, BitVec.getLsbD_extractLsb', Nat.zero_add] at hc
  exact hmode c hc.1.2 hc.2

/-- The fields of PAR_STAT that show neither the save that runs nor the one that waits. -/
def besideSaves (f : BitField) : Bool := (2 ≤ f.lo && f.lo + f.width ≤ 5) || 6 ≤ f.lo

theorem State.showSaves_frame (s : State) : s.showSaves.store = s.store ∧ s.showSaves.ldr = s.ldr ∧
    ∀ f, besideSaves f = true → s.showSaves.gfld Reg.PAR_STAT f = s.gfld Reg.PAR_STAT f := by
  refine ⟨rfl, rfl, fun f hf => ?_⟩
  unfold besideSaves at hf
  simp only [Bool.or_eq_true, Bool.and_eq_true, decide_eq_true_eq] at hf
  refine (State.gfld_gset_ne _ _ (.inr ?_)).trans (State.gfld_gset_ne _ _ (.inr ?_))
  · show 5 + 1 ≤ f.lo ∨ f.lo + f.width ≤ 5
    omega
  · show 0 + 2 ≤ f.lo ∨ f.lo + f.width ≤ 0
    omega

theorem State.nextSave_frame (s : State) : s.nextSave.store = s.store ∧ s.nextSave.ldr.save = s.ldr.queued.head? ∧
    ∀ f, besideSaves f = true → s.nextSave.gfld Reg.PAR_STAT f = s.gfld Reg.PAR_STAT f := by
  unfold State.nextSave
  cases hq : s.ldr.queued with
  | nil =>
    obtain ⟨hstore, hldr, hget⟩ := ({ s with ldr := { s.ldr with save := none } } : State).showSaves_frame
    exact ⟨hstore, congrArg Loader.save hldr, hget⟩
  | cons j t =>
    obtain ⟨hstore, hldr, hget⟩ := ({ s with ldr := { s.ldr with save := some j, queued := t } } : State).showSaves_frame
    exact ⟨hstore, congrArg Loader.save hldr, hget⟩

/-- A bank written. -/
def State.parPut (s : State) (b : Fin 2) (x : ParBank) : State := { s with store := { s.store with par := s.store.par.set b x } }

theorem State.parPut_frame (s : State) (b : Fin 2) (x : ParBank) : (s.parPut b x).ldr = s.ldr ∧
    (s.parPut b x).store.par[b] = x ∧ (∀ c, c ≠ b → (s.parPut b x).store.par[c] = s.store.par[c]) ∧
    ∀ o, (s.parPut b x).gget o = s.gget o :=
  ⟨rfl, Vector.getElem_set_self .., fun c hc => Vector.getElem_set_ne b.isLt c.isLt (fun e => hc (Fin.ext e.symm)), fun _ => rfl⟩

/-- A saved bank is committed, one generation on, and active (R504). -/
theorem State.commitSave_commits (s : State) (j : SaveJob) : (s.commitSave j).ldr = s.ldr ∧
    (s.commitSave j).gbit Reg.PAR_STAT Fld.PAR_STAT_VALID = true ∧
    (s.commitSave j).gfld Reg.PAR_STAT Fld.PAR_STAT_BANK = s.parTarget.val ∧
    ((s.commitSave j).store.par[s.parTarget]).commit = true ∧
    ∀ a, s.parActive = some a → ((s.commitSave j).store.par[s.parTarget]).gen = a.gen + 1 := by
  unfold State.commitSave
  extract_lets b old gen base recs saf x u w
  have hgen : ∀ a, s.parActive = some a → gen = a.gen + 1 := by
    intro a ha
    show (match s.parActive with | some a => a.gen | none => 0) + 1 = _
    rw [ha]
  obtain ⟨uldr, upar, -, -⟩ := s.parPut_frame b ⟨true, gen, recs, saf⟩
  have hu : u.ldr = s.ldr ∧ u.store.par[b] = ⟨true, gen, recs, saf⟩ := ⟨uldr, upar⟩
  clear_value u gen
  have hw : w.ldr = u.ldr ∧ w.store = u.store ∧ w.gbit Reg.PAR_STAT Fld.PAR_STAT_VALID = true ∧
      w.gfld Reg.PAR_STAT Fld.PAR_STAT_BANK = b.val := by
    refine ⟨rfl, rfl, State.gbit_gset_bit _ _ true (by decide) rfl, ?_⟩
    refine (State.gfld_gset_ne _ _ (.inr (by decide))).trans ((State.gfld_gset _ _ _ _ (by decide)).trans ?_)
    exact Nat.mod_eq_of_lt b.isLt
  clear_value w
  generalize recData [(0, 1, b.val), (4, 4, gen)] = d
  obtain ⟨-, hstore, hget⟩ := w.record_keeps 0x15 0xF 8 0 d
  have hldr := w.record_ldr 0x15 0xF 8 0 d
  generalize w.record 0x15 0xF 8 0 d = y at *
  obtain ⟨hwl, hws, hvalid, hbank⟩ := hw
  have hstat := hget Reg.PAR_STAT (by decide) (by decide)
  have hpar : y.store.par[b] = ⟨true, gen, recs, saf⟩ :=
    (congrArg (fun st : Store => st.par[b]) (hstore.trans hws)).trans hu.2
  refine ⟨hldr.trans (hwl.trans hu.1), (congrArg (fun w => getField w _ != 0) hstat).trans hvalid,
    (congrArg (getField · _) hstat).trans hbank, congrArg ParBank.commit hpar, fun a ha => ?_⟩
  exact (congrArg ParBank.gen hpar).trans (hgen a ha)

/-- A failed save leaves its bank not committed and the active one as it is (R505). -/
theorem State.failSave_fails (s : State) (j : SaveJob) {err : Nat} (herr : err < 4) : (s.failSave j err).ldr = s.ldr ∧
    ((s.failSave j err).store.par[s.parTarget]).commit = false ∧
    (s.failSave j err).gfld Reg.PAR_STAT Fld.PAR_STAT_BANK = s.gfld Reg.PAR_STAT Fld.PAR_STAT_BANK ∧
    (∀ b, b ≠ s.parTarget → (s.failSave j err).store.par[b] = s.store.par[b]) ∧
    (s.failSave j err).gfld Reg.PAR_STAT Fld.PAR_STAT_ERR = err := by
  unfold State.failSave
  extract_lets b x y u
  obtain ⟨uldr, upar, uother, uget⟩ := s.parPut_frame b { s.store.par[b] with commit := false }
  have hu : u.ldr = s.ldr ∧ u.store.par[b] = { s.store.par[b] with commit := false } ∧
    (∀ c, c ≠ b → u.store.par[c] = s.store.par[c]) ∧ ∀ o, u.gget o = s.gget o := ⟨uldr, upar, uother, uget⟩
  clear_value u
  generalize recData [(0, 1, err), (1, 2, j.mask)] = d
  have hw : (u.gset Reg.PAR_STAT Fld.PAR_STAT_ERR err).ldr = u.ldr ∧ (u.gset Reg.PAR_STAT Fld.PAR_STAT_ERR err).store = u.store ∧
      (u.gset Reg.PAR_STAT Fld.PAR_STAT_ERR err).gfld Reg.PAR_STAT Fld.PAR_STAT_ERR = err ∧
      (u.gset Reg.PAR_STAT Fld.PAR_STAT_ERR err).gfld Reg.PAR_STAT Fld.PAR_STAT_BANK =
        u.gfld Reg.PAR_STAT Fld.PAR_STAT_BANK :=
    ⟨rfl, rfl, (State.gfld_gset _ _ _ _ (by decide)).trans (Nat.mod_eq_of_lt herr), State.gfld_gset_ne _ _ (.inr (by decide))⟩
  generalize u.gset Reg.PAR_STAT Fld.PAR_STAT_ERR err = w at hw ⊢
  have hc : (w.countG Reg.IMG_CNT true true).ldr = w.ldr ∧ (w.countG Reg.IMG_CNT true true).store = w.store ∧
      (w.countG Reg.IMG_CNT true true).gget Reg.PAR_STAT = w.gget Reg.PAR_STAT := by
    have hr := w.reports_countG Reg.IMG_CNT true true
    refine ⟨by rw [hr.1]; rfl, by rw [hr.1]; rfl, ?_⟩
    exact (hr.gget _ (by decide) (by decide)).trans ((State.gget_gput ..).trans (if_neg (by decide)))
  generalize w.countG Reg.IMG_CNT true true = x at hc ⊢
  obtain ⟨-, hstore, hget⟩ := x.record_keeps 0x15 0xF 7 2 d
  have hldr := x.record_ldr 0x15 0xF 7 2 d
  generalize x.record 0x15 0xF 7 2 d = y at *
  obtain ⟨hul, hupar, huother, huget⟩ := hu
  obtain ⟨hwl, hws, hwerr, hwbank⟩ := hw
  obtain ⟨hxl, hxs, hxget⟩ := hc
  have hstat := (hget Reg.PAR_STAT (by decide) (by decide)).trans hxget
  have hys := hstore.trans (hxs.trans hws)
  refine ⟨hldr.trans (hxl.trans (hwl.trans hul)), ?_, ?_, fun c hne => ?_, (congrArg (getField · _) hstat).trans hwerr⟩
  · exact congrArg ParBank.commit ((congrArg (fun st : Store => st.par[b]) hys).trans hupar)
  · exact (congrArg (getField · _) hstat).trans (hwbank.trans (congrArg (getField · _) (huget _)))
  · exact (congrArg (fun st : Store => st.par[c]) hys).trans (huother c hne)

/-- What the end of a save shows, and that the next one starts. -/
theorem execParamSaveDone_ok {s : State} {j : SaveJob} (h : s.ldr.save = some j) (hdue : j.due = 0) :
    execParamSaveDone .ok s = .next (s.commitSave j).nextSave := by
  unfold execParamSaveDone
  rw [h]
  dsimp only
  rw [hdue]
  rfl

theorem execParamSaveDone_fails {s : State} {j : SaveJob} {res : SaveObs} (h : s.ldr.save = some j) (hdue : j.due = 0)
    (hres : res ≠ .ok) : execParamSaveDone res s = .next (s.failSave j (if res = .noResponse then 1 else 2)).nextSave := by
  unfold execParamSaveDone
  rw [h]
  dsimp only
  rw [hdue]
  cases res with
  | ok => exact absurd rfl hres
  | noResponse => rfl
  | mismatch => rfl

/-! ## Per-channel resets (R520, R522) -/

/-- A fold of which one element alone has an effect. -/
theorem foldl_only {α β : Type} {f : β → α → β} {a : α} (hother : ∀ b c, c ≠ a → f b c = b) {l : List α} (hnodup : l.Nodup)
    (hmem : a ∈ l) (b : β) : l.foldl f b = f b a := by
  have hnone : ∀ (l : List α) (b : β), a ∉ l → l.foldl f b = b := fun l => by
    induction l with
    | nil => exact fun _ _ => rfl
    | cons c l ih =>
      intro b h
      rw [List.mem_cons, not_or] at h
      rw [List.foldl_cons, hother b c (Ne.symm h.1), ih b h.2]
  induction l generalizing b with
  | nil => exact absurd hmem (List.not_mem_nil)
  | cons c l ih =>
    rw [List.nodup_cons] at hnodup
    rw [List.foldl_cons]
    by_cases hc : c = a
    · rw [hc] at hnodup ⊢
      exact hnone l _ hnodup.1
    · rw [hother b c hc]
      exact ih hnodup.2 ((List.mem_cons.1 hmem).resolve_left (Ne.symm hc)) b

/-- A write of CHRST that names one channel, accepted. -/
theorem State.writeChrst_resets {s : State} {k : Ctx} {ch : ChId} {v : Word} (hacc : s.resetAccepted ch v = true)
    (honly : ∀ c : ChId, v.getLsbD c.val = true → c = ch) (hbit : v.getLsbD ch.val = true) :
    s.writeChrst k v = (s.resetChan ch, false) := by
  unfold State.writeChrst
  refine (foldl_only (fun r c hc => if_pos ?_) (List.nodup_finRange 12) (List.mem_finRange ch) _).trans ?_
  · cases hv : v.getLsbD c.val with
    | true => exact absurd (honly c hv) hc
    | false => rfl
  · dsimp only
    rw [hbit, hacc]
    rfl

theorem chrst_row : (findRow globalRows Reg.CHRST).isSome = true := by decide +kernel

theorem State.writeAlias_chrst {s t : State} {k : Ctx} {v : Word} (hserves : s.serves) (hro : s.keepsRoG k Reg.CHRST v)
    (hw : s.writeChrst k v = (t, false)) : s.writeAlias k Reg.CHRST v = t.answered := by
  refine State.writeAlias_ok hserves (by decide) (by decide) (by decide) chrst_row hro ?_
  unfold State.globalWrite
  rw [if_pos rfl, hw]

/-- A reset's registers: what it keeps, and the reset values (R520). -/
theorem Chan.resetBase_get (c : Chan) (o : Nat) : c.resetBase.get o = if keptByReset o then c.get o else chanReset o :=
  sget_filter chanReset keptByReset c.regs o

theorem Chan.resetBase_mode (c : Chan) : c.resetBase.mode = 0 := by
  unfold Chan.mode Chan.fld
  rw [Chan.resetBase_get, if_neg (by decide +kernel)]
  decide +kernel

/-- Settles O54: fuses, saves and resets, each by its lemma above. -/
theorem fusesParametersResets : Obligations.FusesParametersResets := by
  unfold Obligations.FusesParametersResets
  intro s k ch v
  refine ⟨?_, fun j rev h => execFuseOpDone_sets h, fun hserves hro hq hmode hm => ?_,
    fun j hsave hdue => ⟨?_, fun res hres => ?_⟩, fun hserves hro hacc honly hbit => ?_, fun c o => ?_⟩
  · dsimp only
    exact fun hserves hidle hkey => ⟨fun hro hhash => congrArg Host.Outcome.next (State.writeAlias_image hserves (by simp) hro
      ((s.writeImgBlock_fuse _).trans (State.writeImgFuse_command (.inl rfl) hidle hkey (fun _ => hhash)
        (fun h => absurd h (by decide))))),
      fun hro hhash hother => congrArg Host.Outcome.next (State.writeAlias_image hserves (by simp) hro
        ((s.writeImgBlock_fuse _).trans
          (State.writeImgFuse_command (.inr rfl) hidle hkey (fun h => absurd h (by decide)) (fun _ => ⟨hhash, hother⟩))))⟩
  · exact congrArg Host.Outcome.next (State.writeAlias_image hserves (by simp) hro
      ((s.writeImgBlock_par _).trans (State.writeParCtl_saves hq hm hmode)))
  · obtain ⟨hldr, hvalid, hbank, hcommit, hgen⟩ := s.commitSave_commits j
    have hrun := execParamSaveDone_ok hsave hdue
    generalize s.commitSave j = u at *
    obtain ⟨hstore, hnext, hget⟩ := u.nextSave_frame
    refine ⟨_, hrun, (congrArg (· != 0) (hget _ (by decide))).trans hvalid, (hget _ (by decide)).trans hbank, ?_,
      fun a ha => ?_, hnext.trans (congrArg (fun l : Loader => l.queued.head?) hldr)⟩
    · exact (congrArg (fun st : Store => (st.par[s.parTarget]).commit) hstore).trans hcommit
    · exact (congrArg (fun st : Store => (st.par[s.parTarget]).gen) hstore).trans (hgen a ha)
  · have herr : (if res = .noResponse then 1 else 2) < 4 := by split <;> decide
    obtain ⟨hldr, hcommit, hbank, hother, hcode⟩ := s.failSave_fails j herr
    have hrun := execParamSaveDone_fails hsave hdue hres
    generalize s.failSave j (if res = .noResponse then 1 else 2) = u at *
    obtain ⟨hstore, -, hget⟩ := u.nextSave_frame
    refine ⟨_, hrun, ?_, (hget _ (by decide)).trans hbank, fun b hb => ?_, (hget _ (by decide)).trans hcode⟩
    · exact (congrArg (fun st : Store => (st.par[s.parTarget]).commit) hstore).trans hcommit
    · exact (congrArg (fun st : Store => st.par[b]) hstore).trans (hother b hb)
  · exact congrArg Host.Outcome.next (State.writeAlias_chrst hserves hro
      (State.writeChrst_resets (hacc ch hbit) honly hbit))
  · exact ⟨c.resetBase_mode, rfl, rfl, rfl, rfl, rfl, fun h => (c.resetBase_get o).trans (if_pos h),
      fun h => (c.resetBase_get o).trans (if_neg (by simp [h]))⟩

end Sys2Proof.Machine
end

section
/-! SUPPORT. The image loader's results (17_configuration_image.md R487, R494, R497). (O53) -/

namespace Sys2Proof.Machine

/-! ## Operations that end -/

/-- The loader between operations. -/
def State.loaderIdle (s : State) : State := { s with ldr := { s.ldr with op := 0, dma := false, got := [], retries := 0 } }

theorem State.loaderIdle_imgState (s : State) : s.loaderIdle.imgState = s.imgState := rfl

theorem State.imgDone_eq (s : State) (n err : Nat) :
    s.imgDone n err = ((s.setImgState n false).gset Reg.IMG_STAT Fld.IMG_STAT_ERR err).loaderIdle := rfl

theorem State.setImgState_imgState (s : State) {n : Nat} (busy : Bool) (h : n < 16) : (s.setImgState n busy).imgState = n :=
  (State.gfld_gset_ne _ _ (.inr (by decide))).trans ((State.gfld_gset _ _ _ _ (by decide)).trans (Nat.mod_eq_of_lt h))

theorem State.imgDone_imgState (s : State) {n : Nat} (err : Nat) (h : n < 16) : (s.imgDone n err).imgState = n := by
  rw [State.imgDone_eq, State.loaderIdle_imgState]
  exact (State.gfld_gset_ne _ _ (.inr (by decide))).trans (s.setImgState_imgState false h)

/-- Nothing is staged. -/
def State.unstaged (s : State) : State := { s with ldr := { s.ldr with staged := none } }

theorem State.unstaged_imgState (s : State) : s.unstaged.imgState = s.imgState := rfl

/-- An operation that fails rests the loader. -/
theorem State.imgFails_rests (s : State) (err : Nat) : (s.imgFails err).imgState = 0 := by
  have hdone : ((s.imgDone 0 err).gset Reg.IMG_STAT Fld.IMG_STAT_STGOK 0).imgState = 0 :=
    (State.gfld_gset_ne _ _ (.inr (by decide))).trans (s.imgDone_imgState err (by decide))
  show (((s.imgDone 0 err).gset Reg.IMG_STAT Fld.IMG_STAT_STGOK 0).unstaged.record 0x15 0xF 9 2
    (recData [(0, 1, s.ldr.op), (1, 1, err)])).imgState = 0
  generalize (s.imgDone 0 err).gset Reg.IMG_STAT Fld.IMG_STAT_STGOK 0 = u at hdone ⊢
  generalize recData [(0, 1, s.ldr.op), (1, 1, err)] = d
  rw [← u.unstaged_imgState] at hdone
  generalize u.unstaged = w at hdone ⊢
  obtain ⟨-, -, hget⟩ := w.record_keeps 0x15 0xF 9 2 d
  exact (congrArg (getField · Fld.IMG_STAT_STATE) (hget Reg.IMG_STAT (by decide) (by decide))).trans hdone

/-- While IMAGE_OK is 0, no image runs, and a staged section that verifies fails all the same (R494, log 77). -/
theorem State.stageVerified_noImage {s : State} {img : ImageView} (hop : s.ldr.op ≠ 2) (herr : s.verifyErr img = 0)
    (hok : s.gbit Reg.GSTAT Fld.GSTAT_IMAGE_OK = false) : s.stageVerified img = s.imgFails 6 := by
  unfold State.stageVerified
  dsimp only
  rw [if_neg hop, herr, if_neg (by decide), if_pos (by rw [hok]; rfl)]

theorem execImageVerifyDone_staged {s : State} {found : ImageObs} (hst : s.imgState = 1) (hdel : s.delivered = true) :
    execImageVerifyDone found s = .next (s.stageVerified (s.imageFound found)) := by
  unfold execImageVerifyDone
  dsimp only
  rw [if_neg (by omega), if_pos (by simp [hst, hdel])]

/-! ## A staged image that verifies while no image runs -/

/-- An image that stages channel 0, with an empty section. Its signature is by the secret key 7 with the nonce 11; the
digests and the signature were computed outside the model (FIPS 180-4, FIPS 186-5). The digest of its global section is 0. -/
def stagedImage : List Word :=
  [0x46414c43, 0x5c120001, 0x1000, 0, 0, 0, 0x1000, 0, 0x1000, 0, 0x10000] ++ List.replicate 41 0 ++
  [0x42c4b0e3, 0x141cfc98, 0xc8f4fb9a, 0x24b96f99, 0xe441ae27, 0x4c939b64, 0x1b9995a4, 0x55b85278] ++ List.replicate 88 0 ++
  [0x6f3b538e, 0x467bbfa0, 0x6630bb25, 0x60fb017c, 0xb8f8f97e, 0x5bef0fa8, 0x70280630, 0xa3b28731,
    0xbd1deb73, 0x361833e0, 0x839f066d, 0x90f5a6, 0x3336c753, 0x211b04cb, 0x861a5ec5, 0xb400f4c1] ++ List.replicate 28 0 ++
  [0x74bc21d1, 0x433391d3, 0x255048bf, 0x16742ed0, 0xb0c21cda, 0x638379d, 0x883b4c59, 0x3ed113b7,
    0x4be06d73, 0x938f33a3, 0x7b8d6a98, 0x9a6821be, 0xee5bea84, 0x46ee29d2, 0x90fa2748, 0xc26a4b02] ++ List.replicate 816 0

/-- The loader has read it by DMA, with the section's contents. -/
def stagedObs : ImageObs :=
  ⟨stagedImage, [], [(0, ⟨0, 0, [], 0, ⟨[], [], [], []⟩, ⟨[], [], [], []⟩, [], List.replicate 16 31, false, [], [], 0⟩)]⟩

/-- A section is staged after a full load of an image with the same global digest, whose run has ended: IMAGE_OK is 0. -/
def stagingUnrun : State :=
  let s := (State.reset.gput Reg.IMG_LEN 0x1000).gset Reg.IMG_STAT Fld.IMG_STAT_STATE 1
  let key : FuseSlot := ⟨some 0x90d419e0703142c79ffc0ba1c01843b35d76fe8b24fdaf605a44c048e3f03822, false⟩
  { s with
    ldr := { s.ldr with op := 1, dma := true, image := some (imageView [] none ⟨[], [], []⟩) }
    store := { s.store with fuses := s.store.fuses.set 0 key } }

theorem stagingUnrun_stages : stagingUnrun.delivered = true ∧ stagingUnrun.imgState = 1 ∧
    stagingUnrun.gfld Reg.IMG_STAT Fld.IMG_STAT_STGCH = 0 ∧ stagingUnrun.gbit Reg.GSTAT Fld.GSTAT_IMAGE_OK = false := by
  decide +kernel

/-- The image passes every check of R487, and it has a section for the staged channel. -/
theorem stagingUnrun_verifies : stagingUnrun.verifyErr (stagingUnrun.imageFound stagedObs) = 0 ∧
    (imageView [] none ⟨[], [], []⟩).gdigest = (stagingUnrun.imageFound stagedObs).gdigest ∧
    ((stagingUnrun.imageFound stagedObs).sections.find? (fun x => x.1.val == 0)).isSome = true := by
  decide +kernel

/-- Refutes O53: IMAGE_OK is 0 in `stagingUnrun`, so the section staged for channel 0 fails with ERR 6 and the loader rests,
where the statement has the section held in state 2. -/
theorem not_images : ¬ Obligations.Images := by
  unfold Obligations.Images
  intro h
  obtain ⟨hdel, hst, hch, hok⟩ := stagingUnrun_stages
  obtain ⟨herr, hdigest, hfind⟩ := stagingUnrun_verifies
  have hop : stagingUnrun.ldr.op = 1 := rfl
  obtain ⟨-, -, hverify, -⟩ := h stagingUnrun 0 0
  obtain ⟨-, hstaged, -⟩ := hverify stagedObs hdel
  rw [hch] at hstaged
  obtain ⟨x, hx⟩ := Option.isSome_iff_exists.1 hfind
  obtain ⟨t, hrun, ht, -⟩ := hstaged _ x hst hop herr rfl hdigest hx
  have hfails : exec (.imageVerifyDone stagedObs) stagingUnrun = .next (stagingUnrun.imgFails 6) :=
    (execImageVerifyDone_staged hst hdel).trans
      (congrArg Host.Outcome.next (State.stageVerified_noImage (by rw [hop]; decide) herr hok))
  have hsame : stagingUnrun.imgFails 6 = t := Host.Outcome.next.inj (hfails.symm.trans hrun)
  rw [← hsame, State.imgFails_rests] at ht
  exact absurd ht (by decide)

end Sys2Proof.Machine
end

section
/-! SUPPORT. Groups (16_host_interface.md R471 to R474, R483): their commands, staged writes and end. (O52) -/

namespace Sys2Proof.Machine

/-! ## The host's commands -/

theorem hostCommandRegs_rows : ∀ off ∈ [Reg.GRP_CTL, Reg.GRP_GO, Reg.MIR_CTL],
    (findRow globalRows off).isSome = true ∧ 0x200 ≤ off ∧ off < 0x800 ∧ off % 4 = 0 ∧ isMsix off = false := by
  decide +kernel

theorem State.writeAlias_hostBlock {s t : State} {k : Ctx} {off : Nat} {v : Word} (hserves : s.serves)
    (hoff : off ∈ [Reg.GRP_CTL, Reg.GRP_GO, Reg.MIR_CTL]) (hro : s.keepsRoG k off v)
    (hw : s.writeHostBlock k off v = (t, false)) : s.writeAlias k off v = t.answered := by
  obtain ⟨hrow, hlo, hhi, hal, hmsix⟩ := hostCommandRegs_rows off hoff
  exact State.writeAlias_ok hserves (by omega) hal hmsix hrow hro (State.globalWrite_host hlo hhi hw)

theorem State.writeHostBlock_grpCtl (s : State) (k : Ctx) (v : Word) : s.writeHostBlock k Reg.GRP_CTL v = s.writeGrpCtl k v := by
  unfold State.writeHostBlock
  rw [if_neg (by decide), if_pos rfl]

theorem State.writeHostBlock_grpGo (s : State) (k : Ctx) (v : Word) : s.writeHostBlock k Reg.GRP_GO v = s.writeGrpGo k v := by
  unfold State.writeHostBlock
  rw [if_neg (by decide), if_neg (by decide), if_pos rfl]

theorem State.writeHostBlock_mirCtl (s : State) (k : Ctx) (v : Word) :
    s.writeHostBlock k Reg.MIR_CTL v = (s.writeMirCtl v, false) := by
  unfold State.writeHostBlock
  rw [if_neg (by decide), if_neg (by decide), if_neg (by decide), if_pos rfl]

/-! ## OPEN, ABORT, GO and the end (R471, R473, R474, R483) -/

theorem State.writeGrpCtl_open {s : State} {k : Ctx} (v : Word) (hopen : s.grpOpen = false)
    (hpend : s.gbit Reg.GRP_STAT Fld.GRP_STAT_PEND = false) :
    s.writeGrpCtl k ((v &&& 0xFFFFFFFC) ||| 1) = (s.openGroup k, false) := by
  obtain ⟨hset, habort, -⟩ := calCommand_bits v
  unfold State.writeGrpCtl
  rw [hset, habort, hopen, hpend]
  rfl

theorem State.writeGrpCtl_abort {s : State} {k : Ctx} (v : Word) (howner : s.grpOwner k = true) :
    s.writeGrpCtl k ((v &&& 0xFFFFFFFC) ||| 2) = (s.discardGroup, false) := by
  obtain ⟨-, -, hset, habort⟩ := calCommand_bits v
  unfold State.writeGrpCtl
  rw [hset, habort]
  exact if_pos howner

/-- GRP_STAT of a group that opens for a context. -/
def openStat (w : Word) (k : Ctx) : Word :=
  setField (setField (setField w Fld.GRP_STAT_OPEN 1) Fld.GRP_STAT_OWNER k.val) Fld.GRP_STAT_SREJ 0

theorem openStat_fields (w : Word) (k : Ctx) : getField (openStat w k) Fld.GRP_STAT_OPEN = 1 ∧
    getField (openStat w k) Fld.GRP_STAT_OWNER = k.val ∧ getField (openStat w k) Fld.GRP_STAT_SREJ = 0 := by
  unfold openStat
  refine ⟨?_, ?_, getField_setField _ _ _ (by decide)⟩
  · rw [getField_setField_ne _ _ _ _ (by decide), getField_setField_ne _ _ _ _ (by decide), getField_setField _ _ _ (by decide)]
    rfl
  · rw [getField_setField_ne _ _ _ _ (by decide), getField_setField _ _ _ (by decide)]
    exact Nat.mod_eq_of_lt k.isLt

/-- A group that opens is its context's, with nothing staged and no rejection (R471). -/
theorem State.openGroup_opens (s : State) (k : Ctx) : (s.openGroup k).grpOwner k = true ∧ (s.openGroup k).grp.staged = [] ∧
    (s.openGroup k).gbit Reg.GRP_STAT Fld.GRP_STAT_SREJ = false := by
  have hstat : (s.openGroup k).gget Reg.GRP_STAT = openStat (s.gget Reg.GRP_STAT) k :=
    (State.gget_gput ..).trans ((if_neg (by decide)).trans ((State.gget_gput ..).trans (if_pos rfl)))
  obtain ⟨hopen, howner, hrej⟩ := openStat_fields (s.gget Reg.GRP_STAT) k
  refine ⟨?_, rfl, ?_⟩
  · simp only [State.grpOwner, State.grpOpen, State.gbit, State.gfld, hstat, hopen, howner]
    rfl
  · simp only [State.gbit, State.gfld, hstat, hrej]
    rfl

theorem State.discardGroup_closed {s : State} {k : Ctx} (howner : s.grpOwner k = true) : s.discardGroup.grpOpen = false := by
  have hopen : s.grpOpen = true := (Bool.and_eq_true_iff.1 howner).1
  unfold State.discardGroup
  rw [if_pos hopen]
  exact State.gbit_gset_bit _ _ false (by decide) rfl

/-- GRP_STAT of a group that has ended. -/
def doneStat (w : Word) : Word :=
  setField (setField (setField w Fld.GRP_STAT_OPEN 0) Fld.GRP_STAT_PEND 0) Fld.GRP_STAT_DONE 1

theorem doneStat_fields (w : Word) : getField (doneStat w) Fld.GRP_STAT_OPEN = 0 ∧
    getField (doneStat w) Fld.GRP_STAT_PEND = 0 ∧ getField (doneStat w) Fld.GRP_STAT_DONE = 1 := by
  unfold doneStat
  refine ⟨?_, ?_, getField_setField _ _ _ (by decide)⟩
  · rw [getField_setField_ne _ _ _ _ (by decide), getField_setField_ne _ _ _ _ (by decide), getField_setField _ _ _ (by decide)]
    rfl
  · rw [getField_setField_ne _ _ _ _ (by decide), getField_setField _ _ _ (by decide)]
    rfl

/-- The end of a group: its staging gone, DONE, the result as it is (R474). -/
theorem State.groupComplete_ends (s : State) : s.groupComplete.grpOpen = false ∧
    s.groupComplete.gbit Reg.GRP_STAT Fld.GRP_STAT_DONE = true ∧ s.groupComplete.gbit Reg.GRP_STAT Fld.GRP_STAT_PEND = false ∧
    s.groupComplete.gget Reg.GRP_RESULT = s.gget Reg.GRP_RESULT ∧ s.groupComplete.grp.staged = [] := by
  have hget : ∀ o, o ≠ Reg.INT_STAT → s.groupComplete.gget o =
      if o = Reg.GRP_STAT then doneStat (s.gget Reg.GRP_STAT) else s.gget o := fun o ho =>
    (State.irq_gget _ _ _ ho).trans (State.gget_gput ..)
  have hstat := (hget Reg.GRP_STAT (by decide)).trans (if_pos rfl)
  obtain ⟨hopen, hpend, hdone⟩ := doneStat_fields (s.gget Reg.GRP_STAT)
  refine ⟨?_, ?_, ?_, (hget Reg.GRP_RESULT (by decide)).trans (if_neg (by decide)), congrArg Group.staged (State.irq_grp ..)⟩
  · simp only [State.grpOpen, State.gbit, State.gfld, hstat, hopen]
    rfl
  · simp only [State.gbit, State.gfld, hstat, hdone]
    rfl
  · simp only [State.gbit, State.gfld, hstat, hpend]
    rfl

/-- GO on an open group, with a time at most 60 s ahead (R473). -/
theorem State.writeGrpGo_go {s : State} {k : Ctx} (v : Word) (howner : s.grpOwner k = true) (hdelay : s.groupDelay ≤ 60000000000) :
    s.writeGrpGo k (v ||| 1) = (if s.gbit Reg.GRP_STAT Fld.GRP_STAT_SREJ then (s.gput Reg.GRP_RESULT 0).groupComplete else
      ({ s with grp := { s.grp with
        commitAt := some (s.time.refNs + s.groupDelay.toNat), waiting := BitVec.ofNat 12 s.grpMembers } } : State).gput Reg.GRP_STAT
          (setField (setField (s.gget Reg.GRP_STAT) Fld.GRP_STAT_OPEN 0) Fld.GRP_STAT_PEND 1), false) := by
  unfold State.writeGrpGo
  rw [getLsbD_or_one, if_neg (by decide), if_neg (by simp [howner]; omega)]
  split <;> rfl

/-- A committed group: PEND, no longer open (R473). -/
theorem groupCommitted_fields (w : Word) :
    getField (setField (setField w Fld.GRP_STAT_OPEN 0) Fld.GRP_STAT_PEND 1) Fld.GRP_STAT_OPEN = 0 ∧
    getField (setField (setField w Fld.GRP_STAT_OPEN 0) Fld.GRP_STAT_PEND 1) Fld.GRP_STAT_PEND = 1 := by
  refine ⟨?_, getField_setField _ _ _ (by decide)⟩
  rw [getField_setField_ne _ _ _ _ (by decide), getField_setField _ _ _ (by decide)]
  rfl

/-! ## Staged writes (R471, R472) -/

/-- A register that waits for its boundary does nothing on arrival, whoever writes it. -/
theorem waitsForBoundary_plain {off : Nat} (h : waitsForBoundary off = true) :
    off ∉ [Reg.PLL_RAMP, Reg.PLL_LEVEL, Reg.SDI_CHCTL, Reg.PLL_CTL] ∧ plainAtOnce off = false ∧ capCtlOf off = none ∧
    (∀ i, sdiSlot off ≠ some (i, 0x14)) ∧ ∀ r, findRow chanRows off = some r → (r.rw = 0 → r.rwl ≠ 0) ∧
      ∀ (s : State) (ch : ChId) (v : Word), s.stickyWrite ch r off v = s := by
  unfold waitsForBoundary at h
  cases hrow : findRow chanRows off with
  | none => simp [hrow] at h
  | some r =>
    simp only [hrow, Bool.and_eq_true, Bool.not_eq_true', decide_eq_true_eq, beq_iff_eq] at h
    obtain ⟨⟨⟨⟨⟨⟨⟨⟨⟨⟨-, -⟩, -⟩, -⟩, hfields⟩, hw1c⟩, hrws⟩, hplain⟩, hcmd⟩, hport⟩, hlist⟩ := h
    simp only [commandReg, Bool.or_eq_false_iff, decide_eq_false_iff_not] at hcmd
    simp only [List.contains_eq_mem, List.mem_cons, List.not_mem_nil, or_false, decide_eq_false_iff_not, not_or] at hlist
    obtain ⟨-, -, -, hctl, hsk, hramp, hlevel, hlaw⟩ := hlist
    simp only [isPort, Bool.or_eq_false_iff, decide_eq_false_iff_not] at hport
    refine ⟨by simp [hramp, hlevel, hsk, hctl], hplain, Option.isNone_iff_eq_none.1 (by simpa using hcmd.2), fun i hi => ?_, ?_⟩
    · rw [hi] at hport
      simp at hport
    · rintro _ ⟨⟩
      refine ⟨fun hrw hrwl => by simp [hrw, hrwl] at hfields, fun s ch v => ?_⟩
      simp [State.stickyWrite, hlaw, hw1c, hrws]

theorem Chan.arriving_plain (c : Chan) {off : Nat} (v : Word) (src : WriteSrc) (h : waitsForBoundary off = true) :
    c.arriving off v src none = ⟨off, v, src, none, []⟩ := by
  obtain ⟨hlist, -⟩ := waitsForBoundary_plain h
  simp only [List.mem_cons, not_or] at hlist
  obtain ⟨hramp, hlevel, -⟩ := hlist
  simp [Chan.arriving, hramp, hlevel]

theorem State.stageWrite_stages {s : State} {k : Ctx} {ch : ChId} {off : Nat} {v : Word} (howner : s.grpOwner k = true)
    (hwait : waitsForBoundary off = true) (hlost : (s.chan ch).clockLost = false)
    (hpass : s.stagePasses ch off v (s.grp.staged.filterMap fun w => if w.1 = ch then some w.2 else none) = true) :
    s.stageWrite k ch off v =
      ({ s with grp := { s.grp with staged := s.grp.staged ++ [(ch, ⟨off, v, .group k, none, []⟩)] } }, .ok) := by
  obtain ⟨-, -, -, -, hports⟩ := exists_row_of_waitsForBoundary hwait
  simp only [List.mem_cons, not_or] at hports
  obtain ⟨-, -, -, hcdat, -⟩ := hports
  unfold State.stageWrite
  dsimp only
  rw [if_neg (by simp [howner]), if_neg (by simp [hpass]), if_neg (by simp [hlost]), if_neg hcdat, if_neg hcdat,
    Chan.arriving_plain _ v _ hwait]

theorem State.stageWrite_rejects {s : State} {k : Ctx} {ch : ChId} {off : Nat} {v : Word} (howner : s.grpOwner k = true)
    (hpass : s.stagePasses ch off v (s.grp.staged.filterMap fun w => if w.1 = ch then some w.2 else none) = false) :
    s.stageWrite k ch off v = (s.gset Reg.GRP_STAT Fld.GRP_STAT_SREJ 1, .bad) := by
  unfold State.stageWrite
  dsimp only
  rw [if_neg (by simp [howner]), if_pos (by simp [hpass])]

/-- A write with STAGE = 1 is the group's. -/
theorem State.writeWindow_staged {s t : State} {k : Ctx} {ch : ChId} {off : Nat} {v : Word} (hserves : s.serves)
    (hsel : s.selected k = some ch) (hmode : (s.chan ch).mode ≠ 11)
    (hstage : getField s.host.ctxs[k].chsel Fld.CTX_CHSEL_STAGE = 1) (hwait : waitsForBoundary off = true)
    (hcap : s.capAbsent k off = false) (hro : s.keepsRo k ch off v) :
    (s.stageWrite k ch off v = (t, .ok) → s.writeWindow k off v = t.answered) ∧
    (s.stageWrite k ch off v = (t, .bad) → s.writeWindow k off v = (t.violation k 8 (windowAddr k off) true).answered) := by
  obtain ⟨⟨r, hrow, -⟩, hal, hlo, hhi, -⟩ := exists_row_of_waitsForBoundary hwait
  rw [State.writeWindow_eq v hserves hlo (by omega) hal (by simp [hrow]) hcap]
  unfold State.keepsRo at hro
  unfold State.writeChan
  rw [hsel]
  dsimp only
  rw [if_neg hmode, if_pos hstage, hro]
  refine ⟨fun h => ?_, fun h => ?_⟩
  · rw [h]
    rfl
  · rw [h]
    rfl

end Sys2Proof.Machine
end

section
/-! SUPPORT. Write mirroring (16_host_interface.md R475 to R477): packets received, answered, lost and sent again. (O52) -/

namespace Sys2Proof.Machine

/-! ## A packet received (R475, R476) -/

/-- An accepted write that waits, whoever makes it, joins the queue. -/
theorem State.fieldWrite_waits {s : State} {ch : ChId} {off : Nat} {v : Word} {src : WriteSrc} {r : RegRow}
    (hrow : findRow chanRows off = some r) (hwait : waitsForBoundary off = true) (hlost : (s.chan ch).clockLost = false)
    (htick : (s.chan ch).ticking = true) (hcause : s.arrivalCause ch off v = none) : s.fieldWrite ch r off v src =
      (s.onChan ch fun c => { c with writes := c.writes ++ [⟨off, v, src, none, []⟩] }, .ok) := by
  obtain ⟨hlist, hplain, hcap, hsdi, hrows⟩ := waitsForBoundary_plain hwait
  obtain ⟨hfields, hsticky⟩ := hrows r hrow
  simp only [List.mem_cons, not_or, List.not_mem_nil, not_false_eq_true, and_true] at hlist
  obtain ⟨-, -, hskarm, hctl⟩ := hlist
  have htake : s.takeWrite ch off v src = s.onChan ch fun c => { c with writes := c.writes ++ [⟨off, v, src, none, []⟩] } := by
    unfold State.takeWrite
    rw [if_neg (by simp [hplain]), if_neg hctl, hcap]
    split
    · next h => cases h
    · next h => exact absurd h (hsdi _)
    · rw [State.arrivalEffect_other s ch v hskarm, Chan.arriving_plain _ v src hwait, State.enqueueWrite_ticking _ htick]
  unfold State.fieldWrite
  rw [hcause]
  dsimp only
  rw [hsticky, htake, if_neg (by simp only [Bool.and_eq_true, decide_eq_true_eq]; exact fun h => hfields h.1.1 h.1.2),
    if_neg (by simp [hlost])]

theorem execMirrorWriteReceive_elsewhere {s : State} {p : MirWrite} (hcoef : p.coef = none) (hmir : mirrored p.off.toNat = true)
    (hmode : (s.chan p.ch).mode ≠ 8) : execMirrorWriteReceive p s = .next (s.mirrorReply p.seq false 3) := by
  unfold execMirrorWriteReceive
  rw [if_neg (by simp [hcoef, hmir]), if_pos (by simp [hmode])]

theorem execMirrorWriteReceive_queues {s : State} {p : MirWrite} (hcoef : p.coef = none) (hmir : mirrored p.off.toNat = true)
    (hmode : (s.chan p.ch).mode = 8) (hwait : waitsForBoundary p.off.toNat = true) (hlost : (s.chan p.ch).clockLost = false)
    (htick : (s.chan p.ch).ticking = true) (hcause : s.arrivalCause p.ch p.off.toNat p.v = none) :
    execMirrorWriteReceive p s = .next ((s.onChan p.ch fun c => { c with writes :=
      c.writes ++ [⟨p.off.toNat, p.v, .mirror p.seq, none, []⟩] }).mirrorReply p.seq true 0) := by
  obtain ⟨⟨r, hrow, -⟩, -⟩ := exists_row_of_waitsForBoundary hwait
  have htake : s.mirrorTake p = (s.onChan p.ch fun c => { c with writes :=
      c.writes ++ [⟨p.off.toNat, p.v, .mirror p.seq, none, []⟩] }, .ok) := by
    unfold State.mirrorTake
    rw [hcoef, hrow]
    exact State.fieldWrite_waits hrow hwait hlost htick hcause
  unfold execMirrorWriteReceive
  rw [if_neg (by simp [hcoef, hmir]), if_neg (by simp [hmode]), htake]
  exact if_pos rfl

/-! ## A packet answered or lost (R476, R477) -/

/-- The packet's own end: it leaves the queue. -/
def State.mirrorDrop (s : State) (seq : Nat) : State :=
  { s with mir := { s.mir with queue := s.mir.queue.filter fun q => q.w.seq != seq } }

theorem State.mirrorDrop_frame (s : State) (seq : Nat) : (s.mirrorDrop seq).mir.queue = s.mir.queue.filter (fun q => q.w.seq != seq) ∧
    (s.mirrorDrop seq).mir.failed = s.mir.failed ∧ (∀ o, (s.mirrorDrop seq).gget o = s.gget o) ∧
    ∀ c, (s.mirrorDrop seq).chan c = s.chan c := ⟨rfl, rfl, fun _ => rfl, fun _ => rfl⟩

/-- No dropped packet waits. -/
theorem State.mirrorDrop_gone (s : State) (seq : Nat) : ∀ p ∈ (s.mirrorDrop seq).mir.queue, p.w.seq ≠ seq := by
  rw [(s.mirrorDrop_frame seq).1]
  intro p hp
  simpa using (List.mem_filter.1 hp).2

/-- A global counter's count: its register, and reports. -/
theorem State.countG_frame (s : State) (o : Nat) (hi ev : Bool) : (s.countG o hi ev).mir = s.mir ∧
    (∀ c, (s.countG o hi ev).chan c = s.chan c) ∧
    ∀ p, p ≠ o → p ≠ Reg.REC_CNT → p ≠ Reg.INT_STAT → (s.countG o hi ev).gget p = s.gget p := by
  have h := s.reports_countG o hi ev
  have hput : (s.gput o (counterStep (s.gget o) hi)).mir = s.mir ∧
      (∀ c, (s.gput o (counterStep (s.gget o) hi)).chan c = s.chan c) ∧
      ∀ p, p ≠ o → (s.gput o (counterStep (s.gget o) hi)).gget p = s.gget p :=
    ⟨rfl, fun _ => rfl, fun p hp => (State.gget_gput ..).trans (if_neg hp)⟩
  generalize s.gput o (counterStep (s.gget o) hi) = x at h hput
  obtain ⟨hmir, hchan, hget⟩ := hput
  refine ⟨?_, fun c => (h.chan c).trans (hchan c), fun p hp hcnt hint => (h.gget p hcnt hint).trans (hget p hp)⟩
  refine Eq.trans ?_ hmir
  rw [h.1]

/-- STALE in a channel's status, and the count of failures. -/
def State.mirrorStale (s : State) (ch : ChId) : State := (s.setCs ch Fld.PAIR_CHSTAT_STALE 1).countG Reg.MIR_CNT false true

theorem State.mirrorStale_shows (s : State) (ch : ChId) : (s.mirrorStale ch).cs ch Fld.PAIR_CHSTAT_STALE = 1 ∧
    (s.mirrorStale ch).gget Reg.MIR_CTL = s.gget Reg.MIR_CTL ∧ (s.mirrorStale ch).mir = s.mir ∧
    ∀ c, (s.mirrorStale ch).chan c = s.chan c := by
  unfold State.mirrorStale
  have hset : (s.setCs ch Fld.PAIR_CHSTAT_STALE 1).cs ch Fld.PAIR_CHSTAT_STALE = 1 := State.cs_setCs _ _ (by decide) (by decide)
  have hget : (s.setCs ch Fld.PAIR_CHSTAT_STALE 1).gget Reg.MIR_CTL = s.gget Reg.MIR_CTL :=
    State.gget_gset_ne _ _ _ (Reg.PAIR_CHSTAT_ne_of_lt ch (by decide)).symm
  have hrest : (s.setCs ch Fld.PAIR_CHSTAT_STALE 1).mir = s.mir ∧ ∀ c, (s.setCs ch Fld.PAIR_CHSTAT_STALE 1).chan c = s.chan c :=
    ⟨rfl, fun _ => rfl⟩
  generalize s.setCs ch Fld.PAIR_CHSTAT_STALE 1 = x at *
  obtain ⟨kmir, kchan, kget⟩ := x.countG_frame Reg.MIR_CNT false true
  refine ⟨?_, (kget _ (by decide) (by decide) (by decide)).trans hget, kmir.trans hrest.1,
    fun c => (kchan c).trans (hrest.2 c)⟩
  refine (congrArg (getField · _) (kget _ ?_ ?_ ?_)).trans hset
  all_goals exact Reg.PAIR_CHSTAT_ne_of_lt ch (by decide)

/-- The mark of a failed resynchronisation. -/
def State.markFailed (s : State) (ch : ChId) : State :=
  { s with mir := { s.mir with failed := s.mir.failed ||| (1#12 <<< ch.val) } }

theorem State.markFailed_frame (s : State) (ch : ChId) : (s.markFailed ch).mir.failed.getLsbD ch.val = true ∧
    (s.markFailed ch).mir.queue = s.mir.queue ∧ (∀ o, (s.markFailed ch).gget o = s.gget o) ∧
    ∀ c, (s.markFailed ch).chan c = s.chan c := by
  refine ⟨?_, rfl, fun _ => rfl, fun _ => rfl⟩
  show (s.mir.failed ||| (1#12 <<< ch.val)).getLsbD ch.val = true
  have hch := ch.isLt
  rw [BitVec.getLsbD_or, BitVec.getLsbD_shiftLeft]
  simp [hch]

/-- What a mirrored write's failure shows (R476): STALE, and the mark of a resynchronisation. -/
theorem State.mirrorFail_shows (s : State) (ch : ChId) (off reason : Nat) (resync : Bool) :
    (s.mirrorFail ch off reason resync).cs ch Fld.PAIR_CHSTAT_STALE = 1 ∧
    (s.mirrorFail ch off reason resync).gget Reg.MIR_CTL = s.gget Reg.MIR_CTL ∧
    (s.mirrorFail ch off reason resync).mir.queue = s.mir.queue ∧
    (resync = true → (s.mirrorFail ch off reason resync).mir.failed.getLsbD ch.val = true) ∧
    ∀ c, (s.mirrorFail ch off reason resync).chan c = s.chan c := by
  obtain ⟨hstale, hctl, hmir, hchan⟩ := s.mirrorStale_shows ch
  show let u := (s.mirrorStale ch).record 0x10 0xF 0x11 1 (recData [(0, 1, ch.val), (4, 4, off), (8, 1, reason)])
    let t := if resync = true then u.markFailed ch else u
    t.cs ch Fld.PAIR_CHSTAT_STALE = 1 ∧ t.gget Reg.MIR_CTL = s.gget Reg.MIR_CTL ∧ t.mir.queue = s.mir.queue ∧
      (resync = true → t.mir.failed.getLsbD ch.val = true) ∧ ∀ c, t.chan c = s.chan c
  dsimp only
  generalize s.mirrorStale ch = x at *
  generalize recData [(0, 1, ch.val), (4, 4, off), (8, 1, reason)] = d
  obtain ⟨-, -, kget⟩ := x.record_keeps 0x10 0xF 0x11 1 d
  have kmir := x.record_mir 0x10 0xF 0x11 1 d
  have kchan := fun c => x.record_chan 0x10 0xF 0x11 1 d c
  generalize x.record 0x10 0xF 0x11 1 d = u at *
  have hu : u.cs ch Fld.PAIR_CHSTAT_STALE = 1 := by
    refine (congrArg (getField · _) (kget _ ?_ ?_)).trans hstale
    all_goals exact Reg.PAIR_CHSTAT_ne_of_lt ch (by decide)
  have huctl := (kget Reg.MIR_CTL (by decide) (by decide)).trans hctl
  have humir := kmir.trans hmir
  cases resync with
  | true =>
    obtain ⟨jfailed, jqueue, jget, jchan⟩ := u.markFailed_frame ch
    exact ⟨(congrArg (getField · _) (jget _)).trans hu, (jget _).trans huctl, jqueue.trans (congrArg Mirror.queue humir),
      fun _ => jfailed, fun c => (jchan c).trans ((kchan c).trans (hchan c))⟩
  | false =>
    exact ⟨hu, huctl, congrArg Mirror.queue humir, fun h => absurd h (by decide), fun c => (kchan c).trans (hchan c)⟩

/-- The end of a resynchronisation with its marks. -/
def State.resyncOver (s : State) (ch : ChId) : State :=
  { s.gset Reg.MIR_CTL Fld.MIR_CTL_RSBUSY (s.gfld Reg.MIR_CTL Fld.MIR_CTL_RSBUSY - 2 ^ ch.val) with
    mir := { s.mir with failed := s.mir.failed &&& ~~~(1#12 <<< ch.val) } }

theorem State.resyncOver_frame (s : State) (ch : ChId) : (s.resyncOver ch).mir.queue = s.mir.queue ∧
    (∀ c, (s.resyncOver ch).chan c = s.chan c) ∧ ∀ o, o ≠ Reg.MIR_CTL → (s.resyncOver ch).gget o = s.gget o :=
  ⟨rfl, fun _ => rfl, fun _ ho => State.gget_gset_ne s _ _ ho⟩

theorem State.resyncEnds_eq (s : State) (ch : ChId) : s.resyncEnds ch =
    if !(s.gfld Reg.MIR_CTL Fld.MIR_CTL_RSBUSY).testBit ch.val || s.mir.queue.any (fun p => p.resync && p.w.ch == ch) then s
    else if s.mir.failed.getLsbD ch.val then s.resyncOver ch
    else ((s.resyncOver ch).setCs ch Fld.PAIR_CHSTAT_STALE 0).countG Reg.MIR_CNT true false := rfl

/-- The end of a resynchronisation leaves the packets and the channels. -/
theorem State.resyncEnds_keeps (s : State) (ch : ChId) : (s.resyncEnds ch).mir.queue = s.mir.queue ∧
    ∀ c, (s.resyncEnds ch).chan c = s.chan c := by
  rw [State.resyncEnds_eq]
  obtain ⟨hqueue, hchan, -⟩ := s.resyncOver_frame ch
  generalize s.resyncOver ch = x at *
  split
  · exact ⟨rfl, fun _ => rfl⟩
  split
  · exact ⟨hqueue, hchan⟩
  · have hset : (x.setCs ch Fld.PAIR_CHSTAT_STALE 0).mir = x.mir ∧ ∀ c, (x.setCs ch Fld.PAIR_CHSTAT_STALE 0).chan c = x.chan c :=
      ⟨rfl, fun _ => rfl⟩
    generalize x.setCs ch Fld.PAIR_CHSTAT_STALE 0 = y at *
    obtain ⟨kmir, kchan, -⟩ := y.countG_frame Reg.MIR_CNT true false
    exact ⟨(congrArg Mirror.queue (kmir.trans hset.1)).trans hqueue, fun c => (kchan c).trans ((hset.2 c).trans (hchan c))⟩

/-- STALE stays while a packet of the resynchronisation waits, and after one of them has failed (R477). -/
theorem State.resyncEnds_stale {s : State} {ch : ChId} (hstale : s.cs ch Fld.PAIR_CHSTAT_STALE = 1)
    (h : (s.gfld Reg.MIR_CTL Fld.MIR_CTL_RSBUSY).testBit ch.val = true →
      s.mir.failed.getLsbD ch.val = true ∨ ∃ p ∈ s.mir.queue, p.resync = true ∧ p.w.ch = ch) :
    (s.resyncEnds ch).cs ch Fld.PAIR_CHSTAT_STALE = 1 := by
  rw [State.resyncEnds_eq]
  by_cases hwait : (!(s.gfld Reg.MIR_CTL Fld.MIR_CTL_RSBUSY).testBit ch.val ||
      s.mir.queue.any (fun p => p.resync && p.w.ch == ch)) = true
  · rw [if_pos hwait]
    exact hstale
  · simp only [Bool.or_eq_true, Bool.not_eq_true', List.any_eq_true, Bool.and_eq_true, beq_iff_eq, not_or, Bool.not_eq_false,
      not_exists, not_and] at hwait
    obtain ⟨hbusy, hnone⟩ := hwait
    have hfailed : s.mir.failed.getLsbD ch.val = true :=
      (h hbusy).resolve_right fun ⟨p, hp, hre, hpch⟩ => hnone p hp hre hpch
    rw [if_neg (by simpa [hbusy] using hnone), if_pos hfailed]
    exact (congrArg (getField · _) ((s.resyncOver_frame ch).2.2 _ (Reg.PAIR_CHSTAT_ne_of_lt ch (by decide)))).trans hstale

theorem State.mirrorDone_eq {s : State} {seq : Nat} {q : MirPacket} (reason : Nat)
    (h : s.mir.queue.find? (fun p => p.w.seq == seq) = some q) : s.mirrorDone seq reason =
      (if reason = 0 then s.mirrorDrop seq else (s.mirrorDrop seq).mirrorFail q.w.ch q.w.off.toNat reason q.resync).resyncEnds
        q.w.ch := by
  unfold State.mirrorDone
  rw [h]
  rfl

/-- The partner has applied a packet (R476). -/
theorem State.mirrorDone_applied {s : State} {seq : Nat} {q : MirPacket}
    (h : s.mir.queue.find? (fun p => p.w.seq == seq) = some q) :
    (∀ p ∈ (s.mirrorDone seq 0).mir.queue, p.w.seq ≠ seq) ∧ ∀ c, (s.mirrorDone seq 0).chan c = s.chan c := by
  obtain ⟨-, -, -, hchan⟩ := s.mirrorDrop_frame seq
  have hgone := s.mirrorDrop_gone seq
  rw [State.mirrorDone_eq 0 h, if_pos rfl]
  generalize s.mirrorDrop seq = x at *
  obtain ⟨kqueue, kchan⟩ := x.resyncEnds_keeps q.w.ch
  rw [kqueue]
  exact ⟨hgone, fun c => (kchan c).trans (hchan c)⟩

/-- A packet without an answer makes its channel stale (R476). -/
theorem State.mirrorDone_lost {s : State} {seq : Nat} {q : MirPacket}
    (h : s.mir.queue.find? (fun p => p.w.seq == seq) = some q)
    (hre : (s.gfld Reg.MIR_CTL Fld.MIR_CTL_RSBUSY).testBit q.w.ch.val = true → q.resync = true ∨
      ∃ p ∈ s.mir.queue, p.resync = true ∧ p.w.ch = q.w.ch ∧ p.w.seq ≠ seq) :
    (∀ p ∈ (s.mirrorDone seq 5).mir.queue, p.w.seq ≠ seq) ∧ (s.mirrorDone seq 5).cs q.w.ch Fld.PAIR_CHSTAT_STALE = 1 ∧
      ∀ c, (s.mirrorDone seq 5).chan c = s.chan c := by
  obtain ⟨hqueue, -, hget, hchan⟩ := s.mirrorDrop_frame seq
  have hgone := s.mirrorDrop_gone seq
  rw [State.mirrorDone_eq 5 h, if_neg (by decide)]
  generalize s.mirrorDrop seq = x at *
  obtain ⟨jstale, jctl, jqueue, jfailed, jchan⟩ := x.mirrorFail_shows q.w.ch q.w.off.toNat 5 q.resync
  generalize x.mirrorFail q.w.ch q.w.off.toNat 5 q.resync = y at *
  obtain ⟨kqueue, kchan⟩ := y.resyncEnds_keeps q.w.ch
  rw [kqueue, jqueue]
  refine ⟨hgone, State.resyncEnds_stale jstale fun hbusy => ?_, fun c => (kchan c).trans ((jchan c).trans (hchan c))⟩
  rw [State.gfld, jctl, hget] at hbusy
  refine (hre hbusy).imp jfailed fun ⟨p, hp, hpre, hpch, hpseq⟩ => ⟨p, ?_, hpre, hpch⟩
  rw [jqueue, hqueue]
  exact List.mem_filter.2 ⟨hp, by simpa using hpseq⟩

/-! ## A resynchronisation (R477) -/

/-- A packet joins the queue. -/
def State.mirrorQueue (s : State) (ch : ChId) (w : Nat × Word × Option CoefRef) : State :=
  { s with mir := { s.mir with
    queue := s.mir.queue ++ [⟨⟨s.mir.next, ch, BitVec.ofNat 14 w.1, w.2.1, w.2.2⟩, true⟩], next := s.mir.next + 1 } }

theorem State.mirrorSend_resync {s : State} (ch : ChId) (w : Nat × Word × Option CoefRef)
    (h : s.gfld Reg.PAIR_STAT Fld.PAIR_STAT_LINK = 2) : s.mirrorSend ch w.1 w.2.1 w.2.2 true = s.mirrorQueue ch w := by
  unfold State.mirrorSend
  rw [if_neg (by simp [h]), if_neg (by simp)]
  rfl

/-- The packets of a resynchronisation, in their order. -/
theorem State.mirrorSends {ch : ChId} (ws : List (Nat × Word × Option CoefRef)) :
    ∀ {s : State}, s.gfld Reg.PAIR_STAT Fld.PAIR_STAT_LINK = 2 →
    ∃ ps : List MirPacket, (ws.foldl (fun s w => s.mirrorSend ch w.1 w.2.1 w.2.2 true) s).mir.queue = s.mir.queue ++ ps ∧
      (∀ p ∈ ps, p.resync = true ∧ p.w.ch = ch) ∧
      ps.map (fun p => (p.w.off, p.w.v, p.w.coef)) = ws.map fun x => (BitVec.ofNat 14 x.1, x.2.1, x.2.2) := by
  induction ws with
  | nil => exact fun _ => ⟨[], (List.append_nil _).symm, fun _ hp => absurd hp List.not_mem_nil, rfl⟩
  | cons w ws ih =>
    intro s hlink
    have hone : (s.mirrorQueue ch w).mir.queue = s.mir.queue ++ [⟨⟨s.mir.next, ch, BitVec.ofNat 14 w.1, w.2.1, w.2.2⟩, true⟩] ∧
        (s.mirrorQueue ch w).gfld Reg.PAIR_STAT Fld.PAIR_STAT_LINK = s.gfld Reg.PAIR_STAT Fld.PAIR_STAT_LINK := ⟨rfl, rfl⟩
    rw [List.foldl_cons, State.mirrorSend_resync ch w hlink]
    generalize s.mirrorQueue ch w = x at hone ⊢
    obtain ⟨ps, hqueue, hps, hmap⟩ := ih (hone.2.trans hlink)
    refine ⟨⟨⟨s.mir.next, ch, BitVec.ofNat 14 w.1, w.2.1, w.2.2⟩, true⟩ :: ps, ?_, fun p hp => ?_, ?_⟩
    · rw [hqueue, hone.1, List.append_assoc]
      rfl
    · rcases List.mem_cons.1 hp with rfl | hp
      · exact ⟨rfl, rfl⟩
      · exact hps p hp
    · rw [List.map_cons, List.map_cons, hmap]

/-- RSBUSY shows a resynchronisation of the channel. -/
def State.resyncBusy (s : State) (ch : ChId) : State :=
  if (s.gfld Reg.MIR_CTL Fld.MIR_CTL_RSBUSY).testBit ch.val then s
  else s.gset Reg.MIR_CTL Fld.MIR_CTL_RSBUSY (s.gfld Reg.MIR_CTL Fld.MIR_CTL_RSBUSY + 2 ^ ch.val)

theorem State.resyncBusy_frame (s : State) (ch : ChId) : (s.resyncBusy ch).mir = s.mir ∧
    (∀ c, (s.resyncBusy ch).chan c = s.chan c) ∧
    (s.resyncBusy ch).gfld Reg.PAIR_STAT Fld.PAIR_STAT_LINK = s.gfld Reg.PAIR_STAT Fld.PAIR_STAT_LINK := by
  unfold State.resyncBusy
  split
  · exact ⟨rfl, fun _ => rfl, rfl⟩
  · exact ⟨rfl, fun _ => rfl, State.gfld_gset_ne _ _ (.inl (by decide))⟩

theorem State.resync_eq {s : State} {ch : ChId} (hpair : s.isPair = true) (hholds : s.holds ch = true) : s.resync ch =
    ((((s.resyncBusy ch).chan ch).resyncWrites.foldl (fun s w => s.mirrorSend ch w.1 w.2.1 w.2.2 true)
      (s.resyncBusy ch)).resyncEnds ch) := by
  unfold State.resync
  rw [if_neg (by simp [hpair, hholds])]
  rfl

/-- A resynchronisation sends the present value of every mirrored register (R477). -/
theorem State.resync_sends {s : State} {ch : ChId} (hpair : s.isPair = true) (hholds : s.holds ch = true)
    (hlink : s.gfld Reg.PAIR_STAT Fld.PAIR_STAT_LINK = 2) :
    ∃ ps, (s.resync ch).mir.queue = s.mir.queue ++ ps ∧ (∀ p ∈ ps, p.resync = true ∧ p.w.ch = ch) ∧
      ps.map (fun p => (p.w.off, p.w.v, p.w.coef)) =
        (s.chan ch).resyncWrites.map fun x => (BitVec.ofNat 14 x.1, x.2.1, x.2.2) := by
  obtain ⟨hmir, hchan, hl⟩ := s.resyncBusy_frame ch
  rw [State.resync_eq hpair hholds]
  generalize s.resyncBusy ch = x at *
  rw [hchan]
  obtain ⟨ps, hqueue, hps, hmap⟩ := State.mirrorSends (ch := ch) (s.chan ch).resyncWrites (hl.trans hlink)
  generalize (s.chan ch).resyncWrites.foldl (fun s w => s.mirrorSend ch w.1 w.2.1 w.2.2 true) x = y at *
  refine ⟨ps, ?_, hps, hmap⟩
  rw [(y.resyncEnds_keeps ch).1, hqueue, hmir]

/-- Settles O52: the group's commands and staged writes, and the mirror's packets, each by its lemma above. -/
theorem groupsAndMirror : Obligations.GroupsAndMirror := by
  unfold Obligations.GroupsAndMirror
  intro s k ch v
  refine ⟨?_, ?_, fun off hserves hsel hmode hstage howner hwait hcap hro => ?_, fun hserves hro howner hdelay => ?_,
    fun hpend hwaiting => ?_, fun p hcoef hmir => ⟨execMirrorWriteReceive_elsewhere hcoef hmir,
      execMirrorWriteReceive_queues hcoef hmir⟩, fun seq q hfind => ⟨⟨_, rfl, State.mirrorDone_applied hfind⟩,
      fun hre => ⟨_, rfl, State.mirrorDone_lost hfind hre⟩⟩, fun hserves hro => ?_, State.resync_sends⟩
  · exact fun hserves hro hopen hpend => ⟨congrArg Host.Outcome.next (State.writeAlias_hostBlock hserves (by simp) hro
      ((s.writeHostBlock_grpCtl k _).trans (State.writeGrpCtl_open v hopen hpend))), s.openGroup_opens k⟩
  · exact fun hserves hro howner => ⟨congrArg Host.Outcome.next (State.writeAlias_hostBlock hserves (by simp) hro
      ((s.writeHostBlock_grpCtl k _).trans (State.writeGrpCtl_abort v howner))), State.discardGroup_closed howner⟩
  · exact ⟨fun hpass hlost => congrArg Host.Outcome.next ((State.writeWindow_staged hserves hsel hmode hstage hwait hcap hro).1
      (State.stageWrite_stages howner hwait hlost hpass)),
      fun hpass => congrArg Host.Outcome.next ((State.writeWindow_staged hserves hsel hmode hstage hwait hcap hro).2
        (State.stageWrite_rejects howner hpass))⟩
  · have hgo := (s.writeHostBlock_grpGo k _).trans (State.writeGrpGo_go v howner hdelay)
    refine ⟨fun hrej => ?_, fun hrej => ?_⟩
    · rw [if_neg (by simp [hrej])] at hgo
      have hrun := State.writeAlias_hostBlock hserves (by simp) hro hgo
      obtain ⟨hopen, hpend⟩ := groupCommitted_fields (s.gget Reg.GRP_STAT)
      generalize setField (setField (s.gget Reg.GRP_STAT) Fld.GRP_STAT_OPEN 0) Fld.GRP_STAT_PEND 1 = w at *
      refine ⟨_, congrArg Host.Outcome.next hrun, ?_, ?_, rfl, rfl⟩
      · exact congrArg (· != 0) ((congrArg (getField · _) ((State.gget_gput ..).trans (if_pos rfl))).trans hopen)
      · exact congrArg (· != 0) ((congrArg (getField · _) ((State.gget_gput ..).trans (if_pos rfl))).trans hpend)
    · rw [if_pos hrej] at hgo
      have hrun := State.writeAlias_hostBlock hserves (by simp) hro hgo
      have hzero : (s.gput Reg.GRP_RESULT 0).gget Reg.GRP_RESULT = 0 := (State.gget_gput ..).trans (if_pos rfl)
      generalize s.gput Reg.GRP_RESULT 0 = x at hzero hrun
      obtain ⟨hopen, hdone, hpend, hresult, hstaged⟩ := x.groupComplete_ends
      exact ⟨_, congrArg Host.Outcome.next hrun, hopen, hresult.trans hzero, hstaged, hdone, hpend⟩
  · obtain ⟨-, hdone, hpend', hresult, -⟩ := s.groupComplete_ends
    exact ⟨s.groupComplete, if_pos (by simp [hpend, hwaiting]), hdone, hpend', hresult⟩
  · exact congrArg Host.Outcome.next (State.writeAlias_hostBlock hserves (by simp) hro (s.writeHostBlock_mirCtl k v))

end Sys2Proof.Machine
end
